-- ==== Sys2Proof/Word.lean ====
section
/-! DEFINITION. The word types of the LMF-7240 and the two shapes of sparse plain data the state is made of. -/

namespace Sys2Proof

/-- A byte of memory, of a packet or of a record. -/
abbrev Byte := BitVec 8

/-- A register (R4: registers are 32 bits wide). -/
abbrev Word := BitVec 32

/-- A 64-bit quantity: a register pair of R7, a pixel state record of R28. -/
abbrev DWord := BitVec 64

/-- A sparse table: keys strictly rising, no entry equal to what an unlisted key reads as. -/
abbrev Tab (α : Type) := List (Nat × α)

/-- A sparse byte store in the same canonical form. -/
abbrev Mem := List Host.Cell

end Sys2Proof
end

