-- ==== Sys2Proof/Syntax.lean ====
section
/-! DEFINITION. The commands of the block: one constructor of `Instr` per row of spec/opcode_table.json, with the operands
that the row's rule gives it. Operands that the spec gives as bit fields are bit vectors, unit numbers are `Fin`, hardware
timestamps and measured readings are numbers in the unit the docstring names. -/

namespace Sys2Proof

/-- A source of command packets (R315, R322, R361): a SUBMIT ring, the NET ring of a peer, a mailbox. -/
inductive CmdSource where
  | submit (ring : Fin 256)
  | peer (j : Fin 256)
  | mailbox (m : Fin 16)
deriving DecidableEq, Repr

/-- Where completion entries go (R331): COMPLETE ring 256 + j, completion ring of a NET peer, a mailbox. -/
inductive CplDst where
  | complete (j : Fin 256)
  | peer (j : Fin 256)
  | mailbox (m : Fin 16)
deriving DecidableEq, Repr

/-- The access paths of R7: each has a capture latch and a write latch of its own. `firmware` is the control cores' own
access over the fabric. -/
inductive Path where
  | pcie
  | lcb
  | command (src : CmdSource)
  | firmware
deriving DecidableEq, Repr

/-- The groups of long-running commands of which at most one runs at a time (R327). -/
inductive RunGroup where
  | film
  | snapshot
  | readback
  | fwWrite
  | powerSet
deriving DecidableEq, Repr

/-- What the host's memory answers to the DMA of a command: completed with the bytes read (none for a DMA write), or
failed (R326). -/
inductive HostDma where
  | ok (bytes : List Byte)
  | failed
deriving DecidableEq, Repr

/-- A PTP Sync with its Follow_Up, as R211 takes it: arrival port, domain, the sender's port identity, the origin time
with the correction field added (unit 2^-16 ns), the hardware receive timestamp (unit 0.25 ns, R211) and
logSyncInterval. -/
structure PtpSync where
  port : Fin 16
  domain : BitVec 8
  source : BitVec 80
  origin : Nat
  rxStamp : Nat
  logInterval : Int
deriving DecidableEq, Repr

/-- A PTP Announce: arrival port, domain, sender's port identity, the grandmaster data set of IEEE 1588 and
logAnnounceInterval. -/
structure PtpAnnounce where
  port : Fin 16
  domain : BitVec 8
  source : BitVec 80
  priority1 : BitVec 8
  clockClass : BitVec 8
  accuracy : BitVec 8
  variance : BitVec 16
  priority2 : BitVec 8
  grandmaster : BitVec 64
  stepsRemoved : BitVec 16
  logInterval : Int
deriving DecidableEq, Repr

/-- A PTP Delay_Resp: the sequenceId it answers, the master's receive time with the correction field subtracted
(unit 2^-16 ns) and logMinDelayReqInterval. -/
structure PtpDelayResp where
  port : Fin 16
  domain : BitVec 8
  source : BitVec 80
  seqId : BitVec 16
  rxTime : Nat
  logInterval : Int
deriving DecidableEq, Repr

/-- What a follower sees of one marker on WALL_SYNC_IN (R218): how long the line was low before the edge and stayed high
after it (unit ps), the timestamp of the edge on the device's own counter (unit 2^-32 ns, taken at the root clock), and
the 25 message bytes. -/
structure Marker where
  lowPs : Nat
  highPs : Nat
  edge : Nat
  msg : List Byte
deriving DecidableEq, Repr

/-- A UDP datagram as an Ethernet port receives it: VLAN tag if any, addresses, ports, payload. -/
structure Datagram where
  port : Fin 16
  vid : Option (BitVec 12)
  srcMac : BitVec 48
  srcIp : BitVec 32
  srcPort : BitVec 16
  dstIp : BitVec 32
  dstPort : BitVec 16
  payload : List Byte
deriving DecidableEq, Repr

/-- What one poll of a board regulator gave (R365): the five words, or a NACK, or a PEC error. `voutMode` is what the
read of VOUT_MODE gave. -/
inductive PmbusPoll where
  | words (voutMode : BitVec 8) (vout iout temp pout status : BitVec 16)
  | nack
  | pecError
deriving DecidableEq, Repr


/-- A physical tile bridge: the chain's home port and the place along the chain, counted from that port. -/
structure BridgeId where
  port : Fin 32
  place : Fin 64
deriving DecidableEq, Repr

/-- One side of a hop (R173): the port's own side of its first hop, or a bridge's side (false: toward the home port). -/
inductive HopSide where
  | port (p : Fin 32)
  | bridge (b : BridgeId) (far : Bool)
deriving DecidableEq, Repr

/-- A tile's answer to ENUM (R178). -/
structure DescPkt where
  pos : BitVec 8
  epoch : BitVec 32
  ended : Bool
  bridgeModel : BitVec 16
  bridgeFw : BitVec 32
  serial : BitVec 64
  width : BitVec 16
  height : BitVec 16
  pitch : BitVec 16
  maxRate : BitVec 8
  flStrings : BitVec 8
deriving DecidableEq, Repr

/-- A DROP_REPORT (R190): sender's position, WFN, DFLAGS, HIGH_PSEQ, ranges (FIRST_PSEQ, COUNT). -/
structure DropReport where
  pos : BitVec 8
  wfn : BitVec 48
  missed : Bool
  trunc : Bool
  high : BitVec 32
  ranges : List (BitVec 32 × BitVec 16)
deriving DecidableEq, Repr

/-- The head of a TILE_CMD (R197): the position addressed and its TAG. -/
structure TcHead where
  addr : BitVec 8
  tag : BitVec 16
deriving DecidableEq, Repr

/-- What a TILE_CMD of another opcode carries: the opcode and PARAM. -/
structure TcOther where
  opcode : BitVec 16
  param : List Byte
deriving DecidableEq, Repr

/-- A TELEMETRY body (R199) with its frontlight section (R267). -/
structure Telem where
  pos : BitVec 8
  wfn : BitVec 48
  tempValid : Bool
  panelOn : Bool
  predicted : Bool
  panelTemp : BitVec 16
  bridgeTemp : BitVec 16
  vgh : BitVec 16
  vgl : BitVec 16
  vcom : BitVec 16
  cwCorr : BitVec 32
  cwUncorr : BitVec 32
  nakSent : BitVec 16
  dropped : BitVec 16
  ambient : BitVec 16
  fflags : BitVec 16
  verdict : BitVec 32
  duty : BitVec 16
  enabled : BitVec 16
  diagged : BitVec 16
deriving DecidableEq, Repr

/-- What a tile measures for its next TELEMETRY record: temperatures, rails, ambient light, and the
string current (mA) and voltage (10 mV) at the judgement of R264. -/
structure TelMeas where
  tempValid : Bool
  panelTemp : BitVec 16
  bridgeTemp : BitVec 16
  vgh : BitVec 16
  vgl : BitVec 16
  vcom : BitVec 16
  ambient : BitVec 16
  sensor : Bool
  strings : List (Nat × Nat)
deriving DecidableEq, Repr

/-- A DRIVE_ROW as a tile receives it (R183). Each segment's 24 CODES bytes are one 192-bit field. -/
structure DriveRowPkt where
  addr : BitVec 8
  resend : Bool
  pseq : BitVec 32
  orig : BitVec 32
  frame : BitVec 16
  row : BitVec 16
  segFirst : BitVec 8
  codes : List (BitVec 192)
deriving DecidableEq, Repr

/-- A FLIP as a tile receives it (R185). -/
structure FlipPkt where
  addr : BitVec 8
  flipTime : BitVec 64
  wfn : BitVec 48
  copy : Bool
  last : Bool
  cycles : BitVec 32
  lastPseq : BitVec 32
  period : BitVec 32
  rows : List (BitVec 32)
deriving DecidableEq, Repr

/-- An ENUM as a tile receives it (R177). -/
structure EnumPkt where
  hop : BitVec 8
  limit : BitVec 8
  telPer : BitVec 16
  epoch : BitVec 32
deriving DecidableEq, Repr

/-- What a tile is, as its descriptor will say (R178): a fact of the board that the ENUM event brings along. -/
structure TileFacts where
  serial : BitVec 64
  width : BitVec 16
  height : BitVec 16
  pitch : BitVec 16
  maxRate : BitVec 8
  flStrings : BitVec 8
  bridgeFw : BitVec 32
deriving DecidableEq, Repr

/-- Which receiver an event of the line concerns (R171, R172, R174, R175). -/
inductive Receiver where
  | port (p : Fin 32)
  | bridge (b : BridgeId) (far : Bool)
deriving DecidableEq, Repr

/-- Why a receiver leaves packet sync (R172). -/
inductive SyncLoss where
  | hcrc
  | badByte
deriving DecidableEq, Repr

/-- The requestors of R297: those of the WSA (the SCH's bitmap writer, the clusters, the age sweep), those of the TF (the journal
engine of the bank's port, the WSA's fix-up loaders, the telemetry and report writer), the control cores, which tag an access they
make while servicing an interrupt, PCIe and the LCB. -/
inductive ValeReq where
  | sch
  | cluster (n : Fin 48)
  | sweep
  | journal
  | fixup
  | report
  | core (n : Fin 8) (interrupt : Bool)
  | pcie
  | lcb
deriving DecidableEq, Repr

/-- The three aliases of R20. -/
inductive ValeAlias where
  | normal | set | clear
deriving DecidableEq, Repr

/-- A read of a number of bytes, or a write of bytes with byte enables (none: not enabled). -/
inductive MemAcc where
  | read (len : Nat)
  | write (bytes : List (Option Byte))
deriving DecidableEq, Repr

/-- One access to Vale memory: its requestor, the alias it comes through (the internal requestors' as through the normal one), its
address and what it does. -/
structure ValeAccess where
  who : ValeReq
  via : ValeAlias
  off : BitVec 24
  acc : MemAcc
deriving DecidableEq, Repr

/-- What an access to Vale memory does, and the accesses that other requestors make from the same cycle on (R300). -/
structure ValeOp where
  acc : MemAcc
  rivals : List ValeAccess
deriving DecidableEq, Repr

/-- A write of a register word, and what the other port, PCIe or the LCB, writes to the same register in the same CLK_FAB cycle
(R8). -/
structure PortWrite where
  value : Word
  other : Option Word
deriving DecidableEq, Repr

/-- Who writes a status window word (R309, R311): the supervisor on port L; on port I the device's status writers, firmware and
PCIe. -/
inductive WinWriter where
  | lcb | sch | tf | rc | thm | glb | firmware | pcie
deriving DecidableEq, Repr

/-- A request of a port I requestor (R309): a write of a word, or a read. -/
structure WinReq where
  who : WinWriter
  off : BitVec 16
  value : Option Word
deriving DecidableEq, Repr

/-- What reaches the same word of the status window over the other port in the same array cycle (R310). -/
inductive WinOther where
  | none
  | read
  | write (who : WinWriter) (value : Word)
deriving DecidableEq, Repr

/-- What else happens in the array cycles of a status window write: on the same word over the other port (R310), and the requests
for port I that come from the same cycle on (R309). -/
structure WinCycle where
  other : WinOther
  rivals : List WinReq
deriving DecidableEq, Repr

/-- Where a SNAPSHOT_RESTORE comes from, and what the host answers to the read of the header and directory of an image in SPACE 0
(R62). -/
structure RestoreStart where
  src : CmdSource
  head : HostDma
deriving DecidableEq, Repr

/-- A sample row data segment of an ST 2110-20 packet (R140): field bit, line, pixel offset, data. -/
structure SampleRow where
  field : Bool
  line : BitVec 15
  offset : BitVec 15
  data : List Byte
deriving DecidableEq, Repr

/-- An RTP packet of an ST 2110-20 stream as an Ethernet port receives it (R140, R348). -/
structure RtpPkt where
  port : Fin 16
  vid : Option (BitVec 12)
  dstIp : BitVec 32
  dstPort : BitVec 16
  srcIp : BitVec 32
  seq : BitVec 32
  marker : Bool
  ts : BitVec 32
  rows : List SampleRow
deriving DecidableEq, Repr

/-- The PCIe endpoint as the host trains and configures it (R343): generation, width, bus master enable, link in L1, D3hot, the
addresses written to BAR0/BAR1 and BAR2/BAR3, and what AER has recorded. -/
structure PcieLink where
  speed : BitVec 4
  width : BitVec 4
  bme : Bool
  l1 : Bool
  d3hot : Bool
  bar0 : BitVec 64
  bar2 : BitVec 64
  aerUncorr : BitVec 32
  aerCorr : BitVec 32
deriving DecidableEq, Repr

/-- One sample of a rail slot (R227): the VSNS and ISNS codes and the level of power-good. -/
structure RailSample where
  slot : Fin 12
  v : BitVec 12
  i : BitVec 12
  pgood : Bool
deriving DecidableEq, Repr

/-- What the boot ROM finds in an image area (R398): the reject reason (0: it verifies), FWVER and SECVER of its header. -/
structure ImageCheck where
  reject : Fin 8
  fwver : BitVec 32
  secver : BitVec 6
deriving DecidableEq, Repr

/-- The board and the outcome of its training, as boot finds them (R269, R290, R395, R398): DRAM organisation, channels
that fail at FSP-H and FSP-L, the flash, image areas as delivered, Ethernet links, the PCIe link, the straps, boot duration in µs. -/
structure BootFacts where
  density : Fin 5
  twoRanks : Bool
  failH : List (Fin 12)
  failL : List (Fin 2)
  jedecId : BitVec 24
  flashLog2 : BitVec 5
  flashOk : Bool
  imageA : ImageCheck
  imageB : ImageCheck
  links : List (Fin 16)
  pcie : PcieLink
  lcbCkSel : Bool
  smbAddr : BitVec 2
  micros : BitVec 32
deriving DecidableEq, Repr

/-- An operation of the JTAG test access port (R412). -/
inductive JtagOp where
  | loadIr (code : Fin 6)
  | shiftDr (tdi : List Bool)
  | tapReset
deriving DecidableEq, Repr


/-- The commands (R10 to R439): one constructor per row of the table of operations and events, each step whole and
indivisible (chapter 95). -/
inductive Instr where
  /-- FLIP_TICK (R207): The TIME block issues the flip tick of frame N when the wall-time counter reaches T(N), beginning the new frame. -/
  | flipTick
  /-- AGE_TICK (R35): An age tick falls at each WFN that is a multiple of 64. -/
  | ageTick
  /-- GUARD_BEGIN (R14): The guard of the frame begins and the WSA stops starting pixel evaluations. -/
  | guardBegin
  /-- WSA_GUARD_HANDOFF (R88): When the last pixel of the frame is finished, the WSA hands each group's charge prediction to the RC
  and per-session counts to the SCH. -/
  | wsaGuardHandoff
  /-- SCH_GUARD_PROCESS (R15): The SCH performs its guard work once the WSA's counts are in: handovers, records, retries and
  row-bundle assignment. -/
  | schGuardProcess
  /-- BUNDLE_TAKE (R72): An idle cluster takes the head bundle of its group's queue, or switches package once to another queue. -/
  | bundleTake (cluster : Fin 48)
  /-- PIXEL_EVALUATE (R77): A lane evaluates one pixel-frame in 128 cycles and emits its drive code. -/
  | pixelEvaluate (cluster : Fin 48) (tile : Fin 1024) (col : Fin 16384) (row : Fin 65536)
  /-- DROPPED_ROW_FIXUP (R91): Once its tile's report has arrived, a pending dropped row is loaded from the held entry, fixed up and
  computed. -/
  | droppedRowFixup (cluster : Fin 48) (tile : Fin 1024) (row : Fin 65536) (seg : Fin 256)
  /-- AGE_SWEEP_SEGMENT (R36): The age sweep applies a due tick to an inactive segment and flips its parity bit. -/
  | ageSweepSegment (tile : Fin 1024) (row : Fin 65536) (seg : Fin 256)
  /-- DRIVE_ROW_SEND (R184): A released drive row enters the port's transmit queue once room is free and goes out as DRIVE_ROW. -/
  | driveRowSend (port : Fin 32)
  /-- FLIP_SEND (R185): In the guard, after the last drive row of the port, the TF sends FLIP to every tile of the domain. -/
  | flipSend (port : Fin 32)
  /-- FLIP_COPY_SEND (R185): 4 µs after the first FLIP the TF sends the copy with COPY = 1 and recomputed CYCLES. -/
  | flipCopySend (port : Fin 32)
  /-- SEQ_MARK_TIMER (R187): After 2 µs without DRIVE_ROW and with LAST_PSEQ changed, the TF sends SEQ_MARK. -/
  | seqMarkTimer (port : Fin 32)
  /-- ROW_NAK (R189): The TF takes a ROW_NAK, discards duplicates and re-sends each remaining row. -/
  | rowNak (port : Fin 32) (pos : BitVec 8) (first : BitVec 32) (count : BitVec 16)
  /-- FRAME_READY (R90): The TF takes a tile's FRAME_READY and frees its held entries for that drive frame. -/
  | frameReady (port : Fin 32) (pos : BitVec 8) (wfn : BitVec 48)
  /-- DROP_REPORT (R191): The TF takes a DROP_REPORT and resolves it to the dropped rows for fix-up. -/
  | dropReport (port : Fin 32) (report : DropReport)
  /-- DESC (R179): The TF takes a tile descriptor and binds the tile to a slot, holds it ABSENT or LOST, or brings it UP. -/
  | desc (port : Fin 32) (d : DescPkt)
  /-- DELAY_RESP (R181): The TF takes a delay response, computes the delay and round trip, and checks the 24 µs limit. -/
  | delayResp (port : Fin 32) (pos : BitVec 8) (probeId turn resid : BitVec 32) (tTx tRx : Nat)
  /-- TILE_RSP (R197): The TF takes a tile's response and completes the tile command. -/
  | tileRsp (port : Fin 32) (pos : BitVec 8) (tag : BitVec 16) (tstatus : BitVec 8) (data : List Byte) (dma : HostDma)
  /-- TELEMETRY (R199): The TF stores the panel temperature of a telemetry record and posts it to the TILE_TEL ring. -/
  | telemetry (port : Fin 32) (t : Telem)
  /-- HOP_DOWN (R195): The TF takes HOP_DOWN, makes the tiles beyond the hop LOST and fails over a looped chain. -/
  | hopDown (port : Fin 32) (pos : BitVec 8) (upstream : Bool)
  /-- LINK_STATE (R173): A hop side takes LINK_STATE with RX_OK = 1 and brings the hop UP. -/
  | linkState (side : HopSide) (rxOk : Bool)
  /-- ENUM_LOOP_ARRIVAL (R194): An ENUM arriving at port 2k+1 shows the loop closed and the TF splits the chain. -/
  | enumLoopArrival (port : Fin 32) (hop : BitVec 8) (epoch : BitVec 32)
  /-- PACKET_TYPE_DISCARD (R175): A receiver counts and discards a packet of unknown TYPE or wrong LENGTH. -/
  | packetTypeDiscard (at_ : Receiver)
  /-- FEC_CODEWORD_LOST (R171): An uncorrectable codeword makes its bytes lost and discards overlapping packets. -/
  | fecCodewordLost (at_ : Receiver)
  /-- ENUM_WAIT_EXPIRE (R177): 2 ms after the last DESC the TF closes the enumeration and counts the domain's tiles. -/
  | enumWaitExpire (port : Fin 32)
  /-- DELAY_PROBE_PERIOD (R182): Once per second the TF probes each UP tile's delay. -/
  | delayProbePeriod (tile : Fin 1024)
  /-- DEGRADED_EXIT (R196): After DEGHOLD × 1,024 frames without overflow, a DEGRADED port returns to UP at a flip. -/
  | degradedExit (port : Fin 32)
  /-- TILE_CMD_FETCH (R197): The TF takes the next TILE_CMD ring entry of a tile with fewer than 4 outstanding and room for its response. -/
  | tileCmdFetch (tile : Fin 1024) (host : HostDma)
  /-- TILE_CMD_TIMEOUT (R197): A tile command unanswered within CMDTMO is sent once more, then completed with TILE_TIMEOUT. -/
  | tileCmdTimeout (tile : Fin 1024) (tag : BitVec 16)
  /-- HOP_SIGNAL_DETECTED (R173): A hop receiver detects signal energy and enters ADAPT. -/
  | hopSignalDetected (side : HopSide)
  /-- HOP_BLOCK_LOCK (R173): A hop's equaliser converges with 64 valid sync headers and enters FRAME. -/
  | hopBlockLock (side : HopSide)
  /-- HOP_FRAME_LOCK (R173): A hop finds FEC frame sync 4 times and enters HANDSHAKE. -/
  | hopFrameLock (side : HopSide)
  /-- HOP_STEP_TIMEOUT (R173): A bring-up step's time limit expires and the hop returns to DETECT. -/
  | hopStepTimeout (side : HopSide)
  /-- HOP_LEAVES_UP (R173): A hop loses frame lock or sees 16 uncorrectable codewords in 1 ms and leaves UP. -/
  | hopLeavesUp (side : HopSide)
  /-- DRIVE_ROW (R186): A tile takes a DRIVE_ROW, stores it for the next flip and tracks PSEQ gaps. -/
  | driveRow (b : BridgeId) (p : DriveRowPkt)
  /-- FLIP (R186): A tile takes a FLIP packet and schedules its flip from CYCLES and DELAY. -/
  | flip (b : BridgeId) (p : FlipPkt)
  /-- SEQ_MARK (R187): A tile takes SEQ_MARK and checks for missing PSEQ. -/
  | seqMark (b : BridgeId) (lastPseq : BitVec 32)
  /-- ENUM (R177): A tile takes ENUM, takes its position, answers with DESC and forwards or ends the domain. -/
  | enum (b : BridgeId) (far : Bool) (p : EnumPkt) (facts : TileFacts)
  /-- DELAY_PROBE (R181): A tile answers DELAY_PROBE with DELAY_RESP. -/
  | delayProbe (b : BridgeId) (addr : BitVec 8) (probeId turn : BitVec 32)
  /-- DELAY_SET (R182): A tile takes a new DELAY, used from the next FLIP. -/
  | delaySet (b : BridgeId) (addr : BitVec 8) (delay : BitVec 32)
  /-- TILE_FLIP (R186): A tile applies its filled code buffer at the scheduled flip or a predicted one. -/
  | tileFlip (b : BridgeId)
  /-- TELEMETRY_PERIOD (R199): Every TELPER ms an UP tile sends TELEMETRY. -/
  | telemetryPeriod (b : BridgeId) (m : TelMeas)
  /-- TC_NOP (R198): The tile does nothing and answers OK. In this row and the next eleven a TILE_CMD arrives at bridge `b`; the tile at
  the position of `head` executes it. -/
  | tcNop (b : BridgeId) (head : TcHead)
  /-- TC_TEL_NOW (R198): The tile sends TELEMETRY at once. -/
  | tcTelNow (b : BridgeId) (head : TcHead) (m : TelMeas)
  /-- TC_PANEL_ON (R198): The tile enables its gate and source drivers. -/
  | tcPanelOn (b : BridgeId) (head : TcHead)
  /-- TC_PANEL_OFF (R198): The tile disables its drivers and only buffers codes. -/
  | tcPanelOff (b : BridgeId) (head : TcHead)
  /-- TC_CLEAR_COUNTERS (R198): The tile clears its telemetry counters. -/
  | tcClearCounters (b : BridgeId) (head : TcHead)
  /-- TC_IDENTIFY (R198): The tile blinks its locator for PARAM[0] seconds or stops a blink. -/
  | tcIdentify (b : BridgeId) (head : TcHead) (param : List Byte)
  /-- TC_RESET_BRIDGE (R198): The tile answers OK and resets its bridge, taking its hops down. -/
  | tcResetBridge (b : BridgeId) (head : TcHead)
  /-- TC_FL_SET (R262): The tile fades the masked strings to DUTY over FADE_MS from the next flip. -/
  | tcFlSet (b : BridgeId) (head : TcHead) (param : List Byte)
  /-- TC_FL_CONFIG (R261): The tile sets its frontlight PWM period, enables and string parameters. -/
  | tcFlConfig (b : BridgeId) (head : TcHead) (param : List Byte)
  /-- TC_FL_DIAG (R263): The tile emits one 4 µs diagnostic pulse on each masked enabled string. -/
  | tcFlDiag (b : BridgeId) (head : TcHead) (param : List Byte)
  /-- TC_FL_READ (R261): The tile returns its frontlight configuration, duties and fade targets. -/
  | tcFlRead (b : BridgeId) (head : TcHead)
  /-- TILE_OPCODE_UNKNOWN (R261): A tile opcode that is not supported completes with UNKNOWN_OP. -/
  | tileOpcodeUnknown (b : BridgeId) (head : TcHead) (what : TcOther)
  /-- RAIL_PWM_PERIOD (R230): Each enabled slot is sampled and its control loop runs once per PWM period. The slots sampled at one
  moment, and in their order the VSNS and ISNS codes and the levels of power-good. -/
  | railPwmPeriod (g : Fin 8) (slots : List (Fin 12)) (v amps : List (BitVec 32)) (pgood : List Bool)
  /-- DEP_DELAY_EXPIRE (R234): A slot's dependencies have been GOOD for DELAY and it leaves WAIT_DEP. -/
  | depDelayExpire (g : Fin 8) (s : Fin 12)
  /-- RAMP_END (R234): A slot's ramp ends and it enters QUALIFY, or a ramp-down ends with DRV low. -/
  | rampEnd (g : Fin 8) (s : Fin 12)
  /-- QUALIFY_DONE (R234): A slot stays in window for QUAL and becomes GOOD. -/
  | qualifyDone (g : Fin 8) (s : Fin 12)
  /-- RAIL_TIMEOUT (R234): A slot not GOOD within TIMEOUT times out and takes its reaction. -/
  | railTimeout (g : Fin 8) (s : Fin 12)
  /-- RETRY_OFF_EXPIRE (R240): A retrying slot's 1 ms off time ends and it ramps again. -/
  | retryOffExpire (g : Fin 8) (s : Fin 12)
  /-- RETRIES_CLEAR (R240): After 1 s GOOD without a break, RETRIES returns to 0. -/
  | retriesClear (g : Fin 8) (s : Fin 12)
  /-- EXTERNAL_SLOT_OFF_TIMER (R235): An external slot without SENSE_EN is OFF 1 ms after its enable drops. -/
  | externalSlotOffTimer (g : Fin 8) (s : Fin 12)
  /-- OFFTMO_EXPIRE (R235): A slot still above 10 % at OFFTMO is counted and taken as OFF. -/
  | offtmoExpire (g : Fin 8) (s : Fin 12)
  /-- FF_LOAD (R231): PRELEAD µs before the flip, the RC loads the feed-forward term into each loop. -/
  | ffLoad (g : Fin 8)
  /-- FAULT_N_RELEASE (R244): Once HOLD has passed and every causing group is TRIPPED, the device releases FAULT_N. -/
  | faultNRelease
  /-- FAULT_N_RELEASE_SAMPLE (R245): 5 µs after its release the device samples FAULT_N and flags an external driver. -/
  | faultNReleaseSample (low : Bool)
  /-- FAULT_N_EVENT (R245): FAULT_N low for 2 µs shuts down every listening group that is STARTING or UP. -/
  | faultNEvent (since : Nat)
  /-- FAULT_N_STUCK (R245): FAULT_N low for more than 1 s is logged and flagged STUCK. -/
  | faultNStuck
  /-- FAULT_N_REARM (R246): FAULT_N has been high for REARM and listening groups may start again. -/
  | faultNRearm
  /-- MINOFF_EXPIRE (R236): A group has been TRIPPED for RG_MINOFF. -/
  | minoffExpire (g : Fin 8)
  /-- HELD_UP_START (R236): A held or automatic UP starts the power-up once every condition holds. -/
  | heldUpStart (g : Fin 8)
  /-- VIN_LOW (R248): VIN_MON low for 8 samples shuts down every STARTING or UP group. -/
  | vinLow (u : BitVec 32)
  /-- VIN_RETURN (R248): VIN_MON at or above OK for 8 samples releases held UP writes. -/
  | vinReturn (u : BitVec 32)
  /-- VIN_COLLAPSE (R249): The comparator flags a collapse, every DRV goes low and groups become TRIPPED. -/
  | vinCollapse (u : BitVec 32)
  /-- RAIL_STATUS_UPDATE (R250): Every 1 ms the rail status window words are updated. -/
  | railStatusUpdate
  /-- THM_ZONE_SAMPLE (R370): A zone's diode is converted and its temperature in force and flags are updated. -/
  | thmZoneSample (zs : List (Fin 8)) (raw : List (BitVec 16)) (isOpen isShort : List Bool)
  /-- THERMAL_SAFE_ENTRY (R373): When every group is off after a thermal shutdown, the WSA is gated and the device enters SAFE. -/
  | thermalSafeEntry
  /-- THM_TICK (R372): Every 10 ms the THM raises or lowers the throttle step and applies a pending THM set. -/
  | thmTick
  /-- PLATEAU_ENTRY_COMPLETE (R382): With every group off, the WSA is gated, banks retained, the DMC enters self-refresh and the
  state becomes PLATEAU. -/
  | plateauEntryComplete
  /-- PLATEAU_EXIT_COMPLETE (R383): In the first guard after the groups are UP, FLIP resumes, the WSA reloads and the state becomes
  HOLD or RUN. -/
  | plateauExitComplete
  /-- REFRESH_DUE (R280): A refresh unit falls due for a rank and is issued or postponed. -/
  | refreshDue (c : Fin 12) (sub rank : Fin 2) (burst : Bool)
  /-- REFRESH_PULLIN (R280): An idle rank is refreshed ahead while its debt is above −PULLIN. -/
  | refreshPullin (c : Fin 12) (sub rank : Fin 2)
  /-- MR4_POLL (R283): Every 32 ms the DMC reads MR4 and sets the refresh rate, logging DRAM_HOT above 2×. -/
  | mr4Poll (c : Fin 12) (rate : Fin 5)
  /-- RANK_POWER_DOWN (R285): An idle rank of CH2–CH11 enters power-down after TIMER. -/
  | rankPowerDown (c : Fin 12) (rank : Fin 2)
  /-- SELF_REFRESH_REENTRY (R287): A woken channel in PLATEAU re-enters self-refresh after SRIDLE without a request. -/
  | selfRefreshReentry (c : Fin 12)
  /-- TRACKING_STEP (R291): Every PERIOD ms a subchannel runs a WCK-to-DQ tracking step. -/
  | trackingStep (c : Fin 12) (sub : Fin 2)
  /-- SET_POINT_SWITCH (R289): CH0–CH1 switch between FSP-H and FSP-L with a stall of at most 15 µs. -/
  | setPointSwitch (stall : BitVec 16)
  /-- DMC_TRAIN_START (R292): A write of START with a MASK starts or refuses full training of the selected channels. -/
  | dmcTrainStart (value : Word)
  /-- TRAINING_DONE (R292): Commanded training ends, releasing held requests or leaving a channel FAILED. -/
  | trainingDone (failed : List (Fin 12))
  /-- INLINE_ECC_ERROR (R277): A read from an ECC region finds a single-bit or double-bit error. -/
  | inlineEccError (c : Fin 12) (addr : BitVec 64) (double : Bool)
  /-- BAR2_ACCESS (R344): A PCIe access to the BAR2 window reaches bulk DRAM as BULK traffic. -/
  | bar2Access (off : BitVec 36) (acc : MemAcc)
  /-- VALE_ALIAS_ACCESS (R299): A PCIe or LCB access through the normal Vale alias is arbitrated and served or denied. -/
  | valeAliasAccess (who : ValeReq) (via : ValeAlias) (off : BitVec 24) (op : ValeOp)
  /-- VALE_SET_WRITE (R301): A write through the set alias stores w | m as one read-modify-write. -/
  | valeSetWrite (who : ValeReq) (off : BitVec 24) (size : Nat) (mask : Word)
  /-- VALE_CLEAR_WRITE (R301): A write through the clear alias stores w & ~m as one read-modify-write. -/
  | valeClearWrite (who : ValeReq) (off : BitVec 24) (size : Nat) (mask : Word)
  /-- VALE_OWN_WRITE (R302): A write of VALE_OWNk hands a free bank over or is refused. -/
  | valeOwnWrite (path : Path) (bank : Fin 64) (write : PortWrite)
  /-- VALE_HANDOVER_DONE (R302): After any clear, the new owner becomes live and PENDING := 0. -/
  | valeHandoverDone (bank : Fin 64)
  /-- VALE_RET_EN_WRITE (R303): A write of VALE_RET_EN enables retention or wakes banks whose bit is cleared. -/
  | valeRetEnWrite (value : Word)
  /-- VALE_RETENTION_ENTER (R303): A free bank idle for IDLE µs enters retention. -/
  | valeRetentionEnter (bank : Fin 64)
  /-- BT_WINDOW_START (R305): Every GAP × 64 cycles the test engine opens a window on the next selected bank. -/
  | btWindowStart
  /-- BT_WINDOW_DONE (R308): A test window completes and restores, recording any march failure. -/
  | btWindowDone (fails : List (Fin 8))
  /-- STATUS_WINDOW_WRITE (R311): A write to the status window is stored, discarded or resolved against a collision. -/
  | statusWindowWrite (who : WinWriter) (off : BitVec 16) (value : Word) (cycle : WinCycle)
  /-- HEARTBEAT (R360): Every 1 ms from READY firmware increments HEARTBEAT. -/
  | heartbeat
  /-- PTP_SYNC (R212): A Sync (with Follow_Up) updates the servo, lock state and ε. -/
  | ptpSync (m : PtpSync)
  /-- PTP_ANNOUNCE (R211): An Announce message enters master selection. -/
  | ptpAnnounce (m : PtpAnnounce)
  /-- PTP_DELAY_RESP (R211): A Delay_Resp completes the end-to-end delay measurement. -/
  | ptpDelayResp (m : PtpDelayResp)
  /-- PTP_DELAY_REQ_SEND (R211): At the master's interval the device sends Delay_Req. -/
  | ptpDelayReqSend (txStamp : Nat)
  /-- ANNOUNCE_RECEIPT_TIMEOUT (R212): The announce receipt timeout expires and the servo enters HOLDOVER. -/
  | announceReceiptTimeout
  /-- SYNC_TIMEOUT (R212): No Sync for 8 intervals puts the servo in HOLDOVER. -/
  | syncTimeout
  /-- HOLDOVER_EXPIRE (R212): HOLDOVER becomes LOST after MAXSEC and TIME_LOST is logged and promised sessions are repromised. -/
  | holdoverExpire
  /-- TIME_STEP (R214): At the first permitted flip tick in STEP_PENDING the counter is stepped and frames renumbered. -/
  | timeStep
  /-- WALL_SYNC_MARKER (R218): A follower accepts or rejects a marker and slews toward the leader's anchor. -/
  | wallSyncMarker (m : Marker)
  /-- MARKER_MISS_HOLDOVER (R218): After 3 frames without an accepted marker the follower enters HOLDOVER. -/
  | markerMissHoldover
  /-- RTP_PACKET (R141): An ST 2110-20 packet is merged, stored and may complete or damage a picture. -/
  | rtpPacket (p : RtpPkt)
  /-- RENDER_COMPLETE (R164): A render finishes writing its region's targets. -/
  | renderComplete (slot : Fin 1023)
  /-- TILE_FILL (R439): Once no session touches it, a tile of new geometry is filled with unknown PSRs and code 0x0000. -/
  | tileFill (tile : Fin 1024)
  /-- TILE_FILL_DONE (R439): The fill is made and the tile may become UP. -/
  | tileFillDone (tile : Fin 1024)
  /-- ARP_REQUEST (R347): An ARP request for the port's address is answered. -/
  | arpRequest (port : Fin 16) (vid : Option (BitVec 12)) (mac : BitVec 48) (ip target : BitVec 32)
  /-- ICMP_ECHO (R347): An ICMP echo request is answered. -/
  | icmpEcho (port : Fin 16) (vid : Option (BitVec 12)) (mac : BitVec 48) (ip dst : BitVec 32) (payload : List Byte)
  /-- IGMP_QUERY (R347): An IGMP query is answered with membership reports for enabled receivers. -/
  | igmpQuery (port : Fin 16) (vid : Option (BitVec 12)) (version : Fin 4) (group : BitVec 32)
  /-- ETH_FRAME_DISCARD (R347): Any other frame addressed to the device is discarded and counted. -/
  | ethFrameDiscard (port : Fin 16) (vid : Option (BitVec 12))
  /-- COMMAND_DATAGRAM (R350): A command datagram is checked, authenticated and placed on its NET ring or treated as duplicate. -/
  | commandDatagram (d : Datagram)
  /-- COMPLETION_DATAGRAM_SEND (R351): Entries posted to a peer's completion ring are sent in a datagram within 50 µs. -/
  | completionDatagramSend (peer : Fin 256)
  /-- PMBUS_POLL (R365): Every 10 ms each enabled regulator is polled and marked STALE after 3 failures. -/
  | pmbusPoll (n : Fin 8) (poll : PmbusPoll)
  /-- SMB_SET_POINTER (R364): SMBus Write Word 0x01 sets the status window pointer. -/
  | smbSetPointer (index : BitVec 16)
  /-- SMB_BLOCK_READ (R364): SMBus Block Read 0x02 returns 8 status window words and advances the pointer. -/
  | smbBlockRead
  /-- SMB_READ_ID (R364): SMBus Read Word 0x03 returns 0x7240. -/
  | smbReadId
  /-- PCIE_RESET (R390): A PCIe reset or link-down resets the endpoint and disables host-memory rings only. -/
  | pcieReset (link : PcieLink)
  /-- DMA_TIMEOUT (R345): A device DMA read not completed within 50 ms ends with DMA_ERROR. -/
  | dmaTimeout (grp : RunGroup)
  /-- FL_EVALUATE (R254): Every 100 ms the frontlight engine evaluates every zone's target level. -/
  | flEvaluate
  /-- FL_AMBIENT_EVALUATE (R257): Every second an AMBIENT zone's reading is evaluated on its daylight curve. -/
  | flAmbientEvaluate (zone : Fin 16)
  /-- FL_SEGMENT_SEND (R259): The next fade segment is sent as TC_FL_SET once the last completed and its fade elapsed. -/
  | flSegmentSend (tile : Fin 1024)
  /-- FL_DIAG_TIMER (R265): Every DIAG_PERIOD a string with short pulses is sent TC_FL_DIAG. -/
  | flDiagTimer (tile : Fin 1024)
  /-- QM_DOORBELL (R318): A write of QM_DBn carries a new PROD or CONS and is accepted or discarded. -/
  | qmDoorbell (path : Path) (ring : Fin 4096) (value : Word)
  /-- COMMAND_FETCH (R333): The QM fetches a whole packet from a SUBMIT ring when room and the outstanding limit allow. -/
  | commandFetch (src : CmdSource) (host : HostDma)
  /-- MSIX_COALESCE_EXPIRE (R340): After COAL_US or at half full an armed ring sends its MSI-X message and disarms. -/
  | msixCoalesceExpire (ring : Fin 4096)
  /-- OVERFLOW_QUEUE_DRAIN (R334): Queued records drain into a completion ring as host software frees entries. -/
  | overflowQueueDrain (dst : CplDst)
  /-- LONG_RUNNING_COMPLETE (R327): A long-running command finishes and its completion is posted. -/
  | longRunningComplete (grp : RunGroup) (dma : HostDma)
  /-- MAILBOX_DOORBELL (R362): A supervisor write of MB_SUP moves a mailbox's CMD_PROD or CPL_CONS. -/
  | mailboxDoorbell (m : Fin 16) (value : Word)
  /-- MAILBOX_CONTROL (R362): A write of MB_CTL opens or closes a mailbox. -/
  | mailboxControl (m : Fin 16) (value : Word)
  /-- NOP (R325): Completes with OK and does nothing. -/
  | nop (src : CmdSource)
  /-- SESSION_OPEN (R112): Opens a session and answers with ACCEPTED, REFUSED, DEFERRED or WAITING. -/
  | sessionOpen (src : CmdSource)
  /-- SESSION_CANCEL (R128): Cancels a session according to its state. -/
  | sessionCancel (src : CmdSource)
  /-- SESSION_CLOSE (R125): Closes an open STREAM and fixes its promise. -/
  | sessionClose (src : CmdSource)
  /-- FILM_LOAD (R51): Loads and checks a film or table package into a slot. -/
  | filmLoad (src : CmdSource)
  /-- FILM_BIND (R52): Binds a range of tiles to a package slot. -/
  | filmBind (src : CmdSource)
  /-- PLACEMENT_WRITE (R150): Writes one shadow placement entry. -/
  | placementWrite (src : CmdSource)
  /-- CONFIG_COMMIT (R17): Commits the shadow set of the named block as a COMMIT write does. -/
  | configCommit (src : CmdSource)
  /-- SNAPSHOT_SAVE (R62): Copies the PSR and target planes of listed tiles to host memory. -/
  | snapshotSave (src : CmdSource)
  /-- SNAPSHOT_RESTORE (R63): Checks a snapshot image and restores it in FULL or TRIM_DEFECT scope. -/
  | snapshotRestore (start : RestoreStart)
  /-- POWER_SET (R380): Requests HOLD or PLATEAU and starts an entry or exit. -/
  | powerSet (src : CmdSource)
  /-- FL_GLOBAL_WRITE (R268): Sets the derating, diagnosis period and perceptual curve. -/
  | flGlobalWrite (src : CmdSource)
  /-- FL_ZONE_WRITE (R268): Sets a frontlight zone's mode, level, fades and daylight curve. -/
  | flZoneWrite (src : CmdSource)
  /-- FL_TILE_BIND (R268): Binds a range of tiles to a frontlight zone. -/
  | flTileBind (src : CmdSource)
  /-- FL_STATUS_READ (R268): Returns a tile's string marks, effective level, Ymax and flags. -/
  | flStatusRead (src : CmdSource)
  /-- REG_READ (R325): Reads a BAR0 register as a PCIe read would. -/
  | regRead (src : CmdSource)
  /-- REG_WRITE (R325): Writes a BAR0 register as a PCIe write would. -/
  | regWrite (src : CmdSource)
  /-- BAR2_WRITE (R325): Writes data into the BAR2 window. -/
  | bar2Write (src : CmdSource)
  /-- BAR2_READ (R325): Returns up to 16 bytes from the BAR2 window. -/
  | bar2Read (src : CmdSource)
  /-- EVENT_LOG_READ (R337): Copies event log entries from FIRST_SEQ to the newest. -/
  | eventLogRead (src : CmdSource)
  /-- DUMP_READ (R407): Copies from the held dump area. -/
  | dumpRead (src : CmdSource)
  /-- DUMP_RELEASE (R407): Clears VALID, erases the flash summary and frees the dump area. -/
  | dumpRelease (src : CmdSource)
  /-- ODOMETER_READ (R410): Copies the newest valid merged odometer record. -/
  | odometerRead (src : CmdSource)
  /-- FW_WRITE (R398): Verifies an image and writes it to a flash image area. -/
  | fwWrite (src : CmdSource)
  /-- FW_SELECT (R398): Verifies the named flash image and writes PREFER. -/
  | fwSelect (src : CmdSource)
  /-- RESET (R388): Starts a cold or warm reset 1 ms after its completion is posted. -/
  | reset (src : CmdSource)
  /-- NET_KEY_SET (R352): Stores or removes a peer's key and resets its sequence numbers. -/
  | netKeySet (src : CmdSource)
  /-- WSA_COMMIT (R96): A write of WSA_COMMIT.COMMIT checks and commits the WSA shadow set. -/
  | wsaCommit (value : Word)
  /-- SCH_COMMIT (R136): A write of SCH_COMMIT.COMMIT checks and commits the SCH shadow set for later admissions. -/
  | schCommit (value : Word)
  /-- MP_COMMIT (R165): A write of MP_COMMIT.COMMIT checks and commits the MP shadow set. -/
  | mpCommit (value : Word)
  /-- TF_PCOMMIT (R203): A write of TF_PCOMMIT.COMMIT checks and commits a port's shadow set. -/
  | tfPcommit (port : Fin 32) (value : Word)
  /-- TIME_COMMIT (R222): A write of TIME_COMMIT.COMMIT checks and commits the TIME shadow set. -/
  | timeCommit (value : Word)
  /-- RG_COMMIT (R251): A write of RG_COMMIT.COMMIT checks and commits a rail group's shadow set. -/
  | rgCommit (g : Fin 8) (value : Word)
  /-- RC_COMMIT (R251): A write of RC_COMMIT.COMMIT checks and commits the device-wide rail set. -/
  | rcCommit (value : Word)
  /-- NET_COMMIT (R366): A write of NET_COMMIT.COMMIT checks and commits the NET shadow set. -/
  | netCommit (value : Word)
  /-- THM_COMMIT (R386): A write of THM_COMMIT.COMMIT checks the THM set, live at the next THM tick. -/
  | thmCommit (value : Word)
  /-- TF_PCTRL_ENABLE (R173): A write of TF_PCTRL.ENABLE brings a port's first hop up or takes it down. -/
  | tfPctrlEnable (port : Fin 32) (enable : Bool)
  /-- TF_PCTRL_ENUM (R195): A write of TF_PCTRL.ENUM enumerates the domain or restores a loop split. -/
  | tfPctrlEnum (port : Fin 32)
  /-- TF_PCTRL_FORGET (R168): A write of TF_PCTRL.FORGET clears a port's SERIAL bindings while no tile is UP. -/
  | tfPctrlForget (port : Fin 32)
  /-- TF_TSLOT_ACCEPT (R179): A write of TF_TSLOTs.STAT.ACCEPT accepts a REPLACED or DESC_CHANGED tile. -/
  | tfTslotAccept (port : Fin 32) (slot : Fin 32)
  /-- RG_CTRL_ENABLE (R233): A write of RG_CTRL.ENABLE puts a group in use or disables it. -/
  | rgCtrlEnable (g : Fin 8) (enable : Bool)
  /-- RG_CTRL_UP (R234): A write of RG_CTRL.UP starts, holds or refuses a power-up. -/
  | rgCtrlUp (g : Fin 8)
  /-- RG_CTRL_DOWN (R237): A write of RG_CTRL.DOWN starts, aborts or refuses a shutdown. -/
  | rgCtrlDown (g : Fin 8)
  /-- TIME_STEP_NOW (R214): A write of TIME_CTRL.STEP_NOW permits a pending step at the next flip. -/
  | timeStepNow
  /-- GLB_RST_CTRL_WARM (R391): A keyed write of GLB_RST_CTRL.WARM starts a warm reset. -/
  | glbRstCtrlWarm (value : Word)
  /-- GLB_RST_CTRL_COLD (R388): A keyed write of GLB_RST_CTRL.COLD starts a cold reset. -/
  | glbRstCtrlCold (value : Word)
  /-- GLB_WDOG_KICK (R403): A firmware write of GLB_WDOG_KICK restarts the watchdog. -/
  | glbWdogKick (path : Path) (value : Word)
  /-- WATCHDOG_EXPIRE (R403): The watchdog expires and causes a fatal error or a log and capture. -/
  | watchdogExpire
  /-- DIAG_ODO_WRITE_NOW (R409): A write of DIAG_ODO_CTRL.WRITE_NOW requests an odometer record. -/
  | diagOdoWriteNow
  /-- DIAG_BOOTCFG_SAVE (R396): A write of DIAG_BOOTCFG_CTRL.SAVE writes a boot configuration record. -/
  | diagBootcfgSave (flashOk : Bool)
  /-- DIAG_SECVER_RAISE (R398): A write of DIAG_SECVER.RAISE raises the OTP minimum SECVER. -/
  | diagSecverRaise (value : Word)
  /-- QM_RING_CFG_WRITE (R317): A write of a ring descriptor configures, enables or disables the ring under its checks. -/
  | qmRingCfgWrite (path : Path) (ring : Fin 4096) (word : Fin 3) (value : Word)
  /-- QM_EVT_WRITE (R339): A write of QM_EVT selects event posting, refused for a disabled ring. -/
  | qmEvtWrite (path : Path) (value : Word)
  /-- WSA_CNT_CLR (R97): Clears all WSA counters. -/
  | wsaCntClr (value : Word)
  /-- SCH_CNT_CLR (R137): Clears all SCH counters. -/
  | schCntClr (value : Word)
  /-- MP_CNT_CLR (R166): Clears all MP counters, per-source ones included. -/
  | mpCntClr (value : Word)
  /-- TF_PCNT_CLR (R204): Clears a port's counters. -/
  | tfPcntClr (port : Fin 32) (value : Word)
  /-- TIME_CNT_CLR (R223): Clears the TIME counters. -/
  | timeCntClr (value : Word)
  /-- RG_CNT_CLR (R252): Clears a group's and its slots' counters. -/
  | rgCntClr (g : Fin 8) (value : Word)
  /-- RC_CNT_CLR (R252): Clears the device-wide rail counters. -/
  | rcCntClr (value : Word)
  /-- DMC_CNT_CLR (R293): Clears a channel's DMC counters. -/
  | dmcCntClr (c : Fin 12) (value : Word)
  /-- DMC_GCNT_CLR (R293): Clears the device-wide DMC counters. -/
  | dmcGcntClr (value : Word)
  /-- VALE_CNT_CLR (R314): Clears the Vale counters and SWIN_CNT_COLLIDE. -/
  | valeCntClr (value : Word)
  /-- QM_CNT_CLR (R342): Clears the QM counters. -/
  | qmCntClr (path : Path) (value : Word)
  /-- NET_CNT_CLR (R368): Clears the NET counters. -/
  | netCntClr (value : Word)
  /-- THM_CNT_CLR (R387): Clears the THM counters. -/
  | thmCntClr (value : Word)
  /-- REGISTER_WRITE (R5): A write to a register with no row of its own acts by its access code. -/
  | registerWrite (path : Path) (off : BitVec 32) (size : Nat) (write : PortWrite)
  /-- POWER_ON (R388): Supplies are applied and a cold reset begins. -/
  | powerOn (lcbCkSel : Bool) (smbAddr : BitVec 2)
  /-- PORST_N_LOW (R392): PORST_N low for 1 µs drops every DRV and leads to a cold boot. -/
  | porstNLow (lcbCkSel : Bool) (smbAddr : BitVec 2)
  /-- RST_N_LOW (R392): RST_N low for 1 µs starts a warm reset at once, keeping DRAM if possible. -/
  | rstNLow (dramKept : Bool)
  /-- REFCLK_STOP (R431): A REFCLK that stops stops the frame loop until a reset. -/
  | refclkStop
  /-- FW_EXCEPTION (R403): An unrecoverable exception on a control core is a fatal error. -/
  | fwException (core : Fin 8) (code : BitVec 32)
  /-- PARITY_ERROR (R403): A parity error in an on-die table of the SCH, QM or TF is a fatal error. -/
  | parityError (block : BitVec 26)
  /-- WARM_RESET_DRV_TIMEOUT (R391): 100 ms after a warm reset trigger every DRV still high goes low. -/
  | warmResetDrvTimeout
  /-- RESET_SELF_REFRESH (R391): After the rails and any capture, each rank pays its debt and enters self-refresh. -/
  | resetSelfRefresh
  /-- RESET_HOLD_EXPIRE (R391): The 1 ms internal reset hold ends and boot begins. -/
  | resetHoldExpire
  /-- BOOT_READY (R400): Boot completes, firmware having filled or scrubbed the planes, and READY is set in HOLD or SAFE. -/
  | bootReady (facts : BootFacts)
  /-- STRIKES_CLEAR (R399): 600 s in HOLD, RUN or PLATEAU ends the run of counted strikes. -/
  | strikesClear
  /-- FATAL_CAPTURE_DONE (R404): The capture engine finishes copying state to the dump area and logs FATAL_DUMP. -/
  | fatalCaptureDone (cores fw : List Host.Cell)
  /-- DUMP_SUMMARY_WRITE (R405): Within 5 s after READY firmware writes the dump summary to flash and sets FLASHED. -/
  | dumpSummaryWrite (flashOk : Bool)
  /-- ODOMETER_PERIODIC (R409): After every 600 s of RUN an odometer record falls due. -/
  | odometerPeriodic
  /-- ODOMETER_RECORD_WRITE (R409): A due odometer record is written to the next slot, at most one per 10 s. -/
  | odometerRecordWrite (flashOk : Bool)
  /-- ODOMETER_AREA_ERASE (R409): The inactive odometer area is erased in the background. -/
  | odometerAreaErase (flashOk : Bool)
  /-- REGISTER_READ (R7): A register read over PCIe or the LCB; a _LO read captures its pair into the path's latch, and a _HI read
  returns the captured or live half. -/
  | registerRead (path : Path) (off : BitVec 32) (size : Nat)
  /-- PACKET_SYNC_LOST (R172): A JTL receiver in packet sync finds an HCRC failure or a byte other than 0xD5 or 0x00 where a packet
  may begin, and leaves packet sync. -/
  | packetSyncLost (at_ : Receiver) (why : SyncLoss)
  /-- PCRC_FAIL (R174): A received JTL packet whose PCRC does not check is discarded and counted in TF_PCNT_PCRC. -/
  | pcrcFail (at_ : Receiver)
  /-- ARP_REPLY (R347): An ARP reply to the device's ARP request resolves the next hop of a completion datagram. -/
  | arpReply (port : Fin 16) (vid : Option (BitVec 12)) (mac : BitVec 48) (ip target : BitVec 32)
  /-- MSIX_VECTOR_UNMASK (R340): Host software clears the mask of an MSI-X vector whose pending bit is set, and the pending message
  is sent as the PCI Express specification states. -/
  | msixVectorUnmask (vector : Fin 256)
  /-- JTAG_TAP_OPERATION (R412): An IEEE 1149.1 operation on TCK, TMS and TDI executes BYPASS, IDCODE, SAMPLE/PRELOAD, EXTEST, CLAMP
  or HIGHZ without resetting the device. -/
  | jtagTapOperation (op : JtagOp)
deriving DecidableEq, Repr

end Sys2Proof
end

