-- ==== Sys2Proof/WellFormed.lean ====
section
/-! DEFINITION. Which commands can occur: the operands that the types leave too wide (lists of a length that a packet or a
record fixes, sizes of an access). It describes the commands that the hardware meets; the meanings do not test it and answer a
next state for every operand (assumption 12). -/

namespace Sys2Proof

/-- R211: a logarithmic interval of a PTP message as the wire can carry it. -/
def logOk (n : Int) : Bool := decide (-128 ≤ n) && decide (n ≤ 127)

/-- R347: a UDP datagram that fits a frame of 9,216 bytes. -/
def Datagram.wf (d : Datagram) : Bool := decide (d.payload.length ≤ 9216)

/-- R190: a DROP_REPORT names at most 32 ranges. -/
def DropReport.wf (r : DropReport) : Bool := decide (r.ranges.length ≤ 32)

/-- R262, R264: at most one reading for each of the 16 strings. -/
def TelMeas.wf (m : TelMeas) : Bool :=
  decide (m.strings.length ≤ 16) && m.strings.all fun q => decide (q.1 < 65536) && decide (q.2 < 65536)

/-- R183: a DRIVE_ROW carries 1 to 8 segments. -/
def DriveRowPkt.wf (p : DriveRowPkt) : Bool := decide (1 ≤ p.codes.length) && decide (p.codes.length ≤ 8)

/-- R185: a FLIP carries ROWS for 32 positions. -/
def FlipPkt.wf (p : FlipPkt) : Bool := decide (p.rows.length = 32)

/-- R217: a marker message has 25 bytes. -/
def Marker.wf (m : Marker) : Bool := decide (m.msg.length = 25)

/-- R140, R347: an RTP packet holds 1 to 3 sample row headers and fits a frame. -/
def RtpPkt.wf (p : RtpPkt) : Bool :=
  decide (1 ≤ p.rows.length) && decide (p.rows.length ≤ 3) && p.rows.all fun r => decide (r.data.length ≤ 9216)

/-- A memory access moves at least one byte. -/
def MemAcc.wf : MemAcc → Bool
  | .read n => decide (1 ≤ n) && decide (n ≤ 4096)
  | .write bs => decide (1 ≤ bs.length) && decide (bs.length ≤ 4096)

/-- A register access moves at least one byte, and at most what one PCIe request can ask for (R343); R4 discards every size but
4, or 8 at a pair. -/
def sizeOk (n : Nat) : Bool := decide (1 ≤ n) && decide (n ≤ 4096)

/-- R269: the facts of the board that boot finds can be recorded, and its DRAM is one of the organisations supported. -/
def BootFacts.wf (f : BootFacts) : Bool :=
  (decide (f.density.val < 3) || !f.twoRanks) && decide (f.failH.length ≤ 12) && decide (f.failL.length ≤ 2) && decide (f.links.length ≤ 16) &&
    decide (f.jedecId.toNat < 16777216)

/-- R412: what shifts through a data register in one operation. -/
def JtagOp.wf : JtagOp → Bool
  | .shiftDr b => decide (1 ≤ b.length) && decide (b.length ≤ 65536)
  | _ => true

/-- R404: addresses of the regions that a capture copies from the cores and from firmware's data. -/
def cellsOk (base size : Nat) (m : Mem) : Bool := m.all fun c => decide (base ≤ c.1) && decide (c.1 < base + size)

/-- Whether a command can occur. -/
def Instr.wf : Instr → Bool
  | .dropReport _ r => r.wf
  | .tileRsp _ _ _ _ data _ => decide (data.length ≤ 272)
  | .driveRow _ p => p.wf
  | .flip _ p => p.wf
  | .telemetryPeriod _ m => m.wf
  | .tcTelNow _ _ m => m.wf
  | .tcIdentify _ _ p => decide (p.length ≤ 272)
  | .tcFlSet _ _ p => decide (p.length ≤ 272)
  | .tcFlConfig _ _ p => decide (p.length ≤ 272)
  | .tcFlDiag _ _ p => decide (p.length ≤ 272)
  | .bar2Access _ a => a.wf
  | .valeAliasAccess _ _ _ op => op.acc.wf && op.rivals.all fun x => x.acc.wf
  | .valeSetWrite _ _ n _ => sizeOk n
  | .valeClearWrite _ _ n _ => sizeOk n
  | .ptpSync m => logOk m.logInterval
  | .ptpAnnounce m => logOk m.logInterval
  | .ptpDelayResp m => logOk m.logInterval
  | .wallSyncMarker m => m.wf
  | .rtpPacket p => p.wf
  | .icmpEcho _ _ _ _ _ payload => decide (payload.length ≤ 9216)
  | .commandDatagram d => d.wf
  | .registerWrite _ _ n _ => sizeOk n
  | .registerRead _ _ n => sizeOk n
  | .setPointSwitch stall => decide (stall.toNat ≤ 1500)
  | .bootReady f => f.wf
  | .railPwmPeriod _ ks vs is gs => decide (vs.length = ks.length) && decide (is.length = ks.length) && decide (gs.length = ks.length)
  | .thmZoneSample zs rs os hs => decide (rs.length = zs.length) && decide (os.length = zs.length) && decide (hs.length = zs.length)
  | .tileOpcodeUnknown _ _ x => decide (x.param.length ≤ 272)
  | .fatalCaptureDone cores fw => cellsOk 0x1000 0x8000 cores && cellsOk 0x1200000 0x2E00000 fw
  | .jtagTapOperation op => op.wf
  | .flipTick | .ageTick | .guardBegin | .wsaGuardHandoff | .schGuardProcess | .bundleTake _ | .pixelEvaluate _ _ _ _
  | .droppedRowFixup _ _ _ _ | .ageSweepSegment _ _ _ | .driveRowSend _ | .flipSend _ | .flipCopySend _ | .seqMarkTimer _
  | .rowNak _ _ _ _ | .frameReady _ _ _ | .desc _ _ | .delayResp _ _ _ _ _ _ _ | .telemetry _ _ | .hopDown _ _ _
  | .linkState _ _ | .enumLoopArrival _ _ _ | .packetTypeDiscard _ | .fecCodewordLost _ | .enumWaitExpire _
  | .delayProbePeriod _ | .degradedExit _ | .tileCmdFetch _ _ | .tileCmdTimeout _ _ | .hopSignalDetected _ | .hopBlockLock _
  | .hopFrameLock _ | .hopStepTimeout _ | .hopLeavesUp _ | .seqMark _ _ | .enum _ _ _ _ | .delayProbe _ _ _ _
  | .delaySet _ _ _ | .tileFlip _ | .tcNop _ _ | .tcPanelOn _ _ | .tcPanelOff _ _ | .tcClearCounters _ _
  | .tcResetBridge _ _ | .tcFlRead _ _ | .depDelayExpire _ _
  | .rampEnd _ _ | .qualifyDone _ _ | .railTimeout _ _ | .retryOffExpire _ _ | .retriesClear _ _ | .externalSlotOffTimer _ _
  | .offtmoExpire _ _ | .ffLoad _ | .faultNRelease | .faultNReleaseSample _ | .faultNEvent _ | .faultNStuck | .faultNRearm
  | .minoffExpire _ | .heldUpStart _ | .vinLow _ | .vinReturn _ | .vinCollapse _ | .railStatusUpdate
  | .thermalSafeEntry | .thmTick | .plateauEntryComplete | .plateauExitComplete
  | .refreshDue _ _ _ _ | .refreshPullin _ _ _ | .mr4Poll _ _ | .rankPowerDown _ _ | .selfRefreshReentry _
  | .trackingStep _ _ | .dmcTrainStart _ | .trainingDone _ | .inlineEccError _ _ _ | .valeOwnWrite _ _ _
  | .valeHandoverDone _ | .valeRetEnWrite _ | .valeRetentionEnter _ | .btWindowStart | .btWindowDone _
  | .statusWindowWrite _ _ _ _ | .heartbeat | .ptpDelayReqSend _ | .announceReceiptTimeout | .syncTimeout | .holdoverExpire
  | .timeStep | .markerMissHoldover | .renderComplete _ | .tileFill _ | .tileFillDone _ | .arpRequest _ _ _ _ _
  | .igmpQuery _ _ _ _ | .ethFrameDiscard _ _ | .completionDatagramSend _ | .pmbusPoll _ _ | .smbSetPointer _
  | .smbBlockRead | .smbReadId | .pcieReset _ | .dmaTimeout _ | .flEvaluate | .flAmbientEvaluate _ | .flSegmentSend _
  | .flDiagTimer _ | .qmDoorbell _ _ _ | .commandFetch _ _ | .msixCoalesceExpire _ | .overflowQueueDrain _
  | .longRunningComplete _ _ | .mailboxDoorbell _ _ | .mailboxControl _ _ | .nop _ | .sessionOpen _ | .sessionCancel _
  | .sessionClose _ | .filmLoad _ | .filmBind _ | .placementWrite _ | .configCommit _ | .snapshotSave _ | .snapshotRestore _
  | .powerSet _ | .flGlobalWrite _ | .flZoneWrite _ | .flTileBind _ | .flStatusRead _ | .regRead _ | .regWrite _
  | .bar2Write _ | .bar2Read _ | .eventLogRead _ | .dumpRead _ | .dumpRelease _ | .odometerRead _ | .fwWrite _ | .fwSelect _
  | .reset _ | .netKeySet _ | .wsaCommit _ | .schCommit _ | .mpCommit _ | .tfPcommit _ _ | .timeCommit _ | .rgCommit _ _
  | .rcCommit _ | .netCommit _ | .thmCommit _ | .tfPctrlEnable _ _ | .tfPctrlEnum _ | .tfPctrlForget _ | .tfTslotAccept _ _
  | .rgCtrlEnable _ _ | .rgCtrlUp _ | .rgCtrlDown _ | .timeStepNow | .glbRstCtrlWarm _ | .glbRstCtrlCold _
  | .glbWdogKick _ _ | .watchdogExpire | .diagOdoWriteNow | .diagBootcfgSave _ | .diagSecverRaise _
  | .qmRingCfgWrite _ _ _ _ | .qmEvtWrite _ _ | .wsaCntClr _ | .schCntClr _ | .mpCntClr _ | .tfPcntClr _ _ | .timeCntClr _
  | .rgCntClr _ _ | .rcCntClr _ | .dmcCntClr _ _ | .dmcGcntClr _ | .valeCntClr _ | .qmCntClr _ _ | .netCntClr _
  | .thmCntClr _ | .powerOn _ _ | .porstNLow _ _ | .rstNLow _ | .refclkStop | .fwException _ _ | .parityError _
  | .warmResetDrvTimeout | .resetSelfRefresh | .resetHoldExpire | .strikesClear | .dumpSummaryWrite _ | .odometerPeriodic
  | .odometerRecordWrite _ | .odometerAreaErase _ | .packetSyncLost _ _ | .pcrcFail _ | .arpReply _ _ _ _ _
  | .msixVectorUnmask _ => true

end Sys2Proof
end

