-- ==== Sys2Proof/Decode.lean ====
section
/-! DEFINITION. Decoding. The block has no instruction encoding: the operation table gives no row any bits (its rows are
operations and events, whose operands arrive on pins, links and register accesses). -/

namespace Sys2Proof

/-- The command that a word spells by the bits of the operation table: no row of the table has bits, so no word spells
one. -/
def decodeTableWord (_nbits _w : Nat) : Option Instr := none

end Sys2Proof
end

