-- ==== Sys2Proof/Machine/Tab.lean ====
section
/-! DEFINITION. Reading and writing the sparse tables of the state, and the canonical form they keep. -/

namespace Sys2Proof.Machine

/-- What key `k` reads as; `d` is what an unlisted key reads as. -/
def tabGet {α : Type} (d : α) : Tab α → Nat → α
  | [], _ => d
  | (i, v) :: t, k => if k = i then v else tabGet d t k

/-- `t` without an entry for `k`. -/
def tabDel {α : Type} : Tab α → Nat → Tab α
  | [], _ => []
  | (i, v) :: t, k => if k = i then tabDel t k else (i, v) :: tabDel t k

/-- `t` with the entry `(k, v)`, in its place in the rising order. -/
def tabPut {α : Type} (k : Nat) (v : α) : Tab α → Tab α
  | [] => [(k, v)]
  | (i, w) :: t =>
    if k < i then (k, v) :: (i, w) :: t
    else if k = i then (k, v) :: t
    else (i, w) :: tabPut k v t

/-- `t` with key `k` reading `v`: storing what an unlisted key reads as removes the entry. -/
def tabSet {α : Type} [DecidableEq α] (d : α) (t : Tab α) (k : Nat) (v : α) : Tab α :=
  if v = d then tabDel t k else tabPut k v t

/-- Every key of the table is above `b`, rising, and no value is the default `d k` of its key. -/
def tabOk {α : Type} [DecidableEq α] (d : Nat → α) : Option Nat → Tab α → Bool
  | _, [] => true
  | none, (i, v) :: t => decide (v ≠ d i) && tabOk d (some i) t
  | some b, (i, v) :: t => decide (b < i) && decide (v ≠ d i) && tabOk d (some i) t

/-- Apply `f` to what key `k` reads as. -/
def tabMod {α : Type} [DecidableEq α] (d : α) (t : Tab α) (k : Nat) (f : α → α) : Tab α :=
  tabSet d t k (f (tabGet d t k))

/-- Keep only the keys for which `p` holds. -/
def tabKeep {α : Type} (p : Nat → Bool) (t : Tab α) : Tab α := t.filter fun e => p e.1

/-- The memory's canonical form: addresses strictly rising, no entry equal to the byte 0 that an unlisted address reads
as (what an unlisted address reads as: assumption 5). -/
def memWf (m : Mem) : Bool := tabOk (fun _ => (0 : Byte)) none m

/-- One byte of a sparse store; an unlisted address reads as 0 (assumption 5). -/
def memGet (m : Mem) (a : Nat) : Byte := tabGet 0 m a

/-- Store one byte. -/
def memSet (m : Mem) (a : Nat) (b : Byte) : Mem := tabSet 0 m a b

/-- The `n` bytes from `a` on, lowest address first. -/
def memBytes (m : Mem) (a : Nat) : Nat → List Byte
  | 0 => []
  | n + 1 => memGet m a :: memBytes m (a + 1) n

/-- Store bytes from `a` on. -/
def memStore (m : Mem) (a : Nat) : List Byte → Mem
  | [] => m
  | b :: bs => memStore (memSet m a b) (a + 1) bs

/-- Store the enabled bytes. -/
def storeEnabled (m : Mem) (a : Nat) : List (Option Byte) → Mem
  | [] => m
  | none :: bs => storeEnabled m (a + 1) bs
  | some b :: bs => storeEnabled (memSet m a b) (a + 1) bs

/-- The little-endian value of `n` bytes at `a` (R2). -/
def memLe (m : Mem) (a : Nat) : Nat → Nat
  | 0 => 0
  | n + 1 => (memGet m a).toNat + 256 * memLe m (a + 1) n

/-- Drop every byte from `lo` up to, not including, `hi`. -/
def memErase (m : Mem) (lo hi : Nat) : Mem := m.filter fun c => decide (c.1 < lo) || decide (hi ≤ c.1)

end Sys2Proof.Machine
end

