-- ==== Sys2Proof/Machine/Bits.lean ====
section
/-! DEFINITION. Bit fields, sign extension, byte order, checksums and exact rounding: the small arithmetic that the
operations share. -/

namespace Sys2Proof.Machine

/-- Bits `lo` to `lo + n - 1` of a natural number (R3). -/
def bits (x lo n : Nat) : Nat := (x >>> lo) % 2 ^ n

/-- Bits `lo` to `lo + n - 1` of a register. -/
def field (w : Word) (lo n : Nat) : Nat := bits w.toNat lo n

/-- One bit of a register. -/
def flag (w : Word) (lo : Nat) : Bool := decide (bits w.toNat lo 1 = 1)

/-- `x` as a field of `n` bits at `lo`. -/
def place (x lo n : Nat) : Nat := (x % 2 ^ n) <<< lo

/-- A flag as a bit. -/
def b2n (b : Bool) : Nat := if b then 1 else 0

/-- The signed value of an `n`-bit field (R3). -/
def sext (n x : Nat) : Int :=
  let y := x % 2 ^ n
  if 2 ^ (n - 1) ≤ y then (y : Int) - (2 ^ n : Nat) else y

/-- A signed value as an `n`-bit field. -/
def toField (n : Nat) (x : Int) : Nat := (x % ((2 ^ n : Nat) : Int)).toNat

/-- `x` held within `lo` to `hi`. -/
def clampInt (lo hi x : Int) : Int := if x < lo then lo else if hi < x then hi else x

/-- `x` held within `lo` to `hi`. -/
def clampNat (lo hi x : Nat) : Nat := if x < lo then lo else if hi < x then hi else x

/-- Signed saturation to `n` bits. -/
def satInt (n : Nat) (x : Int) : Int := clampInt (-((2 ^ (n - 1) : Nat) : Int)) (((2 ^ (n - 1) : Nat) : Int) - 1) x

/-- The `n` bytes of a number, low byte first (R2). -/
def leBytes : Nat → Nat → List Byte
  | 0, _ => []
  | n + 1, x => BitVec.ofNat 8 x :: leBytes n (x / 256)

/-- The number that bytes spell, low byte first (R2). -/
def leNat : List Byte → Nat
  | [] => 0
  | b :: bs => b.toNat + 256 * leNat bs

/-- The number that bytes spell, high byte first (external standards, R2). -/
def beNat (bs : List Byte) : Nat := bs.foldl (fun a b => a * 256 + b.toNat) 0

/-- The `n` bytes of a number, high byte first. -/
def beBytes (n x : Nat) : List Byte := (leBytes n x).reverse

/-- `n` zero bytes. -/
def zeroBytes (n : Nat) : List Byte := List.replicate n 0

/-- Bytes `o` to `o + n - 1` of a record, 0 past its end. -/
def sliceB (bs : List Byte) (o n : Nat) : List Byte :=
  let t := (bs.drop o).take n
  t ++ zeroBytes (n - t.length)

/-- A little-endian field of a record. -/
def fieldB (bs : List Byte) (o n : Nat) : Nat := leNat (sliceB bs o n)

/-- Whether all bytes are 0. -/
def allZero (bs : List Byte) : Bool := bs.all fun b => b == 0

/-- ceil(a / b). -/
def cdiv (a b : Nat) : Nat := (a + b - 1) / b

/-- floor of a signed quotient by a natural number. -/
def fdiv (a : Int) (b : Nat) : Int := Int.fdiv a b

/-- ceil of a signed quotient by a natural number. -/
def icdiv (a : Int) (b : Nat) : Int := -(Int.fdiv (-a) b)

/-- The nearest integer of a signed quotient, an exact half toward plus infinity. -/
def roundHalfUp (a : Int) (b : Nat) : Int := Int.fdiv (2 * a + b) (2 * b)

/-- The nearest integer of a signed quotient, an exact half away from zero. -/
def roundHalfAway (a : Int) (b : Nat) : Int :=
  if 0 ≤ a then Int.fdiv (2 * a + b) (2 * b) else -(Int.fdiv (2 * (-a) + b) (2 * b))

/-- floor of the square root, by bits, `k` bits down. -/
def isqrtGo (x : Nat) : Nat → Nat → Nat
  | 0, r => r
  | k + 1, r =>
    let c := r + 2 ^ k
    isqrtGo x k (if c * c ≤ x then c else r)

/-- floor of the square root of a number below 2^(2k). -/
def isqrt (k x : Nat) : Nat := isqrtGo x k 0

/-- Insert into a rising list. -/
def insertInt (x : Int) : List Int → List Int
  | [] => [x]
  | y :: l => if x ≤ y then x :: y :: l else y :: insertInt x l

/-- Sort, rising. -/
def sortInt (l : List Int) : List Int := l.foldr insertInt []

/-- One byte into the CRC-16 of R437, most significant bit first. -/
def crc16Bits : Nat → Nat → Nat → Nat
  | 0, _, c => c
  | n + 1, b, c =>
    let top := (bits c 15 1 + bits b n 1) % 2
    let c' := (c * 2) % 65536
    crc16Bits n b (if top = 1 then c' ^^^ 0x1021 else c')

/-- The CRC-16 of R437: polynomial 0x1021, initial value 0xFFFF, no reflection, no final XOR. -/
def crc16 (bs : List Byte) : Nat := bs.foldl (fun c b => crc16Bits 8 b.toNat c) 0xFFFF

/-- One byte of a reflected CRC-32 with polynomial `poly` (reflected form). -/
def crc32Bits (poly : Nat) : Nat → Nat → Nat
  | 0, c => c
  | n + 1, c => crc32Bits poly n (if c % 2 = 1 then (c / 2) ^^^ poly else c / 2)

/-- A reflected CRC-32 with initial value and final XOR 0xFFFF_FFFF. -/
def crc32r (poly : Nat) (bs : List Byte) : Nat :=
  (bs.foldl (fun c b => crc32Bits poly 8 (c ^^^ b.toNat)) 0xFFFFFFFF) ^^^ 0xFFFFFFFF

end Sys2Proof.Machine
end

