-- ==== Sys2Proof/Machine/Crypto.lean ====
section
/-! DEFINITION. the cryptography that R349 and R397 name: HMAC-SHA-256 (RFC 2104, FIPS 180-4), SHA-384 and ECDSA P-384. -/

namespace Sys2Proof.Machine

/-! ### SHA-2 (FIPS 180-4), once for both word widths

Every constant is the fraction of a root of a prime: the round constants of cube roots, the initial hash values of square roots. -/

/-- The primes below 410, of which there are 80. -/
def shaPrimes : List Nat :=
  (List.range 410).filter fun n => decide (2 ≤ n) && [2, 3, 5, 7, 11, 13, 17, 19].all fun d => decide (n = d) || decide (n % d ≠ 0)

/-- The greatest number whose power `k` is at most `x`, if it has at most `n` bits more than `r` already shows. -/
def rootBelow (k x : Nat) : Nat → Nat → Nat
  | 0, r => r
  | n + 1, r => rootBelow k x n (if (r + 2 ^ n) ^ k ≤ x then r + 2 ^ n else r)

/-- The first `w` bits of the fraction of the `k`-th root of `p`. -/
def rootFraction (k w p : Nat) : BitVec w := BitVec.ofNat w (rootBelow k (p * 2 ^ (k * w)) (w + 5) 0)

/-- What tells the members of the family apart: rounds, bytes of a word, the rotations of Σ0 and Σ1, and the two rotations
and the shift of σ0 and σ1. -/
structure Sha2 (w : Nat) where
  rounds : Nat
  bytes : Nat
  upper : Nat × Nat × Nat
  lower : Nat × Nat × Nat
  early : Nat × Nat × Nat
  late : Nat × Nat × Nat

/-- The sum of three rotations. -/
def turns {w : Nat} (q : Nat × Nat × Nat) (x : BitVec w) : BitVec w := x.rotateRight q.1 ^^^ x.rotateRight q.2.1 ^^^ x.rotateRight q.2.2

/-- The sum of two rotations and a shift. -/
def mixes {w : Nat} (q : Nat × Nat × Nat) (x : BitVec w) : BitVec w := x.rotateRight q.1 ^^^ x.rotateRight q.2.1 ^^^ x >>> q.2.2

/-- The words of a block, big-endian. -/
def Sha2.words {w : Nat} (f : Sha2 w) (block : List Byte) : List (BitVec w) :=
  (List.range 16).map fun j => BitVec.ofNat w (beNat ((block.drop (j * f.bytes)).take f.bytes))

/-- One round on the eight working words, the schedule's next 16 words beside them: the first is used and the 17th appended. -/
def Sha2.round {w : Nat} (f : Sha2 w) (q : List (BitVec w) × List (BitVec w)) (prime : Nat) : List (BitVec w) × List (BitVec w) :=
  let v (j : Nat) : BitVec w := q.1.getD j 0
  let m (j : Nat) : BitVec w := q.2.getD j 0
  let choice := (v 4 &&& v 5) ||| (~~~(v 4) &&& v 6)
  let majority := (v 0 &&& v 1) ||| (v 2 &&& (v 0 ||| v 1))
  let x := v 7 + turns f.lower (v 4) + choice + rootFraction 3 w prime + m 0
  ([x + turns f.upper (v 0) + majority, v 0, v 1, v 2, v 3 + x, v 4, v 5, v 6],
    q.2.drop 1 ++ [m 0 + mixes f.early (m 1) + m 9 + mixes f.late (m 14)])

/-- `n` blocks of 16 words. -/
def Sha2.blocks {w : Nat} (f : Sha2 w) : Nat → List (BitVec w) → List Byte → List (BitVec w)
  | 0, h, _ => h
  | n + 1, h, m =>
    let v := ((shaPrimes.take f.rounds).foldl f.round (h, f.words m)).1
    f.blocks n (List.zipWith (· + ·) h v) (m.drop (16 * f.bytes))

/-- The hash of a message: padded with a 1 bit, 0 bits and its length in bits, from the square roots of eight primes, the `first` and
those after it. -/
def Sha2.hash {w : Nat} (f : Sha2 w) (first : Nat) (m : List Byte) : List Byte :=
  let block := 16 * f.bytes
  let body := m ++ [0x80]
  let tail := 2 * f.bytes
  let pad := (2 * block - (body.length + tail) % block) % block
  let p := body ++ zeroBytes pad ++ beBytes tail (8 * m.length)
  (f.blocks (p.length / block) (((shaPrimes.drop first).take 8).map (rootFraction 2 w)) p).flatMap fun x => beBytes f.bytes x.toNat

/-- SHA-256. -/
def sha256 (m : List Byte) : List Byte :=
  Sha2.hash (w := 32) ⟨64, 4, (2, 13, 22), (6, 11, 25), (7, 18, 3), (17, 19, 10)⟩ 0 m

/-- SHA-384: six of the eight words. -/
def sha384 (m : List Byte) : List Byte :=
  (Sha2.hash (w := 64) ⟨80, 8, (28, 34, 39), (14, 18, 41), (1, 8, 7), (19, 61, 6)⟩ 8 m).take 48

/-- RFC 2104: HMAC-SHA-256 under a key of at most 64 bytes. -/
def hmac (key m : List Byte) : List Byte :=
  let k := sliceB key 0 64
  sha256 (k.map (· ^^^ 0x5c) ++ sha256 (k.map (· ^^^ 0x36) ++ m))

/-! ### ECDSA P-384 (R397, R398) -/

/-- The prime of P-384. -/
def p384 : Nat := 2 ^ 384 - 2 ^ 128 - 2 ^ 96 + 2 ^ 32 - 1

/-- The order of P-384. -/
def n384 : Nat := 0xffffffffffffffffffffffffffffffffffffffffffffffffc7634d81f4372ddf581a0db248b0a77aecec196accc52973

/-- The coefficient b of P-384; a is −3. -/
def b384 : Nat := 0xb3312fa7e23ee7e4988e056be3f82d19181d9c6efe8141120314088f5013875ac656398d8a2ed19d2a85c8edd3ec2aef

/-- The base point of P-384. -/
def g384 : Nat × Nat :=
  (0xaa87ca22be8b05378eb1c71ef320ad746e1d3b628ba79b9859f741e082542a385502f25dbf55296c3a545e3872760ab7,
    0x3617de4a96262c6f5d9e98bf9292dc29f8f41dbd289a147ce9da3113b5f0b8c00a60b1ce1d7e819d7a431d7c90ea0e5f)

/-- `x` to the low `k` bits of `e`, times `acc`, modulo `m`. -/
def powMod (m e : Nat) : Nat → Nat → Nat → Nat
  | 0, _, acc => acc
  | k + 1, x, acc => powMod m (e / 2) k (x * x % m) (if e % 2 = 1 then acc * x % m else acc)

/-- The inverse modulo a prime below 2^384. -/
def invMod (m x : Nat) : Nat := powMod m (m - 2) 384 (x % m) 1

/-- Point addition on P-384; `none` is the point at infinity. -/
def ecAdd : Option (Nat × Nat) → Option (Nat × Nat) → Option (Nat × Nat)
  | none, q => q
  | p, none => p
  | some (x1, y1), some (x2, y2) =>
    if x1 = x2 ∧ (y1 + y2) % p384 = 0 then none
    else
      let l := if x1 = x2 then (3 * x1 * x1 + p384 - 3) * invMod p384 (2 * y1) % p384
        else (y2 + p384 - y1) * invMod p384 (x2 + p384 - x1) % p384
      let x := (l * l + 2 * p384 - x1 - x2) % p384
      some (x, (l * (x1 + p384 - x) + p384 - y1) % p384)

/-- The multiple of a point by the low `n` bits of `k`, plus `acc`. -/
def ecMul : Nat → Nat → Option (Nat × Nat) → Option (Nat × Nat) → Option (Nat × Nat)
  | 0, _, _, acc => acc
  | n + 1, k, p, acc => ecMul n (k / 2) (ecAdd p p) (if k % 2 = 1 then ecAdd acc p else acc)

/-- FIPS 186: the signature (r, s) of a 48-byte hash verifies under an uncompressed SEC 1 point of 97 bytes. -/
def ecdsaOk (hash sig pub : List Byte) : Bool :=
  let r := beNat (sig.take 48)
  let t := beNat (sig.drop 48)
  let x := beNat ((pub.drop 1).take 48)
  let y := beNat (pub.drop 49)
  let w := invMod n384 t
  let u1 := beNat hash * w % n384
  let u2 := r * w % n384
  pub.headD 0 == 4 && decide (pub.length = 97) && decide (0 < r) && decide (r < n384) && decide (0 < t) && decide (t < n384) &&
    decide (x < p384) && decide (y < p384) && decide ((y * y) % p384 = (x * x * x + b384 + 3 * (p384 - x)) % p384) &&
    (match ecAdd (ecMul 384 u1 (some g384) none) (ecMul 384 u2 (some (x, y)) none) with
     | some q => decide (q.1 % n384 = r)
     | none => false)

end Sys2Proof.Machine
end

