-- ==== Sys2Proof/Config.lean ====
section
/-! DEFINITION. What the spec leaves open: values that no rule states are drawn from constants without a body, so that no
proof can see them. -/

namespace Sys2Proof.Config

/-- The free values, by the number of the draw (`Machine.State.free` counts the draws): every value that the spec leaves
open or does not state, assumption 1. -/
opaque freeNat : Nat → Nat

/-- The raw bytes of the function banks (Vale banks 0 to 52) as a fault dump shows them, by the dump (its EVSEQ) and the
byte address in Vale memory, as far as no rule says what lies there: assumption 11. -/
opaque functionByte : Nat → Nat → Byte

/-- Which place of the PSR plane and of the target plane a pixel takes, by its key: the layout of the planes is internal (R61),
assumption 134. -/
opaque planePlace : Nat → Nat

/-- Where in POOL a picture buffer lies, by source and picture: no rule gives it, assumption 134. -/
opaque poolPlace : Nat → Nat → Nat

/-- The check byte of an 8-byte word under the SEC-DED code of R276, which the spec does not give: assumption 171. -/
opaque secDed : DWord → Byte

/-- R68: which entry lies in 8-byte cell `n` of a code-table bank: the package slot and k ÷ 16. The rule gives the bank of code k and
not the place in it: assumption 11. -/
opaque codePlace : Nat → Fin 8 × Fin 4096

/-- R69: where a tile's range of segment numbers stands among those of the tile map's tiles: no rule gives their order, and tiles of
equal rank follow one another by index: assumption 11. -/
opaque segRank : Nat → Nat

/-- The manufacturer identity of the JTAG IDCODE, which the spec does not give (R412), assumption 57. -/
opaque jtagMaker : Nat

/-- What the mapping pipeline computes that the spec does not state to the last bit, by kind and operand: 0 the rounding of a
Lanczos coefficient, 1 the rounding of a colour component, 2 the rounding between the passes, 3 a sample of a stream of which
no picture is held (assumption 51). -/
opaque renderFree : Nat → Nat → Nat

/-- The phase of a tile bridge's PWM periods, in cycles, by bridge: R262 gives none (assumption 140). -/
opaque pwmPhase : Nat → Nat

/-- The Vendor ID assigned to Sovoma (R343), which the spec does not give: assumption 156. -/
opaque pcieVendor : BitVec 16

end Sys2Proof.Config
end

