-- ==== Sys2Proof/Machine/RegMap.lean ====
section
/-! DEFINITION. The register map (R20): which offsets hold a stored read/write register, its writable bits, its reset value,
and the commit unit (R17) whose shadow set it belongs to. Registers with an action or a computed value of their own are in
Machine/Regs.lean. -/

namespace Sys2Proof.Machine

/-- A stored register: its writable bits, its reset value, its commit unit (`none`: it takes effect as written). -/
structure RegDef where
  mask : Nat
  reset : Nat
  unit : Option Nat
deriving DecidableEq, Repr

/-! The block bases of R20. -/

def baseGlb : Nat := 0x10000
def baseThm : Nat := 0x20000
def baseRail (g : Nat) : Nat := 0x30000 + g * 0x1000
def baseQm : Nat := 0x50000
def baseSch : Nat := 0x80000
def baseWsa : Nat := 0x90000
def baseMp : Nat := 0xA0000
def baseTf (p : Nat) : Nat := 0xB0000 + p * 0x400
def baseTime : Nat := 0xC0000
def baseDmc (c : Nat) : Nat := 0xD0000 + c * 0x1000
def baseVale : Nat := 0xE0000
def baseNet : Nat := 0xF0000
def baseDiag : Nat := 0x100000

/-! The commit units of R17. -/

def unitWsa : Nat := 0
def unitSch : Nat := 1
def unitMp : Nat := 2
def unitTime : Nat := 3
def unitNet : Nat := 4
def unitThm : Nat := 5
def unitRc : Nat := 6
def unitRail (g : Nat) : Nat := 7 + g
def unitTf (p : Nat) : Nat := 15 + p

/-- The offset under which word `w` of placement entry `e` is kept in the MP sets: the entries lie behind a window
(MP_PLACE_DATA), so these offsets lie outside BAR0. -/
def placeOff (e w : Nat) : Nat := 0x10000000 + e * 64 + w * 4

/-- Offset of a register of slot `s` of rail group `g`. -/
def slotOff (g s r : Nat) : Nat := baseRail g + 0x100 + s * 0x80 + r

/-- The default role of slot `s` (R225, R226). -/
def defRole (s : Nat) : Nat := [1, 2, 3, 4, 5, 6, 7, 8, 9].getD s 10

/-- The default reaction of slot `s` (R225, R239). -/
def defReact (s : Nat) : Nat := if 2 ≤ s ∧ s ≤ 7 then 1 else 2

/-- The default set point of slot `s` in mV (R225). -/
def defSetpt (s : Nat) : Int :=
  [22000, -20000, 15000, 10000, 5000, -5000, -10000, -15000, -1500].getD s 0

/-- The default full-scale voltage of slot `s` in mV (R225). -/
def defVfs (s : Nat) : Int :=
  [25000, -25000, 20000, 12500, 6250, -6250, -12500, -20000, -4000].getD s 0

/-- The default dependency mask of slot `s` (R225). -/
def defMask (s : Nat) : Nat := [0x020, 0, 0x001, 0x004, 0x008, 0x040, 0x080, 0x002, 0x010].getD s 0

/-- Writable registers of a rail slot (R251). -/
def slotReg (u : Option Nat) (s r : Nat) : Option RegDef :=
  if r = 0x00 then
    let ext := if s < 9 then 1 else 2
    some ⟨0xFFFF1FFF, ext + place (defRole s) 3 4 + place (defReact s) 7 2 + place 3 9 4 + place 4 16 8 + place 16 24 8, u⟩
  else if r = 0x04 then some ⟨0xFFFF0FFF, defMask s, u⟩
  else if r = 0x08 then some ⟨0xFFFFFFFF, toField 16 (defSetpt s) + toField 16 (defVfs s) * 65536, u⟩
  else if r = 0x0C then some ⟨0x00FFFFFF, 30 + 50 * 256 + 100 * 65536, u⟩
  else if r = 0x10 then some ⟨0xFFFFFFFF, 1500 + 1800 * 65536, u⟩
  else if r = 0x14 then some ⟨0xFFFF, 2000, u⟩
  else if r = 0x18 then some ⟨0xFFFFFFFF, 1000 + 50 * 65536, u⟩
  else if r = 0x1C then some ⟨0xFFFFFFFF, 2000 + 2000 * 65536, u⟩
  else if r = 0x20 then some ⟨0xFFFFFFFF, 2048 + 64 * 65536, u⟩
  else if r = 0x24 then some ⟨0x0FFF0FFF, 3686 + 400 * 65536, u⟩
  else if r = 0x28 then some ⟨0xFFFF, 0, u⟩
  else none

/-- Writable registers of the RAIL block (R251). -/
def railReg (off : Nat) : Option RegDef :=
  let g := off / 0x1000
  let r := off % 0x1000
  let u := some (unitRail g)
  if r = 0x004 then some ⟨0x03FF0003, 3 + 100 * 65536, u⟩
  else if r = 0x010 then some ⟨0xFFFFFFFF, 0, u⟩
  else if r = 0x014 then some ⟨0x3FF, 50, u⟩
  else if 0x100 ≤ r ∧ r < 0x700 then slotReg u ((r - 0x100) / 0x80) ((r - 0x100) % 0x80)
  else if g = 0 ∧ (r = 0xE00 ∨ r = 0xE04) then some ⟨0xFFFFFFFF, 0, some unitRc⟩
  else if g = 0 ∧ r = 0xE0C then some ⟨0xFFFFFFFF, 100 + 1000 * 65536, some unitRc⟩
  else none

/-- Writable registers of the THM block (R386). -/
def thmReg (r : Nat) : Option RegDef :=
  let u := some unitThm
  if r = 0x000 then some ⟨0x0FFFFFFF, 95 + 103 * 256 + 115 * 65536 + 3 * 16777216, u⟩
  else if r = 0x004 then some ⟨0xFF, 4, u⟩
  else if r = 0x400 then some ⟨0xFFFF, 640, none⟩
  else if 0x410 ≤ r ∧ r < 0x430 then some ⟨0xFFFFFFFF, 1000 + 200 * 65536, u⟩
  else if 0x440 ≤ r ∧ r < 0x480 then some ⟨0xFFFFFFFF, 0, u⟩
  else if 0x480 ≤ r ∧ r < 0x4A0 then some ⟨0xFFFFFF, 0, u⟩
  else none

/-- Stored registers of the QM block (R341): QM_EVT and the MSI-X table, every vector masked. -/
def qmReg (r : Nat) : Option RegDef :=
  if r = 0x18000 then some ⟨0x7FF, 1 * 512, none⟩
  else if 0x14000 ≤ r ∧ r < 0x15000 then
    if r % 16 = 0 then some ⟨0xFFFFFFFC, 0, none⟩
    else if r % 16 = 12 then some ⟨0x1, 1, none⟩
    else some ⟨0xFFFFFFFF, 0, none⟩
  else none

/-- Stored registers of the SCH block (R136). -/
def schReg (r : Nat) : Option RegDef :=
  if r = 0x000 then some ⟨0xFF1F, 10 + 5 * 256 + 15 * 4096, some unitSch⟩
  else if r = 0x014 ∨ r = 0x800 then some ⟨0x3FF, 0, none⟩
  else if 0x400 ≤ r ∧ r < 0x600 then
    let o := r % 0x40
    if o = 0 then some ⟨0x7F, 64, some unitSch⟩
    else if o ≤ 0x20 then some ⟨0xFFFFFFFF, 0, some unitSch⟩
    else none
  else none

/-- Stored registers of the WSA block (R96, R98). -/
def wsaReg (r : Nat) : Option RegDef :=
  let u := some unitWsa
  if r = 0x000 then some ⟨0x3F, 15, u⟩
  else if r = 0x004 then some ⟨0x3, 1, u⟩
  else if r = 0x008 then some ⟨0xFF3F, 60 + 25 * 256, u⟩
  else if 0x020 ≤ r ∧ r < 0x040 then some ⟨0xFFFF, [0, 120, 240, 360].getD ((r - 0x20) / 4 % 4) 0, u⟩
  else if 0x4000 ≤ r ∧ r < 0x8000 then
    if r % 16 = 0 then some ⟨0xFFFF0070, 4096 * 65536, u⟩
    else if r % 16 = 4 then some ⟨0xFFFFFFFF, 0, u⟩
    else none
  else none

/-- Stored registers of the MP block (R165), but for the placement entries. -/
def mpReg (r : Nat) : Option RegDef :=
  let u := some unitMp
  if r = 0x008 then some ⟨0x3FFFFFFF, 0x3FFFFFFF, u⟩
  else if r = 0x00C then some ⟨0x0FFF0001, 1 + 1280 * 65536, u⟩
  else if r = 0x020 then some ⟨0xFFF, 0, none⟩
  else if 0x1000 ≤ r ∧ r < 0x1400 then
    let o := r % 0x40
    if o = 0x00 then some ⟨0xFFF, 0, u⟩
    else if o ≤ 0x10 then some ⟨0xFFFFFFFF, 0, u⟩
    else if o = 0x14 then some ⟨0x1FFFF, 0, u⟩
    else none
  else if 0x4000 ≤ r ∧ r < 0x8000 then
    if r % 16 = 0 then some ⟨0xFFFFFFFF, 16384, u⟩
    else if r % 16 = 4 then some ⟨0xFFFF, 16384, u⟩
    else if r % 16 = 8 then some ⟨0xFFFFFFFF, 0, u⟩
    else none
  else none

/-- Stored registers of the TF block (R203). -/
def tfReg (off : Nat) : Option RegDef :=
  let u := some (unitTf (off / 0x400))
  let r := off % 0x400
  if r = 0x004 then some ⟨0xFF7F7F3F, 10 * 256 + 10 * 65536 + 8 * 16777216, u⟩
  else if 0x200 ≤ r then
    if r % 16 = 0 ∨ r % 16 = 4 then some ⟨0xFFFFFFFF, 0, u⟩
    else if r % 16 = 12 then some ⟨0x007FE004, 0, u⟩
    else none
  else none

/-- Stored registers of the TIME block (R222). -/
def timeReg (r : Nat) : Option RegDef :=
  let u := some unitTime
  if r = 0x000 then some ⟨0x3, 0, u⟩
  else if r = 0x020 then some ⟨0x7F, 85, u⟩
  else if r = 0x024 then some ⟨0xFFFFFFFF, 0, u⟩
  else if r = 0x028 then some ⟨0xFFFF, 0, u⟩
  else if r = 0x040 then some ⟨0xFFF, 120, u⟩
  else if r = 0x050 then some ⟨0x00FF0F1F, 1 * 256 + 127 * 65536, u⟩
  else if r = 0x054 then some ⟨0xFFFF, 0, u⟩
  else if r = 0x070 then some ⟨0xFFFF0001, 0, u⟩
  else none

/-- Stored registers of the DMC block: no shadow set, a written value takes effect at the next guard. -/
def dmcReg (off : Nat) : Option RegDef :=
  let c := off / 0x1000
  let r := off % 0x1000
  if r = 0x008 then some ⟨0xF, 8, none⟩
  else if r = 0x00C ∧ 2 ≤ c then some ⟨0xFFFF0FFF, 100 + 100 * 65536, none⟩
  else if r = 0x010 then some ⟨0x3FF, 10, none⟩
  else if c = 0 ∧ r = 0x820 then some ⟨0xFFC, 0, none⟩
  else none

/-- Stored registers of the VALE block (R313). -/
def valeReg (r : Nat) : Option RegDef :=
  if r = 0x104 then some ⟨0x7FF, 0, none⟩
  else if r = 0x108 then some ⟨0xFFFF, 100, none⟩
  else if r = 0x110 then some ⟨0x0FFF0003, 1 + 16 * 65536, none⟩
  else if r = 0x114 ∨ r = 0x118 then some ⟨0xFFFFFFFF, 0xFFFFFFFF, none⟩
  else none

/-- Stored registers of the NET block (R366, R367). -/
def netReg (r : Nat) : Option RegDef :=
  let u := some unitNet
  if r = 0x0010 then some ⟨0x7777, 0x4444, u⟩
  else if r = 0x0014 then some ⟨0xFFFFFFFF, 7240, u⟩
  else if 0x0100 ≤ r ∧ r < 0x0300 then
    let o := r % 0x20
    if o = 0x00 ∨ o = 0x08 ∨ o = 0x10 then some ⟨0xFFFFFFFF, 0, u⟩
    else if o = 0x04 then some ⟨0xFFFF, 0, u⟩
    else if o = 0x0C then some ⟨0x007FFF7F, 24, u⟩
    else none
  else if 0x0400 ≤ r ∧ r < 0x0500 then
    let o := r % 16
    if o = 0 ∨ o = 8 then some ⟨0xFFFFFFFF, 0, u⟩
    else if o = 4 then some ⟨0x01FFFFFF, 1 * 1048576, u⟩
    else none
  else if 0x0600 ≤ r ∧ r < 0x0680 then
    if r % 16 = 0 then some ⟨0xFF, 0, u⟩ else none
  else if 0x1000 ≤ r ∧ r < 0x2000 then
    if r % 16 = 0 then some ⟨0xFFFFFFFF, 0, u⟩
    else if r % 16 = 4 then some ⟨0x1FFFF, 0, u⟩
    else none
  else none

/-- The stored register at a BAR0 offset (R20), or that of a placement entry. `none`: no plain register is there. -/
def regDef (off : Nat) : Option RegDef :=
  if off % 4 ≠ 0 then none
  else if off < 0x10000 then none
  else if off < 0x20000 then if off = 0x10020 then some ⟨0x7FF, 20, none⟩ else none
  else if off < 0x30000 then thmReg (off - 0x20000)
  else if off < 0x38000 then railReg (off - 0x30000)
  else if off < 0x50000 then none
  else if off < 0x70000 then qmReg (off - 0x50000)
  else if off < 0x80000 then none
  else if off < 0x90000 then schReg (off - 0x80000)
  else if off < 0xA0000 then wsaReg (off - 0x90000)
  else if off < 0xB0000 then mpReg (off - 0xA0000)
  else if off < 0xB8000 then tfReg (off - 0xB0000)
  else if off < 0xC0000 then none
  else if off < 0xD0000 then timeReg (off - 0xC0000)
  else if off < 0xDC000 then dmcReg (off - 0xD0000)
  else if off < 0xE0000 then none
  else if off < 0xF0000 then valeReg (off - 0xE0000)
  else if off < 0x100000 then netReg (off - 0xF0000)
  else if off = 0x100020 then some ⟨0xF7F, 0, none⟩
  else if 0x10000000 ≤ off ∧ off < 0x10040000 then some ⟨0xFFFFFFFF, 0, some unitMp⟩
  else none

/-- The reset value of the stored register at `off`; 0 where none is. -/
def resetVal (off : Nat) : Nat := match regDef off with
  | some d => d.reset
  | none => 0

/-- The writable bits of the stored register at `off`; none where none is. -/
def rwMask (off : Nat) : Nat := match regDef off with
  | some d => d.mask
  | none => 0

/-- The commit unit of the stored register at `off`. -/
def unitOf (off : Nat) : Option Nat := match regDef off with
  | some d => d.unit
  | none => none

/-- What the register at `off` reads as in a stored set `t`: sets hold only the registers that are not at reset. -/
def regGet (t : Tab Word) (off : Nat) : Nat := (tabGet (BitVec.ofNat 32 (resetVal off)) t off).toNat

/-- A set with the register at `off` holding `v`. -/
def regPut (t : Tab Word) (off v : Nat) : Tab Word := tabSet (BitVec.ofNat 32 (resetVal off)) t off (BitVec.ofNat 32 v)

/-- Every pair of 64-bit registers of R7 whose names end in _LO and _HI: the offset of the pair's low register, for the
offset of either half. -/
def pairLo (off : Nat) : Option Nat :=
  let arr (base stride n : Nat) : Option Nat :=
    if base ≤ off ∧ off < base + stride * n then
      let o := (off - base) % stride
      if o = 0 then some off else if o = 4 then some (off - 4) else none
    else none
  let one (base : Nat) : Option Nat := if off = base ∨ off = base + 4 then some base else none
  if off % 4 ≠ 0 then none
  else if off < 0x20000 then one 0x10004
  else if off < 0x30000 then arr 0x20440 8 8
  else if off < 0x60000 then arr 0x50000 16 4096
  else if off < 0xA0000 then if off < 0x98000 then (one 0x90100).or (one 0x90108) else arr 0x98000 8 1024
  else if off < 0xB0000 then if 0xA1000 ≤ off ∧ off < 0xA1400 then arr 0xA1008 0x40 16 else none
  else if off < 0xC0000 then
    if off < 0xB8000 ∧ 0x100 ≤ off % 0x400 ∧ off % 0x400 < 0x200 then some (off / 8 * 8) else none
  else if off < 0xD0000 then
    (one 0xC0010).or ((one 0xC0018).or ((one 0xC0024).or ((one 0xC0030).or ((one 0xC0038).or (one 0xC0060)))))
  else if off < 0xE0000 then none
  else if off < 0xF0000 then one 0xE0114
  else if off < 0x100000 then
    if 0xF0100 ≤ off ∧ off < 0xF0300 then arr 0xF0100 0x20 16
    else if 0xF1000 ≤ off ∧ off < 0xF2000 ∧ 8 ≤ off % 16 then some (off / 8 * 8)
    else none
  else none

end Sys2Proof.Machine
end

