-- ==== Sys2Proof/Machine/State.lean ====
section
/-! DEFINITION. The state of the block as plain data: one structure per subsystem of R10, each field under the spec's own
name, and `State.reset`, the machine right after a cold reset (R388, R389). Times are counted in `clk`, CLK_FAB cycles of
1.25 ns since cold start (assumption 2). -/

namespace Sys2Proof.Machine

/-- Why a step can stop: it cannot. Every command answers a next state in every state, so no fault has a constructor; safe. -/
inductive Fault where
deriving DecidableEq, Repr

/-- Why a command has no meaning. `notModelled`: raised by the dispatcher alone, for a row that has no meaning yet; safe.
No row is left without one. -/
inductive Refusal where
  | notModelled (mnemonic : String)
deriving DecidableEq, Repr

/-! ### Register file (R4 to R8, R16, R17) -/

/-- The stored registers. `direct`: registers that no commit covers, by BAR0 offset, only those not at their reset value.
`shadow`, `pend`, `live`: the three sets of every block with a commit, by commit unit (R17) and then by BAR0 offset;
`pend` is `none` while PENDING is 0. `rejected`: the units whose REJECTED is 1. `cnt`: the 32-bit event counters, by
BAR0 offset. `cap` and `wl`: capture latch and write latch of each access path (R7), by path number: (pair offset, value). -/
structure RegFile where
  direct : Tab Word
  shadow : Tab (Tab Word)
  pend : Tab (Option (Tab Word))
  live : Tab (Tab Word)
  rejected : List Nat
  cnt : Tab Word
  cap : Tab (Option (Nat × DWord))
  wl : Tab (Option (Nat × Word))
deriving DecidableEq, Repr

/-! ### Wall time (R205 to R223) -/

/-- The states of R206. -/
inductive TimeState where
  | freeRun | acquiring | locked | holdover | lost | stepPending
deriving DecidableEq, Repr

/-- A master heard by Announce (R211): its data set in the order of the best master clock comparison, the arrival port,
the times (`clk`) of its last Announce messages, newest first, and its announce interval. -/
structure Foreign where
  source : Nat
  port : Nat
  rank : List Nat
  grandmaster : Nat
  heard : List Nat
  logInterval : Int
deriving DecidableEq, Repr

/-- The TIME block. `wall`: the counter of R205 in units of 2^-32 ns. `eps`: ε in 2^-16 ppm. `acqValid`: ACQUIRING was entered with
wall time still valid (R213). `anchorT`, `anchorN`, `rate`: the live anchor and frame rate (R207); `past`: those before them since
the last step, newest first, each after the wall time (ns) up to which it was live (R143). `wfn`: the frame in progress. `chg`: a
pending rate change (RATE, AT_WFN). `stepNow`: STEP_NOW written since STEP_PENDING was entered. `holdStart`: when the holdover timer
started. `offset`: the last measured offset of the counter from its reference, in 2^-32 ns (R214 steps by it). `epsHist`: (clk, ε)
of each change of ε, newest first (the mean of R212). `mpd`, `syncDiff`, `delayT3` are in 2^-16 ns; `mpdNs`, `ofs` (ns) and `pherr`
(0.25 ns) are what the registers show. `wsAnchor`: anchor and rate of a marker that waits for a step. -/
structure TimeS where
  wall : Nat
  eps : Int
  state : TimeState
  acqValid : Bool
  anchorT : Nat
  anchorN : Nat
  rate : Nat
  past : List (Nat × Nat × Nat × Nat)
  wfn : Nat
  chg : Option (Nat × Nat)
  stepNow : Bool
  holdStart : Nat
  offset : Int
  epsHist : List (Nat × Int)
  foreign : List Foreign
  master : Option Nat
  gm : Nat
  good : Nat
  bad : Nat
  lastSync : Nat
  syncLog : Int
  delayLog : Int
  delaySeq : Nat
  delayT3 : Option Nat
  syncDiff : Option Int
  mpd : Int
  mpdNs : Int
  ofs : Int
  wsWfn : Nat
  wsAnchor : Option (Nat × Nat × Nat)
  leaderValid : Bool
  pherr : Int
  wsGot : Bool
  wsMiss : Nat
  wsOut : List Byte
deriving DecidableEq, Repr

/-! ### Queue manager (R315 to R342) -/

/-- One ring descriptor (R316, R317, R341): `armed` and `due` are the MSI-X state of R340, `reserved` the completion
entries reserved in it by R333 and R335. -/
structure Ring where
  base : DWord
  log2 : Nat
  en : Bool
  irqEn : Bool
  dbErr : Bool
  cfgErr : Bool
  vec : Nat
  coal : Nat
  ovf : Bool
  pair : Nat
  prod : Nat
  cons : Nat
  reserved : Nat
  armed : Bool
  due : Option Nat
deriving DecidableEq, Repr

/-- Where a command comes from and the completion path on which its fetch has reserved an entry for it (R331, R333). -/
structure Origin where
  src : CmdSource
  dst : CplDst
deriving DecidableEq, Repr

/-- A command packet fetched and not yet started (R320, R330): its source, the path that its fetch reserved an entry of, its bytes. -/
structure Cmd where
  src : CmdSource
  dst : CplDst
  pkt : List Byte
deriving DecidableEq, Repr

/-- The origin of a fetched command. -/
def Cmd.org (c : Cmd) : Origin := ⟨c.src, c.dst⟩

/-- A long-running command in progress (R327): group, origin, TAG, opcode and parameter bytes. -/
structure Running where
  grp : RunGroup
  org : Origin
  tag : Nat
  opcode : Nat
  param : List Byte
deriving DecidableEq, Repr

/-- A FILM_BIND or FILM_LOAD accepted and completed at the next flip, when its change is in force (R52, R332). -/
structure AtFlip where
  org : Origin
  tag : Nat
  opcode : Nat
  result : Nat
deriving DecidableEq, Repr

/-- One entry of the event log (R336, R337). `unit` is 0xFFFF when none. -/
structure LogEntry where
  seq : Nat
  code : Nat
  severity : Nat
  suppressed : Nat
  unit : Nat
  time : Nat
  arg0 : Nat
  arg1 : Nat
  wfn : Nat
  valid : Bool
  detail : List Byte
deriving DecidableEq, Repr

/-- The rate window of R339 for one (code, UNIT): the wall second, records written in it, events suppressed since. -/
structure RateWin where
  second : Nat
  written : Nat
  suppressed : Nat
deriving DecidableEq, Repr

/-- The queue manager. `fetched`: packets fetched and not started (R330); `running`: the long-running ones; `atFlip`: those that
complete at the next flip. `fetching`: from READY on (R327). `turn`: the SUBMIT ring whose turn is next (R333). `ovq`: the overflow
queue (R334). `evSeq`: events written; `evLog` by SEQ mod 4,096; `rateWin` by code·65536 + UNIT (R339). `pba`: pending MSI-X
vectors. `netRing`: command entries by peer; `netOut`: completion entries by peer not sent yet (R351). -/
structure QmS where
  rings : Tab Ring
  fetched : List Cmd
  running : List Running
  atFlip : List AtFlip
  fetching : Bool
  turn : Nat
  ovq : List (CplDst × List Byte)
  ovqFull : Bool
  evSeq : Nat
  evLog : Tab LogEntry
  rateWin : Tab RateWin
  pba : List Nat
  netRing : Tab (List (List Byte))
  netOut : Tab (List (List Byte))
deriving DecidableEq, Repr

/-! ### Host, network and local control bus (R343 to R368) -/

/-- The PCIe endpoint (R343, R367): the link as NET_PCIE_STAT shows it, and what of configuration space the host sets: D3hot, the base
addresses in BAR0/BAR1 and BAR2/BAR3, and the uncorrectable and correctable error status of AER. -/
structure PcieS where
  speed : Nat
  width : Nat
  bme : Bool
  l1 : Bool
  d3hot : Bool
  bar0 : Nat
  bar2 : Nat
  aerUncorr : Nat
  aerCorr : Nat
deriving DecidableEq, Repr

/-- A completion datagram to a peer (R351): return port, address, UDP port and the payload sent. -/
structure SentCpl where
  cmdSeq : Nat
  bytes : List Byte
deriving DecidableEq, Repr

/-- One network peer (R350 to R352): key, L, the 16 SEQ last accepted (newest first), the device's SEQ, the return
address of the last accepted command datagram, which accepted SEQ each command TAG answers, and the completion datagrams
sent for the 16 last SEQ. -/
structure Peer where
  key : Option (List Byte)
  last : Nat
  recent : List Nat
  devSeq : Nat
  retPort : Nat
  retIp : Nat
  retUdp : Nat
  cmds : List (Nat × Nat)
  sent : List SentCpl
deriving DecidableEq, Repr

/-- One board regulator on PMBus (R365): `vmode` none until VOUT_MODE has been read. -/
structure Pmb where
  vmode : Option Nat
  vout : Nat
  iout : Nat
  temp : Nat
  pout : Nat
  status : Nat
  stale : Bool
  pecErr : Bool
  fails : Nat
deriving DecidableEq, Repr

/-- One mailbox (R361, R362): the indices in force, MB_CTL, LIVE, IDX_ERR and the completion entries reserved. -/
structure Mbox where
  cmdProd : Nat
  cmdCons : Nat
  cplProd : Nat
  cplCons : Nat
  en : Bool
  irqEn : Bool
  live : Bool
  idxErr : Bool
  reserved : Nat
deriving DecidableEq, Repr

/-- The network block, the mailboxes and the slow buses. `link`: by port, whether its partner
on the line is up and its RS-FEC aligned. `ptpSeen`: when the last PTP
message arrived, by port. `arp`: resolved addresses, key port·2^32 + IPv4. `arpWait`: completion datagrams waiting for
their next hop: (port, next hop, IPv4, UDP port, payload). -/
structure NetS where
  pcie : PcieS
  bar2Log2 : Nat
  link : Tab (Bool × Bool)
  ptpSeen : Tab (Option Nat)
  peers : Tab Peer
  arp : Tab (Option Nat)
  arpWait : List (Nat × Nat × Nat × Nat × List Byte)
  pmb : Tab Pmb
  mbox : Tab Mbox
  smbPtr : Nat
  smbAddr : Nat
deriving DecidableEq, Repr

/-! ### Thermal monitor and power states (R369 to R387) -/

/-- One thermal zone (R370 to R377). Each flag's run counts samples toward setting it, or, negative, toward clearing it.
`pHist`: P_z at the last samples of unchanged RAW, newest first, at most 64. `sampleAt`: the last sample. -/
structure Zone where
  temp : Int
  known : Bool
  raw : Int
  rate : Nat
  fkind : Nat
  warn : Bool
  hot : Bool
  shut : Bool
  warnRun : Int
  hotRun : Int
  shutRun : Int
  openRun : Nat
  shortRun : Nat
  rangeRun : Nat
  pHist : List Nat
  sampleAt : Nat
  p : Nat
  m : Int
  est : Int
deriving DecidableEq, Repr

/-- The thermal monitor: the throttle step k, the zones, a thermal shutdown in progress (zone, frame N) and the last tick. -/
structure ThmS where
  step : Nat
  zones : Tab Zone
  shutdown : Option (Nat × Nat)
  tickAt : Nat
deriving DecidableEq, Repr

/-- The power states of R378. -/
inductive PState where
  | off | boot | hold | run | plateau | safe
deriving DecidableEq, Repr

/-- Where a PLATEAU entry or exit stands (R382, R383): `entryFlip`: waiting for the guard that sends LAST = 1; `entryRails n`: rails
shut down from flip n on; `entryOff`: waiting for every group; `entryDram`: for CH0 and CH1 to switch to FSP-L (R286); `exitRails`:
groups power up, until the first guard after them. -/
inductive Transit where
  | none | entryFlip | entryRails (atFlip : Nat) | entryOff | entryDram | exitRails
deriving DecidableEq, Repr

/-- Power state, transition in progress and its start, groups that were STARTING or UP at entry. -/
structure PwrS where
  state : PState
  transit : Transit
  start : Nat
  groups : List Nat
  entryLat : Nat
  exitLat : Nat
  plateaus : Word
deriving DecidableEq, Repr

/-! ### Reset, boot and fault capture (R388 to R412) -/

/-- The reset kinds of R388. -/
inductive ResetKind where
  | cold | warm
deriving DecidableEq, Repr

/-- A reset entry in progress (R391): kind, cause and its argument, the trigger's clk, wall time and frame, the power state
before it, and how far it has come: 1 after step 1, 3 after the DRV timeout, 4 in self-refresh, held for 1 ms. -/
structure ResetEntry where
  kind : ResetKind
  cause : Nat
  arg : Nat
  clk : Nat
  time : Nat
  frame : Nat
  pstate : Nat
  stage : Nat
deriving DecidableEq, Repr

/-- A package slot's contents (R51): a film package or a table package, its bytes (R53, R56; an unlisted byte is 0) and its
length. -/
structure Pkg where
  table : Bool
  size : Nat
  bytes : Mem
deriving DecidableEq, Repr

/-- The fault dump (R404, R406): header fields, and the copied regions: cores, status window, registers, Vale, firmware data; of the
function banks the packages in the code tables and the activity bitmap. `events`: the event log entries of the summary (R405), by
offset from 0x2_0000 of it. -/
structure Dump where
  cause : Nat
  summaryOnly : Bool
  partialCap : Bool
  flashed : Bool
  time : Nat
  wfn : Nat
  evSeq : Nat
  fwver : Nat
  image : Nat
  pstate : Nat
  missed : Nat
  length : Nat
  arg : Nat
  cores : Mem
  swin : Tab Word
  regs : Tab Word
  vale : Mem
  fw : Mem
  events : Mem
  pkgs : Tab (Option Pkg)
  active : Mem
  parity : Mem
deriving DecidableEq, Repr

/-- A capture that runs (R404): cause, its argument, wall time, WFN and power state at the trigger, and the fatal errors that
came meanwhile (R393). -/
structure Capture where
  cause : Nat
  arg : Nat
  time : Nat
  wfn : Nat
  pstate : Nat
  missed : Nat
deriving DecidableEq, Repr

/-- The odometer counters (R408), in the record's order. `tempHist` has 16 bins, `slotFaults` is by g·12 + s. Seconds are
kept in CLK_FAB cycles. -/
structure Odo where
  onC : Nat
  stateC : Tab Nat
  cold : Nat
  warm : Nat
  warmBy : Tab Nat
  thermShut : Nat
  fallback : Nat
  tempHist : Tab Nat
  step4 : Nat
  pf : Nat
  frames : Nat
  sessDone : Nat
  repromised : Nat
  vinColl : Nat
  vinLow : Nat
  dramCe : Nat
  dramUe : Nat
  valeFail : Nat
  jtlUncorr : Nat
  tilesLost : Nat
  groupTrips : Tab Nat
  slotFaults : Tab Nat
  lastErr : List (List Byte)
deriving DecidableEq, Repr

/-- The SPI flash (R395): the records it holds, area by area. A BOOTCFG copy, the dump summary and an odometer slot are
`none` or unlisted while erased. Keys are by peer. An image area is `none` while it is as the board delivered it, `checkA`
and `checkB` being what the boot ROM last found there, and its bytes once FW_WRITE has programmed it. `odo` is keyed
area·256 + slot. -/
structure FlashS where
  bootcfg0 : Option (List Byte)
  bootcfg1 : Option (List Byte)
  keys : Tab (Option (List Byte))
  imageA : Option Mem
  imageB : Option Mem
  checkA : ImageCheck
  checkB : ImageCheck
  summary : Option Dump
  odo : Tab (Option (List Byte))
  jedecId : Nat
  sizeLog2 : Nat
  ok : Bool
deriving DecidableEq, Repr

/-- One-time programmable fuses: minimum SECVER, revoked key slots, key hashes, UID, silicon revision (R360, R398). -/
structure OtpS where
  minSecver : Nat
  revoked : List Nat
  keyHash : Tab (List Byte)
  uid : DWord
  rev : Nat
deriving DecidableEq, Repr

/-- GLB, DIAG, flash and test access. `stable`: when the 600 s run of R399 began. `odoDue`: REASON of a record that waits.
`odoLast`: when the last record that R409 spaces by 10 s was written; `odoRetry`: the next write is the retry of one that failed.
`runMark`: RUN time at the last periodic record. `cfg*`: the boot configuration in force (R396). `tap`: the JTAG instruction in
force (R412; 1 IDCODE), `bsr`: what was last shifted into the boundary-scan register. -/
structure GlbS where
  ready : Bool
  readyOut : Bool
  image : Nat
  fwver : Nat
  secver : Nat
  fallback : Bool
  rom : Bool
  safeCause : Nat
  strikes : Nat
  stable : Nat
  rstKind : Nat
  rstCause : Nat
  warms : Nat
  heartbeat : Word
  wdogLast : Nat
  wdogLogged : Bool
  entry : Option ResetEntry
  bootKind : ResetKind
  bootStart : Nat
  dramKept : Bool
  preBoot : Option ResetEntry
  capture : Option Capture
  dump : Option Dump
  summaryDue : Bool
  odo : Odo
  odoDue : List Nat
  odoLast : Option Nat
  odoGen : Nat
  odoArea : Nat
  odoSlot : Nat
  odoErrs : Nat
  odoErase : Bool
  odoEraseRetry : Bool
  odoRetry : Bool
  runMark : Nat
  cfgGen : Nat
  cfgCopy : Nat
  cfgRate : Nat
  cfgFspl : Bool
  cfgIecc : Nat
  cfgBar2 : Nat
  cfgPrefer : Nat
  cfgErr : Bool
  lcbCkSel : Bool
  smbStrap : Nat
  porst : Bool
  refclkStopped : Bool
  tap : Nat
  bsr : List Bool
deriving DecidableEq, Repr

/-! ### Rail controller (R224 to R252) -/

/-- Group states of R233. -/
inductive GState where
  | disabled | off | starting | up | stopping | tripped
deriving DecidableEq, Repr

/-- Slot states of R233. -/
inductive SState where
  | off | waitDep | ramp | qualify | good | retry | discharge
deriving DecidableEq, Repr

/-- The phases within RETRY (R240): off time, ramp, qualification. -/
inductive RPhase where
  | offTime | ramp | qualify
deriving DecidableEq, Repr

/-- One rail slot. Times are `clk` values. `mark`: when the present phase began (qualification, DISCHARGE or the DRV low in it, the
off time of a retry). `left`: when the slot left WAIT_DEP or began the retry's ramp (TIMEOUT is counted from it). `sampleAt`: the
last sample. The set point moves from `rampFrom` at `rampAt` to `rampTo` in `rampDur` cycles; `stopRamp`: the ramp-down of DISCHARGE
runs. `wasOut`: the last sample was out of the condition of QUALIFY. `drv`: the PWM or the enable is not held low; `high`: high time
of the next period. The runs count samples in a row: UV, OV, OC warning, UV, OV, OC fault, power-good low. `warnAt`: the last
warning; `goodSince`: GOOD without a break since; `ignored`: timed out under IGNORE. -/
structure Slot where
  state : SState
  phase : RPhase
  mark : Nat
  left : Nat
  sampleAt : Nat
  rampFrom : Int
  rampTo : Int
  rampAt : Nat
  rampDur : Nat
  stopRamp : Bool
  wasOut : Bool
  goodSince : Nat
  integ : Int
  duty : Nat
  carry : Nat
  ff : Nat
  ffNext : Option Nat
  drv : Bool
  high : Nat
  v : Int
  i : Nat
  pgood : Bool
  uvwRun : Nat
  ovwRun : Nat
  ocwRun : Nat
  uvfRun : Nat
  ovfRun : Nat
  ocfRun : Nat
  pgRun : Nat
  retries : Nat
  warnAt : Option Nat
  ignored : Bool
deriving DecidableEq, Repr

/-- One rail group. `tripAt`: when it became TRIPPED. `causeAt`: when TRIP_CAUSE was recorded. `fnCause`: it caused the assertion of
FAULT_N that runs. `autoUp`: it was STARTING or UP when FAULT_N or the input took it down. `withheld`: the code levels withheld in
the compute frame (R241). -/
structure Group where
  state : GState
  enable : Bool
  autoRestart : Bool
  trip : Nat
  upPending : Bool
  reqRefused : Bool
  tripAt : Nat
  causeAt : Nat
  fnCause : Bool
  autoUp : Bool
  withheld : List Nat
  slots : Tab Slot
deriving DecidableEq, Repr

/-- The rail controller's device-wide state: FAULT_N (line level as last seen, who drives, since when; `fnStuckLow`: when the low
level began that is logged as stuck), VIN_MON and a SYSTEM_RESET reaction in progress (its clk and UNIT). -/
structure RcS where
  groups : Tab Group
  fnLine : Bool
  fnDriving : Bool
  fnExternal : Bool
  fnStuck : Bool
  fnStuckLow : Option Nat
  fnSince : Nat
  fnLowAt : Nat
  fnDriveStart : Nat
  fnReleased : Option Nat
  fnEvent : Bool
  vin : Nat
  vinLow : Bool
  collapsed : Bool
  sysReset : Option (Nat × Nat)
deriving DecidableEq, Repr

/-! ### Frontlight (R253 to R268) -/

/-- One frontlight zone (R253, R268): its settings,
its target level and the fade of the last change. -/
structure FlZone where
  mode : Nat
  level : Nat
  fadeMs : Nat
  afadeMs : Nat
  ahyst : Nat
  ambSrc : Nat
  hostLux : Nat
  daylight : List (Nat × Nat)
  target : Nat
  fade : Nat
deriving DecidableEq, Repr

/-- What the engine wants of a tile next: a fade segment: level P, FADE_MS, and `off` for the Y = 0 of mode OFF. -/
structure FlSeg where
  p : Nat
  ms : Nat
  off : Bool
deriving DecidableEq, Repr

/-- The command of the engine that is outstanding on a tile (R260). -/
inductive FlOut where
  | none | set | diag | config (bytes : List Byte)
deriving DecidableEq, Repr

/-- The engine's record of one tile (R257 to R266). `zone`: R253. `p0`, `y0`: level and effective level last sent (`sentAny`: any).
`segs`: fade segments still to send, `segAt`: when the last one sent ends. `ymax`, `tempUnknown`: R258, as the last TELEMETRY left
them. `config`: the last TC_FL_CONFIG that completed OK. `resume`: commands due because the tile became UP; `offOwed`: strings
marked SHORT whose TC_FL_CONFIG is still to send (R266). `runs`: R266, by string: verdict and run. `marks`: string → 2 OPEN, 3
SHORT. `short`, by string: when the on-time fell below 4 µs or was last probed. `target`: the level its fade ends at: 0 none, else
2·P + 1, one more for the Y = 0 of mode OFF. `ambient`, `fflags`: the AMBIENT and FFLAGS of the last TELEMETRY. `duty`, by string:
the DUTY last commanded to it (R265). -/
structure FlTile where
  zone : Nat
  p0 : Nat
  y0 : Nat
  sentAny : Bool
  target : Nat
  segs : List FlSeg
  segAt : Nat
  out : FlOut
  ymax : Nat
  tempUnknown : Bool
  config : Option (List Byte)
  resume : List FlOut
  offOwed : List Nat
  runs : Tab (Nat × Nat)
  marks : Tab Nat
  short : Tab (Option Nat)
  ambient : Nat
  fflags : Nat
  duty : Tab Nat
deriving DecidableEq, Repr

/-- The frontlight engine. `blocks`: parameter blocks accepted since the last evaluation (opcode, bytes; R268). -/
structure FlS where
  knee : Int
  slope : Nat
  mindr : Nat
  diagPeriod : Nat
  curve : List Nat
  zones : Tab FlZone
  tiles : Tab FlTile
  blocks : List (Nat × List Byte)
deriving DecidableEq, Repr

/-! ### DRAM (R269 to R293) -/

/-- Channel states of DMC_CSTAT. -/
inductive ChState where
  | off | training | active | selfRefresh | failed
deriving DecidableEq, Repr

/-- One DRAM channel. `debt`: refresh debt by 2·subchannel + rank. `lastReq`: the last request or refresh, by rank. `trkAt`: when a
step last began, `trkBase`: when the last period of tracking ended, by subchannel, `trkDue`: tracking steps that wait for the guard,
by subchannel. `openRows`: the row that each bank has open, as row + 1, by ((subchannel·2 + rank)·4 + group)·4 + bank (R279).
`awake`: woken in PLATEAU (R287). -/
structure Chan where
  state : ChState
  fsp : Nat
  fsplTrained : Bool
  pd0 : Bool
  pd1 : Bool
  debt : Tab Int
  refRate : Nat
  lastReq : Tab Nat
  trkAt : Nat
  trkBase : Tab Nat
  trkDue : List Nat
  openRows : Tab Nat
  awake : Bool
deriving DecidableEq, Repr

/-- A BAR2 access that is held (R279, R292): the offset in the window, the access, when it came, how often it has been passed over. -/
structure MemReq where
  off : Nat
  acc : MemAcc
  at_ : Nat
  passed : Nat
deriving DecidableEq, Repr

/-- A requestor of BULK requests (R278) that waits for a channel: the BAR2 command or snapshot head of a command source, a long-running
command, the age sweep at a segment. -/
inductive Waiter where
  | command (src : CmdSource) | run (grp : RunGroup) | sweep (segment : Nat)
deriving DecidableEq, Repr

/-- The memory controller. `force`: register values in force (a written value takes effect at the next guard). `density` to
`rate`: the organisation found (R269). `bulkBlk`, `poolBlk`, `bar2Blk`: the bulk space's size and where POOL and BAR2 begin, in blocks
of 32 KiB; `poolKib`: POOL's data size (R274). `switching`: a set-point switch to this FSP. `train`: commanded training: channels
and start. `held`: BAR2 accesses that wait for it (R292); `waits`: the other requestors whose BULK request waits, and since when.
`filled`: the ECC regions filled at boot, as a mask (R276). `bulk`: the bulk space's bytes reached through BAR2, by bulk data address. -/
structure DmcS where
  chans : Tab Chan
  force : Tab Word
  density : Nat
  ranks : Nat
  cap : Nat
  rate : Nat
  fsplEn : Bool
  iecc : Nat
  bulkBlk : Nat
  poolBlk : Nat
  poolKib : Nat
  bar2Blk : Nat
  bulkSr : Bool
  switching : Option Nat
  lastStall : Nat
  train : Option (List Nat × Nat)
  trainRefused : Bool
  trainFailed : Bool
  held : List MemReq
  waits : List (Waiter × Nat)
  filled : Nat
  bulk : Mem
deriving DecidableEq, Repr

/-! ### Vale memory and the status window (R294 to R314) -/

/-- One Vale bank: owner (R295), handover in progress (new owner, CLEAR), retention, FAIL, the last granted access, and when it is
ready after its last wake. -/
structure Bank where
  owner : Nat
  pending : Option (Nat × Bool)
  ret : Bool
  fail : Bool
  last : Nat
  wakeAt : Nat
deriving DecidableEq, Repr

/-- Vale memory and the status window. `nextWin`, `aborts`: the test engine's next window of each bank and consecutive
aborts of it. `start`: when the open window began. `waiting`: accesses that wait for the open window to complete (R307), and since
when. `swin`: the status window's stored words, by word index. -/
structure ValeS where
  mem : Mem
  banks : Tab Bank
  denied : Bool
  refused : Bool
  btFail : Bool
  btBank : Nat
  btWin : Nat
  btActive : Bool
  btStart : Nat
  nextWin : Tab Nat
  aborts : Tab Nat
  waiting : List (ValeAccess × Nat)
  failBank : Nat
  failLine : Nat
  swin : Tab Word
  collide : Bool
  roWrite : Bool
  lastWord : Nat
  collisions : Nat
deriving DecidableEq, Repr

/-! ### Jartenak tile link: the device's side (R167 to R204) -/

/-- The bring-up steps of a hop side (R173). -/
inductive HopStep where
  | detect | adapt | frame | handshake | up
deriving DecidableEq, Repr

/-- One side of a hop: its step, since when, failed bring-ups, and the clk of each uncorrectable codeword of the last
millisecond. `sync`: the receiver's packet sync (R172); `discards`: packets it counted and discarded (R175). -/
structure Hop where
  step : HopStep
  since : Nat
  fails : Nat
  lostCw : List Nat
  sync : Bool
  discards : Nat
deriving DecidableEq, Repr

/-- Port states of TF_PSTAT. -/
inductive PortState where
  | off | down | bringup | enum | up | degraded
deriving DecidableEq, Repr

/-- A drive row: tile index, row, first segment, the 192-bit code field of each segment, its drive frame, and the
pre-frame PSRs of its pixels that the row journal keeps (R90), column by column; `rel`: when it was released; `cluster`: the one that
computed it, whose RETAIN holds them. -/
structure Row where
  tile : Nat
  row : Nat
  seg : Nat
  codes : List Nat
  frame : Nat
  pre : List (Nat × DWord)
  rel : Nat
  cluster : Nat
deriving DecidableEq, Repr

/-- A drive row sent (R183, R189): first-send PSEQ, every PSEQ it was sent under, position addressed, when it was released,
whether a held journal entry keeps its pre-frame PSRs. -/
structure SentRow where
  row : Row
  orig : Nat
  pseqs : List Nat
  pos : Nat
  at_ : Nat
  held : Bool
deriving DecidableEq, Repr

/-- One enumeration of a domain in progress (R177, R194): EPOCH, LIMIT, positions answered, the last DESC, and the phase of
a looped chain: 0 open chain or final split, 1 the LIMIT = 0 pass from port 2k, 2 the pass from port 2k+1 of a broken loop. -/
structure EnumRun where
  epoch : Nat
  limit : Nat
  found : List (Nat × Nat)
  last : Nat
  phase : Nat
deriving DecidableEq, Repr

/-- A tile command outstanding (R197): TAG, opcode, parameters, RSP_ADDR, tries, when sent; `engine`: the frontlight engine
sent it. -/
structure TileCmd where
  tag : Nat
  opcode : Nat
  param : List Byte
  rspAddr : Nat
  tries : Nat
  at_ : Nat
  engine : Bool
deriving DecidableEq, Repr

/-- One slot of a home port's slot table (R168, R179): what TF_TSLOTs and TF_TSERs show, the descriptor, the geometry of the
planes (`width`, `height`), the one to replace it (`newWidth`, `newHeight`), the one the slot last held (R439; 0 none since
cold start), delays, commands outstanding, telemetry. `port`: the port driving the tile; `epoch`: the EPOCH it was found
under, 0 while it is not found. `awaits`: the cause for which it waits for ACCEPT (5, 8; 0 none). `fill`: the fill of R439: 0
none, 1 due, 2 running. `samples`: the last delays, newest first; `batch`: the 16 probes of an enumeration are
under way; `rtt`, `rttNs`: the last round trip in 1/16 block cycle and in ns; `probe`: the PROBE_IDs outstanding (first, count) and
`probes` how many are unanswered. `ready`: the drive
frame whose report has arrived, `expect`: the one for which FLIP was sent to it while UP. `drops`: (frame, rows) of R201. -/
structure TileSlot where
  serial : Nat
  bound : Bool
  state : Nat
  cause : Nat
  partner : Bool
  pos : Nat
  port : Nat
  epoch : Nat
  width : Nat
  height : Nat
  newWidth : Nat
  newHeight : Nat
  maxRate : Nat
  flStrings : Nat
  lastW : Nat
  lastH : Nat
  awaits : Nat
  delaySent : Bool
  fill : Nat
  samples : List Int
  delay : Int
  rtt : Nat
  rttNs : Nat
  batch : Bool
  probes : Nat
  probe : Option (Nat × Nat)
  ready : Option Nat
  expect : Option Nat
  cmds : List TileCmd
  tempValid : Bool
  temp : Int
  tempAt : Nat
  tempSeen : Bool
  panelOn : Bool
  drops : List (Nat × Nat)
  unknown : Bool
  telTag : Nat
deriving DecidableEq, Repr

/-- One tile port. `released`: rows the WSA has released and the TF has not sent. `txDone`: when the transmit queue is
empty, in 1/32,125 CLK_FAB cycles (its rate is 32,125 bytes per 8,448 cycles). `sent`: rows of the drive frames still of
interest. `named`: PSEQ already named by a ROW_NAK. `lastRow`: when the last DRIVE_ROW left. `mark`: LAST_PSEQ at the last
SEQ_MARK. `flipAt`: when FLIP was sent in this guard. `deg`: DEGRADED, `ovf`: a journal overflow in this
frame, `degFrames`: frames in a row without one. `pseq`: the PSEQ of the last DRIVE_ROW sent. `brk`: the tiles before the
break or the standby hop, counted from port 2k (BREAK is one less). `moveTo`: the
break to take at the next guard (R195). -/
structure Port where
  enable : Bool
  state : PortState
  loopClosed : Bool
  loopBroken : Bool
  brk : Nat
  moveTo : Option Nat
  chainLen : Nat
  nextPseq : Nat
  pseq : Nat
  mark : Nat
  lastRow : Nat
  txDone : Nat
  released : List Row
  sent : List SentRow
  named : List Nat
  held : Nat
  flipAt : Option Nat
  flipCopied : Bool
  lastFlip : Bool
  enumRun : Option EnumRun
  epoch : Nat
  reEnum : Bool
  probeId : Nat
  degFrames : Nat
  ovf : Bool
  deg : Bool
deriving DecidableEq, Repr

/-! ### Jartenak tile link: a tile bridge, as far as the spec gives it (R176 to R199, R261 to R264) -/

/-- One string of a bridge's frontlight (R262): duty at the fade's start, its target, FADE_MS, when it began. -/
structure FlString where
  from_ : Nat
  target : Nat
  ms : Nat
  start : Nat
deriving DecidableEq, Repr

/-- One tile bridge. `buf`: codes for the next flip by row·256 + segment, `shown`: codes being applied. `rows`: ORIG_PSEQ of
the rows held for the next flip. `sched`: the flip scheduled by FLIP (WFN, due, LAST, rows expected); `due` and `flipAt` count
1/125 of a CLK_FAB cycle (0.01 ns), `period` units of 1/16 block cycle (16 of those). `flipWfn`: the last flip performed;
`nextWfn`: the number of the next one where the tile knows it. `predicted`: predicted flips made since the last FLIP.
`nextPseq`, `found`: the gap tracking of R188: the next PSEQ, and the missing ones found since the last report and not filled;
`high`: the highest PSEQ received for the coming drive frame. `quiet`: R186 stops its reports. `telAt`: when the next record is
due. `locator`: when the locator's blink ends. `tags`: executed TAGs with the stored response (TAG, when, TSTATUS, DATA).
`flNext`: frontlight commands that wait for the next flip. `judged`: the strings that emitted a judged pulse since the last
record, each with the ISET and the SHORT_V of its last one, up to cycle `judgeAt`; `diagged`: those that emitted a diagnostic pulse. -/
structure Bridge where
  serial : Nat
  width : Nat
  height : Nat
  pos : Option Nat
  upSide : Nat
  endDomain : Bool
  epoch : Nat
  telPer : Nat
  drivers : Bool
  driversNext : Option Bool
  buf : Tab Nat
  shown : Tab Nat
  rows : List Nat
  sched : Option (Nat × Nat × Bool × Nat)
  flipWfn : Nat
  nextWfn : Option Nat
  flipAt : Nat
  period : Nat
  predicted : Nat
  canPredict : Bool
  lastPredicted : Bool
  quiet : Bool
  readySent : Bool
  delay : Nat
  newDelay : Nat
  nextPseq : Option Nat
  found : List Nat
  high : Nat
  nakSent : Nat
  dropped : Nat
  cwCorr : Nat
  cwUncorr : Nat
  telAt : Nat
  locator : Nat
  tags : List (Nat × Nat × Nat × List Byte)
  flPeriod : Nat
  flEn : Nat
  flIset : List Nat
  flShortV : List Nat
  strings : Tab FlString
  flNext : List (Nat × List Byte)
  diagged : List Nat
  judged : List (Nat × Nat × Nat)
  judgeAt : Nat
deriving DecidableEq, Repr

/-! ### Pixel state and the film packages (R28 to R64) -/

/-- The DRAM planes and maps of the wall and the package slots. `psr` and `target` are keyed tile·2^28 + y·2^14 + x; an
unlisted PSR is the cold-start fill of R58, an unlisted target is code 0. `active` (the activity bitmap) and `parity` (the
age parity map, read against `parityBase`) are keyed tile·2^24 + row·256 + segment. `tickSweep`: the tick of the sweep last
begun; `plateauTick`: that tick at the last PLATEAU entry, `fresh` the segments processed since the exit (R37). `bind`: the
slot a tile is bound to, as slot + 1 (0 unbound); `bindPend`, `pkgPend`: changes that take effect at the next flip;
`rebound`: tiles bound since their temperature was last fixed (R85). `kept`: each tile's last package kind and STATE_SPACE_ID (R394).
`toUnknown`: tiles whose pixels become unknown at the next flip, with true when only ACTIVE pixels do; `heldUnknown`: those whose
records wait for channels that train (R292). `snapTiles`: tiles
listed by the snapshot operation that runs. -/
structure FilmS where
  psr : Tab DWord
  target : Tab Nat
  active : Tab Bool
  parity : Tab Bool
  parityBase : Bool
  tick : Nat
  tickSweep : Nat
  plateauTick : Option Nat
  fresh : Tab Bool
  pkgs : Tab (Option Pkg)
  pkgPend : Tab (Option Pkg)
  bind : Tab Nat
  bindPend : Tab Nat
  rebound : List Nat
  kept : Tab (Option (Bool × Nat))
  toUnknown : List (Nat × Bool)
  heldUnknown : List (Nat × Bool)
  snapTiles : List Nat
deriving DecidableEq, Repr

/-! ### Waveform synthesis (R65 to R98) -/

/-- A session's entry in the WSA session table (R75). -/
structure WSess where
  phase : Nat
  pframe : Nat
  holdOpen : Bool
  levelAll : Bool
  tmode : Nat
  tol : Nat
deriving DecidableEq, Repr

/-- A row bundle (R71): tile, package slot, its rows and their active segments. -/
structure Bundle where
  tile : Nat
  slot : Nat
  rows : List (Nat × List Nat)
  count : Nat
deriving DecidableEq, Repr

/-- A package group (R72): its slot, its clusters and the bundles not yet taken. -/
structure PGroup where
  slot : Nat
  first : Nat
  size : Nat
  queue : List Bundle
deriving DecidableEq, Repr

/-- A drive row in RETAIN (R67, R90): its first segment's key, its drive frame, and how many pre-frame PSRs it keeps there. -/
structure Kept where
  key : Nat
  frame : Nat
  psrs : Nat
deriving DecidableEq, Repr

/-- A cluster (R67, R72): its group, the packages in APPEAR0 and APPEAR1 (slot + 1, 0 none), whether it switched this
frame, its bundle in hand and those it moved behind; and what its other partitions hold, the latest first: `coef` the tiles whose
coefficients lie in COEF, `code` the entries (package slot + 1, code) that CODE caches, `stage` the segment in STAGE, `retain` the rows whose
pre-frame PSRs RETAIN holds (the records themselves stand in `Row.pre`). -/
structure Cluster where
  group : Option Nat
  appear0 : Nat
  appear1 : Nat
  switched : Bool
  bundle : Option Bundle
  later : List Bundle
  coef : List Nat
  code : List (Nat × Nat)
  stage : List Nat
  retain : List Kept
deriving DecidableEq, Repr

/-- A drive row in the making (R74): per segment the pixels computed (a bit mask) and the 192-bit code field, and the
pre-frame PSRs. -/
structure RowAcc where
  segs : List (Nat × Nat × Nat)
  pre : List (Nat × DWord)
deriving DecidableEq, Repr

/-- What the WSA counts for one session in one frame (R77, R88): settled, LEDGER_CARRY, TOLERANCE_MISS, unlevelled, and
whether an ACTIVE pixel was processed, whether one was out of tolerance, whether a tile was under an estimated
temperature. -/
structure SessCnt where
  settled : Nat
  carry : Nat
  miss : Nat
  unlev : Nat
  act : Bool
  out : Bool
  est : Bool
deriving DecidableEq, Repr

/-- The panel temperature fixed for a tile (R83, R85, R98). -/
structure TTemp where
  temp : Int
  band : Nat
  source : Nat
deriving DecidableEq, Repr

/-- A pixel that completed (R77, R86, R91): pixel key, session, the count it is in (0 SETTLED, 1 CARRY, 2 MISS), the compute
frame and the code emitted. -/
structure DoneRec where
  key : Nat
  session : Nat
  kind : Nat
  frame : Nat
  code : Nat
deriving DecidableEq, Repr

/-- The waveform synthesis array. `acc`: rows in the making, keyed tile·2^22 + row·256 + first segment. `doneLast`:
pixels completed in this and the last frame. `reopen`: pixels reported reopened (pixel key, session). `charge`: accumulators by
g·12 + s in 1/4,096 fC; `sessQ` by session·8 + g. `qpred`: pC, latched. `drove`: tiles with a drive row this frame. `est`:
tiles computed under an estimate this frame. `handed`: the guard's hand-off has been made. `replaced`: pixels whose levelling
or forced sequence had a step replaced by code 0 (R60, R241). `fixup`: dropped rows whose held entry has not been read yet (R91). -/
structure WsaS where
  gated : Bool
  inGuard : Bool
  step : Nat
  pause : Nat
  stopped : Bool
  sess : Tab WSess
  groups : List PGroup
  clusters : Tab Cluster
  acc : Tab RowAcc
  doneLast : List DoneRec
  reopen : List (Nat × Nat)
  cnt : Tab SessCnt
  charge : Tab Nat
  sessQ : Tab Nat
  qpred : Tab Word
  drove : List Nat
  est : List Nat
  handed : Bool
  pf : DWord
  skip : DWord
  temps : Tab TTemp
  fixup : List SentRow
  replaced : List Nat
deriving DecidableEq, Repr

/-! ### Session scheduler (R99 to R137) -/

/-- One booking of a session (R110): the compute slots `lo` to `hi` hold SYN, MEM and PORT demands, the slots `lo + 1` to
`hi + 1` the RAIL demands. `hi` is `none` for an open STREAM, booked up to the horizon. -/
structure Booking where
  lo : Nat
  hi : Option Nat
  syn : Nat
  mem : Nat
  ports : List (Nat × Nat)
  rails : List (Nat × Nat)
deriving DecidableEq, Repr

/-- The request part of a session descriptor (R102). -/
structure Req where
  kind : Nat
  prio : Nat
  queue : Bool
  useCode : Bool
  bitmap : Bool
  x : Nat
  y : Nat
  w : Nat
  h : Nat
  tol : Nat
  fresh : Nat
  tmode : Nat
  start : Nat
  deadline : Nat
  srcFirst : Nat
  srcCount : Nat
  code : Nat
  raw : List Byte
deriving DecidableEq, Repr

/-- The causes that void a promise (R129, R131), awaiting the next guard: tile lost, rails of a group removed, port
degraded, tile drivable again. -/
inductive VoidEv where
  | tileLost (tile : Nat)
  | railFault (group : Nat)
  | portDegraded (port : Nat)
  | tileReturned (tile : Nat)
deriving DecidableEq, Repr

/-- One session slot (R104, R105): the request, who opened it and the completion path it was opened through, and the state part.
`state` is coded as R105; a slot that was used and is FREE again keeps its record with state 0 (R133). `order`: arrival order
(R100). `forced`: the forced Switchback start; `last`: the last compute frame S + L − 1. `cancel`: a cancellation awaits the guard.
`lastOwn`: the last compute frame in which it owned a pixel. `promiseVoid`, `cancelled`: what its record will say. `void`: a cause
to be re-admitted for. `recover`: the tiles of a recovery Levelling that runs, with its last frame (R132). `strand`: the tiles on
which it holds stranded pixels (R131). `desc`: the descriptor as of the last guard. -/
structure Sess where
  req : Req
  src : CmdSource
  dst : CplDst
  tag : Nat
  order : Nat
  state : Nat
  eff : Nat
  est : Bool
  voided : Bool
  timeLost : Bool
  stranded : Bool
  closed : Bool
  p : Nat
  t : Nat
  w : Nat
  s : Nat
  c : Nat
  cFirst : Nat
  total : Nat
  settled : Nat
  carry : Nat
  miss : Nat
  superseded : Nat
  strandedPix : Nat
  synDemand : Nat
  repromises : Nat
  stale : Nat
  phaseP : Nat
  forced : Nat
  last : Nat
  books : List Booking
  cancel : Bool
  closeReq : Bool
  lastOwn : Option Nat
  promiseVoid : Bool
  cancelled : Bool
  recover : Option (List Nat × Nat)
  strand : List Nat
  lastPics : List (Nat × Nat)
  desc : List Byte
deriving DecidableEq, Repr

/-- The session scheduler. `halved`: ports whose capacity a DEGRADED state halves (R196). `noMem`: frames up to this one have MEM
capacity 0 (R292). `ageRep`: the highest AGE class reported per tile. `ageAcc`: the classes gathered since the last tick, `ageSkip`:
tiles the sweep skipped since (R126). `guardDone`: the guard work of this frame has been done. `unlevelled`: tiles with a pixel left
unknown in the LEVEL phase of a session: (session, tile). -/
structure SchS where
  slots : Tab (Option Sess)
  arrivals : Nat
  events : List VoidEv
  halved : List Nat
  noMem : Nat
  ageRep : Tab Nat
  ageAcc : Tab Nat
  ageSkip : List Nat
  guardDone : Bool
  unlevelled : List (Nat × Nat)
deriving DecidableEq, Repr

/-! ### Mapping pipeline (R138 to R166) -/

/-- A picture in a source buffer (R141): RTP timestamp, bytes as stored row by row in pixel groups, the covered spans
(row, first byte, byte count), the extended sequence numbers received, whether the marker packet has arrived and its
sequence number, damage, and the presentation frame once complete (R143). `at_`: when its first packet came. -/
structure Pic where
  serial : Nat
  at_ : Nat
  ts : Nat
  data : Mem
  spans : List (Nat × Nat × Nat)
  seqs : List Nat
  marker : Option Nat
  damaged : Bool
  frame : Option Nat
deriving DecidableEq, Repr

/-- A packet seen by the merge of R142: extended sequence number, when first seen, on path A, on path B. -/
structure SeqSeen where
  seq : Nat
  at_ : Nat
  onA : Bool
  onB : Bool
deriving DecidableEq, Repr

/-- One source's receiver: the pictures in reception, the latest last, the newest complete one and whether a render has begun
to read it, the merge window, the last packet's time. -/
structure SrcS where
  recv : List Pic
  newest : Option Pic
  used : Bool
  nextSerial : Nat
  seen : List SeqSeen
  lastPkt : Option Nat
deriving DecidableEq, Repr

/-- A render in progress (R160 to R164): session slot, the session's arrival order and request, render frame, the MP
configuration and pictures fixed at its flip, whether it is late, and, once it is, the pixels that its session owned after the guard
of the render frame (R162). -/
structure Render where
  slot : Nat
  order : Nat
  req : Req
  frame : Nat
  cfg : Tab Word
  pics : List (Nat × Pic)
  late : Bool
  own : List Nat
deriving DecidableEq, Repr

/-- The mapping pipeline. `held`: packets taken in whose store waits for POOL's channels (R292): source, packet, and when it came. -/
structure MpS where
  srcs : Tab SrcS
  renders : List Render
  held : List (Nat × RtpPkt × Nat)
deriving DecidableEq, Repr

/-! ### The whole block -/

/-- What the device sends out, newest first in `State.out` (the model's own record of outputs, assumption 4). -/
inductive Out where
  /-- A posted write to host memory over PCIe. -/
  | hostWrite (addr : Nat) (bytes : List Byte)
  /-- An MSI-X message. -/
  | msix (vector : Nat) (addr : Nat) (data : Nat)
  /-- A register, memory or status window read returns its data. -/
  | readData (path : Path) (data : List Byte)
  /-- A JTL packet leaves the port toward its first tile. -/
  | jtlDown (port : Nat) (bytes : List Byte)
  /-- A JTL packet leaves a tile bridge toward the device. -/
  | jtlUp (bridge : Nat) (bytes : List Byte)
  /-- A tile bridge passes a downstream packet on. -/
  | jtlForward (bridge : Nat) (bytes : List Byte)
  /-- A tile bridge passes on a codeword that it could not correct, as one that no receiver further down can correct (R171). -/
  | jtlLost (bridge : Nat)
  /-- An ARP reply or request: port, 802.1Q tag (VID, PCP), destination MAC, its own IP, the IP asked for or answered. -/
  | arp (port : Nat) (tag : Option (Nat × Nat)) (reply : Bool) (mac : Nat) (ip : Nat) (target : Nat)
  /-- An ICMP echo reply. -/
  | icmpReply (port : Nat) (tag : Option (Nat × Nat)) (mac : Nat) (ip : Nat) (payload : List Byte)
  /-- An IGMPv3 membership report. -/
  | igmpReport (port : Nat) (tag : Option (Nat × Nat)) (groups : List Nat)
  /-- A PTP Delay_Req. -/
  | delayReq (port : Nat) (tag : Option (Nat × Nat)) (seqId : Nat)
  /-- A UDP datagram to a peer: port, tag, next-hop MAC, IP, UDP port, payload. -/
  | udp (port : Nat) (tag : Option (Nat × Nat)) (mac : Nat) (ip : Nat) (dst : Nat) (payload : List Byte)
  /-- The SMBus target answers. -/
  | smbus (bytes : List Byte)
  /-- WALL_SYNC_OUT in a frame: the ns after the flip at which each level begins, and the level (R216). -/
  | wallSync (wave : List (Nat × Bool))
  /-- Data shifted out of the JTAG port, first bit first. -/
  | jtagTdo (data : List Bool)
deriving DecidableEq, Repr

/-- The state of the block. `clk`: CLK_FAB cycles since cold start. `free`: how many free values have been drawn (the
model's own field: it only tells one free value from the next). `pending`: the commands that wait, first in, first out. -/
structure State where
  regs : RegFile
  time : TimeS
  qm : QmS
  net : NetS
  thm : ThmS
  pwr : PwrS
  glb : GlbS
  flash : FlashS
  otp : OtpS
  rc : RcS
  fl : FlS
  dmc : DmcS
  vale : ValeS
  ports : Tab Port
  tiles : Tab TileSlot
  hops : Tab Hop
  bridges : Tab Bridge
  film : FilmS
  wsa : WsaS
  sch : SchS
  mp : MpS
  clk : Nat
  free : Nat
  out : List Out
  pending : List Instr
deriving DecidableEq, Repr

/-! ### The reset values (R388, R389)

What each record reads as while its table lists nothing for it. -/

/-- R389, R4: every register at its reset value, latches empty (R7). -/
def RegFile.init : RegFile := ⟨[], [], [], [], [], [], [], []⟩

/-- R205, R208: the counter starts at 0, ε 0, 85 Hz, no change pending; R206: FREE_RUN. -/
def TimeS.init : TimeS where
  wall := 0
  eps := 0
  state := .freeRun
  acqValid := false
  anchorT := 0
  anchorN := 0
  rate := 85
  past := []
  wfn := 0
  chg := none
  stepNow := false
  holdStart := 0
  offset := 0
  epsHist := []
  foreign := []
  master := none
  gm := 0
  good := 0
  bad := 0
  lastSync := 0
  syncLog := 0
  delayLog := 0
  delaySeq := 0
  delayT3 := none
  syncDiff := none
  mpd := 0
  mpdNs := 0
  ofs := 0
  wsWfn := 0
  wsAnchor := none
  leaderValid := false
  pherr := 0
  wsGot := false
  wsMiss := 0
  wsOut := []

/-- R341: the reset values of ring `n`. -/
def Ring.init (n : Nat) : Ring :=
  ⟨0, 8, false, false, false, false, if 256 ≤ n ∧ n < 512 then n - 256 else 0, 0, false, 0, 0, 0, 0, false, none⟩

/-- R341: nothing fetched, nothing queued, an empty event log. -/
def QmS.init : QmS := ⟨[], [], [], [], false, 0, [], false, 0, [], [], [], [], []⟩

/-- R352: a peer without a key; the SEQ start at 0. -/
def Peer.init : Peer := ⟨none, 0, [], 0, 0, 0, 0, [], []⟩

/-- R367: nothing polled yet. -/
def Pmb.init : Pmb := ⟨none, 0, 0, 0, 0, 0, false, false, 0⟩

/-- R362: a closed mailbox. -/
def Mbox.init : Mbox := ⟨0, 0, 0, 0, false, false, false, false, 0⟩

/-- R367: no link; R360: SMBus address 0x58 (straps 0); the SMBus pointer starts at 0 (assumption 8). -/
def NetS.init : NetS := ⟨⟨0, 0, false, false, false, 0, 0, 0, 0⟩, 0, [], [], [], [], [], [], [], 0, 0x58⟩

/-- R386: no reading yet, every flag clear, M_z = TAMB (R377) in 1/4,096 °C. -/
def Zone.init : Zone :=
  ⟨0, false, 0, 0, 0, false, false, false, 0, 0, 0, 0, 0, 0, [], 0, 0, 640 * 256, 0⟩

/-- R386: step 0. -/
def ThmS.init : ThmS := ⟨0, [], none, 0⟩

/-- R378: BOOT. -/
def PwrS.init : PwrS := ⟨.boot, .none, 0, [], 0, 0, 0⟩

/-- R408: every odometer counter at 0. -/
def Odo.init : Odo :=
  ⟨0, [], 0, 0, [], 0, 0, [], 0, 0, 0, 0, 0, 0, 0, 0, 0, 0, 0, 0, [], [], []⟩

/-- What the boot ROM found in an image area of which nothing is known: it verifies (assumption 9). -/
def ImageCheck.init : ImageCheck := ⟨0, 0, 0⟩

/-- R395: a flash whose records are all erased (assumption 9). -/
def FlashS.init : FlashS :=
  ⟨none, none, [], none, none, ImageCheck.init, ImageCheck.init, none, [], 0, 0, false⟩

/-- Fuses: none blown (assumption 10). -/
def OtpS.init : OtpS := ⟨0, [], [], 0, 0⟩

/-- R389, R396, R403: GLB and DIAG at reset: READY 0, no capture, the boot configuration at its defaults. -/
def GlbS.init : GlbS where
  ready := false
  readyOut := false
  image := 0
  fwver := 0
  secver := 0
  fallback := false
  rom := false
  safeCause := 0
  strikes := 0
  stable := 0
  rstKind := 0
  rstCause := 0
  warms := 0
  heartbeat := 0
  wdogLast := 0
  wdogLogged := false
  entry := none
  bootKind := .cold
  bootStart := 0
  dramKept := false
  preBoot := none
  capture := none
  dump := none
  summaryDue := false
  odo := Odo.init
  odoDue := []
  odoLast := none
  odoGen := 0
  odoArea := 0
  odoSlot := 0
  odoErrs := 0
  odoErase := false
  odoEraseRetry := false
  odoRetry := false
  runMark := 0
  cfgGen := 0
  cfgCopy := 0
  cfgRate := 2
  cfgFspl := true
  cfgIecc := 0
  cfgBar2 := 4
  cfgPrefer := 0
  cfgErr := false
  lcbCkSel := false
  smbStrap := 0
  porst := false
  refclkStopped := false
  tap := 1
  bsr := []

/-- R233: an OFF slot, DRV low. -/
def Slot.init : Slot where
  state := .off
  phase := .offTime
  mark := 0
  left := 0
  sampleAt := 0
  rampFrom := 0
  rampTo := 0
  rampAt := 0
  rampDur := 0
  stopRamp := false
  wasOut := true
  goodSince := 0
  integ := 0
  duty := 0
  carry := 0
  ff := 0
  ffNext := none
  drv := false
  high := 0
  v := 0
  i := 0
  pgood := false
  uvwRun := 0
  ovwRun := 0
  ocwRun := 0
  uvfRun := 0
  ovfRun := 0
  ocfRun := 0
  pgRun := 0
  retries := 0
  warnAt := none
  ignored := false

/-- R233, R251: a DISABLED group. -/
def Group.init : Group :=
  ⟨.disabled, false, false, 0, false, false, 0, 0, false, false, [], []⟩

/-- R251: FAULT_N high and released. -/
def RcS.init : RcS := ⟨[], true, false, false, false, none, 0, 0, 0, none, false, 0, false, false, none⟩

/-- R256: the reset DAYLIGHT curve: the spec gives none (assumption 7). -/
def FlZone.daylight0 : List (Nat × Nat) := List.replicate 6 (0, 0)

/-- R253, R268: a zone's reset values; HOST_LUX and DAYLIGHT are assumption 7. -/
def FlZone.init : FlZone := ⟨0, 0, 1000, 10000, 64, 0, 0, FlZone.daylight0, 0, 1000⟩

/-- R257 to R266: nothing sent to the tile yet; no panel reading, so that Ymax is MINDR (R258). -/
def FlTile.init : FlTile :=
  ⟨0, 0, 0, false, 0, [], 0, .none, 65535, true, none, [], [], [], [], [], 0, 0, []⟩

/-- R293: an OFF channel; REFRATE 2. -/
def Chan.init : Chan := ⟨.off, 0, false, false, false, [], 2, [], 0, [], [], [], false⟩

/-- R269, R274: no organisation known before boot. -/
def DmcS.init : DmcS := ⟨[], [], 0, 0, 0, 0, false, 0, 0, 0, 0, 0, false, none, 0, none, false, false, [], [], 0, []⟩

/-- R296: the owner of bank `k` at reset. -/
def bankOwner0 (k : Nat) : Nat :=
  if k < 20 then 4 else if k < 53 then 5 else if k < 56 then 1 else if k < 60 then 2 else 3

/-- R313: bank `k` at reset. -/
def Bank.init (k : Nat) : Bank := ⟨bankOwner0 k, none, false, false, 0, 0⟩

/-- R313, R389: Vale memory cleared, no test window open, the status window cleared. -/
def ValeS.init : ValeS := ⟨[], [], false, false, false, 0, 0, false, 0, [], [], [], 0, 0, [], false, false, 0, 0⟩

/-- R168: an EMPTY slot. -/
def TileSlot.init : TileSlot where
  serial := 0
  bound := false
  state := 0
  cause := 0
  partner := false
  pos := 0
  port := 0
  epoch := 0
  width := 0
  height := 0
  newWidth := 0
  newHeight := 0
  maxRate := 0
  flStrings := 0
  lastW := 0
  lastH := 0
  awaits := 0
  delaySent := false
  fill := 0
  samples := []
  delay := 0
  rtt := 0
  rttNs := 0
  batch := false
  probes := 0
  probe := none
  ready := none
  expect := none
  cmds := []
  tempValid := false
  temp := 0
  tempAt := 0
  tempSeen := false
  panelOn := false
  drops := []
  unknown := false
  telTag := 0

/-- R203: a port OFF, PSEQ 0. -/
def Port.init : Port where
  enable := false
  state := .off
  loopClosed := false
  loopBroken := false
  brk := 0
  moveTo := none
  chainLen := 0
  nextPseq := 0
  pseq := 0
  mark := 0
  lastRow := 0
  txDone := 0
  released := []
  sent := []
  named := []
  held := 0
  flipAt := none
  flipCopied := false
  lastFlip := false
  enumRun := none
  epoch := 0
  reEnum := false
  probeId := 0
  degFrames := 0
  ovf := false
  deg := false

/-- R173: a hop side in DETECT. -/
def Hop.init : Hop := ⟨.detect, 0, 0, [], false, 0⟩

/-- A bridge that has just been powered: drivers off (R198), no position, no code buffered (code 0), the frontlight at
TC_FL_CONFIG's reset values (R261). -/
def Bridge.init : Bridge where
  serial := 0
  width := 0
  height := 0
  pos := none
  upSide := 0
  endDomain := false
  epoch := 0
  telPer := 0
  drivers := false
  driversNext := none
  buf := []
  shown := []
  rows := []
  sched := none
  flipWfn := 0
  nextWfn := none
  flipAt := 0
  period := 0
  predicted := 0
  canPredict := false
  lastPredicted := false
  quiet := false
  readySent := false
  delay := 0
  newDelay := 0
  nextPseq := none
  found := []
  high := 0
  nakSent := 0
  dropped := 0
  cwCorr := 0
  cwUncorr := 0
  telAt := 0
  locator := 0
  tags := []
  flPeriod := 250
  flEn := 0
  flIset := []
  flShortV := []
  strings := []
  flNext := []
  diagged := []
  judged := []
  judgeAt := 0

/-- R58, R389: the planes after the cold-start fill, every package slot empty, every tile unbound. -/
def FilmS.init : FilmS := ⟨[], [], [], [], false, 0, 0, none, [], [], [], [], [], [], [], [], [], []⟩

/-- R75: an idle session table entry. -/
def WSess.init : WSess := ⟨0, 0, false, false, 0, 0⟩

/-- R67: a cluster without work or packages. -/
def Cluster.init : Cluster := ⟨none, 0, 0, false, none, [], [], [], [], []⟩

/-- No counts. -/
def SessCnt.init : SessCnt := ⟨0, 0, 0, 0, false, false, false⟩

/-- R98: no temperature fixed yet. -/
def TTemp.init : TTemp := ⟨0, 0, 0⟩

/-- R96: the WSA gated, idle. -/
def WsaS.init : WsaS where
  gated := true
  inGuard := false
  step := 0
  pause := 0
  stopped := false
  sess := []
  groups := []
  clusters := []
  acc := []
  doneLast := []
  reopen := []
  cnt := []
  charge := []
  sessQ := []
  qpred := []
  drove := []
  est := []
  handed := false
  pf := 0
  skip := 0
  temps := []
  fixup := []
  replaced := []

/-- R105: every session slot FREE. -/
def SchS.init : SchS := ⟨[], 0, [], [], 0, [], [], [], false, []⟩

/-- R141: a source that has received nothing. -/
def SrcS.init : SrcS := ⟨[], none, false, 0, [], none⟩

/-- R139 to R164: nothing received, no render. -/
def MpS.init : MpS := ⟨[], [], []⟩

/-- R255: the reset nodes of the perceptual curve. -/
def flCurve0 : List Nat :=
  [0, 453, 972, 1762, 2894, 4429, 6429, 8956, 12071, 15835, 20310, 25557, 31639, 38616, 46550, 55503, 65535]

/-- R253: the default curve, 16 zones and frontlight settings of R268. -/
def FlS.init : FlS := ⟨55, 1311, 16384, 16, flCurve0, [], [], []⟩

/-- The block right after a cold reset (R388, R389): everything at its reset value, in BOOT with READY 0, no command
waiting. -/
def State.reset : State where
  regs := RegFile.init
  time := TimeS.init
  qm := QmS.init
  net := NetS.init
  thm := ThmS.init
  pwr := PwrS.init
  glb := GlbS.init
  flash := FlashS.init
  otp := OtpS.init
  rc := RcS.init
  fl := FlS.init
  dmc := DmcS.init
  vale := ValeS.init
  ports := []
  tiles := []
  hops := []
  bridges := []
  film := FilmS.init
  wsa := WsaS.init
  sch := SchS.init
  mp := MpS.init
  clk := 0
  free := 0
  out := []
  pending := []

end Sys2Proof.Machine
end

