-- ==== Sys2Proof/Machine/Ops.lean ====
section
/-! DEFINITION. The named operations over the state that every family shares: free values, the clock, stored registers,
counters, the records of each table, outputs. -/

namespace Sys2Proof.Machine

/-! ### Free values (assumption 1) -/

/-- The next free value. -/
def State.freeVal (s : State) : Nat := Config.freeNat s.free

/-- The state after one free value has been drawn. -/
def State.bump (s : State) : State := { s with free := s.free + 1 }

/-- A free value below `n` (0 when `n` is 0), and the state after the draw. -/
def State.draw (s : State) (n : Nat) : Nat × State := (s.freeVal % n, s.bump)

/-! ### Outputs (assumption 4) -/

/-- Record something the device sends. -/
def State.emit (s : State) (o : Out) : State := { s with out := o :: s.out }

/-- Record several outputs, the first sent first. -/
def State.emits (s : State) (os : List Out) : State := os.foldl State.emit s

/-! ### Stored registers (R5, R16, R17) -/

/-- The shadow set of a commit unit. -/
def State.shadowSet (s : State) (u : Nat) : Tab Word := tabGet [] s.regs.shadow u

/-- The live set of a commit unit. -/
def State.liveSet (s : State) (u : Nat) : Tab Word := tabGet [] s.regs.live u

/-- The pending set of a commit unit (R17: PENDING is 1 while there is one). -/
def State.pendSet (s : State) (u : Nat) : Option (Tab Word) := tabGet none s.regs.pend u

/-- The value in force of a stored register: live where a commit covers it, as written otherwise. -/
def State.live (s : State) (off : Nat) : Nat :=
  match unitOf off with
  | some u => regGet (s.liveSet u) off
  | none => regGet s.regs.direct off

/-- What a read of a stored register returns: the shadow value where a commit covers it. -/
def State.shadow (s : State) (off : Nat) : Nat :=
  match unitOf off with
  | some u => regGet (s.shadowSet u) off
  | none => regGet s.regs.direct off

/-- Store the writable bits of `v` in the register at `off`. -/
def State.putReg (s : State) (off v : Nat) : State :=
  let m := rwMask off
  let w := (s.shadow off &&& (0xFFFFFFFF ^^^ m)) ||| (v &&& m)
  match unitOf off with
  | some u => { s with regs.shadow := tabSet [] s.regs.shadow u (regPut (s.shadowSet u) off w) }
  | none => { s with regs.direct := regPut s.regs.direct off w }

/-- The pending set of a unit becomes live. -/
def State.pendLive (s : State) (u : Nat) : State :=
  match s.pendSet u with
  | some t => { s with regs.live := tabSet [] s.regs.live u t, regs.pend := tabSet none s.regs.pend u none }
  | none => s

/-- R17: a refused commit sets REJECTED. -/
def State.rejectCommit (s : State) (u : Nat) : State :=
  { s with regs.rejected := u :: s.regs.rejected.filter (fun v => v ≠ u) }

/-- REJECTED of a unit. -/
def State.isRejected (s : State) (u : Nat) : Bool := s.regs.rejected.contains u

/-- W1C on REJECTED. -/
def State.clearRejected (s : State) (u : Nat) : State :=
  { s with regs.rejected := s.regs.rejected.filter fun v => v ≠ u }

/-- R17: an accepted commit copies the shadow set into the pending set; REJECTED, which tells of the last commit, is 0. -/
def State.acceptCommit (s : State) (u : Nat) : State :=
  { s.clearRejected u with regs.pend := tabSet none s.regs.pend u (some (s.shadowSet u)) }

/-- A field of a register in force. -/
def State.liveF (s : State) (off lo n : Nat) : Nat := bits (s.live off) lo n

/-- One bit of a register in force. -/
def State.liveB (s : State) (off lo : Nat) : Bool := decide (bits (s.live off) lo 1 = 1)

/-! ### Counters -/

/-- The 32-bit counter at a BAR0 offset. -/
def State.cnt (s : State) (off : Nat) : Nat := (tabGet 0 s.regs.cnt off).toNat

/-- A counter counts `k`, wrapping at 32 bits. -/
def State.count (s : State) (off : Nat) (k : Nat := 1) : State :=
  { s with regs.cnt := tabMod 0 s.regs.cnt off fun w => w + BitVec.ofNat 32 k }

/-- Clear every counter from `lo` up to, not including, `hi`. -/
def State.clearCnt (s : State) (lo hi : Nat) : State :=
  { s with regs.cnt := tabKeep (fun o => decide (o < lo) || decide (hi ≤ o)) s.regs.cnt }

/-! ### Records of the tables -/

def State.ring (s : State) (n : Nat) : Ring := tabGet (Ring.init n) s.qm.rings n
def State.setRing (s : State) (n : Nat) (r : Ring) : State :=
  { s with qm.rings := tabSet (Ring.init n) s.qm.rings n r }
def State.peer (s : State) (j : Nat) : Peer := tabGet Peer.init s.net.peers j
def State.setPeer (s : State) (j : Nat) (p : Peer) : State :=
  { s with net.peers := tabSet Peer.init s.net.peers j p }
def State.mbox (s : State) (m : Nat) : Mbox := tabGet Mbox.init s.net.mbox m
def State.setMbox (s : State) (m : Nat) (b : Mbox) : State :=
  { s with net.mbox := tabSet Mbox.init s.net.mbox m b }
def State.group (s : State) (g : Nat) : Group := tabGet Group.init s.rc.groups g
def State.setGroup (s : State) (g : Nat) (x : Group) : State :=
  { s with rc.groups := tabSet Group.init s.rc.groups g x }
def State.slot (s : State) (g i : Nat) : Slot := tabGet Slot.init (s.group g).slots i
def State.setSlot (s : State) (g i : Nat) (x : Slot) : State :=
  let gr := s.group g
  s.setGroup g { gr with slots := tabSet Slot.init gr.slots i x }
def State.zone (s : State) (z : Nat) : Zone := tabGet Zone.init s.thm.zones z
def State.setZone (s : State) (z : Nat) (x : Zone) : State :=
  { s with thm.zones := tabSet Zone.init s.thm.zones z x }
def State.flZone (s : State) (z : Nat) : FlZone := tabGet FlZone.init s.fl.zones z
def State.setFlZone (s : State) (z : Nat) (x : FlZone) : State :=
  { s with fl.zones := tabSet FlZone.init s.fl.zones z x }
def State.flTile (s : State) (i : Nat) : FlTile := tabGet FlTile.init s.fl.tiles i
def State.setFlTile (s : State) (i : Nat) (x : FlTile) : State :=
  { s with fl.tiles := tabSet FlTile.init s.fl.tiles i x }
def State.chan (s : State) (c : Nat) : Chan := tabGet Chan.init s.dmc.chans c
def State.setChan (s : State) (c : Nat) (x : Chan) : State :=
  { s with dmc.chans := tabSet Chan.init s.dmc.chans c x }
def State.bank (s : State) (k : Nat) : Bank := tabGet (Bank.init k) s.vale.banks k
def State.setBank (s : State) (k : Nat) (x : Bank) : State :=
  { s with vale.banks := tabSet (Bank.init k) s.vale.banks k x }
def State.port (s : State) (p : Nat) : Port := tabGet Port.init s.ports p
def State.setPort (s : State) (p : Nat) (x : Port) : State := { s with ports := tabSet Port.init s.ports p x }
def State.tile (s : State) (i : Nat) : TileSlot := tabGet TileSlot.init s.tiles i
def State.setTile (s : State) (i : Nat) (x : TileSlot) : State :=
  { s with tiles := tabSet TileSlot.init s.tiles i x }
def State.hop (s : State) (h : Nat) : Hop := tabGet Hop.init s.hops h
def State.setHop (s : State) (h : Nat) (x : Hop) : State := { s with hops := tabSet Hop.init s.hops h x }
def State.bridge (s : State) (b : Nat) : Bridge := tabGet Bridge.init s.bridges b
def State.setBridge (s : State) (b : Nat) (x : Bridge) : State :=
  { s with bridges := tabSet Bridge.init s.bridges b x }
def State.sess (s : State) (n : Nat) : Option Sess := tabGet none s.sch.slots n
def State.setSess (s : State) (n : Nat) (x : Option Sess) : State :=
  { s with sch.slots := tabSet none s.sch.slots n x }
def State.cluster (s : State) (c : Nat) : Cluster := tabGet Cluster.init s.wsa.clusters c
def State.setCluster (s : State) (c : Nat) (x : Cluster) : State :=
  { s with wsa.clusters := tabSet Cluster.init s.wsa.clusters c x }
def State.src (s : State) (n : Nat) : SrcS := tabGet SrcS.init s.mp.srcs n
def State.setSrc (s : State) (n : Nat) (x : SrcS) : State := { s with mp.srcs := tabSet SrcS.init s.mp.srcs n x }

/-- Apply a change to the tile slot `i`. -/
def State.modTile (s : State) (i : Nat) (f : TileSlot → TileSlot) : State := s.setTile i (f (s.tile i))
/-- Apply a change to port `p`. -/
def State.modPort (s : State) (p : Nat) (f : Port → Port) : State := s.setPort p (f (s.port p))
/-- Apply a change to the session in slot `n`, if there is one. -/
def State.modSess (s : State) (n : Nat) (f : Sess → Sess) : State :=
  match s.sess n with
  | some x => s.setSess n (some (f x))
  | none => s

/-! ### The clock (R205, R12; assumption 2) -/

/-- One CLK_FAB cycle advances the counter by 1.25 ns, in units of 2^-32 ns. -/
def cycleUnits : Nat := 5368709120

/-- The code of a power state (R378). -/
def PState.code : PState → Nat
  | .off => 0
  | .boot => 1
  | .hold => 2
  | .run => 3
  | .plateau => 4
  | .safe => 5

/-- How far the wall counter moves in `n` cycles beyond `n` × 1.25 ns: `n` × 1.25 ns × ε. The exact value where it is a whole
number of the counter's units, and otherwise free within one unit a cycle (assumption 3). -/
def epsDrift (n : Nat) (eps : Int) (free : Nat) : Int :=
  let x := (n : Int) * eps * 256
  if x % 3125 = 0 then x / 3125 else x / 3125 - n + (free % (2 * n + 1) : Nat)

/-- R408: the bin of TEMP_HIST of a temperature in 1/16 °C. -/
def tempBin (t : Int) : Nat := if t < 0 then 0 else min 15 (t.toNat / 128 + 1)

/-- R408: the temperature in force of the hottest zone. -/
def State.hottestTemp (s : State) : Int := (List.range 8).foldl (fun m z => max m (s.zone z).temp) (s.zone 0).temp

/-- R205: `n` CLK_FAB cycles pass: the clock, wall time and the seconds of the odometer (R408). -/
def State.advance (s : State) (n : Nat) : State :=
  let w := (s.time.wall : Int) + n * cycleUnits + epsDrift n s.time.eps s.freeVal
  let exact := decide (((n : Int) * s.time.eps * 256) % 3125 = 0)
  let hist := s.glb.odo.stateC
  let st := s.pwr.state.code
  { s with
    clk := s.clk + n
    free := if exact then s.free else s.free + 1
    time.wall := (w % ((2 ^ 96 : Nat) : Int)).toNat
    glb.odo.onC := s.glb.odo.onC + n
    glb.odo.stateC := tabMod 0 hist st (· + n)
    glb.odo.tempHist := tabMod 0 s.glb.odo.tempHist (tempBin s.hottestTemp) (· + n)
    glb.odo.step4 := s.glb.odo.step4 + (if s.thm.step = 4 then n else 0) }

/-- Advance to clock `t`; nothing when it has passed. -/
def State.advanceTo (s : State) (t : Nat) : State := if s.clk < t then s.advance (t - s.clk) else s

/-- Cycles of CLK_FAB in a number of microseconds. -/
def usC (n : Nat) : Nat := n * 800

/-- Cycles of CLK_FAB in a number of milliseconds. -/
def msC (n : Nat) : Nat := n * 800000

/-- The wall-time counter in whole nanoseconds (R205). -/
def State.nowNs (s : State) : Nat := s.time.wall >>> 32

/-- R206, R213, R218: whether wall time is valid. After a commit to SRC 2 and before any marker is accepted, LEADER_VALID decides as it
stands (DEDUCED, assumption 152). -/
def State.wallValid (s : State) : Bool :=
  let own := match s.time.state with
    | .locked | .holdover => true
    | .acquiring => s.time.acqValid
    | _ => false
  own && (decide (s.liveF baseTime 0 2 ≠ 2) || s.time.leaderValid)

/-- R207: how many frames `n` lies after frame `anchorN`, in the circle of 2^48 frame numbers; negative before it. -/
def framesFrom (anchorN n : Nat) : Int :=
  let k : Int := (n : Int) - (anchorN : Int)
  if k < -140737488355328 then k + 281474976710656 else k

/-- R207: T(N), in ns, under an anchor and a rate. -/
def flipTimeAt (anchorT anchorN rate n : Nat) : Nat :=
  ((anchorT : Int) + Int.fdiv (framesFrom anchorN n * 1000000000) (rate : Int)).toNat

/-- R207: the frame that contains instant `t` (ns) under an anchor and a rate: the largest N with T(N) ≤ t. -/
def frameAt (anchorT anchorN rate t : Nat) : Nat :=
  (((anchorN : Int) + icdiv (((t : Int) - (anchorT : Int) + 1) * (rate : Int)) 1000000000 - 1) % 281474976710656).toNat

/-- R207: T(N) under the live anchor and rate. -/
def State.flipTime (s : State) (n : Nat) : Nat := flipTimeAt s.time.anchorT s.time.anchorN s.time.rate n

/-- The cycles until the wall counter reaches `t` ns (0 when it has). -/
def State.cyclesTo (s : State) (t : Nat) : Nat :=
  let target := t * 2 ^ 32
  if target ≤ s.time.wall then 0
  else
    let per : Int := (cycleUnits : Int) * 3125 + s.time.eps * 256
    (icdiv (((target - s.time.wall : Nat) : Int) * 3125) per.toNat).toNat

/-- One cycle, unless the wall counter has reached `t` ns. -/
def State.cycleToward (s : State) (t : Nat) : State := s.advance (min 1 (s.cyclesTo t))

/-- R207: advance to the cycle in which the wall counter reaches `t` ns: the cycle in which it would at the exact rate, the one before or
the one after it, as the rounding of R205's advance (assumption 3) has it. -/
def State.advanceWall (s : State) (t : Nat) : State := ((s.advance (s.cyclesTo t - 1)).cycleToward t).cycleToward t

/-- One tick of CLK_FAB: what a step on an empty queue does (assumption 6). -/
def State.tick (s : State) : State := s.advance 1

/-! ### Status window words that their writers store (R309, R359) -/

def State.swinGet (s : State) (w : Nat) : Nat := (tabGet 0 s.vale.swin w).toNat
def State.swinPut (s : State) (w v : Nat) : State :=
  { s with vale.swin := tabSet 0 s.vale.swin w (BitVec.ofNat 32 v) }

/-- Write bytes (a multiple of 4) into the status window from byte offset `off` on. -/
def State.swinBytes (s : State) (off : Nat) : List Byte → State
  | a :: b :: c :: d :: bs =>
    (s.swinPut (off / 4) (leNat [a, b, c, d])).swinBytes (off + 4) bs
  | _ => s

/-- Read `n` words as bytes from byte offset `off` on. -/
def State.swinRead (s : State) (off : Nat) : Nat → List Byte
  | 0 => []
  | n + 1 => leBytes 4 (s.swinGet (off / 4)) ++ s.swinRead (off + 4) n

/-! ### Who is reached (R400) -/

/-- R400: whether the register blocks are reached: from READY until a boot begins; while a warm reset is being entered they still
answer (assumption 45). -/
def State.reached (s : State) : Bool := s.glb.ready || (s.glb.entry.isSome && decide (s.pwr.state ≠ .boot))

/-- R400: before READY, PCIe and the LCB reach only the status window and the GLB block. -/
def State.reaches (s : State) (path : Path) (off : Nat) : Bool :=
  s.reached || decide (path = .firmware) || decide (off < 0x20000)

/-- R8: the writes of one register in one cycle, in the order in which they act: the LCB's, then PCIe's. `other`: what the other of
the two ports writes; a third path has no counterpart. -/
def portWrites (path : Path) (v : Nat) (other : Option Word) : List (Path × Nat) :=
  match path, other with
  | .pcie, some w => [(.lcb, w.toNat), (.pcie, v)]
  | .lcb, some w => [(.lcb, v), (.pcie, w.toNat)]
  | _, _ => [(path, v)]

/-- Whether the register blocks answer the host at all (R400). -/
def State.whenReady (s : State) (f : State → State) : State := if s.reached then f s else s

/-! ### The PCIe endpoint (R343, R344) -/

/-- The endpoint as the host has trained and configured it: the address bits within a window's size are not held. -/
def PcieS.ofLink (l : PcieLink) : PcieS :=
  ⟨l.speed.toNat, l.width.toNat, l.bme, l.l1, l.d3hot, l.bar0.toNat / 2 ^ 26 * 2 ^ 26, l.bar2.toNat / 2 ^ 30 * 2 ^ 30,
    l.aerUncorr.toNat, l.aerCorr.toNat⟩

/-- R343: word `w` of the type 0 configuration header, as far as the spec gives it: Device ID 0x7240 with Sovoma's Vendor ID, a free
value; BME of the command register; the class code 0x04_8000 with the revision; header type 0; BAR0/BAR1, 64 MiB, 64-bit, not
prefetchable; BAR2/BAR3, as large as the window applied (R344), 64-bit, prefetchable; no BAR4, no expansion ROM, no INTx. -/
def State.pcieHeader (s : State) (w : Nat) : Option Nat :=
  let p := s.net.pcie
  let bar2 := p.bar2 / 2 ^ (30 + s.net.bar2Log2) * 2 ^ (30 + s.net.bar2Log2)
  match w with
  | 0 => some (Config.pcieVendor.toNat + 0x7240 * 65536)
  | 1 => some (b2n p.bme * 4)
  | 2 => some (s.otp.rev % 256 + 0x048000 * 256)
  | 3 => some 0
  | 4 => some (p.bar0 % 4294967296 + 4)
  | 5 => some (p.bar0 / 4294967296)
  | 6 => some (bar2 % 4294967296 + 12)
  | 7 => some (bar2 / 4294967296)
  | 8 | 9 | 12 | 15 => some 0
  | _ => none

/-! ### Ethernet ports (R346, R347) -/

/-- R346: MODEm of the MAC of Ethernet port `q` in the set that `get` reads. -/
def netMode (get : Nat → Nat) (q : Nat) : Nat := bits (get (baseNet + 0x10)) (q / 4 * 4) 2

/-- R346: whether Ethernet port `q` exists, and so is enabled, in the set that `get` reads. -/
def netPortOn (get : Nat → Nat) (q : Nat) : Bool :=
  decide (netMode get q = 2) || (decide (netMode get q = 1) && decide (q % 4 = 0))

/-- R346: whether the RS-FEC of port `q` runs: always in 100G mode, with FEC25 in 4×25G mode. -/
def netFec (get : Nat → Nat) (q : Nat) : Bool :=
  netPortOn get q && (decide (netMode get q = 1) || decide (bits (get (baseNet + 0x10)) (q / 4 * 4 + 2) 1 = 1))

/-- Register `r` of NET_PORTq. -/
def portOff (q r : Nat) : Nat := baseNet + 0x100 + q * 0x20 + r

/-- R347, R367: the 802.1Q tag of the frames that port `q` sends: VID and PCP, with VLAN_EN = 1. -/
def State.frameTag (s : State) (q : Nat) : Option (Nat × Nat) :=
  let cfg := s.live (portOff q 0xC)
  if bits cfg 6 1 = 1 then some (bits cfg 8 12, bits cfg 20 3) else none

/-- R367: LINK and FEC_LOCK of port `q`: of a port that exists, as its partner on the line has it. -/
def State.linkUp (s : State) (q : Nat) : Bool := netPortOn s.live q && (tabGet (false, false) s.net.link q).1
def State.fecLock (s : State) (q : Nat) : Bool := netFec s.live q && (tabGet (false, false) s.net.link q).2

/-! ### Tiles, rectangles and power -/

/-- Whether the power state is HOLD or RUN. -/
def State.frameLoop (s : State) : Bool :=
  decide (s.pwr.state = .hold) || decide (s.pwr.state = .run)

/-- Offset of a register of slot `i` mod 32 of home port `i` / 32 (R168). -/
def tslotOff (i r : Nat) : Nat := baseTf (i / 32) + 0x200 + (i % 32) * 16 + r

/-- R203: VALID of tile `i` in the live set: the tile is in the tile map. -/
def State.inMap (s : State) (i : Nat) : Bool := s.liveB (tslotOff i 12) 2

/-- The tile map's tiles. -/
def State.mapTiles (s : State) : List Nat := (List.range 1024).filter s.inMap

/-- R168: wall position of tile `i`. -/
def State.tileX (s : State) (i : Nat) : Nat := s.live (tslotOff i 0)
def State.tileY (s : State) (i : Nat) : Nat := s.live (tslotOff i 4)

/-- Key of pixel (x, y) of tile `i` in the PSR and target planes: up to 16,384 columns and 65,536 rows (R69, R179). -/
def pixKey (i x y : Nat) : Nat := i * 1073741824 + y * 16384 + x

/-- The tile, the column and the row of a pixel's key. -/
def pixTile (k : Nat) : Nat := k / 1073741824
def pixCol (k : Nat) : Nat := k % 16384
def pixRow (k : Nat) : Nat := k / 16384 % 65536

/-- Key of segment `g` of row `y` of tile `i` in the activity bitmap and the age parity map. -/
def segKey (i y g : Nat) : Nat := i * 16777216 + y * 256 + g

/-- The tile, the row and the place in the row of a segment's key. -/
def segTile (k : Nat) : Nat := k / 16777216
def segRowOf (k : Nat) : Nat := k / 256 % 65536
def segPlace (k : Nat) : Nat := k % 256

end Sys2Proof.Machine
end

