-- ==== Sys2Proof/Machine/Dram.lean ====
section
/-! DEFINITION. Where a byte lies in DRAM (R271 to R276), which request a channel serves next (R278, R279), and what keeps its ranks
refreshed and awake (R275, R280 to R287, R291). -/

namespace Sys2Proof.Machine

/-! ### Addresses (R271 to R276) -/

/-- A location in DRAM (R273). -/
structure DramLoc where
  channel : Nat
  subchannel : Nat
  rank : Nat
  group : Nat
  bank : Nat
  row : Nat
  slice : Nat
  byte : Nat
deriving DecidableEq, Repr

/-- The channels of the bulk space. -/
def bulkChans : List Nat := [2, 3, 4, 5, 6, 7, 8, 9, 10, 11]

/-- R272: the channel and the channel address of a bulk address. -/
def bulkMap (b : Nat) : Nat × Nat := (2 + b / 4096 % 10, b / 4096 / 10 * 4096 + b % 4096)

/-- R273: the location that address `a` of channel `c` selects, with `rankSize` bytes a rank. -/
def chanLoc (rankSize c a : Nat) : DramLoc where
  channel := c
  subchannel := bits a 8 1
  rank := a / rankSize
  group := bits a 9 2
  bank := bits a 11 2
  row := a % rankSize / 65536
  slice := bits a 13 3
  byte := bits a 0 8

/-- R273: C ÷ n, the bytes of a rank of a channel. -/
def State.rankSize (s : State) : Nat := s.dmc.cap * 2 ^ 30 / max 1 s.dmc.ranks

/-- R272, R273: the location of a bulk address. -/
def State.bulkLoc (s : State) (b : Nat) : DramLoc := chanLoc s.rankSize (bulkMap b).1 (bulkMap b).2

/-- R276: whether region P`r` has inline ECC: enabled, and filled at boot. -/
def State.eccOn (s : State) (r : Nat) : Bool := decide (bits s.dmc.iecc r 1 = 1) && decide (bits s.dmc.filled r 1 = 1)

/-- R276: where data byte `d` of an ECC region lies in its blocks. -/
def eccData (d : Nat) : Nat := d / 28672 * 32768 + d % 28672

/-- R276: where the check byte of data byte `d` lies. -/
def eccCheck (d : Nat) : Nat := d / 28672 * 32768 + 28672 + d % 28672 / 8

/-- R276: the check byte that an ECC region holds for an 8-byte word of data: every write keeps it, from the fill at boot on. -/
def State.checkByte (s : State) (r : Nat) (w : DWord) : Option Byte := if s.eccOn r then some (Config.secDed w) else none

/-- R274: the physical bulk address at which region `r` begins: 1 PLANES, 2 POOL, 3 BAR2. -/
def State.regionBase (s : State) (r : Nat) : Nat :=
  32768 * (if r = 1 then 0 else if r = 2 then s.dmc.poolBlk else s.dmc.bar2Blk)

/-- R274, R276: the physical bulk addresses that an access to data byte `d` of region `r` reaches: the byte, and its check byte. -/
def State.physOf (s : State) (r d : Nat) : List Nat :=
  if s.eccOn r then [s.regionBase r + eccData d, s.regionBase r + eccCheck d] else [s.regionBase r + d]

/-- R274, R276: the ECC region that an address of a channel lies in. -/
def State.eccRegion (s : State) (c addr : Nat) : Nat :=
  if c < 2 then 0
  else
    let block := (addr / 4096 * 10 + (c - 2)) / 8
    if block < s.dmc.poolBlk then 1 else if block < s.dmc.bar2Blk then 2 else 3

/-- The regions of CH0 and CH1 (R271). -/
inductive ChanRegion where
  | firmware | dump | eventLog | reserved | packages | rings | tables | working
deriving DecidableEq, Repr

/-- R271: each region of CH0 and CH1: channel, offset, size. -/
def chanRegions : List (ChanRegion × Nat × Nat × Nat) :=
  [(.firmware, 0, 0, 0x20000000), (.dump, 0, 0x20000000, 0x4000000), (.eventLog, 0, 0x24000000, 0x100000),
   (.reserved, 0, 0x24100000, 0x3F00000), (.packages, 1, 0, 0x4000000), (.rings, 1, 0x4000000, 0x4000000),
   (.tables, 1, 0x8000000, 0x1000000)]

/-- R271: the region that data address `a` of CH0 or CH1 lies in; what no region takes is firmware's working memory. -/
def chanRegion (c a : Nat) : ChanRegion :=
  match chanRegions.find? fun r => decide (r.2.1 = c) && decide (r.2.2.1 ≤ a) && decide (a < r.2.2.1 + r.2.2.2) with
  | some r => r.1
  | none => .working

/-- R271: the size of a region of CH0 or CH1. -/
def regionSize (r : ChanRegion) : Nat := match chanRegions.find? fun x => decide (x.1 = r) with
  | some x => x.2.2.2
  | none => 0

/-! ### Refresh debt and self-refresh (R280 to R287, R291) -/

/-- A DMC register in force: a written value takes effect at the next guard. -/
def State.dmcVal (s : State) (off : Nat) : Nat := regGet s.dmc.force off

/-- R280: the largest pull-in of a channel. -/
def State.pullin (s : State) (c : Nat) : Int := (min 8 (bits (s.dmcVal (baseDmc c + 8)) 0 4) : Nat)

/-- The keys of a channel's ranks in its debt table: 2 · subchannel + rank. -/
def State.rankKeys (s : State) : List Nat := if s.dmc.ranks ≤ 1 then [0, 2] else [0, 1, 2, 3]

/-- The debt of a rank. -/
def Chan.debtOf (x : Chan) (k : Nat) : Int := tabGet 0 x.debt k

/-- Apply a change to a channel. -/
def State.modChan (s : State) (c : Nat) (f : Chan → Chan) : State := s.setChan c (f (s.chan c))

/-- R285: a request or refresh for a rank wakes it and restarts its timer. -/
def Chan.touch (x : Chan) (rank now : Nat) : Chan :=
  { x with lastReq := tabSet 0 x.lastReq rank now, pd0 := x.pd0 && decide (rank ≠ 0), pd1 := x.pd1 && decide (rank ≠ 1) }

/-- R282: the owed units of every rank of a channel, issued back to back until d = 0. Answers the channel and how many. -/
def State.payDebt (s : State) (x : Chan) : Chan × Nat :=
  ({ x with debt := s.rankKeys.foldl (fun t k => tabSet 0 t k (min 0 (x.debtOf k))) x.debt },
    (s.rankKeys.map fun k => (x.debtOf k).toNat).sum)

/-- R282, R286, R287: a channel pays its debt and enters self-refresh, which is counted. -/
def State.selfRefresh (s : State) (c : Nat) : State :=
  let x := s.chan c
  if x.state = .active then
    (s.setChan c { (s.payDebt x).1 with state := .selfRefresh, awake := false, pd0 := false, pd1 := false }).count (baseDmc c + 0x54)
  else s

/-- R291: both subchannels run a tracking step now; the next one is due a period later. -/
def Chan.track (x : Chan) (now : Nat) : Chan := { x with trkAt := now, trkBase := [(0, now), (1, now)] }

/-- R286, R287, R291: a channel leaves self-refresh with d := 0, and each subchannel runs one tracking step. -/
def State.wakeChan (s : State) (c : Nat) : State :=
  let x := s.chan c
  if x.state = .selfRefresh then
    (s.setChan c ({ x with state := .active, debt := [], lastReq := [(0, s.clk), (1, s.clk)] } |>.track s.clk)).count (baseDmc c + 0x58) 2
  else s

/-- R286: a channel at the exit from PLATEAU: it leaves self-refresh; one that a request has woken before stays awake, and its subchannels
run their tracking step too. -/
def State.exitChan (s : State) (c : Nat) : State :=
  let x := s.chan c
  if x.state = .active ∧ x.awake then (s.setChan c ({ x with awake := false } |>.track s.clk)).count (baseDmc c + 0x58) 2
  else s.wakeChan c

/-- R282: the ranks to which the guard's catch-up issues a unit: those with d above −PULLIN. -/
def State.owingRanks (s : State) (c : Nat) : List Nat :=
  ((s.rankKeys.filter fun k => decide (-(s.pullin c) < (s.chan c).debtOf k)).map (· % 2)).eraseDups

/-- R282, R285, R291: the guard's catch-up of one channel: every owed unit is issued and counted, ranks pull in until d = −PULLIN,
and the tracking steps that fell due run. -/
def State.catchUp (s : State) (c : Nat) : State :=
  let x := s.chan c
  if x.state = .active then
    let q := s.payDebt x
    let p := s.pullin c
    let pulled := (s.rankKeys.map fun k => (q.1.debtOf k + p).toNat).sum
    let y := { q.1 with debt := s.rankKeys.foldl (fun t k => tabSet 0 t k (min (tabGet 0 t k) (-p))) q.1.debt }
    let z := { y with trkDue := [], trkAt := if y.trkDue = [] then y.trkAt else s.clk }
    let w := (s.owingRanks c).foldl (fun v r => v.touch r s.clk) z
    (((s.setChan c w).count (baseDmc c + 0x48) q.2).count (baseDmc c + 0x4C) pulled).count (baseDmc c + 0x58) y.trkDue.length
  else s

/-- R282 and the registers of the DMC at the guard's beginning: written values take effect, and CH2 to CH11 catch up. -/
def State.dmcGuard (s : State) : State :=
  let regs := (List.range 12).flatMap fun c => [baseDmc c + 8, baseDmc c + 0xC, baseDmc c + 0x10]
  bulkChans.foldl State.catchUp { s with dmc.force := regs.foldl (fun t o => regPut t o (s.shadow o)) s.dmc.force }

/-! ### Requests (R275, R278, R279, R285, R287, R292) -/

/-- R275: what a channel moves at FSP-H passes link ECC; how many corrections an access takes is a free value. At FSP-L it is off. -/
def State.linkEcc (s : State) (c : Nat) : State :=
  if (s.chan c).fsp = 0 ∧ (s.chan c).state ≠ .off then
    let q := s.draw 4294967296
    q.2.count (baseDmc c + 0x5C) q.1
  else s

/-- R285, R287: a request reaches a rank of a channel (channel, rank): a channel in self-refresh wakes. -/
def State.touchRank (s : State) (p : Nat × Nat) : State :=
  let s1 := if (s.chan p.1).state = .selfRefresh then (s.wakeChan p.1).modChan p.1 fun x => { x with awake := true } else s
  (s1.modChan p.1 fun x => x.touch p.2 s1.clk).linkEcc p.1

/-- R285, R287: requests reach ranks. -/
def State.touchRanks (s : State) (ps : List (Nat × Nat)) : State := ps.foldl State.touchRank s

/-- R273: the bank of a channel that a location lies in. -/
def DramLoc.bankKey (l : DramLoc) : Nat := ((l.subchannel * 2 + l.rank) * 4 + l.group) * 4 + l.bank

/-- R279: whether a location's row is the one that its bank has open. -/
def State.rowOpen (s : State) (l : DramLoc) : Bool := decide (tabGet 0 (s.chan l.channel).openRows l.bankKey = l.row + 1)

/-- R279: an access opens its row. -/
def State.openRow (s : State) (l : DramLoc) : State :=
  s.modChan l.channel fun x => { x with openRows := tabSet 0 x.openRows l.bankKey (l.row + 1) }

/-- R273, R279, R285, R287: a request reaches a physical bulk address. -/
def State.touchBulk (s : State) (b : Nat) : State :=
  let l := s.bulkLoc b
  (s.touchRank (l.channel, l.rank)).openRow l

/-- R276: a request reaches data byte `d` of region `r`, and its check byte where the region has ECC. -/
def State.touchData (s : State) (r d : Nat) : State := (s.physOf r d).foldl State.touchBulk s

/-- R274: the data addresses in PLANES of a pixel's PSR, in the first 2 GiB, and of its target, in the 512 MiB after them. Which place
of a plane the pixel takes is internal (R61; assumption 134). -/
def psrData (key : Nat) : Nat := Config.planePlace key % 268435456 * 8
def targetData (key : Nat) : Nat := 2147483648 + Config.planePlace key % 268435456 * 2

/-- R274, R285, R287: the record of a pixel is read or written. -/
def State.touchPsr (s : State) (key : Nat) : State := s.touchData 1 (psrData key)

/-- R274, R285, R287: the record and the target of a pixel are read or written. -/
def State.touchPixel (s : State) (key : Nat) : State := (s.touchPsr key).touchData 1 (targetData key)

/-- The channels that the record of a pixel, with its check byte, lies on. -/
def State.psrChans (s : State) (key : Nat) : List Nat := ((s.physOf 1 (psrData key)).map fun b => (bulkMap b).1).eraseDups

/-- R141, R274: a picture buffer in POOL is written. -/
def State.touchPool (s : State) (n serial : Nat) : State := s.touchData 2 (Config.poolPlace n serial % max 1 (s.dmc.poolKib * 1024))

/-- R275, R278: CTRL traffic, package loads and dump copies reach CH0 or CH1. -/
def State.ctrlReach (s : State) (c : Nat) : State := s.linkEcc c

/-- R287: the planes of whole tiles are read or written: in every channel (assumption 134). -/
def State.touchPlanes (s : State) : State := s.touchRanks (bulkChans.map fun c => (c, 0))

/-- R292: whether requests to the planes are held: a channel trains, or has FAILED until the next reset (assumption 134). -/
def State.planesHeld (s : State) : Bool :=
  bulkChans.any fun c => decide ((s.chan c).state = .training) || decide ((s.chan c).state = .failed)

/-- The classes of R278. -/
inductive DramClass where
  | rt | ctrl | bulk
deriving DecidableEq, Repr

/-- R279: the level of a request: 2 RT, 3 BULK that has waited longer than 2 µs, 4 CTRL, 5 BULK. Level 1 has no requests. -/
def dramLevel (cls : DramClass) (waited : Nat) : Nat := match cls with
  | .rt => 2
  | .ctrl => 4
  | .bulk => if usC 2 < waited then 3 else 5

/-- R279, R292: a requestor's BULK request waits from now on, if it does not wait yet. -/
def State.holdReq (s : State) (w : Waiter) : State :=
  if s.dmc.waits.any fun q => decide (q.1 = w) then s else { s with dmc.waits := s.dmc.waits ++ [(w, s.clk)] }

/-- R279: a requestor's BULK request is granted on channels; where it has waited longer than 2 µs, each grant is counted. -/
def State.grantReq (s : State) (w : Waiter) (chans : List Nat) : State :=
  match s.dmc.waits.find? fun q => decide (q.1 = w) with
  | some q =>
    let s1 := { s with dmc.waits := s.dmc.waits.erase q }
    if dramLevel .bulk (s.clk - q.2) = 3 then chans.foldl (fun st c => st.count (baseDmc c + 0x68)) s1 else s1
  | none => s

end Sys2Proof.Machine
end

