-- ==== Sys2Proof/Machine/Qm.lean ====
section
/-! DEFINITION. The queue manager's operations (R315 to R340): rings, completion entries, session records, the overflow
queue, events and MSI-X. -/

namespace Sys2Proof.Machine

/-! ### Rings (R315, R316) -/

/-- R316: entries held. -/
def Ring.held (r : Ring) : Nat := (r.prod + 65536 - r.cons) % 65536

/-- R316: 2^k. -/
def Ring.size (r : Ring) : Nat := 2 ^ r.log2

/-- Free entries that nothing has reserved. -/
def Ring.free (r : Ring) : Nat := r.size - r.held - r.reserved

/-- R315: entry size of ring `n`, in bytes. -/
def ringEntry (n : Nat) : Nat :=
  if n < 256 then 64 else if n < 512 then 32 else if n < 1536 then 64 else if n < 2560 then 32
  else if n % 2 = 0 then 64 else 32

/-- Host address of the entry of index `x`. -/
def ringAddr (n : Nat) (r : Ring) (x : Nat) : Nat := r.base.toNat + (x % r.size) * ringEntry n

/-- Indices wrap at 65,536 (R316). -/
def idxAdd (x k : Nat) : Nat := (x + k) % 65536

/-- R324: the PHASE bit of the entry of index `x` in a ring of 2^k entries. -/
def phaseBit (k x : Nat) : Nat := 1 - bits x k 1

/-- R324: an entry with its PHASE in byte 5. -/
def withPhase (e : List Byte) (ph : Nat) : List Byte := e.set 5 (BitVec.ofNat 8 ph)

/-! ### MSI-X (R340) -/

/-- Offset of word `w` of vector `v` in the MSI-X table. -/
def msixOff (v w : Nat) : Nat := baseQm + 0x14000 + v * 16 + w * 4

/-- R340: send the message of vector `v`, or set its pending bit while it is masked. A message is a posted write to host
memory: with bus mastering off it fails (R326). -/
def State.sendMsix (s : State) (v : Nat) : State :=
  if s.liveB (msixOff v 3) 0 then
    if s.qm.pba.contains v then s else { s with qm.pba := v :: s.qm.pba }
  else if s.net.pcie.bme then
    (s.emit (.msix v (s.live (msixOff v 0) + s.live (msixOff v 1) * 4294967296) (s.live (msixOff v 2)))).count
      (baseQm + 0x18118)
  else s.count (baseQm + 0x1811C)

/-- R340 step 2 at its end: one message, and the ring is disarmed. -/
def State.fireRing (s : State) (n : Nat) : State :=
  let r := s.ring n
  (s.setRing n { r with armed := false, due := none }).sendMsix r.vec

/-- R340 step 2 for an armed ring that holds entries: at once, or when COAL_US has passed, or when it is half full. -/
def State.signalRing (s : State) (n : Nat) : State :=
  let r := s.ring n
  if r.irqEn && r.armed then
    if r.coal = 0 ∨ r.size / 2 ≤ r.held then s.fireRing n
    else match r.due with
      | some _ => s
      | none => s.setRing n { r with due := some (s.clk + usC r.coal) }
  else s

/-! ### The event log (R336 to R339) -/

/-- R338: severity of an event code. -/
def eventSeverity (code : Nat) : Nat :=
  if code ∈ [130, 146, 149, 168, 212, 224, 227] then 0
  else if code ∈ [128, 129, 147, 160, 163, 164, 165, 177, 193, 208, 209, 240, 242] then 1
  else if code ∈ [210, 226] then 3
  else 2

/-- R336: the 32-byte record of a log entry. -/
def LogEntry.record (e : LogEntry) : List Byte :=
  leBytes 2 0 ++ leBytes 2 e.code ++ [2, 0] ++ leBytes 2 0xFFFF ++ leBytes 4 e.seq ++ leBytes 1 e.severity ++
    leBytes 1 (min e.suppressed 255) ++ leBytes 2 e.unit ++ leBytes 8 e.time ++ leBytes 4 e.arg0 ++ leBytes 4 e.arg1

/-- R337: the 256 bytes of a log entry. -/
def LogEntry.bytes (e : LogEntry) : List Byte :=
  sliceB (e.record ++ leBytes 6 e.wfn ++ leBytes 1 (b2n e.valid) ++ zeroBytes 9 ++ e.detail) 0 256

/-- R322, R324: put an entry into COMPLETE or TILE_TEL ring `n`, which has a free entry. A write to host memory that fails loses the
entry and is counted (R326, R342; assumption 14). -/
def State.ringPut (s : State) (n : Nat) (e : List Byte) : State :=
  let r := s.ring n
  let s1 := s.setRing n { r with prod := idxAdd r.prod 1 }
  if s.net.pcie.bme then
    (s1.emit (.hostWrite (ringAddr n r r.prod) (withPhase e (phaseBit r.log2 r.prod)))).signalRing n
  else s1.count (baseQm + 0x1811C)

/-- R339: an event record is also posted to the ring that QM_EVT names. -/
def State.postEvent (s : State) (e : LogEntry) : State :=
  let evt := s.live (baseQm + 0x18000)
  if bits evt 8 1 = 1 ∧ bits evt 9 2 ≤ e.severity then
    let n := 256 + bits evt 0 8
    let r := s.ring n
    if r.en ∧ 0 < r.free then s.ringPut n e.record else s.count (baseQm + 0x18110)
  else s

/-- R337: write an event into the log, which lies in CH0 (R271), with the count of those suppressed before it. -/
def State.writeEvent (s : State) (code unit arg0 arg1 : Nat) (detail : List Byte) (suppressed : Nat) : State :=
  let sev := eventSeverity code
  let e : LogEntry := ⟨s.qm.evSeq % 2 ^ 32, code, sev, suppressed, unit % 65536, s.nowNs, arg0 % 2 ^ 32, arg1 % 2 ^ 32,
    s.time.wfn, s.wallValid, detail⟩
  let s1 := { s with qm.evSeq := s.qm.evSeq + 1, qm.evLog := tabPut (s.qm.evSeq % 4096) e s.qm.evLog }
  let s2 := if 2 ≤ sev then { s1 with glb.odo.lastErr := (s1.glb.odo.lastErr ++ [e.record]).drop (s1.glb.odo.lastErr.length - 15) }
    else s1
  (s2.ctrlReach 0).postEvent e

/-- R339: no record of this code and UNIT yet in any wall-time second. -/
def RateWin.init : RateWin := ⟨0, 0, 0⟩

/-- R337, R339: log an event, at most 16 of one code and UNIT in a wall-time second. -/
def State.logD (s : State) (code unit arg0 arg1 : Nat) (detail : List Byte) : State :=
  let key := code * 65536 + unit % 65536
  let w := tabGet RateWin.init s.qm.rateWin key
  let sec := s.nowNs / 1000000000
  if w.second = sec ∧ 16 ≤ w.written then
    { s with qm.rateWin := tabSet RateWin.init s.qm.rateWin key { w with suppressed := w.suppressed + 1 } }
  else
    let n := if w.second = sec then w.written + 1 else 1
    ({ s with qm.rateWin := tabSet RateWin.init s.qm.rateWin key ⟨sec, n, 0⟩ }).writeEvent code unit arg0 arg1 detail w.suppressed

/-- An event without detail. -/
def State.log (s : State) (code unit arg0 arg1 : Nat) : State := s.logD code unit arg0 arg1 []

/-- The UNIT of an event that names none (R336). -/
def noUnit : Nat := 0xFFFF

/-- R324, R338: write an entry into COMPLETE or TILE_TEL ring `n`. A write that fails is logged as RING_ERROR with the entry's index;
one of an event record, which would beget another, is only counted (assumption 14). -/
def State.ringWrite (s : State) (n : Nat) (e : List Byte) : State :=
  if s.net.pcie.bme then s.ringPut n e else (s.ringPut n e).log 240 n 2 (s.ring n).prod

/-- R326: a host memory access that failed: counted, and logged as RING_ERROR where it was a ring's. -/
def State.dmaErr (s : State) : State := s.count (baseQm + 0x1811C)

/-! ### Sources and completion paths (R322, R331) -/

/-- R322: SRC of a command source. -/
def srcCode : CmdSource → Nat
  | .submit r => r.val
  | .peer j => 2560 + 2 * j.val
  | .mailbox m => 0xF000 + m.val

/-- R331: where the completions of a source go that are fetched now. -/
def State.dstOf (s : State) : CmdSource → CplDst
  | .submit r => .complete (Fin.ofNat 256 (s.ring r.val).pair)
  | .peer j => .peer j
  | .mailbox m => .mailbox m

/-- The ring number that RECORD_LOST names: the completion ring, or the mailbox's SRC (assumption 15). -/
def dstRing : CplDst → Nat
  | .complete j => 256 + j.val
  | .peer j => 2561 + 2 * j.val
  | .mailbox m => 0xF000 + m.val

/-- Whether a completion path takes entries: an enabled ring, a mailbox that firmware serves (R362, R390). -/
def State.dstOpen (s : State) : CplDst → Bool
  | .complete j => (s.ring (256 + j.val)).en
  | .peer _ => true
  | .mailbox m => (s.mbox m.val).live

/-- Free entries of a completion path that nothing has reserved. -/
def State.dstFree (s : State) : CplDst → Nat
  | .complete j => (s.ring (256 + j.val)).free
  | .peer j => (s.ring (2561 + 2 * j.val)).free
  | .mailbox m =>
    let b := s.mbox m.val
    32 - (b.cplProd + 65536 - b.cplCons) % 65536 - b.reserved

/-- Byte offset of mailbox `m` in the status window (R361). -/
def mbOff (m : Nat) : Nat := 0x8000 + m * 0x800

/-- R361: MB_DEV and MB_STAT show the mailbox's state. -/
def State.mbShow (s : State) (m : Nat) : State :=
  let b := s.mbox m
  (s.swinPut ((mbOff m + 8) / 4) (b.cmdCons + b.cplProd * 65536)).swinPut ((mbOff m + 12) / 4) (b2n b.live + 2 * b2n b.idxErr)

/-- Put one entry on a completion path that has room. -/
def State.dstWrite (s : State) (d : CplDst) (e : List Byte) : State :=
  match d with
  | .complete j => s.ringWrite (256 + j.val) e
  | .peer j =>
    let n := 2561 + 2 * j.val
    let r := s.ring n
    let s1 := (s.setRing n { r with prod := idxAdd r.prod 1 }).ctrlReach 1
    { s1 with qm.netOut := tabMod [] s1.qm.netOut j.val (fun l => l ++ [withPhase e (phaseBit r.log2 r.prod)]) }
  | .mailbox m =>
    let b := s.mbox m.val
    let s1 := s.setMbox m.val { b with cplProd := idxAdd b.cplProd 1 }
    (s1.swinBytes (mbOff m.val + 0x400 + (b.cplProd % 32) * 32) (withPhase e (phaseBit 5 b.cplProd))).mbShow m.val

/-- Give back one reserved entry of a completion path. -/
def State.dstRelease (s : State) (d : CplDst) : State :=
  match d with
  | .complete j => let n := 256 + j.val; let r := s.ring n; s.setRing n { r with reserved := r.reserved - 1 }
  | .peer j => let n := 2561 + 2 * j.val; let r := s.ring n; s.setRing n { r with reserved := r.reserved - 1 }
  | .mailbox m => let b := s.mbox m.val; s.setMbox m.val { b with reserved := b.reserved - 1 }

/-- Reserve one entry of a completion path (R333). -/
def State.dstReserve (s : State) (d : CplDst) : State :=
  match d with
  | .complete j => let n := 256 + j.val; let r := s.ring n; s.setRing n { r with reserved := r.reserved + 1 }
  | .peer j => let n := 2561 + 2 * j.val; let r := s.ring n; s.setRing n { r with reserved := r.reserved + 1 }
  | .mailbox m => let b := s.mbox m.val; s.setMbox m.val { b with reserved := b.reserved + 1 }

/-- R334: put an entry into the overflow queue, or discard it, counted and logged. -/
def State.overflow (s : State) (d : CplDst) (e : List Byte) (slot kind : Nat) : State :=
  if s.qm.ovq.length < 2048 then { s with qm.ovq := s.qm.ovq ++ [(d, e)] }
  else
    (({ s with qm.ovqFull := true }).count (baseQm + 0x1810C)).log 241 (dstRing d) slot kind

/-- R334: post a session record that has reserved nothing: into its ring, or behind what waits for it. -/
def State.postRecord (s : State) (d : CplDst) (e : List Byte) (slot kind : Nat) : State :=
  if s.dstOpen d ∧ 0 < s.dstFree d ∧ !(s.qm.ovq.any fun q => q.1 = d) then s.dstWrite d e
  else s.overflow d e slot kind

/-- R333: post an entry into the place reserved for it; a ring disabled meanwhile sends it to the overflow queue (R390). -/
def State.postReserved (s : State) (d : CplDst) (e : List Byte) (slot kind : Nat) : State :=
  let s1 := s.dstRelease d
  if s1.dstOpen d then s1.dstWrite d e else s1.overflow d e slot kind

/-- R334: how many entries of the overflow queue a path can take, moved one by one. -/
def State.drainOvq (s : State) (d : CplDst) : Nat → State
  | 0 => s
  | n + 1 =>
    if s.dstOpen d ∧ 0 < s.dstFree d then
      match s.qm.ovq.find? (fun q => q.1 = d) with
      | some q => (({ s with qm.ovq := s.qm.ovq.erase q }).dstWrite d q.2).drainOvq d n
      | none => s
    else s

/-! ### Command completions (R323) -/

/-- R322: the common header. -/
def entryHeader (tag status kind src : Nat) : List Byte :=
  leBytes 2 tag ++ leBytes 2 status ++ leBytes 1 kind ++ [0] ++ leBytes 2 src

/-- R323: a COMMAND entry. RESULT and DATA are 0 when the status is not OK. -/
def commandEntry (src tag opcode status result : Nat) (data : List Byte) : List Byte :=
  entryHeader tag status 0 src ++ leBytes 2 opcode ++ [0, 0] ++
    (if status = 0 then leBytes 4 result ++ sliceB data 0 16 else zeroBytes 20)

/-- Complete a command (R323, R342). A network peer's sent completion is kept with the SEQ it answers (R350). -/
def State.complete (s : State) (org : Origin) (tag opcode status result : Nat) (data : List Byte) : State :=
  let s1 := s.count (baseQm + 0x18100)
  let s2 := if status = 0 then s1 else s1.count (baseQm + 0x18104)
  s2.postReserved org.dst (commandEntry (srcCode org.src) tag opcode status result data) 0 status

/-- R133: the entry of a session record. -/
def sessionEntry (src tag kind slot sflags frame a b c : Nat) : List Byte :=
  entryHeader tag kind 1 src ++ leBytes 2 slot ++ leBytes 2 sflags ++ leBytes 4 frame ++ leBytes 4 a ++ leBytes 4 b ++
    leBytes 8 c

/-- The first record of a SESSION_OPEN: it uses the entry that the fetch reserved (R333), and the command counts as
completed (R330). -/
def State.openAnswered (s : State) (dst : CplDst) (e : List Byte) (slot kind : Nat) : State :=
  (s.count (baseQm + 0x18100)).postReserved dst e slot kind

/-! ### Tile rings (R335) -/

/-- Post one reserved entry to the TILE_TEL ring of tile `i`. -/
def State.postTileRsp (s : State) (i : Nat) (e : List Byte) : State :=
  let n := 1536 + i
  let r := s.ring n
  let s1 := s.setRing n { r with reserved := r.reserved - 1 }
  if r.en then s1.ringWrite n e else s1

/-- R335: post a TELEMETRY record as two adjacent entries, or discard it whole. -/
def State.postTelemetry (s : State) (i : Nat) (a b : List Byte) : State :=
  let n := 1536 + i
  let r := s.ring n
  if r.en ∧ 2 ≤ r.free then (s.ringWrite n a).ringWrite n b
  else (s.setRing n { r with ovf := true }).count (baseQm + 0x18114)

end Sys2Proof.Machine
end

