-- ==== Sys2Proof/Machine/Opcodes.lean ====
section
/-! DEFINITION. Firmware's reading of command packets (R319 to R330): the opcodes of R325, the checks of R321 in their order,
the start of a source's commands in order, and the completion of what fails. -/

namespace Sys2Proof.Machine

/-! ### The opcodes (R325) -/

/-- R325: the opcodes. -/
def opcodes : List Nat :=
  [0, 16, 17, 18, 32, 33, 48, 49, 64, 65, 80, 96, 97, 98, 99, 112, 113, 114, 115, 128, 129, 130, 131, 144, 145, 146, 160]

/-- R325: whether `plen` is a PLEN of the opcode. -/
def plenOk (op plen : Nat) : Bool :=
  if op = 114 then decide (9 ≤ plen) && decide (plen ≤ 496)
  else
    let fixed : List (Nat × Nat) := [(0, 0), (16, 48), (17, 4), (18, 4), (32, 16), (33, 8), (48, 68), (49, 4), (64, 24), (65, 24),
      (80, 4), (96, 44), (97, 44), (98, 8), (99, 4), (112, 4), (113, 8), (115, 12), (128, 16), (129, 24), (130, 0),
      (131, 16), (144, 16), (145, 4), (146, 4), (160, 40)]
    fixed.any fun q => q = (op, plen)

/-- R327: the opcodes served in SAFE. -/
def safeOpcodes : List Nat := [0, 112, 113, 128, 129, 130, 131, 144, 145, 146]

/-- R328: the opcodes refused on NET rings. -/
def netDenied : List Nat := [160, 144, 145, 146]

/-- R268: a list of numbers that does not fall. -/
def nonDecreasing : List Nat → Bool
  | a :: b :: l => decide (a ≤ b) && nonDecreasing (b :: l)
  | _ => true

/-- R256: a list of numbers that rises. -/
def rising : List Nat → Bool
  | a :: b :: l => decide (a < b) && rising (b :: l)
  | _ => true

/-- R268: the field checks of FL_GLOBAL_WRITE. -/
def flGlobalOk (p : List Byte) : Bool :=
  let knee := sext 8 (fieldB p 0 1)
  decide (0 ≤ knee) && decide (knee ≤ 100) && decide (fieldB p 1 1 = 0) &&
    decide (1 ≤ fieldB p 6 2) && decide (fieldB p 6 2 ≤ 3600) &&
    nonDecreasing ((List.range 17).map fun j => fieldB p (8 + 2 * j) 2) && decide (fieldB p 42 2 = 0)

/-- R268: the field checks of FL_ZONE_WRITE. -/
def flZoneOk (p : List Byte) : Bool :=
  decide (fieldB p 0 1 ≤ 15) && decide (fieldB p 1 1 ≤ 3) && decide (fieldB p 2 2 ≤ 4095) &&
    decide (fieldB p 4 4 ≤ 600000) && decide (fieldB p 8 4 ≤ 600000) && decide (1 ≤ fieldB p 12 2) &&
    decide (fieldB p 12 2 ≤ 4095) && decide (fieldB p 14 1 ≤ 1) && decide (fieldB p 15 1 = 0) &&
    decide (fieldB p 18 2 = 0) && ((List.range 6).all fun j => decide (fieldB p (22 + 4 * j) 2 ≤ 4095)) &&
    rising ((List.range 6).map fun j => fieldB p (20 + 4 * j) 2)

/-- R148: the reserved bits and bytes of a placement entry. -/
def placeReservedOk (e : List Byte) : Bool :=
  decide (fieldB e 0 2 < 32) && decide (fieldB e 5 3 = 0) && allZero (sliceB e 48 16)

/-- R103: a field of a SESSION_OPEN outside its range, or a reserved bit that is not 0; the fields that R102 names as ignored
for the kind are not checked. -/
def sessionFieldsOk (p : List Byte) : Bool :=
  let kind := fieldB p 0 1
  let fl := fieldB p 2 2
  let useCode := decide (bits fl 1 1 = 1)
  let bitmap := decide (bits fl 2 1 = 1)
  let usesSrc := decide (kind = 0) || decide (kind = 1) || (decide (kind = 3) && !useCode)
  let tol := fieldB p 20 2
  let fresh := fieldB p 22 1
  let first := fieldB p 40 2
  let count := fieldB p 42 2
  let start := fieldB p 24 8
  let dl := fieldB p 32 8
  decide (kind ≤ 4) && decide (fieldB p 1 1 ≤ 7) && decide (fl < 8) && decide (1 ≤ fieldB p 12 4) &&
    decide (1 ≤ fieldB p 16 4) && (decide (tol = 0) || (decide (16 ≤ tol) && decide (tol ≤ 2560))) &&
    (decide (kind ≠ 1) || decide (fresh = 0) || (decide (3 ≤ fresh) && decide (fresh ≤ 16))) &&
    decide (fieldB p 23 1 ≤ 15) && decide (start < 2 ^ 48) && decide (dl < 2 ^ 48) && decide (fieldB p 46 2 = 0) &&
    (!usesSrc || (if bitmap then decide (count = 0) && decide (first ≤ 15)
      else decide (1 ≤ count) && decide (count ≤ 4096) && decide (first + count ≤ 4096))) &&
    !(decide (kind = 1) && bitmap) && !(decide (dl ≠ 0) && decide (dl < start))

/-- R321 step 3 for the parameters of an opcode: every field in its range, every reserved byte 0. -/
def paramOk (op : Nat) (p : List Byte) : Bool :=
  let f := fieldB p
  if op = 0 ∨ op = 130 then true
  else if op = 16 then sessionFieldsOk p
  else if op = 17 ∨ op = 18 then decide (f 0 2 < 1024) && decide (f 2 2 = 0)
  else if op = 32 then decide (f 0 1 < 8) && decide (f 1 1 < 2) && decide (f 2 2 = 0)
  else if op = 33 then
    decide (f 0 1 < 8) && decide (f 1 1 = 0) && decide (1 ≤ f 4 2) && decide (f 2 2 + f 4 2 ≤ 1024) && decide (f 6 2 = 0)
  else if op = 48 then decide (f 0 2 < 4096) && decide (f 2 2 = 0) && placeReservedOk (sliceB p 4 64)
  else if op = 49 then
    decide (f 0 1 < 7) && decide (f 2 2 = 0) && (decide (f 0 1 ≠ 3) || decide (f 1 1 < 32)) &&
      (decide (f 0 1 ≠ 5) || decide (f 1 1 < 8))
  else if op = 64 then decide (f 4 1 < 2) && decide (f 5 3 = 0)
  else if op = 65 then decide (f 0 1 < 2) && decide (f 1 1 < 2) && decide (f 2 6 = 0)
  else if op = 80 then (decide (f 0 1 = 2) || decide (f 0 1 = 4)) && decide (f 1 3 = 0)
  else if op = 96 then flGlobalOk p
  else if op = 97 then flZoneOk p
  else if op = 98 then decide (1 ≤ f 2 2) && decide (f 0 2 + f 2 2 ≤ 1024) && decide (f 4 1 < 16) && decide (f 5 3 = 0)
  else if op = 99 then decide (f 2 2 = 0)
  else if op = 112 ∨ op = 113 then decide (f 0 4 < 0x1000000) && decide (f 0 4 % 4 = 0)
  else if op = 114 then true
  else if op = 115 then decide (1 ≤ f 8 4) && decide (f 8 4 ≤ 16)
  else if op = 128 then decide (1 ≤ f 4 2) && decide (f 4 2 ≤ 4096) && decide (f 6 1 < 2) && decide (f 7 1 = 0)
  else if op = 129 then decide (f 8 1 < 2) && decide (f 9 7 = 0)
  else if op = 131 then decide (f 4 1 < 2) && decide (f 5 3 = 0)
  else if op = 144 then decide (f 0 1 < 2) && decide (f 1 1 < 2) && decide (f 2 2 = 0)
  else if op = 145 ∨ op = 146 then decide (f 0 1 < 2) && decide (f 1 3 = 0)
  else if op = 160 then decide (f 1 7 = 0)
  else false

/-! ### The packet (R319, R320) -/

def Cmd.opcode (c : Cmd) : Nat := fieldB c.pkt 0 2
def Cmd.tag (c : Cmd) : Nat := fieldB c.pkt 2 2
def Cmd.ext (c : Cmd) : Nat := fieldB c.pkt 4 1
def Cmd.cflags (c : Cmd) : Nat := fieldB c.pkt 5 1
def Cmd.plen (c : Cmd) : Nat := fieldB c.pkt 6 2
/-- R319: the parameters. -/
def Cmd.param (c : Cmd) : List Byte := sliceB c.pkt 16 c.plen

/-- R319, R320, R321 step 3: the packet's shape: EXT as PLEN asks, reserved bits and bytes 0. -/
def Cmd.shapeOk (c : Cmd) : Bool :=
  let plen := c.plen
  decide (plen ≤ 496) && decide (c.ext = (if 48 < plen then cdiv (plen - 48) 64 else 0)) && decide (c.cflags < 2) &&
    allZero (sliceB c.pkt 8 8) && allZero (c.pkt.drop (16 + plen))

/-- Whether a source's commands come from a NET ring. -/
def isNet : CmdSource → Bool
  | .peer _ => true
  | _ => false

/-- R321 steps 1 to 3: the status that a packet fails with, if any. -/
def Cmd.badStatus (c : Cmd) : Option Nat :=
  if !(opcodes.contains c.opcode) then some 3
  else if isNet c.src && netDenied.contains c.opcode then some 6
  else if !c.shapeOk || !plenOk c.opcode c.plen || !paramOk c.opcode c.param then some 2
  else none

/-! ### Order (R330) and completion of what fails -/

/-- The first fetched command of a source that has not been started. -/
def State.headCmd (s : State) (src : CmdSource) : Option Cmd := s.qm.fetched.find? fun c => c.src = src

/-- R330: commands of the source that have been started and not completed: the long-running ones and those that complete at
the next flip; every other command is answered in the step that starts it. -/
def State.unfinished (s : State) (src : CmdSource) : Nat :=
  (s.qm.running.filter fun r => r.org.src = src).length + (s.qm.atFlip.filter fun r => r.org.src = src).length

/-- R330: a FENCE command waits for every earlier command of its source; every command waits for a FILM_BIND, which is not
long-running and completes before any later command of its source. -/
def State.mayStart (s : State) (c : Cmd) : Bool :=
  !(s.qm.atFlip.any fun r => decide (r.org.src = c.src) && decide (r.opcode = 33)) &&
    (decide (bits c.cflags 0 1 = 0) || decide (s.unfinished c.src = 0))

/-- Take a command out of those waiting to start. -/
def State.takeCmd (s : State) (c : Cmd) : State := { s with qm.fetched := s.qm.fetched.erase c }

/-- R133: the REFUSED record of a session. -/
def refusedEntry (src : CmdSource) (tag frame reason : Nat) : List Byte :=
  sessionEntry (srcCode src) tag 33 0x3FF 0 frame reason 0 0

/-- R321: a SESSION_OPEN is answered with REFUSED, any other command with a completion of the status. -/
def State.failCmd (s : State) (c : Cmd) (status : Nat) : State :=
  if c.opcode = 16 then
    (s.openAnswered c.dst (refusedEntry c.src c.tag 0 status) 0x3FF 33).count (baseSch + 0xF04)
  else s.complete c.org c.tag c.opcode status 0 []

/-- R321, R330: complete the commands at the head of a source that fail steps 1 to 3, in their order. -/
def State.settleN (s : State) (src : CmdSource) : Nat → State
  | 0 => s
  | n + 1 =>
    match s.headCmd src with
    | some c =>
      if s.mayStart c then
        match c.badStatus with
        | some st => ((s.takeCmd c).failCmd c st).settleN src n
        | none => s
      else s
    | none => s

/-- R362: a mailbox that was closed gives up once its fetched commands are complete. -/
def State.mboxDone (s : State) : CmdSource → State
  | .mailbox m =>
    let b := s.mbox m.val
    if !b.en ∧ b.live ∧ !(s.qm.fetched.any fun c => decide (c.src = .mailbox m)) ∧ s.unfinished (.mailbox m) = 0 then
      (s.setMbox m.val { b with live := false }).mbShow m.val
    else s
  | _ => s

/-- Complete every malformed command that is next in a source's order. -/
def State.settle (s : State) (src : CmdSource) : State := (s.settleN src s.qm.fetched.length).mboxDone src

/-- R327: whether an opcode is served in the present power state. -/
def State.served (s : State) (op : Nat) : Bool :=
  decide (s.pwr.state ≠ .safe) || safeOpcodes.contains op

/-- Start the next command of a source if its opcode is `op` (R330), check the power state (R321 step 4), act (`f`, on its
origin, TAG and parameters), and settle what then fails. Nothing happens when no such command is next. -/
def State.runCmd (s : State) (src : CmdSource) (op : Nat) (f : Origin → Nat → List Byte → State → State) : State :=
  match s.headCmd src with
  | some c =>
    if c.opcode = op ∧ s.mayStart c ∧ c.badStatus = none then
      let s1 := s.takeCmd c
      (if s1.served op then f c.org c.tag c.param s1 else s1.failCmd c 11).settle src
    else s
  | none => s

/-- Complete a command of opcode `op` with OK. -/
def State.okCmd (s : State) (org : Origin) (tag op result : Nat) (data : List Byte) : State :=
  s.complete org tag op 0 result data

/-- Complete a command of opcode `op` with a status. -/
def State.errCmd (s : State) (org : Origin) (tag op status : Nat) : State := s.complete org tag op status 0 []

/-! ### Long-running commands (R327) -/

/-- R327: whether a long-running command of the group is not complete yet. -/
def State.grpRuns (s : State) (grp : RunGroup) : Bool :=
  (s.qm.running.any fun r => decide (r.grp = grp)) || (decide (grp = .film) && s.qm.atFlip.any fun r => decide (r.opcode = 32))

/-- R327: start a long-running command, or complete it with BUSY while one of its group runs. -/
def State.startRun (s : State) (grp : RunGroup) (org : Origin) (tag op : Nat) (p : List Byte) : State :=
  if s.grpRuns grp then s.errCmd org tag op 1
  else { s with qm.running := s.qm.running ++ [Running.mk grp org tag op p] }

/-- R327: `runCmd` for a long-running command: one whose group is busy completes with BUSY, whatever else is wrong with it. -/
def State.runCmdOf (s : State) (grp : RunGroup) (src : CmdSource) (op : Nat)
    (f : Origin → Nat → List Byte → State → State) : State :=
  s.runCmd src op fun org tag p st => if st.grpRuns grp then st.errCmd org tag op 1 else f org tag p st

/-- The long-running command of a group. -/
def State.runOf (s : State) (grp : RunGroup) : Option Running := s.qm.running.find? fun r => r.grp = grp

/-- A long-running command is done. -/
def State.endRun (s : State) (r : Running) (status result : Nat) (data : List Byte) : State :=
  (({ s with qm.running := s.qm.running.erase r }).complete r.org r.tag r.opcode status result data).settle r.org.src

/-- R332: a FILM_BIND or FILM_LOAD completes at the next flip. -/
def State.doneAtFlip (s : State) (org : Origin) (tag op result : Nat) : State :=
  { s with qm.atFlip := s.qm.atFlip ++ [AtFlip.mk org tag op result] }

/-- R52, R332: at a flip, the commands whose change is now in force complete, in their order. -/
def State.flipDone (s : State) : State :=
  let s1 := s.qm.atFlip.foldl (fun st r => st.okCmd r.org r.tag r.opcode r.result []) { s with qm.atFlip := [] }
  s.qm.atFlip.foldl (fun st r => st.settle r.org.src) s1

/-! ### Fetching (R320, R333) -/

/-- R333: commands of a source that are outstanding. -/
def State.outstanding (s : State) (src : CmdSource) : Nat :=
  (s.qm.fetched.filter fun c => c.src = src).length + s.unfinished src

/-- R402: the boot ROM serves no network path, and with untrained DRAM only SUBMIT ring 0 with COMPLETE ring 0 and the
mailboxes. -/
def State.romServes (s : State) : CmdSource → Bool
  | .submit r => !s.glb.rom || decide (s.glb.safeCause ≠ 3) || (decide (r.val = 0) && decide ((s.ring 0).pair = 0))
  | .peer _ => !s.glb.rom
  | .mailbox _ => true

/-- R327, R333: whether firmware and the QM may fetch from a source at all. -/
def State.mayFetch (s : State) (src : CmdSource) : Bool :=
  s.qm.fetching && s.romServes src && decide (s.outstanding src < 16) && s.dstOpen (s.dstOf src) && decide (0 < s.dstFree (s.dstOf src)) &&
    (match src with
     | .submit r => (s.ring r.val).en
     | .peer _ => true
     | .mailbox m => (s.mbox m.val).live && (s.mbox m.val).en)

/-- R333: a fetched packet reserves one completion entry and joins its source's order; SESSION_OPENs count as outstanding
until their first record. -/
def State.accept (s : State) (src : CmdSource) (pkt : List Byte) : State :=
  let s1 := s.dstReserve (s.dstOf src)
  ({ s1 with qm.fetched := s1.qm.fetched ++ [Cmd.mk src (s.dstOf src) pkt] }).settle src

/-- Entries of a mailbox's command ring as bytes, from index `x` on (R361). -/
def State.mbEntries (s : State) (m x : Nat) : Nat → List Byte
  | 0 => []
  | n + 1 => s.swinRead (mbOff m + 0x40 + (x % 8) * 64) 16 ++ s.mbEntries m (x + 1) n

/-- R320: fetch one packet of a mailbox, if it is whole. -/
def State.fetchMbox (s : State) (m : Fin 16) : State :=
  let b := s.mbox m.val
  let n := (b.cmdProd + 65536 - b.cmdCons) % 65536
  if s.mayFetch (.mailbox m) ∧ 0 < n then
    let ext := fieldB (s.mbEntries m.val b.cmdCons 1) 4 1
    if 1 + ext ≤ n then
      let pkt := s.mbEntries m.val b.cmdCons (1 + ext)
      ((s.setMbox m.val { b with cmdCons := idxAdd b.cmdCons (1 + ext) }).mbShow m.val).accept (.mailbox m) pkt
    else s
  else s

/-- R320: fetch one packet of a NET ring, if it is whole. -/
def State.fetchNet (s : State) (j : Fin 256) : State :=
  let n := 2560 + 2 * j.val
  let q := tabGet [] s.qm.netRing j.val
  match q with
  | e :: _ =>
    let ext := fieldB e 4 1
    if s.mayFetch (.peer j) ∧ 1 + ext ≤ q.length then
      let r := s.ring n
      let s1 := s.setRing n { r with cons := idxAdd r.cons (1 + ext) }
      ({ s1 with qm.netRing := tabSet [] s1.qm.netRing j.val (q.drop (1 + ext)) }).accept (.peer j) (q.take (1 + ext)).flatten
    else s
  | [] => s

/-- R333: fetch packets of a mailbox while its conditions hold. -/
def State.fetchMboxes (s : State) (m : Fin 16) : Nat → State
  | 0 => s
  | n + 1 => (s.fetchMbox m).fetchMboxes m n

/-- R333: fetch packets of a NET ring while its conditions hold. -/
def State.fetchNets (s : State) (j : Fin 256) : Nat → State
  | 0 => s
  | n + 1 => (s.fetchNet j).fetchNets j n

/-- R333: the SUBMIT ring that is fetched from next: the first from the present turn on that has work and meets the conditions. -/
def State.turnRing (s : State) : Option Nat :=
  ((List.range 256).map fun k => (s.qm.turn + k) % 256).find? fun n =>
    decide (0 < (s.ring n).held) && s.mayFetch (.submit (Fin.ofNat 256 n))

/-- R320, R333: fetch one packet of a SUBMIT ring, if it is its turn: the DMA read brings its entries, or fails (R326: the packet stays,
RING_ERROR is logged). Whatever comes of it, the turn passes to the next ring (assumption 143). -/
def State.fetchSubmit (s0 : State) (rn : Fin 256) (host : HostDma) : State :=
  let r := s0.ring rn.val
  let s := { s0 with qm.turn := (rn.val + 1) % 256 }
  if s0.turnRing = some rn.val then
    match host with
    | .ok bytes =>
      if s.net.pcie.bme then
        let ext := fieldB bytes 4 1
        if bytes.length = 64 * (1 + ext) ∧ 1 + ext ≤ r.held then
          (s.setRing rn.val { r with cons := idxAdd r.cons (1 + ext) }).accept (.submit rn) bytes
        else s
      else (s.dmaErr).log 240 rn.val 1 r.cons
    | .failed => (s.dmaErr).log 240 rn.val 1 r.cons
  else s0

/-- R333: the sources kept in the device's own memory fetch again when an entry of their completion path is freed. -/
def State.refetch (s : State) (d : CplDst) : State :=
  match d with
  | .peer j => s.fetchNets j 256
  | .mailbox m => s.fetchMboxes m 8
  | .complete _ => s

end Sys2Proof.Machine
end

