-- ==== Sys2Proof/Machine/Film.lean ====
section
/-! DEFINITION. Pixel state and the film model (R28 to R60): the pixel state record, the age class, the model and the
appearance map of a film package, table packages, and the checks of FILM_LOAD. -/

namespace Sys2Proof.Machine

/-! ### The pixel state record (R28 to R33) -/

/-- A pixel state record, field by field (R28). `unknown` is the UNKNOWN marker in LEDGER (R29). -/
structure Psr where
  s0 : Nat
  s1 : Nat
  s2 : Nat
  s3 : Nat
  ledger : Int
  unknown : Bool
  trim : Int
  session : Nat
  age : Nat
  active : Bool
  defect : Bool
deriving DecidableEq, Repr

/-- R31: the SESSION of a pixel that no session owns. -/
def noSession : Nat := 0x3FF

/-- R28: the fields of a stored record. -/
def Psr.ofWord (w : DWord) : Psr :=
  let x := w.toNat
  { s0 := bits x 0 8, s1 := bits x 8 8, s2 := bits x 16 8, s3 := bits x 24 8,
    ledger := if bits x 32 12 = 0x800 then 0 else sext 12 (bits x 32 12),
    unknown := decide (bits x 32 12 = 0x800),
    trim := sext 4 (bits x 44 4),
    session := bits x 48 10, age := bits x 58 4,
    active := decide (bits x 62 1 = 1), defect := decide (bits x 63 1 = 1) }

/-- R28: the stored record of the fields. -/
def Psr.toWord (p : Psr) : DWord :=
  BitVec.ofNat 64 (place p.s0 0 8 + place p.s1 8 8 + place p.s2 16 8 + place p.s3 24 8 +
    place (if p.unknown then 0x800 else toField 12 p.ledger) 32 12 + place (toField 4 p.trim) 44 4 +
    place p.session 48 10 + place p.age 58 4 + place (b2n p.active) 62 1 + place (b2n p.defect) 63 1)

/-- R58: the record of the cold-start fill and of the tile fill. -/
def psrCold : DWord := 0x3FFF080000000000

/-- The record of pixel (x, y) of tile `i`. -/
def State.psr (s : State) (i x y : Nat) : Psr := Psr.ofWord (tabGet psrCold s.film.psr (pixKey i x y))

/-- Store a pixel's record. -/
def State.setPsr (s : State) (i x y : Nat) (p : Psr) : State :=
  { s with film.psr := tabSet psrCold s.film.psr (pixKey i x y) p.toWord }

/-- R58: what makes a pixel unknown: S0 to S3 := 0, LEDGER := UNKNOWN. -/
def Psr.makeUnknown (p : Psr) : Psr := { p with s0 := 0, s1 := 0, s2 := 0, s3 := 0, ledger := 0, unknown := true }

/-- R32, R394: no owner, not driven. -/
def Psr.release (p : Psr) : Psr := { p with session := noSession, active := false }

/-- R31: whether a session owns the pixel. -/
def Psr.owned (p : Psr) : Bool := decide (p.session ≠ noSession)

/-- The target code of a pixel; 0 where nothing has been written since the fill (R58). -/
def State.target (s : State) (i x y : Nat) : Nat := tabGet 0 s.film.target (pixKey i x y)

/-! ### Age class (R35 to R37) -/

/-- R37: carry class `a` by every tick after `t` up to `now`, at most `fuel` rises. -/
def ageCarry : Nat → Nat → Int → Int → Nat
  | 0, a, _, _ => a
  | fuel + 1, a, t, now =>
    if t < now ∧ a < 15 then
      if a = 0 then ageCarry fuel 1 (t + 1) now
      else
        let step : Int := ((2 ^ (a - 1) : Nat) : Int)
        let t' := (t.fdiv step + 1) * step
        if now < t' then a else ageCarry fuel (a + 1) t' now
    else a

/-- R35: one age tick on a class. -/
def ageTick (a t : Nat) : Nat :=
  if a = 0 then 1 else if a < 15 ∧ t % 2 ^ (a - 1) = 0 then a + 1 else a

/-! ### Film packages (R53, R54) -/

/-- An unsigned little-endian field of a package. -/
def Pkg.u (p : Pkg) (o n : Nat) : Nat := memLe p.bytes o n

/-- A signed field of a package. -/
def Pkg.i (p : Pkg) (o n : Nat) : Int := sext (8 * n) (p.u o n)

def Pkg.lotId (p : Pkg) : Nat := p.u 16 8
def Pkg.stateSpace (p : Pkg) : Nat := if p.table then 0 else p.u 24 4
def Pkg.knotCount (p : Pkg) : Nat := p.u 32 1
def Pkg.driftLimit (p : Pkg) : Nat := p.u 33 1
/-- R59: the levelling length of a film package. -/
def Pkg.levelLen (p : Pkg) : Nat := p.u 34 1
/-- R53, R57: S0 to S3 at the end of the levelling sequence, INIT_STATE for a table package. -/
def Pkg.levelState (p : Pkg) : Nat × Nat × Nat × Nat :=
  if p.table then (p.u 24 1, 0, 0, 0) else (p.u 52 1, p.u 53 1, p.u 54 1, p.u 55 1)
def Pkg.knot (p : Pkg) (k : Nat) : Int := p.i (0x100 + k) 1
def Pkg.levelStep (p : Pkg) (k : Nat) : Nat := p.u (0x110 + k) 1 % 8
def Pkg.costWA (p : Pkg) : Nat := p.u 68 2
def Pkg.costWL (p : Pkg) : Nat := p.u 70 2
def Pkg.costWQ (p : Pkg) : Nat := p.u 72 2
/-- R53: CHARGE of a code in fC per pixel-frame. -/
def Pkg.charge (p : Pkg) (c : Nat) : Nat := p.u (0x150 + 2 * c) 2

/-- R50: the settle band; a table package has the default. -/
def Pkg.settleBand (p : Pkg) : Nat := if p.table then 32 else p.u 40 2

/-- R48: the weight of level 1, 2 or 3; a table package has the defaults. -/
def Pkg.weight (p : Pkg) (l : Nat) : Nat := if p.table then l else p.u (35 + l) 1

/-- R48: what one frame at code `c` adds to the ledger. -/
def Pkg.delta (p : Pkg) (c : Nat) : Int :=
  if c = 0 ∨ c = 4 then 0 else if c < 4 then (p.weight c : Int) else -(p.weight (c - 4) : Int)

/-- R49: whether code `c` is admissible at ledger `l`. -/
def Pkg.admissible (p : Pkg) (l : Int) (c : Nat) : Bool := decide ((l + p.delta c).natAbs ≤ 2047)

/-! ### The model (R38 to R42) -/

/-- R40: the knot interval and the weight for panel temperature `t` (1/16 °C). -/
def Pkg.knotOf (p : Pkg) (t : Int) : Nat × Nat :=
  let n := p.knotCount
  let tq := clampInt (p.knot 0 * 16) (p.knot (n - 1) * 16) t
  let k := ((List.range (n - 1)).filter fun k => decide (p.knot k * 16 ≤ tq)).getLast?.getD 0
  (k, (Int.fdiv ((tq - p.knot k * 16) * 256) ((p.knot (k + 1) - p.knot k) * 16)).toNat)

/-- R53: entry `e` (0 to 15 A, 16 to 19 b) of code `c` at knot `k`. -/
def Pkg.model (p : Pkg) (k c e : Nat) : Int := p.i (0x200 + (k * 8 + c) * 40 + 2 * e) 2

/-- R40: a coefficient interpolated between knots k and k + 1 with weight w. -/
def Pkg.coef (p : Pkg) (kw : Nat × Nat) (c e : Nat) : Int :=
  let a := p.model kw.1 c e
  a + Int.fdiv ((p.model (kw.1 + 1) c e - a) * kw.2 + 128) 256

/-- R41: the trim factor m. -/
def trimFactor (trim : Int) : Int := Int.fdiv (1048576 + Int.fdiv (32 + trim) 2) (32 + trim)

/-- A state of four components. -/
abbrev St4 := Nat × Nat × Nat × Nat

def Psr.st (p : Psr) : St4 := (p.s0, p.s1, p.s2, p.s3)
def Psr.withSt (p : Psr) (x : St4) : Psr := { p with s0 := x.1, s1 := x.2.1, s2 := x.2.2.1, s3 := x.2.2.2 }

/-- R42: one component of the next state. -/
def modelComp (b a0 a1 a2 a3 : Int) (x : St4) (m : Int) (si : Nat) : Nat :=
  let acc := b * 256 + a0 * x.1 + a1 * x.2.1 + a2 * x.2.2.1 + a3 * x.2.2.2
  let d := acc - si * 16384
  let d' := Int.fdiv (d * m + 16384) 32768
  (clampInt 0 255 (Int.fdiv (si * 16384 + d' + 8192) 16384)).toNat

/-- R42: one frame of the model at code `c`; every component is computed from the old state. -/
def Pkg.modelStep (p : Pkg) (kw : Nat × Nat) (m : Int) (x : St4) (c : Nat) : St4 :=
  let a := p.coef kw c
  let comp (i si : Nat) : Nat := modelComp (a (16 + i)) (a (4 * i)) (a (4 * i + 1)) (a (4 * i + 2)) (a (4 * i + 3)) x m si
  (comp 0 x.1, comp 1 x.2.1, comp 2 x.2.2.1, comp 3 x.2.2.2)

/-! ### Appearance (R43, R44) -/

/-- A colour in units of 1/128: L*, a*, b*. -/
abbrev Lab := Int × Int × Int

/-- R53: the appearance at a grid node. -/
def Pkg.node (p : Pkg) (i : St4) : Lab :=
  let o := 0x1600 + (((i.2.2.2 * 9 + i.2.2.1) * 9 + i.2.1) * 9 + i.1) * 6
  (p.i o 2, p.i (o + 2) 2, p.i (o + 4) 2)

/-- Insert (component, fraction) in descending order of fraction, equal fractions by ascending component. -/
def insertFrac (q : Nat × Nat) : List (Nat × Nat) → List (Nat × Nat)
  | [] => [q]
  | r :: l => if r.2 < q.2 then q :: r :: l else r :: insertFrac q l

/-- R43 step 2. -/
def sortFrac (x : St4) : List (Nat × Nat) :=
  insertFrac (3, x.2.2.2 % 32) (insertFrac (2, x.2.2.1 % 32) (insertFrac (1, x.2.1 % 32) [(0, x.1 % 32)]))

/-- R43 step 3: one more in component `c`. -/
def bumpNode (i : St4) (c : Nat) : St4 :=
  if c = 0 then (i.1 + 1, i.2.1, i.2.2.1, i.2.2.2)
  else if c = 1 then (i.1, i.2.1 + 1, i.2.2.1, i.2.2.2)
  else if c = 2 then (i.1, i.2.1, i.2.2.1 + 1, i.2.2.2)
  else (i.1, i.2.1, i.2.2.1, i.2.2.2 + 1)

/-- Weighted sum of vertices, walking the sorted fractions: weight of the present vertex is the step down to the next
fraction. A vertex of weight 0 does not contribute. -/
def Pkg.simplex (p : Pkg) (i : St4) (prev : Nat) : List (Nat × Nat) → Lab
  | [] => let v := p.node i; (v.1 * prev, v.2.1 * prev, v.2.2 * prev)
  | q :: l =>
    let w : Nat := prev - q.2
    let r := p.simplex (bumpNode i q.1) q.2 l
    if w = 0 then r else let v := p.node i; (r.1 + v.1 * w, r.2.1 + v.2.1 * w, r.2.2 + v.2.2 * w)

/-- R43: the appearance of a state. -/
def Pkg.appear (p : Pkg) (x : St4) : Lab :=
  let r := p.simplex (x.1 / 32, x.2.1 / 32, x.2.2.1 / 32, x.2.2.2 / 32) 32 (sortFrac x)
  (Int.fdiv (r.1 + 16) 32, Int.fdiv (r.2.1 + 16) 32, Int.fdiv (r.2.2 + 16) 32)

/-- R44: the appearance distance D². -/
def Pkg.dist2 (p : Pkg) (a q : Lab) : Nat :=
  let sq (w : Nat) (x y : Int) : Nat := w * ((x - y).natAbs * (x - y).natAbs)
  (sq (p.u 42 1) a.1 q.1 + sq (p.u 43 1) a.2.1 q.2.1 + sq (p.u 44 1) a.2.2 q.2.2) / 64

/-- R45, R46: REMAP of a code. -/
def Pkg.remap (p : Pkg) (q : Nat) : Nat := p.u (0x12400 + q * 8 + 6) 2

/-- R45: the appearance that the film reaches for a code. -/
def Pkg.codeLab (p : Pkg) (q : Nat) : Lab :=
  let o := 0x12400 + q * 8
  (p.i o 2, p.i (o + 2) 2, p.i (o + 4) 2)

/-! ### Table packages (R56, R84 to R86) -/

def Pkg.modeCount (p : Pkg) : Nat := p.u 6 1
def Pkg.bandCount (p : Pkg) : Nat := p.u 7 1
def Pkg.initState (p : Pkg) : Nat := p.u 24 1
def Pkg.stateCount (p : Pkg) : Nat := p.u 25 1
def Pkg.bandLow (p : Pkg) (b : Nat) : Int := p.i (32 + b) 1
def Pkg.poolBase (p : Pkg) : Nat := 0x280 + p.modeCount * p.bandCount * 8192
/-- R56: (SEQ_OFFSET, LENGTH) of an entry. -/
def Pkg.entryAt (p : Pkg) (o : Nat) : Nat × Nat := (p.u o 4, p.u (o + 4) 2)
def Pkg.initEntry (p : Pkg) (b : Nat) : Nat × Nat := p.entryAt (0x180 + b * 8)
def Pkg.indexEntry (p : Pkg) (mode band from_ to_ : Nat) : Nat × Nat :=
  p.entryAt (0x280 + (((mode * p.bandCount + band) * 32 + from_) * 32 + to_) * 8)
def Pkg.pool (p : Pkg) (o : Nat) : Nat := p.u (p.poolBase + o) 1 % 8

/-- R85: the band chosen afresh at temperature `t` (1/16 °C). -/
def Pkg.freshBand (p : Pkg) (t : Int) : Nat :=
  ((List.range p.bandCount).filter fun b => decide (p.bandLow b * 16 ≤ t)).getLast?.getD 0

/-- R85: the band at a flip at which neither the binding nor the temperature source changed. -/
def Pkg.nextBand (p : Pkg) (b : Nat) (t : Int) : Nat :=
  if b < p.bandCount ∧ p.bandLow b * 16 - 16 ≤ t ∧ (p.bandCount ≤ b + 1 ∨ t < p.bandLow (b + 1) * 16 + 16) then b
  else p.freshBand t

/-- R84: the destination state of a target code. -/
def Pkg.tableDest (p : Pkg) (q : Nat) : Nat := if q % 32 < p.stateCount then q % 32 else p.stateCount - 1

/-- R84: the mode used for TMODE. -/
def Pkg.tableMode (p : Pkg) (tmode : Nat) : Nat := if tmode < p.modeCount then tmode else 0

/-- R59: a tile's levelling length, in its band for a table package. -/
def Pkg.tileLevelLen (p : Pkg) (band : Nat) : Nat :=
  if p.table then max 1 (p.initEntry band).2 else p.levelLen

/-- R108: the levelling length that admission books. -/
def Pkg.bookLevelLen (p : Pkg) : Nat :=
  if p.table then ((List.range p.bandCount).map fun b => max 1 (p.initEntry b).2).foldl max 0 else p.levelLen

/-- R59: step `k` of a tile's levelling sequence. -/
def Pkg.tileLevelStep (p : Pkg) (band k : Nat) : Nat :=
  if p.table then
    let e := p.initEntry band
    if e.2 = 0 then 0 else p.pool (e.1 + k)
  else p.levelStep k

/-- R59: the sum of Δ over a table package's INIT sequence in a band. -/
def Pkg.initDelta (p : Pkg) (band : Nat) : Int :=
  let e := p.initEntry band
  ((List.range e.2).map fun k => p.delta (p.pool (e.1 + k))).foldl (· + ·) 0

/-- R109: LMAX of a mode. -/
def Pkg.lmax (p : Pkg) (tmode : Nat) : Nat :=
  let mode := p.tableMode tmode
  let n := p.stateCount
  ((List.range p.bandCount).flatMap fun b => (List.range n).flatMap fun f => (List.range n).map fun t =>
    (p.indexEntry mode b f t).2).foldl max 0

/-! ### The checks of FILM_LOAD (R51, R55, R56) -/

/-- R54: CRC-32C (polynomial 0x1EDC6F41) of bytes with the 4 bytes at `o` taken as 0. -/
def crc32cField (bs : List Byte) (o : Nat) : Nat := crc32r 0x82F63B78 (bs.take o ++ zeroBytes 4 ++ bs.drop (o + 4))

/-- R56: CRC-32 of IEEE 802.3 with the 4 bytes at `o` taken as 0. -/
def crc32Field (bs : List Byte) (o : Nat) : Nat := crc32r 0xEDB88320 (bs.take o ++ zeroBytes 4 ++ bs.drop (o + 4))

/-- Bytes `o` to `o + n - 1` of a package are 0. -/
def Pkg.zero (p : Pkg) (o n : Nat) : Bool := p.bytes.all fun c => decide (c.1 < o) || decide (o + n ≤ c.1)

def between (lo hi x : Nat) : Bool := decide (lo ≤ x) && decide (x ≤ hi)

/-- R55: the checks of a film package of 599,040 bytes. -/
def Pkg.filmOk (p : Pkg) (bs : List Byte) : Bool :=
  let n := p.knotCount
  let len := p.levelLen
  decide (p.u 0 4 = 0x50464B4E) && decide (p.u 4 2 = 1) && decide (p.u 8 4 = 599040) && decide (bs.length = 599040) &&
    decide (p.u 12 4 = crc32cField bs 12) && between 2 16 n && between 1 15 p.driftLimit && between 2 64 len &&
    between 1 15 (p.u 36 1) && between 1 15 (p.u 37 1) && between 1 15 (p.u 38 1) && between 1 512 (p.u 40 2) &&
    between 1 255 (p.u 42 1) && between 1 255 (p.u 43 1) && between 1 255 (p.u 44 1) &&
    ((List.range (n - 1)).all fun k => decide (p.knot k < p.knot (k + 1))) &&
    ((List.range len).all fun k => decide (p.u (0x110 + k) 1 < 8)) &&
    decide (((List.range len).map fun k => p.delta (p.levelStep k)).foldl (· + ·) 0 = 0) &&
    ((List.range 65536).all fun q => decide (p.remap (p.remap q) = p.remap q)) &&
    p.zero 6 2 && p.zero 35 1 && p.zero 39 1 && p.zero 45 1 && p.zero 74 182 && p.zero (0x100 + n) (16 - n) &&
    p.zero (0x110 + len) (64 - len) && p.zero 0x160 160 && p.zero (0x200 + n * 320) ((16 - n) * 320) &&
    p.zero (0x1600 + 6561 * 6) 58 && p.zero (0xB000 + 4913 * 6) 218

/-- R56: the bytes of the pool that an entry covers lie in it and are codes. -/
def Pkg.entryOk (p : Pkg) (o : Nat) : Bool :=
  let e := p.entryAt o
  decide (e.2 ≤ 256) && (decide (e.2 = 0) ||
    (decide (e.1 + e.2 ≤ p.u 28 4) && (List.range e.2).all fun k => decide (p.u (p.poolBase + e.1 + k) 1 < 8)))

/-- R56: the checks of a table package; its reserved bytes are ignored (R9, assumption 21). -/
def Pkg.tableOk (p : Pkg) (bs : List Byte) : Bool :=
  let b := p.bandCount
  decide (p.u 0 4 = 0x32313557) && decide (p.u 4 2 = 3) && between 1 16 p.modeCount && between 1 32 b &&
    decide (p.u 8 4 = bs.length) && decide (p.u 12 4 = crc32Field bs 12) && between 2 32 p.stateCount &&
    decide (p.initState < p.stateCount) && decide (bs.length = p.poolBase + p.u 28 4) &&
    ((List.range (b - 1)).all fun k => decide (p.bandLow k < p.bandLow (k + 1))) && p.zero (32 + b) (32 - b) &&
    ((List.range 32).all fun k => p.entryOk (0x180 + 8 * k)) &&
    ((List.range (p.modeCount * b * 1024)).all fun k => p.entryOk (0x280 + 8 * k))

/-- Bytes as a sparse store from address `a` on. -/
def memFrom (a : Nat) : List Byte → Mem
  | [] => []
  | b :: bs => if b = 0 then memFrom (a + 1) bs else (a, b) :: memFrom (a + 1) bs

/-- Bytes as a sparse store from address 0 on. -/
def memOfBytes (bs : List Byte) : Mem := memFrom 0 bs

/-- R51: the package that bytes hold, if they pass every check: by MAGIC a film or a table package. -/
def pkgOf (bs : List Byte) : Option Pkg :=
  let t := decide (leNat (bs.take 4) = 0x32313557)
  let p : Pkg := ⟨t, bs.length, memOfBytes bs⟩
  if (if t then p.tableOk bs else p.filmOk bs) then some p else none

/-! ### Binding (R51, R52) -/

/-- The package in slot `n`, in force. -/
def State.pkg (s : State) (n : Nat) : Option Pkg := tabGet none s.film.pkgs n

/-- The package slot a tile is bound to, in force. -/
def State.boundTo (s : State) (i : Nat) : Option Nat :=
  let b := tabGet 0 s.film.bind i
  if b = 0 then none else some (b - 1)

/-- The package of a tile. -/
def State.tilePkg (s : State) (i : Nat) : Option Pkg :=
  match s.boundTo i with
  | some n => s.pkg n
  | none => none

/-- R52: the kind of a package, and STATE_SPACE_ID of a film package, whose change makes pixels unknown. A table package has no
STATE_SPACE_ID: another one changes nothing in what is known (DEDUCED, assumption 20). -/
def Pkg.identity (p : Pkg) : Bool × Nat := (p.table, p.stateSpace)

/-! ### Tile geometry (R69) -/

/-- Segments of a row. -/
def segsPerRow (w : Nat) : Nat := cdiv w 64

/-- The geometry of the planes of a tile's slot (R439). -/
def State.tileW (s : State) (i : Nat) : Nat := (s.tile i).width
def State.tileH (s : State) (i : Nat) : Nat := (s.tile i).height

/-- Pixel coordinates of segment `g` in a tile of width `w`. -/
def segCols (w g : Nat) : List Nat := (List.range 64).filterMap fun k => if g * 64 + k < w then some (g * 64 + k) else none

/-- A tile's stored pixel records: (x, y, record) of every PSR not at the fill value. -/
def State.tilePsrs (s : State) (i : Nat) : List (Nat × Nat × Psr) :=
  s.film.psr.filterMap fun e =>
    if pixTile e.1 = i then some (pixCol e.1, pixRow e.1, Psr.ofWord e.2) else none

/-- Rewrite every stored record of a tile (records at the fill value are unowned, unknown and inactive already). -/
def State.mapPsrs (s : State) (i : Nat) (f : Nat → Nat → Psr → Psr) : State :=
  { s with film.psr := s.film.psr.filterMap fun e =>
      if pixTile e.1 = i then
        let w := (f (pixCol e.1) (pixRow e.1) (Psr.ofWord e.2)).toWord
        if w = psrCold then none else some (e.1, w)
      else some e }

/-- Whether any pixel of a tile is owned (R52, R62). -/
def State.tileOwned (s : State) (i : Nat) : Bool := (s.tilePsrs i).any fun q => q.2.2.owned

/-- R117: set the UNKNOWN flag of a tile. -/
def State.flagUnknown (s : State) (i : Nat) : State := s.modTile i fun t => { t with unknown := true }

/-- R58: whether a tile has a pixel that becomes unknown when every pixel, or with `activeOnly` the ACTIVE ones, do. -/
def State.flagIfActive (s : State) (i : Nat) (activeOnly : Bool) : State :=
  if !activeOnly || (s.tilePsrs i).any fun q => q.2.2.active then s.flagUnknown i else s

/-- R58: pixels of a tile become unknown: every pixel, or the ACTIVE ones; the tile is flagged when any does. -/
def State.tileUnknown (s : State) (i : Nat) (activeOnly : Bool) : State :=
  (s.flagIfActive i activeOnly).mapPsrs i fun _ _ p => if p.active || !activeOnly then p.makeUnknown else p

/-! ### The activity bitmap and the age parity map (R36, R70) -/

def State.actBit (s : State) (i y g : Nat) : Bool := tabGet false s.film.active (segKey i y g)

/-- The parity of a segment in the age parity map. -/
def State.parityBit (s : State) (i y g : Nat) : Bool := tabGet s.film.parityBase s.film.parity (segKey i y g)

/-- The parity of a tick (R36). -/
def tickParity (t : Nat) : Bool := decide (t % 2 = 1)

/-- R36, R37: the last tick applied to a segment. -/
def State.segTick (s : State) (i y g : Nat) : Nat :=
  let k := segKey i y g
  match s.film.plateauTick with
  | some t0 =>
    if tabGet false s.film.fresh k then
      (if s.parityBit i y g = tickParity s.film.tick then s.film.tick else s.film.tick - 1)
    else if s.parityBit i y g = tickParity t0 then t0 else t0 - 1
  | none => if s.parityBit i y g = tickParity s.film.tick then s.film.tick else s.film.tick - 1

/-- R36: mark a segment as having had every tick applied. -/
def State.markTicked (s : State) (i y g : Nat) : State :=
  let k := segKey i y g
  { s with
    film.parity := tabSet s.film.parityBase s.film.parity k (tickParity s.film.tick)
    film.fresh := if s.film.plateauTick.isSome then tabSet false s.film.fresh k true else s.film.fresh }

end Sys2Proof.Machine
end

