-- ==== Sys2Proof/Machine/Jtl.lean ====
section
/-! DEFINITION. The Jartenak tile link as its two ends share it (R167 to R200): packets, domains, the transmit queue, tile
commands sent and answered, tiles that are lost and found, the start of an enumeration. -/

namespace Sys2Proof.Machine

/-! ### Packets (R174, R175) -/

/-- R174: CRC-32C. -/
def crc32c (bs : List Byte) : Nat := crc32r 0x82F63B78 bs

/-- R174: a packet: common header with HCRC, body, PCRC. -/
def jtlPkt (ty addr flags : Nat) (body : List Byte) : List Byte :=
  let h := leBytes 1 0xD5 ++ leBytes 1 ty ++ leBytes 2 (body.length + 12) ++ leBytes 1 addr ++ leBytes 1 flags
  h ++ leBytes 2 (crc16 h) ++ body ++ leBytes 4 (crc32c body)

/-- R176: the LINK_STATE packet with RX_OK = 1. -/
def linkStatePkt : List Byte := jtlPkt 1 0xFE 0 (leBytes 4 1)

/-- R183: the DRIVE_ROW of a row. -/
def driveRowPkt (pos pseq orig : Nat) (resend : Bool) (r : Row) : List Byte :=
  jtlPkt 2 pos (b2n resend) (leBytes 4 pseq ++ leBytes 4 orig ++ leBytes 2 r.frame ++ leBytes 2 r.row ++ leBytes 1 r.seg ++
    leBytes 1 r.codes.length ++ zeroBytes 2 ++ r.codes.flatMap (leBytes 24))

/-- R177: the ENUM packet. -/
def enumPkt (hop limit telPer epoch : Nat) : List Byte :=
  jtlPkt 5 0xFF 0 (leBytes 1 hop ++ leBytes 1 limit ++ leBytes 2 telPer ++ leBytes 4 epoch)

/-- R197: the TILE_CMD packet. -/
def tileCmdPkt (pos tag op : Nat) (param : List Byte) : List Byte :=
  jtlPkt 8 pos 0 (leBytes 2 tag ++ leBytes 2 op ++ zeroBytes 4 ++ param)

/-! ### Ports, chains and slots (R167, R180) -/

/-- Offset of a register of port `p`. -/
def tfOff (p r : Nat) : Nat := baseTf p + r

/-- R194: whether the pair of port `p` is looped. -/
def State.loopOn (s : State) (p : Nat) : Bool := s.liveB (tfOff (p / 2 * 2) 4) 5

/-- R167: the home port of the chain on port `p`. -/
def State.homeOf (s : State) (p : Nat) : Nat := if s.loopOn p then p / 2 * 2 else p

/-- The slots of the chain on port `p`, as tile indices. -/
def State.chainSlots (s : State) (p : Nat) : List Nat := (List.range 32).map fun k => s.homeOf p * 32 + k

/-- Whether the tile of slot `i` answered an enumeration and has not been cut off since. -/
def State.present (s : State) (i : Nat) : Bool := decide ((s.tile i).epoch ≠ 0)

/-- The tile at position `pos` of the domain of port `p`; while an enumeration runs, also the UP tile that answered there before and
has not answered again yet (R192). -/
def State.tileAt (s : State) (p pos : Nat) : Option Nat :=
  let here (i : Nat) : Bool := decide ((s.tile i).port = p) && decide ((s.tile i).pos = pos) && decide ((s.tile i).epoch ≠ 0)
  ((s.chainSlots p).find? fun i => here i && decide ((s.tile i).epoch = (s.port p).epoch)).or
    ((s.chainSlots p).find? fun i => here i && (s.port p).enumRun.isSome && decide ((s.tile i).state = 2))

/-- R168: tiles of port `p`'s domain. -/
def State.domain (s : State) (p : Nat) : List Nat :=
  (s.chainSlots p).filter fun i => decide ((s.tile i).port = p) && s.present i

/-- R168: the port that drives tile `i`, as far as its slot knows one since the last reset: else its home port. -/
def State.drivePort (s : State) (i : Nat) : Nat :=
  let h := i / 32
  if (s.tile i).port = h ∨ (s.tile i).port = h + 1 then (s.tile i).port else h

/-- Whether tile `i` is UP. -/
def State.tileUp (s : State) (i : Nat) : Bool := decide ((s.tile i).state = 2)

/-- R203: TILES: UP tiles of the domain. -/
def State.upCount (s : State) (p : Nat) : Nat := ((s.domain p).filter s.tileUp).length

/-- The port's first hop is UP. -/
def State.portHopUp (s : State) (p : Nat) : Bool := decide ((s.hop p).step = .up)

/-- R203: the first hop is UP and the chain is enumerated. -/
def State.portUp (s : State) (p : Nat) : Bool := decide ((s.port p).state = .up) || decide ((s.port p).state = .degraded)

/-- The state of a port whose chain is enumerated (R196). -/
def Port.upState (p : Port) : PortState := if p.deg then .degraded else .up

/-- R373, R382, R384: the TF takes new tile commands and probes: not once the last FLIP has been decided. -/
def State.tfActive (s : State) : Bool :=
  s.frameLoop && !s.wsa.stopped && (decide (s.pwr.transit = .none) || decide (s.pwr.transit = .entryFlip)) &&
    !s.glb.refclkStopped

/-! ### The transmit queue (R184): 1 byte takes 8,448 of 1/32,125 CLK_FAB cycle (R171: 24.337 Gb/s) -/

def byteUnits : Nat := 8448
def cycleParts : Nat := 32125

/-- The cycle in which the queue of the port holds at most `room` bytes. -/
def Port.fitClk (p : Port) (room : Nat) : Nat := cdiv (p.txDone - room * byteUnits) cycleParts

/-- A packet of `len` bytes follows what the queue holds: the queue's end, and the cycle in which the packet has left. -/
def Port.enqueue (p : Port) (now len : Nat) : Port × Nat :=
  let e := max p.txDone (now * cycleParts) + len * byteUnits
  ({ p with txDone := e }, cdiv e cycleParts)

/-- A packet enters the transmit queue of port `p` and leaves (R184; the order of R176 among packets that wait together is timing,
assumption 138). -/
def State.sendDown (s : State) (p : Nat) (bs : List Byte) : State :=
  (s.setPort p ((s.port p).enqueue s.clk bs.length).1).emit (.jtlDown p bs)

/-- R184: a row released for the port of tile `i` waits for queue space: the clusters whose next drive row is for the port wait. -/
def State.rowStalled (s : State) (i : Nat) : Bool :=
  let pt := s.port (s.tile i).port
  pt.released.head?.any fun r => decide (s.clk < pt.fitClk (32768 - (28 + 24 * r.codes.length)))

/-- The PSEQ before the next one (R185, R187; DEDUCED: 2^32 − 1 before the first one, assumption 22). -/
def Port.lastPseq (p : Port) : Nat := (p.nextPseq + 4294967295) % 4294967296

/-- R183, R189: send a DRIVE_ROW under the next PSEQ. -/
def State.sendRow (s : State) (p : Nat) (r : SentRow) (resend : Bool) : State × Nat :=
  let pt := s.port p
  let q := pt.nextPseq
  let orig := if resend then r.orig else q
  let bs := driveRowPkt r.pos q orig resend r.row
  let e := pt.enqueue s.clk bs.length
  ((s.setPort p { e.1 with nextPseq := (q + 1) % 4294967296, pseq := q, lastRow := e.2 }).emit (.jtlDown p bs), q)

/-! ### Tile commands (R197, R260, R335) -/

/-- Issue a command to tile `i`. -/
def State.issueCmd (s : State) (i tag op : Nat) (param : List Byte) (rsp : Nat) (engine : Bool) : State :=
  let t := s.tile i
  (s.setTile i { t with cmds := t.cmds ++ [⟨tag, op, param, rsp, 1, s.clk, engine⟩] }).sendDown t.port
    (tileCmdPkt t.pos tag op param)

/-- The engine's TAG: one that no outstanding command has, from a free value on (the spec names none). -/
def freeTag (used : List Nat) (t : Nat) : Nat → Nat
  | 0 => t
  | n + 1 => if used.contains t then freeTag used ((t + 1) % 65536) n else t

/-- R323: the body of a TILE_RSP entry. -/
def tileRspEntry (i tag status op tstatus : Nat) (data : List Byte) : List Byte :=
  entryHeader tag status 3 i ++ leBytes 2 op ++ leBytes 1 (if status = 0 then tstatus else 0) ++ [0] ++
    leBytes 2 data.length ++ zeroBytes 2 ++ sliceB data 0 16

/-- R253: the mode of a tile's zone. -/
def State.flMode (s : State) (i : Nat) : Nat := (s.flZone (s.flTile i).zone).mode

/-- R254, R382: the engine runs, in HOLD and RUN; from an accepted PLATEAU entry on it does not. -/
def State.flActive (s : State) : Bool := s.tfActive && decide (s.pwr.transit = .none)

/-- R254: the engine runs, and sees tile `i`. -/
def State.flSees (s : State) (i : Nat) : Bool := s.flActive && s.tileUp i && decide ((s.tile i).flStrings ≠ 0)

/-- R253, R254: the engine runs, and drives tile `i`. -/
def State.flRuns (s : State) (i : Nat) : Bool := s.flSees i && decide (s.flMode i ≠ 0)

/-- R176, R254: the engine may send to tile `i`: no TILE_CMD leaves in the guard. -/
def State.flMaySend (s : State) (i : Nat) : Bool := s.flRuns i && !s.wsa.inGuard

/-- R182, R203: TF_PRTT: the largest round trip of the domain. -/
def State.portRtt (s : State) (p : Nat) : Nat := ((s.domain p).map fun i => (s.tile i).rttNs).foldl max 0

/-- R185: a port to which FLIP goes: its first hop is UP, and its chain is enumerated or has UP tiles while it is enumerated again. -/
def State.portFlips (s : State) (p : Nat) : Bool :=
  s.portUp p || (decide ((s.port p).state = .enum) && (s.domain p).any s.tileUp)

/-- R255: the curve. -/
def State.flCurve (s : State) (p : Nat) : Nat :=
  let c (j : Nat) : Nat := s.fl.curve.getD j 0
  let j := p / 256
  c j + (c (j + 1) - c j) * (p - 256 * j) / 256

/-- R258: whether the tile has a good panel reading of its own of at most 60 s. -/
def State.flTemp (s : State) (i : Nat) : Bool := (s.tile i).tempValid && decide (s.clk ≤ (s.tile i).tempAt + msC 60000)

/-- R258: a TELEMETRY of the tile: Ymax is computed again. -/
def State.flDerate (s : State) (i : Nat) : State :=
  let d := (s.tile i).temp - s.fl.knee * 16
  let y := if d ≤ 0 then 65535 else max s.fl.mindr (65535 - s.fl.slope * d.toNat / 16)
  s.setFlTile i { s.flTile i with ymax := if s.flTemp i then y else s.fl.mindr, tempUnknown := !s.flTemp i }

/-- R258: TEMP_UNKNOWN: no reading of at most 60 s. -/
def State.flUnknown (s : State) (i : Nat) : Bool := (s.flTile i).tempUnknown || !s.flTemp i

/-- R258: Ymax of a tile: MINDR without a reading. -/
def State.flYmax (s : State) (i : Nat) : Nat := if s.flUnknown i then s.fl.mindr else (s.flTile i).ymax

/-- R258, R259: the effective level of a segment. -/
def State.flLevel (s : State) (i p : Nat) (off : Bool) : Nat := min (if off then 0 else s.flCurve p) (s.flYmax i)

/-- EN_MASK and PERIOD of the TC_FL_CONFIG that tile `i` last answered with OK (R261: 0 and 250 before one). -/
def FlTile.enMask (f : FlTile) : Nat := match f.config with
  | some b => fieldB b 2 2
  | none => 0
def FlTile.period (f : FlTile) : Nat := match f.config with
  | some b => fieldB b 0 2
  | none => 250

/-- How a fade's end is kept: its level, and whether mode OFF asks for Y = 0. -/
def flCode (p : Nat) (off : Bool) : Nat := 2 * p + 1 + b2n off

/-- R265: start the timers of the enabled strings whose own on-time fell below 4 µs, drop those of the others. -/
def State.flShorts (s : State) (i : Nat) : State :=
  let f := s.flTile i
  s.setFlTile i { f with short := (List.range 16).foldl (fun t k =>
    if decide (tabGet 0 f.duty k * f.period < 4 * 65536) && decide (bits f.enMask k 1 = 1) then tabMod none t k fun o => o.or (some s.clk)
    else tabSet none t k none) f.short }

/-- R259, R260: the engine sends a command, its one outstanding. -/
def State.flSend (s : State) (i op : Nat) (param : List Byte) (out : FlOut) : State :=
  let d := s.draw 65536
  let tag := freeTag ((d.2.tile i).cmds.map TileCmd.tag) d.1 5
  (d.2.issueCmd i tag op param 0 true).setFlTile i { d.2.flTile i with out := out }

/-- R262, R265: a TC_FL_SET commands DUTY to the strings of a mask. -/
def State.flDuty (s : State) (i mask y : Nat) : State :=
  let f := s.flTile i
  (s.setFlTile i { f with
    duty := ((List.range 16).filter fun k => decide (bits mask k 1 = 1)).foldl (fun t k => tabSet 0 t k y) f.duty }).flShorts i

/-- R259: a TC_FL_SET to every enabled string. -/
def State.flSendSet (s : State) (i y ms : Nat) : State :=
  let f := s.flTile i
  let s1 := s.flSend i 16 (leBytes 2 f.enMask ++ leBytes 2 y ++ leBytes 2 ms ++ zeroBytes 2) .set
  (s1.setFlTile i { s1.flTile i with y0 := y, sentAny := true }).flDuty i f.enMask y

/-- R260, R266: send what the engine owes the tile first, while it has no command outstanding: what its return asks for, then the
stored TC_FL_CONFIG without the strings newly marked SHORT (one command for all of them, assumption 139). -/
def State.flKick (s : State) (i : Nat) : State :=
  let f := s.flTile i
  if s.flMaySend i ∧ f.out = .none ∧ (s.tile i).cmds.length < 4 then
    match f.resume with
    | .config b :: r => (s.setFlTile i { f with resume := r }).flSend i 17 b (.config b)
    | .set :: r =>
      let z := s.flZone f.zone
      let off := decide (z.mode = 1)
      let s1 := s.setFlTile i { f with resume := r, p0 := z.target, target := flCode z.target off, segs := [] }
      s1.flSendSet i (s1.flLevel i z.target off) 0
    | _ =>
      match f.config with
      | some b =>
        if f.offOwed = [] then s
        else
          let off := (f.offOwed.map fun k => 2 ^ k).sum
          let c := b.take 2 ++ leBytes 2 (fieldB b 2 2 &&& (0xFFFF ^^^ off)) ++ b.drop 4
          (s.setFlTile i { f with offOwed := [] }).flSend i 17 c (.config c)
      | none => s
  else s

/-! ### Tiles found and lost (R179, R192, R193) -/

/-- R179, R193: a tile becomes UP: the SCH hears of it at the next guard, the frontlight engine restores it (R260), unless its
zone is HOST (R253). -/
def State.bringUp (s : State) (i : Nat) : State :=
  let s1 := s.modTile i fun t => { t with state := 2, cause := 0 }
  let s2 := { s1 with sch.events := s1.sch.events ++ [VoidEv.tileReturned i] }
  let f := s2.flTile i
  let conf : List FlOut := match f.config with
    | some b => [.config b]
    | none => []
  let owed := if s2.flMode i = 0 then [] else conf ++ [.set]
  (s2.setFlTile i { f with resume := owed, segs := [] }).flKick i

/-- R179: a tile becomes UP once its DELAY_SET has been sent, its fill made, and nothing holds it ABSENT or LOST. -/
def State.tryUp (s : State) (i : Nat) : State :=
  let t := s.tile i
  let held := decide (t.state = 1) && decide (2 ≤ t.cause)
  if (t.state = 1 ∨ t.state = 3) ∧ t.epoch ≠ 0 ∧ t.awaits = 0 ∧ t.fill = 0 ∧ t.delaySent ∧ !held then s.bringUp i else s

/-- R192, R204: a tile becomes LOST, which counts on port `p`; nothing changes for one that already is, or for an EMPTY slot. -/
def State.loseTileOn (s : State) (p i cause : Nat) : State :=
  let t := s.tile i
  if t.state = 1 ∨ t.state = 2 then
    let s1 := s.setTile i { t with state := 3, cause := cause, epoch := if cause = 8 then t.epoch else 0, probe := none,
                                   probes := 0, batch := false, samples := [], delaySent := false }
    let s2 := (s1.count (tfOff p 0x78)).log 144 i cause 0
    { s2 with
      glb.odo.tilesLost := s2.glb.odo.tilesLost + 1
      sch.events := s2.sch.events ++ [VoidEv.tileLost i]
      film.toUnknown := s2.film.toUnknown ++ [(i, true)] }
  else s

/-- R192: a tile becomes LOST, which counts on the port that drives it. -/
def State.loseTile (s : State) (i cause : Nat) : State := s.loseTileOn (s.drivePort i) i cause

/-- R173, R192: the hop before position `k` of port `p`'s domain leaves UP: the tiles beyond it become LOST. -/
def State.cutDomain (s : State) (p k : Nat) : State :=
  (s.domain p).foldl (fun st i =>
    if k ≤ (st.tile i).pos then (st.loseTile i 7).modTile i fun t => { t with epoch := 0 } else st) s

/-- R195: on a closed looped chain, the break is moved at the next guard to the hop before place `k` of the domain of port `p`. -/
def State.noteBreak (s : State) (p k : Nat) : State :=
  let e := p / 2 * 2
  let pe := s.port e
  if s.loopOn p ∧ pe.loopClosed ∧ pe.moveTo = none then
    s.modPort e fun x => { x with moveTo := some (if p = e then k else pe.chainLen - k) }
  else s

/-! ### Enumeration (R177, R193, R194) -/

/-- R177: send ENUM with HOP = 0 and LIMIT from port `p`, whose first hop is UP. -/
def State.startEnum (s : State) (p limit phase : Nat) : State :=
  if s.portHopUp p then
    let ep := ((s.port p).epoch + 1) % 4294967296
    let s1 := s.modPort p fun x =>
      { x with epoch := ep, enumRun := some ⟨ep, limit, [], s.clk, phase⟩, state := .enum, reEnum := false }
    s1.sendDown p (enumPkt 0 limit (s.liveF (tfOff p 4) 8 7 * 100) ep)
  else s

/-- R193, R194: enumerate the domain of port `p` afresh: a looped pair in the steps of R194, from port 2k + 1 alone where port
2k's first hop is not UP. -/
def State.enumerate (s : State) (p : Nat) : State :=
  if s.loopOn p then
    let e := p / 2 * 2
    let up := s.portHopUp e
    let clear (x : Port) : Port :=
      { x with loopClosed := false, loopBroken := !up, moveTo := none, brk := 0, chainLen := 0, enumRun := none }
    let s1 := (s.modPort e clear).modPort (e + 1) clear
    if up then s1.startEnum e 0 1 else s1.startEnum (e + 1) 0 2
  else s.startEnum p 0 0

/-- R193: enumerate again the domain of port `p` alone, within its part of a split chain. -/
def State.reEnumerate (s : State) (p : Nat) : State :=
  let pe := s.port (p / 2 * 2)
  if s.loopOn p then
    let k := if p % 2 = 0 then pe.brk else pe.chainLen - pe.brk
    if pe.chainLen = 0 ∨ k = 0 then s.enumerate p else s.startEnum p k 0
  else s.startEnum p 0 0

end Sys2Proof.Machine
end

