-- ==== Sys2Proof/Machine/Fl.lean ====
section
/-! DEFINITION. The frontlight engine (R253 to R268): evaluation of zones, fades, ambient light, derating, diagnosis. -/

namespace Sys2Proof.Machine

/-- R259: segment `k` of `n` of a fade from P0 to P1 in `ms`. -/
def fadeSeg (p0 p1 : Nat) (off : Bool) (ms n k : Nat) : FlSeg :=
  let d : Int := ((p1 : Int) - p0) * k
  ⟨((p0 : Int) + Int.tdiv d n).toNat, if k = n then ms - (n - 1) * (ms / n) else ms / n, off && decide (k = n)⟩

/-- R259: the segments of a fade. -/
def fadeSegs (p0 p1 : Nat) (off : Bool) (ms : Nat) : List FlSeg :=
  let n := max 1 (cdiv ms 1000)
  (List.range n).map fun k => fadeSeg p0 p1 off ms n (k + 1)

/-- R258, R259: what an evaluation gives a tile: a new fade, where the level is new or a block has changed its effect (`afresh`), or
a derating step when no segment waits. -/
def State.flTileEval (s : State) (i p : Nat) (off afresh : Bool) (ms : Nat) : State :=
  let f := s.flTile i
  if f.target ≠ flCode p off ∨ afresh then
    s.setFlTile i { f with target := flCode p off, segs := fadeSegs f.p0 p off ms, segAt := s.clk }
  else
    let full := if off then 0 else s.flCurve p
    let e := s.flLevel i p off
    if f.segs = [] ∧ f.sentAny ∧ e ≠ f.y0 ∧ (256 ≤ max e f.y0 - min e f.y0 ∨ e = full) then
      s.setFlTile i { f with segs := [⟨p, 1000, off⟩], segAt := s.clk }
    else s

/-- R268: an accepted block is used. -/
def State.flApply (s : State) (q : Nat × List Byte) : State :=
  let f := fieldB q.2
  if q.1 = 96 then
    { s with
      fl.knee := sext 8 (f 0 1), fl.slope := f 2 2, fl.mindr := f 4 2, fl.diagPeriod := f 6 2
      fl.curve := (List.range 17).map fun j => f (8 + 2 * j) 2 }
  else if q.1 = 97 then
    let z := s.flZone (f 0 1)
    let s1 := s.setFlZone (f 0 1) { z with
      mode := f 1 1, level := f 2 2, fadeMs := f 4 4, afadeMs := f 8 4, ahyst := f 12 2, ambSrc := f 14 1, hostLux := f 16 2
      daylight := (List.range 6).map fun j => (f (20 + 4 * j) 2, f (22 + 4 * j) 2), fade := f 4 4 }
    if f 1 1 = 0 then
      (List.range 1024).foldl (fun st i =>
        let t := st.flTile i
        if t.zone = f 0 1 then st.setFlTile i { t with target := 0, segs := [] } else st) s1
    else s1
  else
    ((List.range (f 2 2)).map (f 0 2 + ·)).foldl (fun st i =>
      let t := st.flTile i
      if t.zone = f 4 1 then st else st.setFlTile i { t with zone := f 4 1, target := 0, segs := [] }) s

/-- R253: the level a zone asks for, `none` in mode HOST: P, and whether mode OFF asks for Y = 0. -/
def FlZone.want (z : FlZone) : Option (Nat × Bool) :=
  if z.mode = 0 then none
  else if z.mode = 1 then some (0, true)
  else if z.mode = 2 then some (z.level, false)
  else some (z.target, false)

/-- FL_EVALUATE (R254, R268): the blocks accepted since the last evaluation take effect, then every zone's tiles are led to
the zone's level; a level that a block has changed takes the zone's FADE_MS. The engine runs in HOLD and RUN only. -/
def execFlEvaluate (s : State) : Host.Outcome State Fault Refusal :=
  if s.flActive then
    let s1 := s.fl.blocks.foldl State.flApply { s with fl.blocks := [] }
    let s2 := (List.range 16).foldl (fun st z =>
      match (st.flZone z).want with
      | some w => st.setFlZone z { st.flZone z with target := w.1 }
      | none => st) s1
    .next ((List.range 1024).foldl (fun st i =>
      let z := st.flZone (st.flTile i).zone
      match z.want with
      | some w =>
        let afresh := decide (st.flLevel i w.1 w.2 ≠ s.flLevel i w.1 w.2)
        if st.flRuns i then st.flTileEval i w.1 w.2 afresh (if (st.flTile i).target = 0 ∨ afresh then z.fadeMs else z.fade) else st
      | none => st) s2)
  else .next s

/-- R256: P for an ambient reading. -/
def daylightLevel (pts : List (Nat × Nat)) (a : Nat) : Nat :=
  let pt (k : Nat) : Nat × Nat := pts.getD k (0, 0)
  if a ≤ (pt 0).1 then (pt 0).2
  else if (pt 5).1 ≤ a then (pt 5).2
  else
    let k := ((List.range 5).find? fun k => decide ((pt k).1 ≤ a) && decide (a < (pt (k + 1)).1)).getD 0
    let d : Int := ((pt (k + 1)).2 - (pt k).2 : Int) * ((a : Int) - (pt k).1)
    (((pt k).2 : Int) + Int.tdiv d ((pt (k + 1)).1 - (pt k).1 : Int)).toNat

/-- R83: the lower median. -/
def lowerMedian (l : List Int) : Int := (sortInt l).getD ((l.length - 1) / 2) 0

/-- R254, R257: the ambient reading of a zone: of the tiles that the engine sees. -/
def State.ambientOf (s : State) (z : Nat) : Option Nat :=
  if (s.flZone z).ambSrc = 1 then some (s.flZone z).hostLux
  else
    let vals := (List.range 1024).filterMap fun i =>
      let f := s.flTile i
      if f.zone = z ∧ s.tileUp i ∧ (s.tile i).flStrings ≠ 0 ∧ f.fflags % 2 = 1 ∧ f.ambient ≠ 0xFFFF then some (f.ambient : Int) else none
    if vals = [] then none else some (lowerMedian vals).toNat

/-- FL_AMBIENT_EVALUATE (R257). -/
def execFlAmbientEvaluate (zone : Fin 16) (s : State) : Host.Outcome State Fault Refusal :=
  let z := s.flZone zone.val
  match s.ambientOf zone.val with
  | some a =>
    let p := daylightLevel z.daylight a
    if s.flActive && decide (z.mode = 3) && decide (z.ahyst ≤ max p z.target - min p z.target) then
      .next (s.setFlZone zone.val { z with target := p, fade := z.afadeMs })
    else .next s
  | none => .next s

/-- FL_SEGMENT_SEND (R259, R260): what the engine owes the tile, else its next segment, when the last one has been completed
and its fade has elapsed. -/
def execFlSegmentSend (tile : Fin 1024) (s : State) : Host.Outcome State Fault Refusal :=
  let i := tile.val
  let f := s.flTile i
  if s.flMaySend i && decide (f.out = .none) && decide ((s.tile i).cmds.length < 4) then
    if f.resume ≠ [] ∨ f.offOwed ≠ [] then .next (s.flKick i)
    else match f.segs with
      | g :: r =>
        let s1 := s.advanceTo f.segAt
        let s2 := s1.setFlTile i { f with segs := r, p0 := g.p, segAt := s1.clk + msC g.ms }
        .next (s2.flSendSet i (s2.flLevel i g.p g.off) g.ms)
      | [] => .next s
  else .next s

/-- When a string's diagnostic pulse is due (R265). -/
def State.diagDue (s : State) (i k : Nat) : Option Nat :=
  (tabGet none (s.flTile i).short k).map fun t => t + msC (s.fl.diagPeriod * 1000)

/-- FL_DIAG_TIMER (R265): TC_FL_DIAG to the strings whose DIAG_PERIOD has passed; none leaves in the guard (R176). -/
def execFlDiagTimer (tile : Fin 1024) (s : State) : Host.Outcome State Fault Refusal :=
  let i := tile.val
  let dues := (List.range 16).filterMap (s.diagDue i)
  match dues.min? with
  | none => .next s
  | some t =>
    let f := s.flTile i
    if s.flMaySend i && decide (f.out = .none) && decide ((s.tile i).cmds.length < 4) then
      let s1 := s.advanceTo t
      let hit := (List.range 16).filter fun k => (s1.diagDue i k).any fun u => decide (u ≤ s1.clk)
      let s2 := s1.setFlTile i { f with short := hit.foldl (fun t k => tabSet none t k (some s1.clk)) f.short }
      .next (s2.flSend i 18 (leBytes 2 ((hit.map fun k => 2 ^ k).sum) ++ zeroBytes 2) .diag)
    else .next s

/-- R266: one verdict of a record. -/
def State.flVerdict (s : State) (i k v : Nat) : State :=
  let f := s.flTile i
  let old := tabGet (0, 0) f.runs k
  let run := if old.1 = v then old.2 + 1 else 1
  let mark := tabGet 0 f.marks k
  if v = 0 then s
  else
    let s1 := s.setFlTile i { f with runs := tabSet (0, 0) f.runs k (v, run) }
    let f1 := s1.flTile i
    if run < 3 then s1
    else if v = 2 ∧ mark ≠ 2 then (s1.setFlTile i { f1 with marks := tabSet 0 f1.marks k 2 }).log 147 i k 0
    else if v = 3 ∧ mark ≠ 3 then
      let owed := if f1.config.isSome ∧ s.flMode i ≠ 0 then [k] else []
      (s1.setFlTile i { f1 with marks := tabSet 0 f1.marks k 3, offOwed := f1.offOwed ++ owed }).log 148 i k 0
    else if v = 1 ∧ mark = 2 then (s1.setFlTile i { f1 with marks := tabSet 0 f1.marks k 0 }).log 149 i k 0
    else s1

/-- R257, R258, R266: what the engine takes from a telemetry record; diagnosis is suspended while the engine does not run (R254). -/
def State.flTelemetry (s : State) (i ambient fflags verdict : Nat) : State :=
  let s1 := (s.setFlTile i { s.flTile i with ambient := ambient, fflags := fflags }).flDerate i
  let s2 := if s1.flSees i then (List.range 16).foldl (fun st k => st.flVerdict i k (bits verdict (2 * k) 2)) s1 else s1
  let f := s2.flTile i
  let s3 := if s2.flRuns i ∧ f.target ≠ 0 then s2.flTileEval i ((f.target - 1) / 2) (decide (f.target % 2 = 0)) false 0 else s2
  s3.flKick i

/-- R260, R265, R266: a tile command has completed (`ok`: with OK and TSTATUS 0): what it has set is known. -/
def State.flDone (s : State) (i : Nat) (c : TileCmd) (ok : Bool) : State :=
  let f := s.flTile i
  let s1 := if ok ∧ c.opcode = 17 then
      let en := fieldB c.param 2 2
      let cleared := (List.range 16).filter fun k => decide (bits en k 1 = 1) && decide (tabGet 0 f.marks k = 3)
      (s.setFlTile i { f with
        config := some c.param
        marks := cleared.foldl (fun t k => tabSet 0 t k 0) f.marks
        runs := cleared.foldl (fun t k => tabSet (0, 0) t k (0, 0)) f.runs }).flShorts i
    else if ok ∧ c.opcode = 16 ∧ !c.engine then s.flDuty i (fieldB c.param 0 2) (fieldB c.param 2 2)
    else s
  if c.engine then (s1.setFlTile i { s1.flTile i with out := .none }).flKick i else s1

end Sys2Proof.Machine
end

