-- ==== Sys2Proof/Machine/Hop.lean ====
section
/-! DEFINITION. The line (R169 to R175): bring-up of a hop side, codewords lost, packets discarded, hops that leave UP. -/

namespace Sys2Proof.Machine

/-- The key of a bridge. -/
def bridgeKey (b : BridgeId) : Nat := b.port.val * 64 + b.place.val

/-- The key of a hop side. -/
def hopKey : HopSide → Nat
  | .port p => p.val
  | .bridge b far => 32 + bridgeKey b * 2 + b2n far

/-- Whether a side of a bridge is the one toward the port that drives it (R177: the side that received ENUM). -/
def State.upstreamSide (s : State) (b : BridgeId) (far : Bool) : Bool := decide ((s.bridge (bridgeKey b)).upSide = b2n far)

/-- The port that drives a bridge (R194: 2k + 1 when ENUM came from the far end). -/
def State.drivingPort (s : State) (b : BridgeId) : Nat := b.port.val + (s.bridge (bridgeKey b)).upSide

/-- Whether a side of the bridge at place `k` of the chain on port `p` is UP. -/
def State.placeUp (s : State) (p k : Nat) (far : Bool) : Bool := decide ((s.hop (32 + (p * 64 + k) * 2 + b2n far)).step = .up)

/-- R167, R194: on a looped pair, whether the bridge at place `k` is the last one before port 2k + 1: as the chain's length says, and
while it is not known, none beyond it has a hop UP (assumption 147). -/
def State.lastPlace (s : State) (p k : Nat) : Bool :=
  let n := (s.port p).chainLen
  if n = 0 then (List.range 64).all fun j => decide (j ≤ k) || !(s.placeUp p j false || s.placeUp p j true) else decide (n = k + 1)

/-- R173: on a looped pair, the hop at a side of a bridge is the downstream hop of the neighbour there: the port that is enabled, or
the bridge whose hop on its other side is UP. -/
def State.neighbourUp (s : State) (b : BridgeId) (far : Bool) : Bool :=
  let p := b.port.val
  let k := b.place.val
  if far then s.placeUp p (k + 1) true || ((s.port (p + 1)).enable && s.lastPlace p k)
  else if k = 0 then (s.port p).enable
  else s.placeUp p (k - 1) false

/-- R173: a port brings its first hop up while ENABLE is 1, a bridge its downstream hop once its upstream hop is UP, and it answers on
the side toward the port that drives it. On a looped pair either side of a bridge may be the one that its ENUM will come to: each
comes up as the downstream hop of the bridge itself or of its neighbour there. -/
def State.hopEnabled (s : State) : HopSide → Bool
  | .port p => (s.port p.val).enable
  | .bridge b far =>
    decide ((s.hop (hopKey (.bridge b (!far)))).step = .up) ||
      (if s.loopOn b.port.val then s.neighbourUp b far else s.upstreamSide b far)

/-- The bridges between bridge `b` and the port that drives it, the nearest first. -/
def State.upPath (s : State) (b : BridgeId) : List Nat :=
  let x := s.bridge (bridgeKey b)
  (List.range (x.pos.getD 0)).reverse.filterMap fun k =>
    ((List.range 64).map fun j => b.port.val * 64 + j).find? fun j =>
      decide ((s.bridge j).pos = some k) && decide ((s.bridge j).upSide = x.upSide)

/-- R176: a packet of a bridge's own leaves upstream, and each bridge above passes it on. -/
def State.sendUp (s : State) (b : BridgeId) (bs : List Byte) : State :=
  s.emits ((bridgeKey b :: s.upPath b).map fun k => .jtlUp k bs)

/-- Change the state that TF_PSTAT shows when the side is a port's. -/
def State.sideState (s : State) (side : HopSide) (x : PortState) : State :=
  match side with
  | .port p => s.modPort p.val fun q => { q with state := x }
  | .bridge _ _ => s

/-- A side enters a step of its bring-up. -/
def State.enterStep (s : State) (side : HopSide) (x : HopStep) : State :=
  s.setHop (hopKey side) { s.hop (hopKey side) with step := x, since := s.clk }

/-- R173: time limit of a step in cycles; DETECT and UP have none. -/
def HopStep.limit : HopStep → Option Nat
  | .adapt => some (msC 15)
  | .frame => some (msC 1)
  | .handshake => some (msC 4)
  | _ => none

/-- Whether a side is in a step whose time limit has not passed. -/
def State.inStep (s : State) (side : HopSide) (x : HopStep) : Bool :=
  let h := s.hop (hopKey side)
  decide (h.step = x) && (x.limit.all fun n => decide (s.clk ≤ h.since + n))

/-- HOP_SIGNAL_DETECTED (R173). -/
def execHopSignalDetected (side : HopSide) (s : State) : Host.Outcome State Fault Refusal :=
  if s.inStep side .detect && s.hopEnabled side then .next ((s.enterStep side .adapt).sideState side .bringup) else .next s

/-- HOP_BLOCK_LOCK (R173). -/
def execHopBlockLock (side : HopSide) (s : State) : Host.Outcome State Fault Refusal :=
  if s.inStep side .adapt then .next (s.enterStep side .frame) else .next s

/-- A LINK_STATE with RX_OK = 1 leaves a side. -/
def State.sendLinkState (s : State) : HopSide → State
  | .port p => s.sendDown p.val linkStatePkt
  | .bridge b far =>
    if s.upstreamSide b far then s.emit (.jtlUp (bridgeKey b) linkStatePkt) else s.emit (.jtlForward (bridgeKey b) linkStatePkt)

/-- HOP_FRAME_LOCK (R173): the side enters HANDSHAKE and sends LINK_STATE. -/
def execHopFrameLock (side : HopSide) (s : State) : Host.Outcome State Fault Refusal :=
  if s.inStep side .frame then .next ((s.enterStep side .handshake).sendLinkState side) else .next s

/-- HOP_STEP_TIMEOUT (R173): the time limit of the step is reached, the side returns to DETECT and counts a failure. -/
def execHopStepTimeout (side : HopSide) (s : State) : Host.Outcome State Fault Refusal :=
  let h := s.hop (hopKey side)
  match h.step.limit with
  | some n =>
    let s1 := s.advanceTo (h.since + n)
    .next ((s1.setHop (hopKey side) { h with step := .detect, since := s1.clk, fails := h.fails + 1, sync := false }).sideState side .down)
  | none => .next s

/-- R172: a receiver leaves or regains packet sync. -/
def State.setSync (s : State) (side : HopSide) (b : Bool) : State :=
  s.setHop (hopKey side) { s.hop (hopKey side) with sync := b }

/-- R171, R199, R204: a codeword that a receiver corrected has no event and no effect but its count, at a port and at a bridge's upstream
receiver: how many it corrected since the packet before is a free value. -/
def State.cwCorrected (s : State) (side : HopSide) : State :=
  let q := s.draw 4294967296
  match side with
  | .port p => q.2.count (tfOff p.val 0x40) q.1
  | .bridge b far =>
    if q.2.upstreamSide b far then
      q.2.setBridge (bridgeKey b) { q.2.bridge (bridgeKey b) with cwCorr := ((q.2.bridge (bridgeKey b)).cwCorr + q.1) % 4294967296 }
    else q.2

/-- R171, R172: a packet has been received: the receiver is in packet sync. -/
def State.received (s : State) (side : HopSide) : State := (s.setSync side true).cwCorrected side

/-- R173: a side that has frame lock receives packets. -/
def State.frameLocked (s : State) (side : HopSide) : Bool := s.inStep side .handshake || s.inStep side .up

/-- R183, R189, R193 to R196: the port comes up: PSEQ starts at 0, the rows sent before it keep no PSEQ that a ROW_NAK could name,
and the chain is enumerated (DEDUCED, assumption 23). A looped pair keeps its break: where it is the port's own first hop nothing is
enumerated, else the port's part of the chain is; on a chain that was never closed port 2k + 1 looks for the tiles that are left. -/
def State.portCameUp (s : State) (p : Nat) : State :=
  let s1 := s.modPort p fun x =>
    { x with state := x.upState, nextPseq := 0, mark := 0, named := [], sent := x.sent.map fun r => { r with pseqs := [] } }
  let e := p / 2 * 2
  let pe := s1.port e
  if s1.loopOn p then
    if pe.loopBroken then
      let k := if p = e then pe.brk else pe.chainLen - pe.brk
      if 0 < k then s1.startEnum p k 0
      else if p = e ∨ pe.loopClosed then s1
      else s1.startEnum p 0 2
    else if s1.portHopUp e then (if pe.enumRun.isSome then s1 else s1.enumerate p)
    else s1.startEnum p 0 2
  else s1.enumerate p

/-- R195: whether a side of a bridge ends the hop at which a looped chain keeps its break. -/
def State.brokenHop (s : State) (b : BridgeId) (far : Bool) : Bool :=
  s.loopOn b.port.val && (s.port b.port.val).loopBroken && decide ((s.port b.port.val).brk = b.place.val + b2n far)

/-- LINK_STATE (R172, R173): a receiver that has frame lock is in packet sync with it; with RX_OK = 1 a side in HANDSHAKE comes UP.
A hop beyond a bridge whose loss made tiles LOST lets the TF enumerate again, unless it is the one where a looped chain keeps its
break (R193, R195). -/
def execLinkState (side : HopSide) (rxOk : Bool) (s0 : State) : Host.Outcome State Fault Refusal :=
  let s := if s0.frameLocked side then s0.received side else s0
  if s.inStep side .handshake && rxOk then
    let h := s.hop (hopKey side)
    let s1 := s.setHop (hopKey side) { h with step := .up, since := s.clk, lostCw := [] }
    match side with
    | .port p => .next (s1.portCameUp p.val)
    | .bridge b far =>
      let p := s1.drivingPort b
      let lost := (s1.chainSlots p).any fun i => decide ((s1.tile i).state = 3) && decide ((s1.tile i).cause = 7)
      if !s1.upstreamSide b far && lost && !s1.brokenHop b far then .next (s1.reEnumerate p) else .next s1
  else .next s

/-- R173: the first hop of a port leaves UP: its tiles are LOST, a looped chain fails over. -/
def State.portHopDown (s : State) (p : Nat) : State :=
  let s1 := s.modPort p fun x => { x with state := if x.enable then .down else .off, enumRun := none }
  (((s1.setHop p { s1.hop p with step := .detect, since := s1.clk, lostCw := [], sync := false }).count (tfOff p 0x6C)).cutDomain p 0).noteBreak p 0

/-- R173: a hop side leaves UP for DETECT; the tile on the hop's upstream side sends HOP_DOWN. -/
def State.hopDown (s : State) (side : HopSide) : State :=
  match side with
  | .port p => s.portHopDown p.val
  | .bridge b far =>
    let s1 := s.setHop (hopKey side) { s.hop (hopKey side) with step := .detect, since := s.clk, lostCw := [], sync := false }
    match (s1.bridge (bridgeKey b)).pos with
    | some pos => if s1.upstreamSide b far then s1 else s1.sendUp b (jtlPkt 23 pos 0 (zeroBytes 4))
    | none => s1

/-- HOP_LEAVES_UP (R173). -/
def execHopLeavesUp (side : HopSide) (s : State) : Host.Outcome State Fault Refusal :=
  if s.inStep side .up then .next (s.hopDown side) else .next s

/-! ### What a receiver discards (R171, R172, R174, R175) -/

def recvSide : Receiver → HopSide
  | .port p => .port p
  | .bridge b far => .bridge b far

/-- Count at a port's receiver. -/
def State.countRx (s : State) (a : Receiver) (r : Nat) : State :=
  match a with
  | .port p => s.count (tfOff p.val r)
  | .bridge _ _ => s

/-- A receiver discards a packet. -/
def State.rxDiscard (s : State) (a : Receiver) : State :=
  let k := hopKey (recvSide a)
  s.setHop k { s.hop k with discards := (s.hop k).discards + 1 }

/-- PACKET_TYPE_DISCARD (R175): the header was good, so the receiver is in packet sync (R172). -/
def execPacketTypeDiscard (at_ : Receiver) (s : State) : Host.Outcome State Fault Refusal :=
  .next ((s.setSync (recvSide at_) true).rxDiscard at_)

/-- PCRC_FAIL (R174): the header was good, so the receiver is in packet sync (R172). -/
def execPcrcFail (at_ : Receiver) (s : State) : Host.Outcome State Fault Refusal :=
  .next (((s.setSync (recvSide at_) true).rxDiscard at_).countRx at_ 0x4C)

/-- PACKET_SYNC_LOST (R172, R204). -/
def execPacketSyncLost (at_ : Receiver) (why : SyncLoss) (s : State) : Host.Outcome State Fault Refusal :=
  let side := recvSide at_
  if (s.hop (hopKey side)).sync then
    let s1 := s.setSync side false
    match why with
    | .hcrc => .next (s1.countRx at_ 0x48)
    | .badByte => .next s1
  else .next s

/-- FEC_CODEWORD_LOST (R171, R172, R173): the codeword counts, packet sync is lost, and the 16th within 1 ms takes the hop out
of UP. A bridge counts those of its upstream receiver for TELEMETRY (R199) and forwards them as lost. -/
def execFecCodewordLost (at_ : Receiver) (s : State) : Host.Outcome State Fault Refusal :=
  let side := recvSide at_
  let k := hopKey side
  let h := s.hop k
  let recent := s.clk :: h.lostCw.filter fun t => decide (s.clk < t + msC 1)
  let s1 := (s.setHop k { h with lostCw := recent, sync := false }).countRx at_ 0x44
  let s2 := match at_ with
    | .port _ => { s1 with glb.odo.jtlUncorr := s1.glb.odo.jtlUncorr + 1 }
    | .bridge b far =>
      if s1.upstreamSide b far then
        let x := s1.bridge (bridgeKey b)
        let s3 := s1.setBridge (bridgeKey b) { x with cwUncorr := (x.cwUncorr + 1) % 4294967296 }
        if x.endDomain then s3 else s3.emit (.jtlLost (bridgeKey b))
      else s1
  if h.step = .up ∧ 16 ≤ recent.length then .next (s2.hopDown side) else .next s2

end Sys2Proof.Machine
end

