-- ==== Sys2Proof/Machine/Tf.lean ====
section
/-! DEFINITION. The tile frame engine at the device's end of the link (R177 to R204): enumeration and slots, delay, drive rows
and flips, rows lost on the way, tile commands, telemetry. -/

namespace Sys2Proof.Machine

/-- R172: a packet has been received at a port: its receiver is in packet sync. -/
def State.rxPort (s : State) (p : Nat) : State := s.received (.port (Fin.ofNat 32 p))

/-! ### Drive rows and the flip (R183 to R187) -/

/-- DRIVE_ROW_SEND (R184): the oldest row released for the port enters its transmit queue once it fits (a wait after its release
is counted) and takes the next PSEQ. A port whose first hop is not UP sends nothing: the row is dropped. -/
def execDriveRowSend (port : Fin 32) (s : State) : Host.Outcome State Fault Refusal :=
  let p := port.val
  let pt := s.port p
  match pt.released with
  | r :: rest =>
    if s.frameLoop && !s.wsa.stopped && !s.glb.refclkStopped then
      let s0 := s.setPort p { pt with released := rest }
      if s.portHopUp p then
        let fit := pt.fitClk (32768 - (28 + 24 * r.codes.length))
        let s1 := s0.advanceTo fit
        let s2 := if r.rel < fit then s1.count (tfOff p 0x70) else s1
        let row : SentRow := ⟨r, (s2.port p).nextPseq, [], (s2.tile r.tile).pos, r.rel, false⟩
        let q := s2.sendRow p row false
        .next ((q.1.modPort p fun x => { x with sent := x.sent ++ [{ row with pseqs := [q.2] }] }).count (tfOff p 0x50))
      else .next s0
    else .next s
  | [] => .next s

/-- R220: wall time of `n`/2^32 ns in units of 1/16 block cycle of the line clock at the present ε, rounded. -/
def State.lineUnits (s : State) (n : Int) : Nat :=
  let den : Int := 65536000000 + s.time.eps
  (roundHalfUp (n * 625 * 65536000000) (100 * 4294967296 * den.toNat)).toNat

/-- R210: anchor and rate of the frame that begins at flip `n`, with the change that is pending taken in. -/
def State.frameLen (s : State) (n : Nat) : Nat :=
  match s.time.chg with
  | some (rate, at_) =>
    if at_ ≤ n then flipTimeAt (s.flipTime at_) at_ rate (n + 1) - flipTimeAt (s.flipTime at_) at_ rate n
    else s.flipTime (n + 1) - s.flipTime n
  | none => s.flipTime (n + 1) - s.flipTime n

/-- R185: the FLIP of flip N + 1 on port `p`, leaving now. -/
def State.flipPkt (s : State) (p : Nat) (copy last : Bool) : List Byte :=
  let n := s.time.wfn + 1
  let t := s.flipTime n
  let rows (k : Nat) : Nat := ((s.port p).sent.filter fun r => decide (r.row.frame = n) && decide (r.pos = k)).length
  jtlPkt 3 0xFF 0 (leBytes 8 t ++ leBytes 6 n ++ leBytes 1 (b2n copy) ++ leBytes 1 (b2n last) ++
    leBytes 4 (s.lineUnits ((t : Int) * 4294967296 - s.time.wall)) ++ leBytes 4 (s.port p).lastPseq ++
    leBytes 4 (s.lineUnits ((s.frameLen n : Int) * 4294967296)) ++ zeroBytes 4 ++ (List.range 32).flatMap fun k => leBytes 4 (rows k))

/-- R185: send the first copy of FLIP on a port; the UP tiles owe a report for the frame it begins (R190, R192). -/
def State.sendFlip (s : State) (p : Nat) (last : Bool) : State :=
  let s1 := (s.sendDown p (s.flipPkt p false last)).modPort p fun x => { x with flipAt := some s.clk, flipCopied := false, lastFlip := last }
  (s1.domain p).foldl (fun st i => if st.tileUp i then st.modTile i fun t => { t with expect := some (s.time.wfn + 1) } else st) s1

/-- FLIP_SEND (R185, R382): in the guard, once every row released for the port has been sent; LAST = 1 in a PLATEAU entry. -/
def execFlipSend (port : Fin 32) (s : State) : Host.Outcome State Fault Refusal :=
  let p := port.val
  let last := decide (s.pwr.transit = .entryRails (s.time.wfn + 2))
  if s.frameLoop && s.wsa.inGuard && !s.wsa.stopped && !s.glb.refclkStopped && s.portFlips p &&
      decide ((s.port p).released = []) && decide ((s.port p).flipAt = none) && (s.tfActive || last) then
    .next (s.sendFlip p last)
  else .next s

/-- FLIP_COPY_SEND (R185): 4 µs after the first copy, with CYCLES recomputed. -/
def execFlipCopySend (port : Fin 32) (s : State) : Host.Outcome State Fault Refusal :=
  let p := port.val
  match (s.port p).flipAt with
  | some t =>
    if !(s.port p).flipCopied && s.portHopUp p && !s.glb.refclkStopped then
      let s1 := s.advanceTo (t + usC 4)
      .next ((s1.sendDown p (s1.flipPkt p true (s.port p).lastFlip)).modPort p fun x => { x with flipCopied := true })
    else .next s
  | none => .next s

/-- SEQ_MARK_TIMER (R187). -/
def execSeqMarkTimer (port : Fin 32) (s : State) : Host.Outcome State Fault Refusal :=
  let p := port.val
  let pt := s.port p
  if s.portHopUp p && decide (pt.nextPseq ≠ pt.mark) && s.frameLoop then
    let s1 := s.advanceTo (pt.lastRow + usC 2)
    .next ((s1.sendDown p (jtlPkt 4 0xFF 0 (leBytes 4 pt.lastPseq ++ zeroBytes 4))).modPort p fun x => { x with mark := x.nextPseq })
  else .next s

/-! ### Rows lost on the way (R188 to R192, R196) -/

/-- R196: a journal overflow. -/
def State.journalOverflow (s : State) (p : Nat) : State :=
  let s1 := (s.count (tfOff p 0x60)).modPort p fun x => { x with ovf := true }
  let pt := s1.port p
  if pt.deg then s1.setPort p { pt with degFrames := 0 }
  else if pt.state = .up then
    let s2 := (s1.setPort p { pt with deg := true, degFrames := 0, state := .degraded }).log 145 p pt.held 0
    { s2 with sch.events := s2.sch.events ++ [VoidEv.portDegraded p] }
  else s1

/-- R189: re-send a row, its entry held. -/
def State.resendRow (s : State) (p : Nat) (r : SentRow) : State :=
  let q := s.sendRow p r true
  (q.1.modPort p fun x => { x with
    sent := x.sent.map fun e => if e.orig = r.orig then { e with pseqs := e.pseqs ++ [q.2], held := true } else e
    held := if r.held then x.held else x.held + 1 }).count (tfOff p 0x54)

/-- R67, R90: whether the journal window still holds a row's pre-frame PSRs: for 47 µs after its release, and for as long as the RETAIN
partition of the cluster that computed it has them (assumption 96). -/
def State.inJournal (s : State) (r : SentRow) : Bool :=
  decide (s.clk ≤ r.at_ + usC 47) ||
    (s.cluster r.row.cluster).retain.contains ⟨segKey r.row.tile r.row.row r.row.seg, r.row.frame, r.row.pre.length⟩

/-- R189, R90: one PSEQ named by a ROW_NAK from position `pos`. After the stop of R373 no row is sent again. -/
def State.nakOne (s : State) (p pos q : Nat) : State :=
  let pt := s.port p
  let s1 := s.setPort p { pt with named := if pt.named.contains q then pt.named else q :: pt.named }
  match pt.sent.find? fun r => r.pseqs.contains q with
  | some r =>
    if s.wsa.stopped then s1
    else if r.pos < pos ∨ pt.named.contains q ∨ r.row.frame ≤ s.time.wfn then s1.count (tfOff p 0x5C)
    else
      let s2 := s1.count (tfOff p 0x58)
      if r.held then s2.resendRow p r
      else if !s.inJournal r ∨ 64 ≤ pt.held then s2.journalOverflow p
      else s2.resendRow p r
  | none => s1.count (tfOff p 0x5C)

/-- ROW_NAK (R189). -/
def execRowNak (port : Fin 32) (pos : BitVec 8) (first : BitVec 32) (count : BitVec 16) (s : State) :
    Host.Outcome State Fault Refusal :=
  let p := port.val
  .next ((List.range count.toNat).foldl (fun st k => st.nakOne p pos.toNat ((first.toNat + k) % 4294967296)) (s.rxPort p))

/-- The report of tile `i` for drive frame `n` has arrived: free the held entries of its rows that `keep` does not name. -/
def State.reported (s : State) (p i n : Nat) (keep : List Nat) : State :=
  let s1 := s.modTile i fun t => { t with ready := some n }
  let hit (r : SentRow) : Bool :=
    r.held && decide (r.row.tile = i) && decide (r.row.frame = n) && !keep.contains r.orig
  s1.modPort p fun x => { x with
    held := x.held - (x.sent.filter hit).length
    sent := x.sent.map fun r => if hit r then { r with held := false } else r }

/-- FRAME_READY (R90, R190). -/
def execFrameReady (port : Fin 32) (pos : BitVec 8) (wfn : BitVec 48) (s : State) : Host.Outcome State Fault Refusal :=
  let s1 := s.rxPort port.val
  match s1.tileAt port.val pos.toNat with
  | some i => .next (s1.reported port.val i wfn.toNat [])
  | none => .next s1

/-- Whether PSEQ `q` lies above `e`, in the circle of 2^32. -/
def pseqAbove (q e : Nat) : Bool :=
  let d := (q + 4294967296 - e) % 4294967296
  decide (d ≠ 0) && decide (d < 2147483648)

/-- R191: whether a row is one of those a DROP_REPORT resolves to. -/
def dropNames (r : DropReport) (row : SentRow) : Bool :=
  let inRange (q : Nat) (x : BitVec 32 × BitVec 16) : Bool :=
    decide ((q + 4294967296 - x.1.toNat) % 4294967296 < x.2.toNat)
  let listed := row.pseqs.any fun q => r.ranges.any (inRange q)
  let end_ := match r.ranges.getLast? with
    | some x => (x.1.toNat + x.2.toNat + 4294967295) % 4294967296
    | none => r.high.toNat
  listed || ((r.trunc || r.missed) && decide (row.pseqs ≠ []) && pseqAbove row.orig end_)

/-- DROP_REPORT (R91, R92, R190, R191): the rows it resolves to are dropped: with a held entry they wait for their fix-up,
without one they are counted. Rows not listed free their entries. A report for another drive frame than the one now running
drops nothing. -/
def execDropReport (port : Fin 32) (report : DropReport) (s : State) : Host.Outcome State Fault Refusal :=
  let p := port.val
  let s1 := s.rxPort p
  match s1.tileAt p report.pos.toNat with
  | none => .next s1
  | some i =>
    let n := report.wfn.toNat
    let s2 := if report.missed then s1.count (tfOff p 0x68) else s1
    let rows := if n = s.time.wfn then (s2.port p).sent.filter fun r =>
      decide (r.row.tile = i) && decide (r.row.frame = n) && dropNames report r else []
    let held := rows.filter fun r => r.held
    let lost := rows.length - held.length
    let s3 := (s2.count (tfOff p 0x64) rows.length).count (baseWsa + 0x114) lost
    let s4 := { s3 with wsa.fixup := s3.wsa.fixup ++ held }
    let s5 := if rows = [] then s4 else s4.modTile i fun t => { t with drops := (n, rows.length) :: t.drops }
    .next (s5.reported p i n (held.map fun r => r.orig))

/-- DEGRADED_EXIT (R196): after DEGHOLD × 1,024 frames without an overflow the port returns to UP. -/
def execDegradedExit (port : Fin 32) (s : State) : Host.Outcome State Fault Refusal :=
  let p := port.val
  let pt := s.port p
  if pt.deg && decide (s.liveF (tfOff p 4) 24 8 * 1024 ≤ pt.degFrames) then
    .next (({ s with sch.halved := s.sch.halved.filter fun q => q ≠ p } : State).setPort p
      { pt with deg := false, degFrames := 0, state := if pt.state = PortState.degraded then PortState.up else pt.state })
  else .next s

/-! ### Enumeration (R168, R177 to R179, R194) -/

/-- R168: the slot for a tile with this SERIAL found at position `pos` from port `p`. -/
def State.slotFor (s : State) (p serial pos : Nat) : Option Nat :=
  let home := s.homeOf p
  let slots := s.chainSlots p
  let run : List Nat := match (s.port p).enumRun with
    | some r => r.found.map Prod.snd
    | none => []
  let there (i : Nat) : Bool := s.present i || run.contains i
  match slots.find? fun i => (s.tile i).bound && decide ((s.tile i).serial = serial) with
  | some i => some i
  | none =>
    let rule := home * 32 + (if p = home then pos else 31 - pos)
    if rule < home * 32 + 32 ∧ !there rule then some rule else slots.find? fun i => !there i

/-- R179: the causes that a descriptor alone gives: SIZE, RATE. -/
def State.descCause (s : State) (d : DescPkt) : Nat :=
  if d.width.toNat = 0 ∨ 16384 < d.width.toNat ∨ d.height.toNat = 0 ∨ 8388608 < d.width.toNat * d.height.toNat then 2
  else if d.maxRate.toNat < s.time.rate then 3
  else 0

/-- R168, R179, R439: record in slot `i` the tile that a DESC describes. A tile of an impossible size leaves the slot's geometry as it
is; any other first tile, or tile of another size, is laid out afresh. A tile of another SERIAL and of another size is held ABSENT
REPLACED, not LOST DESC_CHANGED (assumption 145). What makes it LOST counts on the port that drove it, or else on port `p`, on which
it has been found. -/
def State.bindDesc (s : State) (p i : Nat) (d : DescPkt) : State :=
  let cause := s.descCause d
  let s0 := if cause ≠ 0 ∧ (s.tile i).state = 2 then s.loseTile i cause else s
  let t := s0.tile i
  let replaced := t.bound && decide (t.serial ≠ d.serial.toNat)
  let w := d.width.toNat
  let h := d.height.toNat
  let t1 := { t with serial := d.serial.toNat, bound := true, maxRate := d.maxRate.toNat, flStrings := d.flStrings.toNat
                     awaits := if replaced then 5 else t.awaits }
  let hold (x : TileSlot) (c : Nat) : TileSlot := { x with state := 1, cause := c }
  if cause = 2 then s0.setTile i (hold t1 2)
  else
    let first := decide (t.lastW = 0)
    let differs := !first && (decide (w ≠ t.lastW) || decide (h ≠ t.lastH))
    let t2 := if first ∨ differs then { t1 with newWidth := w, newHeight := h, fill := if t.fill = 2 then 2 else 1 }
      else { t1 with newWidth := w, newHeight := h, fill := if t.fill = 2 then 2 else 0 }
    let t3 := if first then { t2 with width := w, height := h } else t2
    if cause ≠ 0 then s0.setTile i (hold t3 cause)
    else if replaced ∨ t.awaits = 5 then s0.setTile i (hold t3 5)
    else if differs then
      (s0.setTile i { t3 with awaits := 8, state := if t3.state = 3 then 3 else if t3.state = 2 then 2 else 1 }).loseTileOn
        (if t3.state = 2 then s0.drivePort i else p) i 8 |>.modTile i fun x => { x with state := 3, cause := 8 }
    else if first then s0.setTile i (hold t3 0)
    else if t.state = 0 ∨ t.state = 1 then s0.setTile i (hold { t3 with awaits := 0 } 0)
    else s0.setTile i { t3 with awaits := 0 }

/-- R168, R195: the tile of slot `i` takes position `pos` in the domain of port `p`; a tile UP in another domain is LOST first.
Its delay is measured afresh (R182), while an UP tile found again stays UP. -/
def State.settleTile (s : State) (p epoch pos i : Nat) : State :=
  let t := s.tile i
  let s1 := if t.state = 2 ∧ t.port ≠ p then s.loseTile i 1 else s
  s1.modTile i fun t => { t with pos := pos, port := p, partner := s.loopOn p && decide (p % 2 = 1), epoch := epoch
                                 samples := [], probe := none, probes := 0, batch := false, delaySent := decide (t.state = 2) }

/-- DESC (R168, R177 to R179): a descriptor with the current EPOCH. -/
def execDesc (port : Fin 32) (d : DescPkt) (s : State) : Host.Outcome State Fault Refusal :=
  let p := port.val
  let s1 := s.rxPort p
  match (s1.port p).enumRun with
  | some run =>
    let pos := d.pos.toNat
    if run.epoch = d.epoch.toNat ∧ pos < 32 then
      match s1.slotFor p d.serial.toNat pos with
      | some i =>
        let s2 := s1.bindDesc p i d
        let s3 := if run.phase = 1 then s2 else s2.settleTile p run.epoch pos i
        .next (s3.modPort p fun x => { x with
          enumRun := some { run with found := run.found.filter (fun (q : Nat × Nat) => q.1 ≠ pos) ++ [(pos, i)], last := s1.clk } })
      | none => .next s1
    else .next s1
  | none => .next s1

/-- R182: send `n` DELAY_PROBE to tile `i`. -/
def State.sendProbes (s : State) (i n : Nat) : State :=
  let t := s.tile i
  let id := (s.port t.port).probeId
  let s1 := (s.modPort t.port fun x => { x with probeId := (id + n) % 4294967296 }).setTile i { t with probe := some (id, n), probes := n }
  (List.range n).foldl (fun st k =>
    st.sendDown t.port (jtlPkt 6 t.pos 0 (leBytes 4 ((id + k) % 4294967296) ++ zeroBytes 4))) s1

/-- R177, R192: an enumeration that gave the domain's tiles is closed: tiles not found are LOST, the others are probed. -/
def State.closeEnum (s : State) (p : Nat) (run : EnumRun) : State :=
  let s1 := (s.domain p).foldl (fun st i =>
    if (st.tile i).epoch = run.epoch then st
    else (st.loseTile i 1).modTile i fun t => { t with epoch := 0 }) s
  let s2 := s1.modPort p fun x => { x with enumRun := none, state := x.upState }
  run.found.foldl (fun st q => (st.modTile q.2 fun t => { t with batch := true, samples := [] }).sendProbes q.2 16) s2

/-- ENUM_WAIT_EXPIRE (R177, R194): 2 ms after the last DESC the enumeration is closed. The first pass of a looped pair is
followed by the split, or, when no ENUM came out at the other end, by the pass from port 2k + 1. A SPLIT above the chain's length
gives port 2k the whole chain, and port 2k + 1 none of it (assumption 146). -/
def execEnumWaitExpire (port : Fin 32) (s : State) : Host.Outcome State Fault Refusal :=
  let p := port.val
  match (s.port p).enumRun with
  | some run =>
    let s1 := s.advanceTo (run.last + msC 2)
    let n := run.found.length
    if run.phase = 1 then
      if (s1.port p).loopClosed then
        let sp := s1.liveF (tfOff p 4) 0 5
        let k := if sp = 0 then cdiv n 2 else min sp n
        let mark (x : Port) : Port := { x with chainLen := n, brk := k, enumRun := none, loopClosed := true, state := x.upState }
        let s2 := (s1.modPort p mark).modPort (p + 1) fun x => { x with chainLen := n, brk := k, loopClosed := true }
        let s3 := if k = 0 then s2 else s2.startEnum p k 0
        .next (if n - k = 0 then s3 else s3.startEnum (p + 1) (n - k) 0)
      else
        let s2 := run.found.foldl (fun st q => st.settleTile p run.epoch q.1 q.2) s1
        let mark (x : Port) : Port := { x with loopBroken := true, brk := n, chainLen := n }
        .next (((s2.closeEnum p run).modPort p mark).modPort (p + 1) mark |>.startEnum (p + 1) 0 2)
    else
      let s2 := s1.closeEnum p run
      if run.phase = 2 then
        let e := p / 2 * 2
        let len (x : Port) : Port := { x with chainLen := x.brk + n }
        .next ((s2.modPort e len).modPort (e + 1) len)
      else .next s2
  | none => .next s

/-- ENUM_LOOP_ARRIVAL (R194): an ENUM of the first pass arrives at port 2k + 1: the loop is closed. -/
def execEnumLoopArrival (port : Fin 32) (hop : BitVec 8) (epoch : BitVec 32) (s : State) : Host.Outcome State Fault Refusal :=
  let p := port.val
  let s1 := s.rxPort p
  let e := p / 2 * 2
  match (s1.port e).enumRun with
  | some run =>
    if s1.loopOn p && decide (p % 2 = 1) && decide (run.phase = 1) && decide (run.epoch = epoch.toNat) && decide (hop.toNat ≤ 32) then
      .next (s1.modPort e fun x => { x with loopClosed := true })
    else .next s1
  | none => .next s1

/-! ### Delay (R181, R182) -/

/-- The median of delays: the middle one, and for an even count a free value from the two in the middle (the spec does not say
how they combine). -/
def medianOf (l : List Int) (free : Nat) : Int :=
  let t := sortInt l
  let n := l.length
  let a := t.getD ((n - 1) / 2) 0
  let b := t.getD (n / 2) 0
  a + ((free % ((b - a).toNat + 1) : Nat) : Int)

/-- R182: send DELAY_SET and log it. -/
def State.sendDelaySet (s : State) (i : Nat) (d : Int) : State :=
  let t := s.tile i
  let r := s.draw (if t.rtt * 4 % 25 = 0 then 1 else 2)
  ((r.2.setTile i { t with delay := d, delaySent := true }).sendDown t.port
    (jtlPkt 7 t.pos 0 (leBytes 4 (toField 32 d) ++ zeroBytes 4))).log 146 i (toField 32 d) (t.rtt * 4 / 25 + r.1)

/-- R181: half of the round trip, an odd one rounded either way (the spec states no rounding), and ADJ. -/
def State.delayOf (s : State) (i : Nat) (rt : Int) (free : Nat) : Int :=
  let half := if rt % 2 = 0 then rt / 2 else rt / 2 + ((free % 2 : Nat) : Int)
  half + sext 10 (s.liveF (tslotOff i 12) 13 10)

/-- DELAY_RESP (R181, R182): one probe is answered. A round trip above 24 µs (150,000 units) holds the tile and those beyond it
ABSENT, one LOST among them and found again too (assumption 148). After an enumeration the median of the 16 answers gives DELAY;
later that of the last 9 gives a new one when it moves by 4. -/
def execDelayResp (port : Fin 32) (pos : BitVec 8) (probeId turn resid : BitVec 32) (tTx tRx : Nat) (s : State) :
    Host.Outcome State Fault Refusal :=
  let p := port.val
  let s1 := s.rxPort p
  match s1.tileAt p pos.toNat with
  | none => .next s1
  | some i =>
    let t := s1.tile i
    let mine := t.probe.any fun q => decide ((probeId.toNat + 4294967296 - q.1) % 4294967296 < q.2)
    if t.probes = 0 ∨ !mine then .next s1
    else
      let rt : Int := (tRx : Int) - tTx - turn.toNat - resid.toNat
      let d := s1.delayOf i rt s1.freeVal
      let s2 := s1.bump
      let samples := (d :: t.samples).take (if t.batch then 16 else 9)
      let ns := rt.toNat * 4 / 25 + (if rt.toNat * 4 % 25 = 0 then 0 else s1.freeVal / 2 % 2)
      let t1 := { t with samples := samples, rtt := rt.toNat, rttNs := ns, probes := t.probes - 1 }
      let s3 := s2.setTile i t1
      if 150000 < rt then
        .next ((s3.domain p).foldl (fun st j =>
          if t.pos ≤ (st.tile j).pos then st.modTile j fun x => { x with state := 1, cause := 4 } else st) s3)
      else if !t.batch then
        let m := medianOf samples s2.freeVal
        .next (if 4 ≤ (m - t.delay).natAbs then s3.bump.sendDelaySet i m else s3.bump)
      else if t1.probes = 0 then
        let m := medianOf samples s2.freeVal
        let s4 := (s3.setTile i { t1 with batch := false }).bump.sendDelaySet i m
        .next (s4.tryUp i)
      else .next s3

/-- DELAY_PROBE_PERIOD (R182, R382): one probe to an UP tile, once the 16 of its enumeration have been answered (assumption 149); none
in PLATEAU. -/
def execDelayProbePeriod (tile : Fin 1024) (s : State) : Host.Outcome State Fault Refusal :=
  if s.tfActive && s.tileUp tile.val && !(s.tile tile.val).batch then .next (s.sendProbes tile.val 1) else .next s

/-! ### Lost tiles, loops, registers (R168, R173, R192 to R195) -/

/-- HOP_DOWN (R173, R195): the tiles beyond the hop named are LOST; a looped chain fails over at the next guard. -/
def execHopDown (port : Fin 32) (pos : BitVec 8) (upstream : Bool) (s : State) : Host.Outcome State Fault Refusal :=
  let p := port.val
  let k := if upstream then pos.toNat else pos.toNat + 1
  .next ((((s.rxPort p).count (tfOff p 0x6C)).cutDomain p k).noteBreak p k)

/-- The TF's part of the guard's beginning (R192, R195): a tile that owes a report is LOST, its domain is enumerated again at
the next flip; a looped chain moves its break; a failed standby hop moves no tile. -/
def State.tfGuard (s : State) : State :=
  let s1 := (List.range 1024).foldl (fun st i =>
    let t := st.tile i
    if t.state = 2 ∧ t.expect = some s.time.wfn ∧ t.ready ≠ some s.time.wfn then
      (st.loseTile i 6).modPort t.port fun x => { x with reEnum := true }
    else st) s
  (List.range 16).foldl (fun st k =>
    let e := 2 * k
    match (st.port e).moveTo with
    | some place =>
      let n := (st.port e).chainLen
      let mark (x : Port) : Port := { x with loopBroken := true, brk := place, moveTo := none }
      let s2 := (st.modPort e mark).modPort (e + 1) mark
      if place = (st.port e).brk then s2
      else
        let s3 := s2.count (tfOff e 0x7C)
        let s4 := if place = 0 then s3 else s3.startEnum e place 0
        if n - place = 0 then s4 else s4.startEnum (e + 1) (n - place) 0
    | none => st) s1

/-- The TF's part of flip N (R90, R189, R193, R196): rows of passed drive frames are forgotten, their held entries with them,
but for those whose fix-up is still due. -/
def State.tfFlip (s : State) : State :=
  (List.range 32).foldl (fun st p =>
    let pt := st.port p
    if pt = Port.init then st
    else
      let keep := pt.sent.filter fun r => decide (s.time.wfn ≤ r.row.frame) || (r.held && s.wsa.fixup.any fun f => f.row = r.row)
      let s1 := st.setPort p { pt with
        sent := keep
        named := pt.named.filter fun q => keep.any fun r => r.pseqs.contains q
        held := (keep.filter fun r => r.held).length
        flipAt := none, flipCopied := false, reEnum := false
        degFrames := if pt.deg && !pt.ovf then pt.degFrames + 1 else 0, ovf := false }
      if pt.reEnum then s1.reEnumerate p else s1) s

/-- R173: a write of TF_PCTRL.ENABLE: 1 lets the port bring its first hop up, 0 takes it down and holds it. -/
def State.portEnable (s : State) (p : Nat) (enable : Bool) : State :=
  if enable then s.modPort p fun x => { x with enable := true, state := if x.state = .off then .down else x.state }
  else
    let s1 := s.modPort p fun x => { x with enable := false }
    if s1.portHopUp p then s1.portHopDown p
    else (s1.setHop p { s1.hop p with step := .detect, since := s1.clk, sync := false }).modPort p fun x => { x with state := .off }

/-- TF_PCTRL_ENABLE (R173). -/
def execTfPctrlEnable (port : Fin 32) (enable : Bool) (s : State) : Host.Outcome State Fault Refusal :=
  .next (s.whenReady fun t => t.portEnable port.val enable)

/-- TF_PCTRL_ENUM (R193, R195): enumerate the domain, or restore the split of a looped pair. -/
def execTfPctrlEnum (port : Fin 32) (s : State) : Host.Outcome State Fault Refusal := .next (s.whenReady fun t => t.enumerate port.val)

/-- R168: a write of TF_PCTRL.FORGET: the SERIAL bindings of the port's slots are cleared, unless one of its tiles is UP; a slot
without a tile is EMPTY then (assumption 24). -/
def State.forgetPort (s : State) (p : Nat) : State :=
  let slots := (List.range 32).map fun k => p * 32 + k
  if slots.any s.tileUp then s
  else slots.foldl (fun st i => st.modTile i fun t =>
    { t with serial := 0, bound := false, state := if t.epoch = 0 then 0 else t.state
             cause := if t.epoch = 0 then 0 else t.cause, awaits := if t.epoch = 0 then 0 else t.awaits }) s

/-- TF_PCTRL_FORGET (R168). -/
def execTfPctrlForget (port : Fin 32) (s : State) : Host.Outcome State Fault Refusal := .next (s.whenReady fun t => t.forgetPort port.val)

/-- R168, R179: a write of ACCEPT: a tile that waits for it is accepted; it becomes UP once nothing else holds it. -/
def State.acceptTile (s : State) (i : Nat) : State :=
  let t := s.tile i
  if t.awaits = 0 then s
  else (s.setTile i { t with awaits := 0, cause := if t.state = 1 ∧ t.cause = 5 then 0 else t.cause }).tryUp i

/-- TF_TSLOT_ACCEPT (R168, R179). -/
def execTfTslotAccept (port : Fin 32) (slot : Fin 32) (s : State) : Host.Outcome State Fault Refusal :=
  .next (s.whenReady fun t => t.acceptTile (port.val * 32 + slot.val))

/-! ### Tile commands and telemetry (R197 to R199, R335) -/

/-- R323, R326, R335: complete a tile command: its DATA is written to RSP_ADDR first; where that fails, the entry still carries DLEN
and DATA. -/
def State.completeTile (s : State) (i : Nat) (c : TileCmd) (status tstatus : Nat) (data : List Byte) (dma : HostDma) : State :=
  let write := !c.engine && decide (status = 0) && decide (c.rspAddr ≠ 0)
  let failed := write && (decide (dma = .failed) || !s.net.pcie.bme)
  let s1 := if failed then s.dmaErr else if write then s.emit (.hostWrite c.rspAddr data) else s
  let st := if failed then 7 else status
  let s2 := if st = 17 then s1.count (tfOff (s.drivePort i) 0x74) else s1
  let s3 := if c.engine then s2 else s2.postTileRsp i (tileRspEntry i c.tag st c.opcode tstatus (if status = 0 then data else []))
  s3.flDone i c (decide (st = 0) && decide (tstatus = 0))

/-- The outstanding command of a tile with this TAG, oldest first. -/
def State.cmdOf (s : State) (i tag : Nat) : Option TileCmd := (s.tile i).cmds.find? fun c => c.tag = tag

/-- R197, R198: the tile that answers at position `pos`: the one there now, or one LOST since, as a bridge that answers
TC_RESET_BRIDGE and then resets, whose command is still outstanding. -/
def State.answerer (s : State) (p pos tag : Nat) : Option Nat := (s.tileAt p pos).or ((s.chainSlots p).find? fun i =>
  let t := s.tile i
  decide (t.port = p) && decide (t.pos = pos) && decide (t.state = 3) && (s.cmdOf i tag).isSome)

/-- TILE_RSP (R197). -/
def execTileRsp (port : Fin 32) (pos : BitVec 8) (tag : BitVec 16) (tstatus : BitVec 8) (data : List Byte) (dma : HostDma)
    (s : State) : Host.Outcome State Fault Refusal :=
  let s1 := s.rxPort port.val
  match s1.answerer port.val pos.toNat tag.toNat with
  | none => .next s1
  | some i =>
    match s1.cmdOf i tag.toNat with
    | some c =>
      .next ((s1.modTile i fun t => { t with cmds := t.cmds.erase c }).completeTile i c 0 tstatus.toNat data dma)
    | none => .next s1

/-- TILE_CMD_TIMEOUT (R176, R197): CMDTMO has passed: the command is sent once more, though not in the guard, then completed with
TILE_TIMEOUT; after the stop of R373 none is sent again, and it completes at once (assumption 150). -/
def execTileCmdTimeout (tile : Fin 1024) (tag : BitVec 16) (s : State) : Host.Outcome State Fault Refusal :=
  let i := tile.val
  match s.cmdOf i tag.toNat with
  | some c =>
    let t := s.tile i
    let s1 := s.advanceTo (c.at_ + msC (s.liveF (tfOff (s.drivePort i) 4) 16 7))
    if c.tries = 1 ∧ t.state = 2 ∧ !s.wsa.stopped then
      if s.wsa.inGuard then .next s
      else .next ((s1.setTile i { t with cmds := t.cmds.map fun x => if x = c then { c with tries := 2, at_ := s1.clk } else x }).sendDown
        t.port (tileCmdPkt t.pos c.tag c.opcode c.param))
    else .next ((s1.setTile i { t with cmds := t.cmds.erase c }).completeTile i c 17 0 [] .failed)
  | none => .next s

/-- R319, R197, R9: the shape of a TILE_CMD packet: PARAM of at most 272 bytes, EXT as PLEN asks; its reserved bits and bytes are
ignored. -/
def tilePktOk (b : List Byte) : Bool :=
  let plen := fieldB b 6 2
  decide (plen ≤ 272) && decide (fieldB b 4 1 = (if 48 < plen then cdiv (plen - 48) 64 else 0))

/-- R197, R261: what becomes of a packet taken from tile `i`'s TILE_CMD ring. -/
def State.takeTileCmd (s : State) (i : Nat) (b : List Byte) : State :=
  let op := fieldB b 0 2
  let tag := fieldB b 2 2
  let rsp := fieldB b 8 8
  let par := sliceB b 16 (fieldB b 6 2)
  let fail (st : Nat) : State := s.completeTile i ⟨tag, op, par, rsp, 1, s.clk, false⟩ st 0 [] .failed
  if !tilePktOk b then fail 2
  else if (op = 16 ∨ op = 18) ∧ s.flMode i ≠ 0 then fail 10
  else if !s.tileUp i then fail 17
  else s.issueCmd i tag op par rsp false

/-- TILE_CMD_FETCH (R197, R335, R382): a packet is taken while fewer than 4 commands are outstanding and the TILE_TEL ring has
an entry for the response; none in the guard (R176), in PLATEAU or after a stop. -/
def execTileCmdFetch (tile : Fin 1024) (host : HostDma) (s : State) : Host.Outcome State Fault Refusal :=
  let i := tile.val
  let n := 512 + i
  let r := s.ring n
  let tel := s.ring (1536 + i)
  if s.tfActive && !s.wsa.inGuard && s.qm.fetching && r.en && tel.en && decide (0 < r.held) && decide (0 < tel.free) &&
      decide ((s.tile i).cmds.length < 4) then
    match host with
    | .ok bytes =>
      let k := 1 + fieldB bytes 4 1
      if !s.net.pcie.bme then .next (s.dmaErr.log 240 n 1 r.cons)
      else if bytes.length = 64 * k ∧ k ≤ r.held then
        .next (((s.setRing n { r with cons := idxAdd r.cons k }).setRing (1536 + i) { tel with reserved := tel.reserved + 1 }).takeTileCmd
          i bytes)
      else .next s
    | .failed => .next (s.dmaErr.log 240 n 1 r.cons)
  else .next s

/-- R323: the two entries of a telemetry record; the reserved bits of FFLAGS are ignored and posted as 0 (R9, R267). -/
def telemetryEntries (i tag : Nat) (t : Telem) : List Byte × List Byte :=
  let flags := b2n t.tempValid + 2 * b2n t.panelOn + 4 * b2n t.predicted
  (entryHeader tag 0 4 i ++ leBytes 6 t.wfn.toNat ++ leBytes 2 flags ++ leBytes 2 t.panelTemp.toNat ++ leBytes 2 t.bridgeTemp.toNat ++
      leBytes 2 t.vgh.toNat ++ leBytes 2 t.vgl.toNat ++ leBytes 2 t.vcom.toNat ++ leBytes 2 t.nakSent.toNat ++
      leBytes 2 t.dropped.toNat ++ zeroBytes 2,
    entryHeader tag 0 5 i ++ leBytes 4 t.cwCorr.toNat ++ leBytes 4 t.cwUncorr.toNat ++ leBytes 2 t.ambient.toNat ++
      leBytes 2 (t.fflags.toNat % 4) ++ leBytes 4 t.verdict.toNat ++ leBytes 2 t.duty.toNat ++ leBytes 2 t.enabled.toNat ++
      leBytes 2 t.diagged.toNat ++ zeroBytes 2)

/-- TELEMETRY (R83, R199, R335): a good panel temperature is kept, the record is posted, the frontlight engine reads it. -/
def execTelemetry (port : Fin 32) (t : Telem) (s : State) : Host.Outcome State Fault Refusal :=
  let s1 := s.rxPort port.val
  match s1.tileAt port.val t.pos.toNat with
  | none => .next s1
  | some i =>
    let temp := sext 16 t.panelTemp.toNat
    let good := t.tempValid && decide (-640 ≤ temp) && decide (temp ≤ 1600)
    let x := s1.tile i
    let s2 := s1.setTile i { x with
      panelOn := t.panelOn, tempSeen := true, telTag := (x.telTag + 1) % 65536
      tempValid := good || x.tempValid, temp := if good then temp else x.temp, tempAt := if good then s1.clk else x.tempAt }
    let e := telemetryEntries i x.telTag t
    .next ((s2.postTelemetry i e.1 e.2).flTelemetry i t.ambient.toNat (t.fflags.toNat % 4) t.verdict.toNat)

end Sys2Proof.Machine
end

