-- ==== Sys2Proof/Machine/Stop.lean ====
section
/-! DEFINITION. How drive is stopped at once (R373 steps 1 and 2), a fault capture begun (R404) and a warm reset entered (R391,
R393). -/

namespace Sys2Proof.Machine

/-- R373 steps 1 and 2: no pixel, render, DRIVE_ROW or TILE_CMD is started any more, and FLIP goes out with LAST = 1 on every UP
port. A power transition is abandoned (R384). -/
def State.stopDrive (s : State) : State :=
  let s1 := { s with wsa.stopped := true, mp.renders := [], pwr.transit := .none }
  if s.frameLoop ∧ !s.wsa.stopped ∧ !s.glb.refclkStopped then
    (List.range 32).foldl (fun st p => if st.portFlips p then st.sendFlip p true else st) s1
  else s1

/-- R409: an odometer record falls due. -/
def State.odoRequest (s : State) (reason : Nat) : State :=
  if s.glb.odoDue.contains reason then s else { s with glb.odoDue := s.glb.odoDue ++ [reason] }

/-- R404: a capture starts; where a dump is held or a capture runs, it is only counted (R393). -/
def State.startCapture (s : State) (cause arg : Nat) : State :=
  match s.glb.capture, s.glb.dump with
  | some c, _ => { s with glb.capture := some { c with missed := min (c.missed + 1) 0xFFFF } }
  | none, some d => { s with glb.dump := some { d with missed := min (d.missed + 1) 0xFFFF } }
  | none, none => { s with glb.capture := some ⟨cause, arg, s.nowNs, s.time.wfn, s.pwr.state.code, 0⟩ }

/-- R399, R403: a warm reset of causes 4 to 8 counts as a strike: once its capture has ended, or at once where none runs. -/
def State.countStrike (s : State) (cause : Nat) : State :=
  if 4 ≤ cause ∧ cause ≤ 8 then { s with glb.strikes := min 15 (s.glb.strikes + 1) } else s

/-- R391 step 1: a warm reset is entered; while one is, the first trigger stands (R393), and while it is held nothing runs that could
trigger one. Fatal errors start a capture. Where a thermal shutdown runs, the entry takes over from the step it has reached: its frame N
is the shutdown's. -/
def State.beginReset (s : State) (cause arg : Nat) : State :=
  let held := s.glb.entry.any fun e => decide (e.stage = 5)
  let s0 := if 4 ≤ cause && !held then s.startCapture cause arg else s
  let s1 := if s0.glb.entry.isNone && s0.glb.capture.isNone then s0.countStrike cause else s0
  match s1.glb.entry with
  | some _ => s1
  | none =>
    (({ s1 with
      glb.ready := false, glb.readyOut := false
      glb.entry := some ⟨.warm, cause, arg, s1.clk, s1.nowNs, (s1.thm.shutdown.map Prod.snd).getD s1.time.wfn, s1.pwr.state.code, 1⟩
      }).odoRequest 2).stopDrive

end Sys2Proof.Machine
end

