-- ==== Sys2Proof/Machine/Wsa.lean ====
section
/-! DEFINITION. The waveform synthesis array (R65 to R98): the evaluation of one pixel, drive rows and their release, row
bundles taken by clusters, the fix-up of dropped rows, the age sweep and the charge sums. -/

namespace Sys2Proof.Machine

/-! ### Rail slots as the charge prediction sees them (R88, R226, R251) -/

/-- R251: EN of slot `s` of group `g`, in force. -/
def State.slotEn (s : State) (g i : Nat) : Bool := s.liveB (slotOff g i 0) 0

/-- R251: EXT. -/
def State.slotExt (s : State) (g i : Nat) : Bool := s.liveB (slotOff g i 0) 1

/-- R226: ROLE. -/
def State.slotRole (s : State) (g i : Nat) : Nat := s.liveF (slotOff g i 0) 3 4

/-- The enabled slots of a group. -/
def State.enSlots (s : State) (g : Nat) : List Nat := (List.range 12).filter (s.slotEn g)

/-- R88: the enabled slot of a group that holds a role; none where the group is DISABLED. -/
def State.roleSlot (s : State) (g role : Nat) : Option Nat :=
  if (s.group g).state = .disabled then none else (s.enSlots g).find? fun i => decide (s.slotRole g i = role)

/-- R226: the role that a code charges. -/
def codeRole (c : Nat) : Nat := [9, 5, 4, 3, 0, 6, 7, 8].getD c 0

/-! ### The tile table (R98) -/

def tcfgOff (i : Nat) : Nat := baseWsa + 0x4000 + i * 16

/-- R98: the rail group that supplies tile `i`. -/
def State.tileRg (s : State) (i : Nat) : Nat := s.liveF (tcfgOff i) 4 3

/-- R98: QSCALE of tile `i`. -/
def State.tileQscale (s : State) (i : Nat) : Nat := s.liveF (tcfgOff i) 16 16

/-- R98: TGATEQ of tile `i`, in pC. -/
def State.tileGateq (s : State) (i : Nat) : Nat := s.live (tcfgOff i + 4)

/-- R83: the temperature fixed for tile `i`. -/
def State.tileTemp (s : State) (i : Nat) : TTemp := tabGet TTemp.init s.wsa.temps i

/-- R83: whether that temperature is an estimate. -/
def TTemp.estimated (t : TTemp) : Bool := decide (t.source ≠ 0)

/-- R75: the session table entry of a slot. -/
def State.wsess (s : State) (n : Nat) : WSess := tabGet WSess.init s.wsa.sess n

/-- R75: the 64-bit entry as WSA_SESS shows it. -/
def WSess.word (e : WSess) : Nat :=
  place e.phase 0 2 + place e.pframe 2 8 + place (b2n e.holdOpen) 10 1 + place (b2n e.levelAll) 11 1 +
    place e.tmode 12 4 + place e.tol 16 16

/-! ### Charge (R88, R89) -/

/-- Add to a 64-bit accumulator, saturating. -/
def satAdd64 (a b : Nat) : Nat := min (a + b) (2 ^ 64 - 1)

/-- The accumulator of slot `i` of group `g`. -/
def chargeKey (g i : Nat) : Nat := g * 12 + i

/-- R88, R89: add an amount in 1/4,096 fC to the slot of a group that holds a role, and to the session it came from. -/
def State.addCharge (s : State) (g role amount : Nat) (session : Option Nat) : State :=
  match s.roleSlot g role with
  | none => s
  | some i =>
    let s1 := { s with wsa.charge := tabMod 0 s.wsa.charge (chargeKey g i) (satAdd64 · amount) }
    match session with
    | none => s1
    | some n => { s1 with wsa.sessQ := tabMod 0 s1.wsa.sessQ (n * 8 + g) (satAdd64 · amount) }

/-- R88: CHARGE of a code for a tile's package: the package's own, or WSA_TBLQ for a table package. -/
def State.codeCharge (s : State) (p : Pkg) (c : Nat) : Nat :=
  if p.table then s.liveF (baseWsa + 0x20 + c * 4) 0 16 else p.charge c

/-- R88: the charge of an emitted code; code 4 and the code 0 of R66 add nothing. -/
def State.chargeCode (s : State) (i : Nat) (p : Pkg) (c session : Nat) : State :=
  if c = 4 then s
  else s.addCharge (s.tileRg i) (codeRole c) (s.codeCharge p c * s.tileQscale i) (some session)

/-- R88: the gate charge of a tile's first drive row of the frame, on RS0 and RS1 (VGH, VGL). -/
def State.chargeGate (s : State) (i : Nat) : State :=
  if s.wsa.drove.contains i then s
  else
    let q := s.tileGateq i * 4096000
    let g := s.tileRg i
    ({ s with wsa.drove := i :: s.wsa.drove }.addCharge g 1 q none).addCharge g 2 q none

/-! ### Look-ahead (R79 to R82) -/

/-- R79: the candidate codes. -/
def driveCodes : List Nat := [0, 1, 2, 3, 5, 6, 7]

/-- The level magnitude of a code. -/
def codeMag (c : Nat) : Nat := c % 4

/-- What a lane needs to evaluate pixels of one tile: the package, the knot interval and weight (R40), the band (R85), the
code levels withheld (R241) and MAXLVL. -/
structure LaneCtx where
  pkg : Pkg
  kw : Nat × Nat
  band : Nat
  withheld : List Nat
  maxlvl : Nat

/-- R80: the pixel's candidates. -/
def LaneCtx.candidates (x : LaneCtx) (returning : Bool) : List Nat :=
  driveCodes.filter fun c => !(x.withheld.contains c) && (!returning || decide (codeMag c ≤ x.maxlvl))

/-- R81: the cost of a pair. -/
def LaneCtx.cost (x : LaneCtx) (returning : Bool) (d1 d2 : Nat) (l2 : Int) (c1 c2 : Nat) : Nat :=
  let e := (d1 + 3 * d2) / 4
  let beyond := l2.natAbs - x.pkg.settleBand
  let g := if returning then l2.natAbs * l2.natAbs else beyond * beyond
  min (x.pkg.costWA * e + x.pkg.costWL * 64 * g + x.pkg.costWQ * (x.pkg.charge c1 + x.pkg.charge c2)) (2 ^ 64 - 1)

/-- R79, R80: whether a pair is valid, given its ledgers and distances. The pair (0, 0) is valid always, for a returning pixel that it
takes out of tolerance too (DESIGN CHOICE between R79 and R80, assumption 132). -/
def pairValid (returning : Bool) (t2 c1 c2 d1 d2 : Nat) (p : Pkg) (l : Int) : Bool :=
  (decide (c1 = 0) && decide (c2 = 0)) ||
    (p.admissible l c1 && p.admissible (l + p.delta c1) c2 && (!returning || (decide (d1 ≤ t2) && decide (d2 ≤ t2))))

/-- The least of a list of numbers, if there is one. -/
def leastOf : List Nat → Option Nat
  | [] => none
  | a :: l => match leastOf l with
    | none => some a
    | some b => some (min a b)

/-- R82: the least cost over the valid second codes, for one first code. -/
def LaneCtx.bestOf (x : LaneCtx) (m : Int) (st : St4) (q : Lab) (t2 : Nat) (l : Int) (returning : Bool) (c1 : Nat) :
    Option Nat :=
  let x1 := x.pkg.modelStep x.kw m st c1
  let d1 := x.pkg.dist2 (x.pkg.appear x1) q
  let l1 := l + x.pkg.delta c1
  leastOf ((x.candidates returning).filterMap fun c2 =>
    let d2 := x.pkg.dist2 (x.pkg.appear (x.pkg.modelStep x.kw m x1 c2)) q
    if pairValid returning t2 c1 c2 d1 d2 x.pkg l then some (x.cost returning d1 d2 (l1 + x.pkg.delta c2) c1 c2) else none)

/-- R82: the rank of a first code among codes of equal cost: code 0, the smaller magnitude, the polarity against L. -/
def tieRank (l : Int) (c : Nat) : Nat :=
  if c = 0 then 0
  else codeMag c * 2 + (if 0 < l then b2n (decide (c < 4)) else b2n (decide (4 < c)))

/-- The better of two (cost, code). -/
def betterCode (l : Int) (a b : Nat × Nat) : Nat × Nat :=
  if b.1 < a.1 ∨ (b.1 = a.1 ∧ tieRank l b.2 < tieRank l a.2) then b else a

/-- R82: the code that look-ahead emits. -/
def LaneCtx.choose (x : LaneCtx) (m : Int) (st : St4) (q : Lab) (t2 : Nat) (l : Int) (returning : Bool) : Nat :=
  let scored := (x.candidates returning).filterMap fun c1 => (x.bestOf m st q t2 l returning c1).map fun j => (j, c1)
  match scored with
  | [] => 0
  | a :: r => (r.foldl (betterCode l) a).2

/-! ### One pixel (R77) -/

/-- How a pixel left the evaluation: still driven, settled, with LEDGER_CARRY, with TOLERANCE_MISS, unlevelled, left unknown
after a levelling of which a step was replaced (R60, R241), or made unknown by a truncation (R87). -/
inductive PixOut where
  | driven | settled | carry | miss | unlevelled | leftUnknown | cutShort
deriving DecidableEq, Repr

/-- The outcome of one pixel evaluation: code, new record, how it left, whether a forced step was replaced by code 0, and
whether the pixel was within tolerance (R76). -/
structure PixRes where
  code : Nat
  psr : Psr
  out : PixOut
  replaced : Bool
  within : Bool

/-- R35: driving resets the age class. -/
def Psr.aged (p : Psr) (c : Nat) : Psr := if c = 0 ∨ c = 4 then p else { p with age := 0 }

/-- R49, R241: a forced step as it is emitted: code 0 for one that is not admissible or is withheld. -/
def LaneCtx.forcedCode (x : LaneCtx) (l : Int) (c : Nat) : Nat :=
  if x.withheld.contains c || !x.pkg.admissible l c then 0 else c

/-- R59, R241: a levelling step of an unknown pixel; `had`: an earlier step of it was replaced. -/
def LaneCtx.levelUnknown (x : LaneCtx) (k : Nat) (p : Psr) (had : Bool) : PixRes :=
  let want := x.pkg.tileLevelStep x.band k
  let rep := x.withheld.contains want
  let c := if rep then 0 else want
  let p1 := p.aged c
  if k + 1 < x.pkg.tileLevelLen x.band then ⟨c, p1, .driven, rep, false⟩
  else if rep || had then ⟨c, p1, .leftUnknown, rep, false⟩
  else
    let led := if x.pkg.table then x.pkg.initDelta x.band else 0
    ⟨c, { (p1.withSt x.pkg.levelState) with ledger := led, unknown := false }, .driven, false, false⟩

/-- R60: a forced levelling step of a known pixel. -/
def LaneCtx.levelKnown (x : LaneCtx) (k : Nat) (p : Psr) (had : Bool) : PixRes :=
  let want := x.pkg.tileLevelStep x.band k
  let c := x.forcedCode p.ledger want
  let rep := decide (c ≠ want)
  let p1 := ({ p with ledger := p.ledger + x.pkg.delta c }).aged c
  if x.pkg.table then
    if k + 1 < x.pkg.tileLevelLen x.band then ⟨c, p1, .driven, rep, false⟩
    else if rep || had then ⟨c, p1.makeUnknown, .leftUnknown, rep, false⟩
    else ⟨c, p1.withSt x.pkg.levelState, .driven, false, false⟩
  else ⟨c, p1.withSt (x.pkg.modelStep x.kw (trimFactor p.trim) p.st c), .driven, rep, false⟩

/-- R86: completion of a table-mode pixel. -/
def tableComplete (c : Nat) (p : Psr) (rep within : Bool) : PixRes :=
  ⟨c, p.release, if 32 < p.ledger.natAbs then .carry else .settled, rep, within⟩

/-- R86: one step of table mode. -/
def LaneCtx.tableStep (x : LaneCtx) (p : Psr) (q tmode : Nat) : PixRes :=
  let dest := x.pkg.tableDest q
  let within := decide (p.s1 = 0) && decide (p.s0 = dest)
  let e0 := x.pkg.indexEntry (p.s3 % 16) x.band p.s0 p.s2
  if p.s1 ≠ 0 ∧ e0.2 ≤ p.s1 then
    let p1 := { p with s0 := p.s2, s1 := 0 }
    if p1.s0 = dest then tableComplete 0 p1 false within else ⟨0, p1, .driven, false, within⟩
  else
    let p0 := if p.s1 = 0 then { p with s2 := dest, s3 := x.pkg.tableMode tmode } else p
    let e := x.pkg.indexEntry (p0.s3 % 16) x.band p0.s0 p0.s2
    if p0.s1 = 0 ∧ e.2 = 0 then
      if p0.s0 = dest then tableComplete 0 p0 false within else ⟨0, p0, .driven, false, within⟩
    else
      let want := x.pkg.pool (e.1 + p0.s1)
      let c := x.forcedCode p0.ledger want
      let rep := decide (c ≠ want)
      let p1 := ({ p0 with ledger := p0.ledger + x.pkg.delta c }).aged c
      if e.2 ≤ p0.s1 + 1 then
        let p2 := { p1 with s0 := p0.s2, s1 := 0 }
        if p2.s0 = dest then tableComplete c p2 rep within else ⟨c, p2, .driven, rep, within⟩
      else ⟨c, { p1 with s1 := p0.s1 + 1 }, .driven, rep, within⟩

/-- R87: a table-package pixel in the truncation frame. -/
def LaneCtx.tableCut (x : LaneCtx) (p : Psr) (q : Nat) : PixRes :=
  let dest := x.pkg.tableDest q
  if p.s1 = 0 then
    let k : PixOut := if p.s0 = dest then (if p.ledger.natAbs ≤ 32 then .settled else .carry) else .miss
    ⟨0, p.release, k, false, decide (p.s0 = dest)⟩
  else ⟨0, p.makeUnknown, .cutShort, false, false⟩

/-- R77: a known pixel of a film-package tile outside a forced sequence. -/
def LaneCtx.modelPixel (x : LaneCtx) (p : Psr) (q : Nat) (e : WSess) : PixRes :=
  let lab := x.pkg.codeLab (x.pkg.remap q)
  let t2 := e.tol * e.tol
  let m := trimFactor p.trim
  let x0 := x.pkg.modelStep x.kw m p.st 0
  let within := decide (x.pkg.dist2 (x.pkg.appear p.st) lab ≤ t2)
  let band := decide (p.ledger.natAbs ≤ x.pkg.settleBand)
  if !e.holdOpen && within && decide (x.pkg.dist2 (x.pkg.appear x0) lab ≤ t2) && band then
    ⟨0, (p.withSt x0).release, .settled, false, within⟩
  else if e.phase = 3 ∧ e.pframe = 63 then
    ⟨0, (p.withSt x0).release, if within then .carry else .miss, false, within⟩
  else
    let c := x.choose m p.st lab t2 p.ledger (within && !band)
    ⟨c, ({ p.withSt (x.pkg.modelStep x.kw m p.st c) with ledger := p.ledger + x.pkg.delta c }).aged c, .driven, false, within⟩

/-- R77: the order of decisions for a pixel that is ACTIVE and not DEFECT, its due age tick applied. -/
def LaneCtx.evalPixel (x : LaneCtx) (p : Psr) (q : Nat) (e : WSess) (had : Bool) : PixRes :=
  let inSeq := decide (e.pframe < x.pkg.tileLevelLen x.band)
  if p.unknown then
    if e.phase = 1 ∧ inSeq then x.levelUnknown e.pframe p had else ⟨0, p, .unlevelled, false, false⟩
  else if e.levelAll ∧ e.phase = 1 ∧ inSeq then x.levelKnown e.pframe p had
  else if x.pkg.table then
    if e.phase = 3 ∧ e.pframe = 63 then x.tableCut p q else x.tableStep p q e.tmode
  else x.modelPixel p q e

/-- The lane context of a tile in this frame. -/
def State.laneCtx (s : State) (i : Nat) (p : Pkg) : LaneCtx :=
  let t := s.tileTemp i
  { pkg := p, kw := p.knotOf t.temp, band := t.band, withheld := (s.group (s.tileRg i)).withheld
    maxlvl := s.liveF (baseWsa + 4) 0 2 }

/-! ### Age ticks (R35 to R37) -/

/-- R126: the SCH gathers the highest class of a tile's pixels with DEFECT = 0 once a tick has been applied. -/
def State.noteAge (s : State) (i a : Nat) : State :=
  { s with sch.ageAcc := tabSet 0 s.sch.ageAcc i (max (tabGet 0 s.sch.ageAcc i) (a + 1)) }

/-- R36, R37: bring one pixel's class from tick `t` to tick `now`. -/
def State.tickPixel (s : State) (i y x : Nat) (t now : Nat) : State :=
  let p := s.psr i x y
  let a := ageCarry 15 p.age t now
  let s1 := if a = p.age then s else s.setPsr i x y { p with age := a }
  if p.defect then s1 else s1.noteAge i a

/-- R36: apply the due ticks to a segment, if any is due. -/
def State.tickSegment (s : State) (i y g : Nat) : State :=
  let t := s.segTick i y g
  if t = s.film.tick then s
  else ((segCols (s.tileW i) g).foldl (fun st x => st.tickPixel i y x t s.film.tick) s).markTicked i y g

/-! ### Drive rows (R74) -/

/-- Split a rising list of segments into maximal runs of consecutive ones. -/
def runsOf : List Nat → List (List Nat)
  | [] => []
  | a :: l => match runsOf l with
    | (b :: r) :: rs => if b = a + 1 then (a :: b :: r) :: rs else [a] :: (b :: r) :: rs
    | rs => [a] :: rs

/-- Split a run after every 8th segment. -/
def split8 : Nat → List Nat → List (List Nat)
  | 0, _ => []
  | n + 1, l => if l = [] then [] else if l.length ≤ 8 then [l] else l.take 8 :: split8 n (l.drop 8)

/-- R74: the drive rows of a tile row with these active segments. -/
def driveRows (segs : List Nat) : List (List Nat) := (runsOf segs).flatMap (split8 64)

/-- Key of a row in the making. -/
def accKey (i y g : Nat) : Nat := segKey i y g

def RowAcc.init : RowAcc := ⟨[], []⟩

/-- The pixel mask and codes that a row in the making has for a segment. -/
def RowAcc.seg (a : RowAcc) (g : Nat) : Nat × Nat :=
  match a.segs.find? fun q => q.1 = g with
  | some q => q.2
  | none => (0, 0)

/-- Enter one pixel's code (3 bits a pixel, R183) and pre-frame record. -/
def RowAcc.add (a : RowAcc) (g x c : Nat) (pre : DWord) : RowAcc :=
  let k := x % 64
  let v := a.seg g
  { segs := (a.segs.filter fun q => q.1 ≠ g) ++ [(g, v.1 ||| 2 ^ k, v.2 ||| c <<< (3 * k))]
    pre := a.pre ++ [(x, pre)] }

/-- The mask of a whole segment of a tile of width `w`. -/
def fullMask (w g : Nat) : Nat := 2 ^ (segCols w g).length - 1

/-- The drive row of a row's active segments that holds segment `g`. -/
def driveRowOf (segs : List Nat) (g : Nat) : List Nat := ((driveRows segs).find? fun r => r.contains g).getD [g]

/-- R67: the PSRs that the RETAIN partition of a cluster holds: 112 KiB of 8 bytes each. -/
def retainPsrs : Nat := 14336

/-- R67, R90: the rows that RETAIN still holds when those released last fill it: the oldest are given up first (DEDUCED, assumption 96). -/
def fitRetain : Nat → List Kept → List Kept
  | _, [] => []
  | n, k :: l => if k.psrs ≤ n then k :: fitRetain (n - k.psrs) l else []

/-- R74, R90: cluster `c` releases a drive row to the port that drives its tile; RETAIN keeps the pre-frame records of its pixels. -/
def State.releaseRow (s : State) (c i y : Nat) (segs : List Nat) (a : RowAcc) : State :=
  let row : Row := ⟨i, y, segs.headD 0, segs.map fun g => (a.seg g).2, s.time.wfn + 1, a.pre, s.clk, c⟩
  let cl := s.cluster c
  let s1 := s.setCluster c { cl with retain := fitRetain retainPsrs (⟨segKey i y row.seg, row.frame, a.pre.length⟩ :: cl.retain) }
  (s1.modPort (s1.tile i).port fun p => { p with released := p.released ++ [row] }).chargeGate i

/-- R72: take computed segments out of a bundle in hand, its empty rows with them. -/
def Bundle.without (b : Bundle) (y : Nat) (segs : List Nat) : Bundle :=
  { b with rows := (b.rows.map fun r => if r.1 = y then (r.1, r.2.filter fun g => !segs.contains g) else r).filter (fun r =>
      r.2 ≠ []) }

/-- The active segments of a row of the bundle in a cluster's hand. -/
def Cluster.segs (c : Cluster) (i y : Nat) : List Nat :=
  match c.bundle with
  | some b => if b.tile = i then ((b.rows.find? fun r => r.1 = y).map fun r => r.2).getD [] else []
  | none => []

/-- The bundle that a cluster has when the rows computed are taken out; idle when none is left. -/
def Cluster.finish (c : Cluster) (y : Nat) (segs : List Nat) : Cluster :=
  match c.bundle with
  | some b => let b' := b.without y segs; { c with bundle := if b'.rows = [] then none else some b' }
  | none => c

/-! ### Counts (R77, R78, R97) -/

def pfAdd (w : DWord) (n : Nat) : DWord := w + BitVec.ofNat 64 n

/-- The counts of a session in this frame. -/
def State.sessCnt (s : State) (n : Nat) : SessCnt := tabGet SessCnt.init s.wsa.cnt n

/-- A completion for R91 and R123. -/
def State.noteDone (s : State) (key session kind code : Nat) : State :=
  { s with wsa.doneLast := ⟨key, session, kind, s.time.wfn, code⟩ :: s.wsa.doneLast.filter (fun d => d.key ≠ key) }

/-- R77, R78, R97: count how a pixel left. A pixel whose sequence a truncation cuts short counts in its session's MISS (R87); it does not
complete, so WSA_CNT_MISS does not count it (DESIGN CHOICE, assumption 133). -/
def State.countOut (s : State) (i x y session : Nat) (r : PixRes) (est : Bool) : State :=
  let c := s.sessCnt session
  let c1 : SessCnt :=
    { settled := c.settled + b2n (r.out = .settled), carry := c.carry + b2n (r.out = .carry)
      miss := c.miss + b2n (r.out = .miss || r.out = .cutShort)
      unlev := c.unlev + b2n (r.out = .unlevelled), act := true, out := c.out || !r.within, est := c.est || est }
  let s1 := { s with wsa.cnt := tabSet SessCnt.init s.wsa.cnt session c1 }
  let s2 := if r.replaced then s1.count (baseWsa + 0x118) else s1
  match r.out with
  | .settled => s2.noteDone (pixKey i x y) session 0 r.code
  | .carry => (s2.count (baseWsa + 0x128)).noteDone (pixKey i x y) session 1 r.code
  | .miss => (s2.count (baseWsa + 0x12C)).noteDone (pixKey i x y) session 2 r.code
  | .cutShort => s2.flagUnknown i
  | .leftUnknown =>
    let s3 := { s2 with sch.unlevelled := (session, i) :: s2.sch.unlevelled.filter (fun q => q ≠ (session, i)) }
    if (s3.tilePkg i).any Pkg.table then s3.flagUnknown i else s3
  | _ => s2

/-- R60, R241: remember that a step of a pixel's levelling was replaced, until its last step. -/
def State.noteReplaced (s : State) (key : Nat) (r : PixRes) (leveling last : Bool) : State :=
  if leveling then
    if last then { s with wsa.replaced := s.wsa.replaced.filter fun k => k ≠ key }
    else if r.replaced then { s with wsa.replaced := key :: s.wsa.replaced.filter (fun k => k ≠ key) }
    else s
  else s

/-- R132: whether a pixel of session `n` on tile `i` waits for the recovery of its tile: the session is RETAINED, and no recovery of that
tile is booked and runs. -/
def State.awaitsRecovery (s : State) (i n : Nat) : Bool := match s.sess n with
  | some x => decide (x.state = 7) && !(x.recover.any fun r => r.1.contains i)
  | none => false

/-- R75, R132: the entry under which a pixel of session `n` on tile `i` is evaluated: one that waits for its recovery takes no part in the
levelling that the session's entry runs on other tiles. -/
def State.entryFor (s : State) (i n : Nat) : WSess :=
  if s.awaitsRecovery i n then { s.wsess n with phase := 3, pframe := 63 } else s.wsess n

/-- R77, R88: evaluate pixel (x, y) of tile `i` from its stored record, the age tick applied: the new state and the code. -/
def State.evalAt (s : State) (i x y : Nat) (p : Pkg) : State × Nat :=
  let v := s.psr i x y
  if v.defect || !v.active then (s, 0)
  else
    let e := s.entryFor i v.session
    let ctx := s.laneCtx i p
    let key := pixKey i x y
    let r := ctx.evalPixel v (s.target i x y) e (s.wsa.replaced.contains key)
    let leveling := decide (e.phase = 1) && decide (e.pframe < p.tileLevelLen ctx.band) && (v.unknown || e.levelAll)
    let s1 := ((s.setPsr i x y r.psr).chargeCode i p r.code v.session).noteReplaced key r leveling
      (decide (p.tileLevelLen ctx.band ≤ e.pframe + 1))
    (s1.countOut i x y v.session r (s.tileTemp i).estimated, r.code)

/-- R97: the first computed segment of a tile under an estimate in this frame counts. -/
def State.noteEst (s : State) (i : Nat) : State :=
  if (s.tileTemp i).estimated && !s.wsa.est.contains i then
    { s with wsa.est := i :: s.wsa.est }.count (baseWsa + 0x120)
  else s

/-- A change of every cluster. -/
def State.modClusters (s : State) (f : Cluster → Cluster) : Tab Cluster :=
  (List.range 48).foldl (fun t c => tabMod Cluster.init t c f) s.wsa.clusters

/-- R67: COEF takes a tile's coefficients. -/
def Cluster.loadCoef (c : Cluster) (i : Nat) : Cluster := { c with coef := (i :: c.coef.erase i).take 76 }

/-- R67, R68: CODE takes a target's entry, unless the package is a table, and STAGE the pixel's segment. Which entry a full CODE gives up
is the model's choice: the one used longest ago (assumption 137). -/
def Cluster.loadPixel (c : Cluster) (p : Pkg) (slot code key : Nat) : Cluster :=
  { c with
    code := if p.table then c.code else ((slot, code) :: c.code.erase (slot, code)).take 1024
    stage := [key] }

/-- R74, R77: compute one pixel of a cluster's bundle, and release its drive row when it was the last pixel. -/
def State.computePixel (s : State) (c i x y : Nat) (p : Pkg) : State :=
  let g := x / 64
  let cl := (s.cluster c).loadPixel p (tabGet 0 s.film.bind i) (s.target i x y) (segKey i y g)
  let dr := driveRowOf (cl.segs i y) g
  let key := accKey i y (dr.headD 0)
  let s1 := (s.tickSegment i y g).noteEst i
  let pre := (s1.psr i x y).toWord
  let q := s1.evalAt i x y p
  let a := (tabGet RowAcc.init q.1.wsa.acc key).add g x q.2 pre
  let segDone := decide ((a.seg g).1 = fullMask (s.tileW i) g)
  let pf := if segDone then 1 + (64 - (segCols (s.tileW i) g).length) else 1
  let s2 := { q.1 with wsa.pf := pfAdd q.1.wsa.pf pf, glb.odo.pf := q.1.glb.odo.pf + pf }
  if dr.all fun h => decide ((a.seg h).1 = fullMask (s.tileW i) h) then
    ({ s2 with wsa.acc := tabSet RowAcc.init s2.wsa.acc key RowAcc.init }.setCluster c { cl.finish y dr with stage := [] }).releaseRow c i y dr a
  else ({ s2 with wsa.acc := tabSet RowAcc.init s2.wsa.acc key a } : State).setCluster c cl

/-- Whether a pixel of a row in hand has been computed in this frame. -/
def State.pixDone (s : State) (c i x y : Nat) : Bool :=
  let g := x / 64
  let dr := driveRowOf ((s.cluster c).segs i y) g
  decide (bits ((tabGet RowAcc.init s.wsa.acc (accKey i y (dr.headD 0))).seg g).1 (x % 64) 1 = 1)

/-! ### Pending rows (R90, R91) -/

/-- Whether a drive row covers segment `g` of a tile's row. -/
def Row.covers (r : Row) (i y g : Nat) : Bool :=
  decide (r.tile = i) && decide (r.row = y) && decide (r.seg ≤ g) && decide (g < r.seg + r.codes.length)

/-- R90: the held entries of every port. -/
def State.heldRows (s : State) : List SentRow :=
  (List.range 32).flatMap fun p => (s.port p).sent.filter fun r => r.held

/-- R91: a row that has a held entry of the drive frame now running is pending; a listed row waits for its fix-up. -/
def State.rowPending (s : State) (i y : Nat) : Bool :=
  (s.heldRows.any fun r => decide (r.row.tile = i) && decide (r.row.row = y) && decide (r.row.frame = s.time.wfn)) ||
    s.wsa.fixup.any fun r => decide (r.row.tile = i) && decide (r.row.row = y)

/-- R91: whether the report of a pending row has not arrived yet. -/
def State.rowWaits (s : State) (i y : Nat) : Bool :=
  s.heldRows.any fun r => decide (r.row.tile = i) && decide (r.row.row = y) && decide (r.row.frame = s.time.wfn) &&
    !(s.wsa.fixup.any fun f => decide (f.row = r.row))

/-! ### The commands of the synthesis window -/

/-- R14, R292, R373, R382: whether the WSA may start a pixel evaluation. -/
def State.synthRuns (s : State) : Bool :=
  s.frameLoop && !s.wsa.gated && !s.wsa.inGuard && !s.wsa.stopped && !s.glb.refclkStopped && s.dmc.train.isNone && !s.planesHeld

/-- PIXEL_EVALUATE (R77, R285): nothing happens unless the pixel is one the cluster has in hand and has not computed (R94, R91). -/
def execPixelEvaluate (cluster : Fin 48) (tile : Fin 1024) (col : Fin 16384) (row : Fin 65536) (s : State) :
    Host.Outcome State Fault Refusal :=
  let i := tile.val
  let c := cluster.val
  let ok := s.synthRuns && ((s.cluster c).segs i row.val).contains (col.val / 64) && decide (col.val < s.tileW i) &&
    !s.pixDone c i col.val row.val && !s.rowPending i row.val && !s.rowStalled i
  match s.tilePkg i with
  | some p => if ok then .next ((s.computePixel c i col.val row.val p).touchPixel (pixKey i col.val row.val)) else .next s
  | none => .next s

/-- R91: the record a pixel is evaluated from when the codes of its last drive row were lost. -/
def LaneCtx.fixed (x : LaneCtx) (cur pre : Psr) : Psr :=
  if pre.unknown then { cur with s0 := 0, s1 := 0, s2 := 0, s3 := 0, ledger := 0, unknown := true }
  else if pre.active then
    let st := if x.pkg.table then pre.st else x.pkg.modelStep x.kw (trimFactor pre.trim) pre.st 0
    { cur.withSt st with ledger := pre.ledger, unknown := false, age := pre.age }
  else cur

/-- R91: fix one pixel up from its held record and report it where the SCH must hear of it. -/
def State.fixPixel (s : State) (i y : Nat) (ctx : LaneCtx) (h : Nat × DWord) : State :=
  let pre := Psr.ofWord h.2
  let cur := s.psr i h.1 y
  let s1 := s.setPsr i h.1 y (ctx.fixed cur pre)
  if pre.unknown then
    if pre.owned then { s1 with sch.unlevelled := (pre.session, i) :: s1.sch.unlevelled.filter (fun q => q ≠ (pre.session, i)) }
    else s1
  else if pre.active && !cur.active then { s1 with wsa.reopen := s1.wsa.reopen ++ [(pixKey i h.1 y, pre.session)] }
  else s1

/-- R91: free a held entry: the row is no longer held by any port. -/
def State.freeHeld (s : State) (r : SentRow) : State :=
  (List.range 32).foldl (fun st p =>
    let port := st.port p
    if port.sent.any fun q => q.held && decide (q.row = r.row) then
      st.setPort p { port with
        sent := port.sent.map fun q => if q.held && decide (q.row = r.row) then { q with held := false } else q
        held := port.held - 1 }
    else st) s

/-- DROPPED_ROW_FIXUP (R91): the held entry of a row that a DROP_REPORT listed is read, its pixels are fixed up and
computed, and the entry is freed. A cluster whose port is full waits (R184). -/
def execDroppedRowFixup (cluster : Fin 48) (tile : Fin 1024) (row : Fin 65536) (seg : Fin 256) (s : State) :
    Host.Outcome State Fault Refusal :=
  let i := tile.val
  let c := cluster.val
  match s.tilePkg i, s.wsa.fixup.find? fun r => r.row.covers i row.val seg.val with
  | some p, some r =>
    if s.synthRuns && ((s.cluster c).segs i row.val).contains seg.val && !s.rowStalled i then
      let ctx := s.laneCtx i p
      let s1 := r.row.pre.foldl (fun st h => st.fixPixel i row.val ctx h) s
      let s2 := ({ s1 with wsa.fixup := s1.wsa.fixup.erase r }.freeHeld r).count (baseWsa + 0x110)
      .next ((r.row.pre.foldl (fun st h =>
        if ((st.cluster c).segs i row.val).contains (h.1 / 64) && !st.pixDone c i h.1 row.val
        then st.computePixel c i h.1 row.val p else st) s2).touchPixel (pixKey i (seg.val * 64) row.val))
    else .next s
  | _, _ => .next s

/-- AGE_SWEEP_SEGMENT (R36, R279, R292): the sweep reaches a segment whose activity bit is 0; it skips the tiles of R62 and R439. -/
def execAgeSweepSegment (tile : Fin 1024) (row : Fin 65536) (seg : Fin 256) (s : State) :
    Host.Outcome State Fault Refusal :=
  let i := tile.val
  let key := segKey i row.val seg.val
  let pix := pixKey i (seg.val * 64) row.val
  if s.frameLoop && !s.wsa.gated && !s.wsa.inGuard && !s.glb.refclkStopped && s.inMap i &&
      !s.actBit i row.val seg.val && decide (row.val < s.tileH i) && decide (seg.val < segsPerRow (s.tileW i)) then
    if s.film.snapTiles.contains i || (s.tile i).fill = 2 then
      .next { s with sch.ageSkip := i :: s.sch.ageSkip.filter (fun j => j ≠ i) }
    else if s.planesHeld then .next (s.holdReq (.sweep key))
    else .next (((s.grantReq (.sweep key) (s.psrChans pix)).tickSegment i row.val seg.val).touchPixel pix)
  else .next s

/-! ### Row bundles (R71, R72) -/

/-- Active segments of a bundle. -/
def Bundle.weight (b : Bundle) : Nat := (b.rows.map fun r => r.2.length).sum

/-- Active segments of a queue. -/
def PGroup.weight (g : PGroup) : Nat := (g.queue.map Bundle.weight).sum

/-- R72: the longest of the other groups' queues that is not empty; the lowest slot on equal counts. -/
def State.longestOther (s : State) (slot : Nat) : Option PGroup :=
  (s.wsa.groups.filter fun g => decide (g.slot ≠ slot) && decide (0 < g.weight)).foldl (fun b g =>
    match b with
    | none => some g
    | some h => if h.weight < g.weight ∨ (h.weight = g.weight ∧ g.slot < h.slot) then some g else some h) none

/-- Take the head of a group's queue. -/
def State.popQueue (s : State) (slot : Nat) : Option (Bundle × State) :=
  match s.wsa.groups.find? fun g => g.slot = slot with
  | some g => match g.queue with
    | b :: r => some (b, { s with wsa.groups := s.wsa.groups.map fun h => if h.slot = slot then { h with queue := r } else h })
    | [] => none
  | none => none

/-- R91: whether every row left in a bundle waits for its tile's report. -/
def State.allPending (s : State) (b : Bundle) : Bool := b.rows.all fun r => s.rowWaits b.tile r.1

/-- R67, R72, R91: what an idle cluster takes next, whose coefficients it loads: the head of its queue, a bundle moved behind the
others, or, once, the head of the longest other queue. -/
def State.takeBundle (s : State) (c : Nat) : State :=
  let cl := s.cluster c
  match cl.group with
  | none => s
  | some own =>
    let slot := if cl.switched then cl.appear1 - 1 else own
    match s.popQueue slot with
    | some (b, s1) => s1.setCluster c { cl.loadCoef b.tile with bundle := some b }
    | none =>
      match cl.later.find? fun b => !s.allPending b with
      | some b => s.setCluster c { cl.loadCoef b.tile with bundle := some b, later := cl.later.erase b }
      | none =>
        if cl.switched then s
        else match s.longestOther slot with
          | some g => match s.popQueue g.slot with
            | some (b, s1) => s1.setCluster c { cl.loadCoef b.tile with bundle := some b, switched := true, appear1 := g.slot + 1 }
            | none => s
          | none => s

/-- BUNDLE_TAKE (R72, R91): a cluster without a bundle takes one; a bundle whose rows left all wait for a report is moved behind
the cluster's other work first. -/
def execBundleTake (cluster : Fin 48) (s : State) : Host.Outcome State Fault Refusal :=
  let c := cluster.val
  let cl := s.cluster c
  if s.synthRuns then
    match cl.bundle with
    | none => .next (s.takeBundle c)
    | some b =>
      if s.allPending b then
        .next ((s.setCluster c { cl with bundle := none, later := cl.later ++ [b] }).takeBundle c)
      else .next s
  else .next s

/-! ### The guard (R15, R94, R88) -/

/-- R15, R94: the segments of one row when the guard begins: the started ones are completed, the others are left out; the
drive rows of the started runs are released. Answers the state and how many segments were not started. -/
def State.closeRow (s : State) (c i y : Nat) (segs : List Nat) (p : Pkg) : State × Nat :=
  let started (g : Nat) : Bool :=
    decide (((tabGet RowAcc.init s.wsa.acc (accKey i y ((driveRowOf segs g).headD 0))).seg g).1 ≠ 0)
  let cols (g : Nat) : List Nat := segCols (s.tileW i) g
  let s1 := (segs.filter started).foldl (fun st g => (cols g).foldl (fun st x =>
    if ((st.cluster c).segs i y).contains g && !st.pixDone c i x y then st.computePixel c i x y p else st) st) s
  let rest := driveRows ((s1.cluster c).segs i y)
  let s2 := rest.foldl (fun st dr =>
    let a := tabGet RowAcc.init st.wsa.acc (accKey i y (dr.headD 0))
    (driveRows (dr.filter started)).foldl (fun st r => st.releaseRow c i y r
      { segs := a.segs.filter fun q => r.contains q.1, pre := a.pre.filter fun h => r.contains (h.1 / 64) }) st) s1
  (s2, (segs.filter fun g => !started g).length)

/-- R94: close a bundle in a cluster's hand. After the stop of R373 no further pixel is computed and no row released: what is left of it
counts as not started. -/
def State.closeBundle (s : State) (c : Nat) (b : Bundle) : State × Nat :=
  match s.tilePkg b.tile with
  | some p =>
    if s.wsa.stopped then (s, b.weight)
    else b.rows.foldl (fun q r =>
      let z := q.1.closeRow c b.tile r.1 r.2 p
      (z.1, q.2 + z.2)) (s, 0)
  | none => (s, b.weight)

/-- R97: the segments of the tile map's tiles whose activity bit is 0. -/
def State.idleSegs (s : State) : Nat :=
  let tiles := s.mapTiles
  (tiles.map fun i => s.tileH i * segsPerRow (s.tileW i)).sum -
    (s.film.active.filter fun q => tiles.contains (segTile q.1)).length

/-- R97: a frame of the WSA has skipped the inactive segments. -/
def State.countSkip (s : State) : State :=
  if s.frameLoop && !s.wsa.gated then { s with wsa.skip := pfAdd s.wsa.skip s.idleSegs } else s

/-- R15, R94: the WSA's part of the guard's beginning: the pixels in flight are completed; segments not started are left as
they stand, counted and logged. -/
def State.wsaGuard (s : State) : State :=
  let hand := (List.range 48).foldl (fun (q : State × Nat) c =>
    match (q.1.cluster c).bundle with
    | some b =>
      let z := q.1.closeBundle c b
      (z.1, q.2 + z.2)
    | none => q) (s, 0)
  let later := ((List.range 48).map fun c => ((s.cluster c).later.map Bundle.weight).sum).sum
  let n := hand.2 + later + (s.wsa.groups.map PGroup.weight).sum
  let clear (t : Tab Cluster) : Tab Cluster := (List.range 48).foldl (fun t c =>
    tabMod Cluster.init t c fun cl => { cl with bundle := none, later := [] }) t
  let s1 := hand.1
  let s2 : State := { s1 with
    wsa.acc := []
    wsa.groups := s1.wsa.groups.map fun g => { g with queue := [] }
    wsa.clusters := clear s1.wsa.clusters
    wsa.inGuard := true }
  let s3 := State.countSkip s2
  if n = 0 then s3 else (s3.count (baseWsa + 0x11C) n).log 128 noUnit n (s.time.wfn % 2 ^ 32)

/-- R88: a sum in whole pC, rounded up and saturated. -/
def chargePc (x : Nat) : Nat := min (cdiv x 4096000) 0xFFFFFFFF

/-- R88: latch the predicted charge of every slot. -/
def State.latchCharge (s : State) : State :=
  { s with wsa.qpred := (List.range 96).foldl (fun t k => tabSet 0 t k (BitVec.ofNat 32 (chargePc (tabGet 0 s.wsa.charge k)))) [] }

/-- The predicted charge of a slot, latched, in pC. -/
def State.qpred (s : State) (g i : Nat) : Nat := (tabGet 0 s.wsa.qpred (chargeKey g i)).toNat

end Sys2Proof.Machine
end

