-- ==== Sys2Proof/Machine/Rails.lean ====
section
/-! DEFINITION. The rail controller (R224 to R250): slots and their sequencing, samples and the control loop, reactions, FAULT_N,
the input supply, feed-forward. -/

namespace Sys2Proof.Machine

/-! ### What the live set says of a slot (R251) -/

def State.rf (s : State) (g i r lo n : Nat) : Nat := s.liveF (slotOff g i r) lo n
def State.slotSense (s : State) (g i : Nat) : Bool := decide (s.rf g i 0 2 1 = 1)
def State.slotMask (s : State) (g i : Nat) : List Nat := (List.range 12).filter fun k => decide (bits (s.live (slotOff g i 4)) k 1 = 1)
def State.setpt (s : State) (g i : Nat) : Int := sext 16 (s.rf g i 8 0 16)
def State.vfs (s : State) (g i : Nat) : Int := sext 16 (s.rf g i 8 16 16)
/-- RAMP in cycles. -/
def State.rampC (s : State) (g i : Nat) : Nat := usC (s.rf g i 0x18 0 16)
/-- Whether the voltage of a slot is judged: an internal slot, or an external one with SENSE_EN (R224). -/
def State.sensed (s : State) (g i : Nat) : Bool := !s.slotExt g i || s.slotSense g i
/-- UNIT of a slot in events (R338). -/
def slotUnit (g i : Nat) : Nat := g * 16 + i
/-- Offset of a counter of a slot. -/
def slotCnt (g i r : Nat) : Nat := baseRail g + i * 0x80 + r

/-- Apply a change to a slot. -/
def State.modSlot (s : State) (g i : Nat) (f : Slot → Slot) : State := s.setSlot g i (f (s.slot g i))
/-- Apply a change to a group. -/
def State.modGroup (s : State) (g : Nat) (f : Group → Group) : State := s.setGroup g (f (s.group g))

/-! ### Status (R250) -/

def GState.code : GState → Nat
  | .disabled => 0
  | .off => 1
  | .starting => 2
  | .up => 3
  | .stopping => 4
  | .tripped => 5

def SState.code : SState → Nat
  | .off => 0
  | .waitDep => 1
  | .ramp => 2
  | .qualify => 3
  | .good => 4
  | .retry => 5
  | .discharge => 6

/-- R250: the GOOD bits. -/
def State.goodBits (s : State) (g : Nat) : Nat :=
  ((List.range 12).map fun i =>
    let x := (s.slot g i).state
    if x = .good ∨ x = .retry then 2 ^ i else 0).sum

/-- R250: a warning within the last 1 s. -/
def State.warnedLately (s : State) (g i : Nat) : Bool := (s.slot g i).warnAt.any fun t => decide (s.clk < t + msC 1000)

/-- R239, R251: WARN of RG_SLOTs.STAT: a warning within the last 1 s, or timed out under IGNORE. -/
def State.slotWarn (s : State) (g i : Nat) : Bool := (s.slot g i).ignored || s.warnedLately g i

/-- R250: the words of a group. -/
def State.railShow (s : State) (g : Nat) : State :=
  let x := s.group g
  let w := x.state.code + x.trip * 8 + b2n (x.withheld ≠ []) * 64 + b2n x.upPending * 128 + s.goodBits g * 256
  (List.range 12).foldl (fun st i =>
    let y := s.slot g i
    st.swinPut ((0x400 + g * 0x40) / 4 + 1 + i)
      (toField 16 y.v + y.state.code * 65536 + b2n (s.warnedLately g i) * 524288 + min (y.i / 2) 4095 * 1048576))
    (s.swinPut ((0x400 + g * 0x40) / 4) w)

/-- R250: the input supply word. -/
def State.vinShow (s : State) : State :=
  s.swinPut (0x600 / 4) (s.rc.vin % 65536 + b2n s.rc.vinLow * 65536 + b2n s.rc.collapsed * 131072 + b2n (!s.rc.fnLine) * 262144)

/-- R250: every rail word. -/
def State.railShowAll (s : State) : State := (List.range 8).foldl State.railShow s.vinShow

/-! ### The set point (R234, R235, R251) -/

/-- The set point of a slot's ramp now: exact where it is a whole number of mV, else one of the two next to it (a free value;
the spec states no rounding). -/
def State.spNow (s : State) (x : Slot) : Int × State :=
  let t := s.clk - x.rampAt
  if x.rampDur ≤ t then (x.rampTo, s)
  else
    let d := (x.rampTo - x.rampFrom) * t
    if d % x.rampDur = 0 then (x.rampFrom + d / x.rampDur, s)
    else let r := s.draw 2; (x.rampFrom + d / x.rampDur + r.1, r.2)

/-- R230: outside ramping, qualifying and GOOD, the loop is cleared and DRV is low. -/
def Slot.quiet (x : Slot) : Slot := { x with drv := false, integ := 0, duty := 0, carry := 0, ff := 0, high := 0, stopRamp := false }

/-- R424: every DRV ball is held low: in BOOT, in SAFE, and in a reset whose rails have been taken down. -/
def State.drvHeld (s : State) : Bool :=
  decide (s.pwr.state = .boot) || decide (s.pwr.state = .safe) || s.glb.entry.any fun e => decide (3 ≤ e.stage)

/-- R234: a slot leaves WAIT_DEP, or begins a retry's ramp: an internal slot ramps, an external one raises its enable. -/
def State.startSlot (s : State) (g i : Nat) : State :=
  let x := s.slot g i
  let retry := decide (x.state = .retry)
  if s.drvHeld then s
  else
  let y := { x with left := s.clk, mark := s.clk, drv := true, stopRamp := false, ignored := false }
  if s.slotExt g i then s.setSlot g i { y with state := if retry then .retry else .qualify, phase := .qualify }
  else s.setSlot g i { y with state := if retry then .retry else .ramp, phase := .ramp
                              rampFrom := 0, rampTo := s.setpt g i, rampAt := s.clk, rampDur := s.rampC g i }

/-- R251: a set point committed anew: a running slot slews to it at its ramp rate. -/
def State.slewSlot (s : State) (g i : Nat) : State :=
  let x := s.slot g i
  let new := s.setpt g i
  if x.drv ∧ !x.stopRamp ∧ x.rampTo ≠ new ∧ !s.slotExt g i then
    let sp := s.spNow x
    sp.2.setSlot g i { x with rampFrom := sp.1, rampTo := new, rampAt := s.clk
                              rampDur := cdiv ((new - sp.1).natAbs * s.rampC g i) (max 1 new.natAbs) }
  else s

/-! ### Power-up (R234, R236, R246, R249) -/

/-- R234: the group becomes UP when every enabled slot is GOOD. -/
def State.checkUp (s : State) (g : Nat) : State :=
  if (s.group g).state = .starting ∧ (s.enSlots g).all fun i => decide ((s.slot g i).state = .good) then
    (s.modGroup g fun x => { x with state := .up }).count (baseRail g + 0x40)
  else s

/-- R234, R242: a power-up starts. -/
def State.startGroup (s : State) (g : Nat) : State :=
  let s1 := s.modGroup g fun x => { x with state := .starting, trip := 0, upPending := false, autoUp := false }
  let s2 := (s.enSlots g).foldl (fun st i => st.modSlot g i fun x => { x with state := .waitDep }) s1
  ((s2.enSlots g).foldl (fun st i => if st.slotMask g i = [] then st.startSlot g i else st) s2).checkUp g

/-- R246: FAULT_N has been high for REARM. -/
def State.fnHigh (s : State) : Bool :=
  s.rc.fnLine && decide (s.rc.fnSince + usC (s.liveF 0x30E0C 16 16 * 10) ≤ s.clk)

/-- R391, R424: no power-up starts while DRV is held low, nor once a reset has been triggered. -/
def State.railsBarred (s : State) : Bool := s.drvHeld || s.glb.entry.isSome

/-- R236, R246, R248, R249: whether a held or automatic power-up of a group may start now. -/
def State.mayStart_ (s : State) (g : Nat) : Bool :=
  let x := s.group g
  let tripped := decide (x.state = .tripped)
  let fn := s.fnHigh || (!tripped && !s.liveB (baseRail g + 4) 1)
  (tripped || decide (x.state = .off)) && fn && !s.rc.vinLow && !s.railsBarred &&
    (!tripped || decide (x.tripAt + msC (s.liveF (baseRail g + 0x14) 0 10) ≤ s.clk))

/-- R236, R246, R249: start a group that is asked to, once every condition holds. -/
def State.tryStart (s : State) (g : Nat) : State :=
  let x := s.group g
  let wanted := x.upPending || (x.autoRestart && x.autoUp && decide (x.state = .tripped))
  if wanted && s.mayStart_ g then (s.startGroup g).railShow g else s

def State.tryStartAll (s : State) : State := (List.range 8).foldl State.tryStart s

/-! ### Shutdown (R235, R242, R243) -/

/-- R235: every slot is OFF: the group is OFF, or TRIPPED where a cause is recorded. -/
def State.checkOff (s : State) (g : Nat) : State :=
  let x := s.group g
  if x.state = .stopping ∧ (s.enSlots g).all fun i => decide ((s.slot g i).state = .off) then
    if x.trip = 0 then s.setGroup g { x with state := .off }
    else
      let s1 := (s.setGroup g { x with state := .tripped, tripAt := s.clk }).count (baseRail g + 0x44)
      { s1 with glb.odo.groupTrips := tabMod 0 s1.glb.odo.groupTrips g (· + 1) }
  else s

/-- R235: a slot enters DISCHARGE: an internal one ramps to 0 from where its set point stands, unless a fault has driven its
DRV low; an external one drops its enable. -/
def State.dischargeSlot (s : State) (g i : Nat) : State :=
  let x := s.slot g i
  if s.slotExt g i ∨ !x.drv then s.setSlot g i { x.quiet with state := .discharge, mark := s.clk }
  else
    let sp := s.spNow x
    sp.2.setSlot g i { x with state := .discharge, mark := s.clk, stopRamp := true, rampFrom := sp.1, rampTo := 0, rampAt := s.clk
                              rampDur := s.rampC g i }

/-- R235: a slot of a stopping group enters DISCHARGE once every enabled slot whose MASK names it is OFF. -/
def State.stopScan (s : State) (g : Nat) : State :=
  ((s.enSlots g).foldl (fun st i =>
    let x := (st.slot g i).state
    let free := (st.enSlots g).all fun k => !(st.slotMask g k).contains i || decide ((s.slot g k).state = .off)
    if x ≠ .off ∧ x ≠ .discharge ∧ free ∧ (st.group g).state = .stopping then st.dischargeSlot g i else st) s).checkOff g

/-- R242: rank of a cause among causes of one CLK_PER cycle. -/
def causeRank (c : Nat) : Nat := [99, 3, 4, 5, 6, 1, 0, 2].getD c 99

/-- R242: whether a cause is recorded: the first one, or one that goes before it in the same CLK_PER cycle. -/
def Group.takesCause (x : Group) (c now : Nat) : Bool :=
  decide (c ≠ 0) && (decide (x.trip = 0) || (decide (x.causeAt / 4 = now / 4) && decide (causeRank c < causeRank x.trip)))

/-- R58, R129, R243: a group's tiles lose their rails by a fault. -/
def State.railFault (s : State) (g : Nat) : State :=
  { s with
    sch.events := s.sch.events ++ [VoidEv.railFault g]
    film.toUnknown := s.film.toUnknown ++ ((List.range 1024).filter fun i => decide (s.tileRg i = g) && s.inMap i).map fun i => (i, true) }

/-- R242: record the cause of a shutdown that runs. -/
def State.noteCause (s : State) (g c : Nat) : State :=
  let x := s.group g
  if x.takesCause c s.clk then
    let s1 := s.setGroup g { x with trip := c, causeAt := s.clk }
    if c ≤ 6 then s1.railFault g else s1
  else s

/-- R235, R242, R246: a group that is STARTING or UP shuts down; slots still in WAIT_DEP never start. One that is STOPPING keeps on, and
records the cause; with FAULT_N recorded it may start again by itself. -/
def State.shutGroup (s : State) (g c : Nat) : State :=
  let x := s.group g
  if x.state = .starting ∨ x.state = .up then
    let auto := decide (c = 4) || decide (c = 5) || decide (c = 6)
    let s1 := (s.setGroup g { x with state := .stopping, autoUp := auto }).noteCause g c
    let s2 := (s1.enSlots g).foldl (fun st i =>
      if (st.slot g i).state = .waitDep then st.modSlot g i fun y => { y with state := .off } else st) s1
    (s2.stopScan g).railShow g
  else if x.state = .stopping then
    let s1 := s.noteCause g c
    if x.takesCause c s.clk then
      s1.modGroup g fun y => { y with autoUp := decide (c = 4) || (x.autoUp && (decide (c = 5) || decide (c = 6))) }
    else s1
  else s

/-! ### FAULT_N (R244) -/

/-- R244, R245: whether the device may drive FAULT_N for a group: not while a reset is held, and never for a group that shuts
down for FAULT_N. -/
def State.mayDrive (s : State) (g : Nat) : Bool :=
  decide ((s.group g).trip ≠ 4) && !s.glb.entry.any fun e => decide (4 ≤ e.stage)

/-- R244: the device drives FAULT_N low for a group. -/
def State.assertFn (s : State) (g : Nat) : State :=
  let s1 := if s.mayDrive g then s.modGroup g fun x => { x with fnCause := true } else s
  if s1.rc.fnDriving ∨ !s.mayDrive g then s1
  else
    let s2 := { s1 with rc.fnDriving := true, rc.fnDriveStart := s1.clk, rc.fnReleased := none }
    (if s2.rc.fnLine then { s2 with rc.fnLine := false, rc.fnSince := s2.clk, rc.fnLowAt := s2.clk, rc.fnEvent := false } else s2).count
      0x30E48 |>.vinShow

/-! ### Reactions (R239, R240) -/

/-- R239: the slot's DRV goes low at once. -/
def State.killSlot (s : State) (g i : Nat) : State :=
  s.modSlot g i fun x => { x.quiet with mark := if x.state = .discharge then s.clk else x.mark }

/-- R239: the reaction a slot takes: RETRY_RAIL becomes GROUP_OFF beyond RETRY_MAX (R240). -/
def State.reaction (s : State) (g i : Nat) : Nat :=
  let r := s.rf g i 0 7 2
  if r = 1 ∧ s.rf g i 0 9 4 ≤ (s.slot g i).retries then 2 else r

/-- R239: IGNORE: a slot that timed out (cause 2) counts as GOOD. -/
def State.reactIgnore (s : State) (g i c : Nat) : State :=
  if c = 2 then (s.modSlot g i fun x => { x with state := .good, ignored := true, goodSince := s.clk }).checkUp g else s

/-- R240: RETRY_RAIL: the slot alone restarts. -/
def State.reactRetry (s : State) (g i : Nat) : State :=
  let x := s.slot g i
  ((s.setSlot g i { x.quiet with state := .retry, phase := .offTime, mark := s.clk, retries := x.retries + 1 }).count
    (slotCnt g i 0x160)).log 163 (slotUnit g i) (x.retries + 1) 0

/-- R239, R240: GROUP_OFF for a slot's fault or timeout, or for a retry beyond RETRY_MAX. -/
def State.reactOff (s : State) (g i c : Nat) : State :=
  let s1 := s.shutGroup g (if s.rf g i 0 7 2 = 1 then 3 else c)
  if s1.liveB (baseRail g + 4) 0 then s1.assertFn g else s1

/-- R239: SYSTEM_RESET: every group shuts down, and the warm reset begins. -/
def State.reactReset (s : State) (g i : Nat) : State :=
  let s1 := ((List.range 8).foldl (fun st k => st.shutGroup k 7) s).assertFn g
  (({ s1 with rc.sysReset := s1.rc.sysReset.or (some (s1.clk, slotUnit g i)) }).beginReset 8 (slotUnit g i)).railShowAll

/-- R239, R240: the slots `is` of a group take their reactions to a fault (cause 1) or a timeout (cause 2) of one sample. In a slot
in DISCHARGE only DRV goes low. Of the others' reactions the group takes the most severe; a slot whose own reaction is not IGNORE
has its DRV low at once under GROUP_OFF and SYSTEM_RESET (DEDUCED, assumption 65). -/
def State.react (s : State) (g : Nat) (is : List Nat) (c : Nat) : State :=
  let act := is.filter fun i => decide ((s.slot g i).state ≠ .discharge)
  let worst := (act.map (s.reaction g)).foldl max 0
  let own := act.filter fun i => decide (s.reaction g i = worst)
  let dark := is.filter fun i => decide ((s.slot g i).state = .discharge) || (decide (2 ≤ worst) && decide (s.reaction g i ≠ 0))
  let s1 := dark.foldl (fun st i => st.killSlot g i) s
  (own.foldl (fun st i =>
    if worst = 0 then st.reactIgnore g i c
    else if worst = 1 then st.reactRetry g i
    else if worst = 2 then st.reactOff g i c
    else st.reactReset g i) s1).railShow g

/-- R229, R408: a fault of class `cls` counts at `r` and is logged with its slot's reaction. -/
def State.slotFault (s : State) (g i cls r : Nat) : State :=
  let s1 := s.count (slotCnt g i r)
  let s2 := { s1 with glb.odo.slotFaults := tabMod 0 s1.glb.odo.slotFaults (g * 12 + i) (· + 1) }
  s2.log 161 (slotUnit g i) cls (s2.reaction g i)

/-- R229: a warning. -/
def State.slotWarning (s : State) (g i cls r : Nat) (reading : Int) : State :=
  ((s.modSlot g i fun x => { x with warnAt := some s.clk }).count (slotCnt g i r)).log 160 (slotUnit g i) cls (toField 32 reading)

/-! ### Samples and the control loop (R227 to R230, R426) -/

/-- R426: the code of a ball at `u` µV, the nearest of 0 to 4,095; halfway between two codes the upper one (DESIGN CHOICE, assumption 166). -/
def adcCode (u : BitVec 32) : Nat := (clampInt 0 4095 (Int.fdiv (sext 32 u.toNat * 4095 + 600000) 1200000)).toNat

/-- R228: where |V| lies: below and above |SETPT| by more than W × 0.1 %, exactly. -/
def State.outside (s : State) (g i v w : Nat) : Bool × Bool :=
  let x := v * (s.vfs g i).natAbs * 1000
  let sp := (s.setpt g i).natAbs * 4095
  (decide (x < sp * (1000 - w)), decide (sp * (1000 + w) < x))

/-- R234: the condition of QUALIFY. -/
def State.qualified (s : State) (g i v : Nat) (pgood : Bool) : Bool :=
  let o := s.outside g i v (s.rf g i 0xC 0 8)
  (!s.slotExt g i || pgood) && (!s.sensed g i || (!o.1 && !o.2))

/-- A run of samples. -/
def runOn (b : Bool) (n : Nat) : Nat := if b then n + 1 else 0

/-- A signed quotient: exact, or one of the two whole numbers next to it (a free value; no rounding is stated). -/
def freeDiv (a : Int) (b : Nat) (free : Nat) : Int := a / b + (if a % b = 0 then 0 else ((free % 2 : Nat) : Int))

/-- R230: one period of the control loop at VSNS code `v` and set point `sp`. -/
def State.loopStep (s : State) (g i v : Nat) (sp : Int) (x : Slot) : Slot :=
  let vf := (s.vfs g i).natAbs
  let t := (sp.natAbs * 4095 + vf / 2) / max 1 vf
  let e : Int := (t : Int) - v
  let dmax := s.rf g i 0x24 0 12
  let hold := (decide (x.duty = dmax) && decide (0 < e)) || (decide (x.duty = 0) && decide (e < 0))
  let integ := if hold then x.integ else clampInt (-134217728) 134217727 (x.integ + (s.rf g i 0x20 16 16 : Int) * e)
  let duty := (clampInt 0 dmax (Int.fdiv ((s.rf g i 0x20 0 16 : Int) * e + integ) 4096 + x.ff)).toNat
  let on := duty * s.rf g i 0x24 16 12 + x.carry
  { x with integ := integ, duty := duty, carry := on % 4096, high := on / 4096 }

/-- R228, R229: the runs of a slot after a sample. Under-voltage and power-good are judged while the slot is GOOD. -/
def State.runsOf (s : State) (g i v cur : Nat) (pgood : Bool) (x : Slot) : Slot :=
  let good := decide (x.state = .good)
  let live := decide (x.state = .good) || decide (x.state = .ramp) || decide (x.state = .qualify) || decide (x.state = .discharge) ||
    (decide (x.state = .retry) && decide (x.phase ≠ .offTime))
  let volt := live && s.sensed g i
  let amp := live && !s.slotExt g i
  let wn := s.outside g i v (s.rf g i 0xC 8 8)
  let ft := s.outside g i v (s.rf g i 0xC 16 8)
  let above (lim : Nat) : Bool := decide (lim * 4095 < cur * s.rf g i 0x14 0 16)
  { x with
    uvwRun := runOn (volt && good && wn.1) x.uvwRun, ovwRun := runOn (volt && wn.2) x.ovwRun
    ocwRun := runOn (amp && above (s.rf g i 0x10 0 16)) x.ocwRun
    uvfRun := runOn (volt && good && ft.1) x.uvfRun, ovfRun := runOn (volt && ft.2) x.ovfRun
    ocfRun := runOn (amp && above (s.rf g i 0x10 16 16)) x.ocfRun
    pgRun := runOn (s.slotExt g i && good && !pgood) x.pgRun }

/-- R228: the faults whose runs a sample completes: the class and the counter of each. -/
def State.faultsOf (s : State) (g i : Nat) : List (Nat × Nat) :=
  let x := s.slot g i
  [(x.uvfRun, 0, 0x14C), (x.ovfRun, 1, 0x150), (x.ocfRun, 2, 0x154), (x.pgRun, 0, 0x14C)].filterMap fun f =>
    if f.1 = s.rf g i 0 16 8 then some f.2 else none

/-- R229: the warnings and faults that a sample completes; of several faults of one sample each is logged and counted. -/
def State.judge (s : State) (g i : Nat) : State :=
  let x := s.slot g i
  let warn (st : State) (run cls r : Nat) (a : Int) : State := if run = s.rf g i 0 24 8 then st.slotWarning g i cls r a else st
  let s1 := warn (warn (warn s x.uvwRun 0 0x140 x.v) x.ovwRun 1 0x144 x.v) x.ocwRun 2 0x148 x.i
  (s.faultsOf g i).foldl (fun st f => st.slotFault g i f.1 f.2) s1

/-- R234: what a sample says of the condition of QUALIFY. A slot that is qualifying counts CHATTER at a loss of it, and its return
restarts the time. -/
def State.qualifySample (s : State) (g i v : Nat) (pgood : Bool) : State :=
  let x := s.slot g i
  let out := !s.qualified g i v pgood
  let runs := decide (x.state = .qualify) || (decide (x.state = .retry) && decide (x.phase = .qualify))
  let s1 := s.setSlot g i { x with wasOut := out, mark := if runs && x.wasOut && !out then s.clk else x.mark }
  if runs && out && !x.wasOut then s1.count (slotCnt g i 0x158) else s1

/-- R235: a slot is OFF once |V| is at most 10 % of |SETPT| (DEDUCED, assumption 64: judged from the end of its ramp-down on); the
next slots of the shutdown may follow. -/
def State.slotOff_ (s : State) (g i : Nat) : State :=
  ((s.modSlot g i fun x => { x.quiet with state := .off }).stopScan g).railShow g

/-- R227, R228, R230, R234: a slot takes its sample: its readings, its runs, one period of its loop, the condition of QUALIFY. -/
def State.takeSample (s : State) (g : Nat) (p : RailSample) : State :=
  let k := p.slot.val
  let x := s.slot g k
  let mv := if s.sensed g k then freeDiv (s.vfs g k * p.v.toNat) 4095 s.freeVal else x.v
  let ma := if s.slotExt g k then (x.i : Int) else freeDiv ((p.i.toNat * s.rf g k 0x14 0 16 : Nat) : Int) 4095 (s.freeVal / 2)
  let y := s.runsOf g k p.v.toNat p.i.toNat p.pgood { x with sampleAt := s.clk, v := mv, i := ma.toNat, pgood := p.pgood }
  let s1 := s.bump.setSlot g k y
  let s2 := if !s.slotExt g k && y.drv then
      let sp := s1.spNow y
      sp.2.setSlot g k (s1.loopStep g k p.v.toNat sp.1 y)
    else s1
  s2.qualifySample g k p.v.toNat p.pgood

/-- R235: a slot past its ramp-down whose sample lies at most 10 % of |SETPT| from 0 is OFF. -/
def State.offSample (s : State) (g : Nat) (p : RailSample) : State :=
  let k := p.slot.val
  let x := s.slot g k
  if x.state = .discharge ∧ !x.stopRamp ∧ s.sensed g k ∧ p.v.toNat * (s.vfs g k).natAbs * 10 ≤ (s.setpt g k).natAbs * 4095 then s.slotOff_ g k
  else s

/-- The samples of one moment, slot by slot; a slot for which a value is missing gives none. -/
def railSamples : List (Fin 12) → List (BitVec 32) → List (BitVec 32) → List Bool → List RailSample
  | k :: ks, v :: vs, i :: is, pg :: pgs => ⟨k, BitVec.ofNat 12 (adcCode v), BitVec.ofNat 12 (adcCode i), pg⟩ :: railSamples ks vs is pgs
  | _, _, _, _ => []

/-- RAIL_PWM_PERIOD (R227 to R230, R235, R239): the enabled slots of a group that are sampled at one moment, each PWMDIV cycles of
CLK_PER after its last sample, with the voltages at their VSNS and ISNS balls in µV; the slots with a fault take their reactions
together. -/
def execRailPwmPeriod (g : Fin 8) (slots : List (Fin 12)) (v amps : List (BitVec 32)) (pgood : List Bool) (s : State) :
    Host.Outcome State Fault Refusal :=
  let samples := railSamples slots v amps pgood
  let ps := (List.range 12).filterMap fun k => if s.slotEn g.val k then samples.find? fun p => decide (p.slot.val = k) else none
  let at_ := (ps.map fun p => (s.slot g.val p.slot.val).sampleAt + 4 * s.rf g.val p.slot.val 0x24 16 12).foldl max 0
  let s1 := ps.foldl (fun st p => st.takeSample g.val p) (s.advanceTo at_)
  let faulty := (ps.map fun p => p.slot.val).filter fun k => !(s1.faultsOf g.val k).isEmpty
  let s2 := ps.foldl (fun st p => st.judge g.val p.slot.val) s1
  .next (ps.foldl (fun st p => st.offSample g.val p) (if faulty.isEmpty then s2 else s2.react g.val faulty 1))

/-! ### Timers of a slot (R234, R235, R240) -/

/-- R234: every slot that the mask of a slot names is GOOD, and since when. -/
def State.depsSince (s : State) (g i : Nat) : Option Nat :=
  if (s.slotMask g i).all fun k => decide ((s.slot g k).state = .good) then
    some (((s.slotMask g i).map fun k => (s.slot g k).goodSince).foldl max 0)
  else none

/-- DEP_DELAY_EXPIRE (R234). -/
def execDepDelayExpire (g : Fin 8) (s : Fin 12) (st : State) : Host.Outcome State Fault Refusal :=
  match st.depsSince g.val s.val with
  | some t =>
    if (st.slot g.val s.val).state = .waitDep then
      .next (((st.advanceTo (t + usC (st.rf g.val s.val 4 16 16))).startSlot g.val s.val).railShow g.val)
    else .next st
  | none => .next st

/-- RAMP_END (R234, R235): the ramp is over: the slot qualifies; a ramp-down ends with DRV low. -/
def execRampEnd (g : Fin 8) (s : Fin 12) (st : State) : Host.Outcome State Fault Refusal :=
  let x := st.slot g.val s.val
  let s1 := st.advanceTo (x.rampAt + x.rampDur)
  if x.state = .ramp ∨ (x.state = .retry ∧ x.phase = .ramp) then
    .next ((s1.setSlot g.val s.val { x with
      state := if x.state = .ramp then .qualify else .retry, phase := .qualify, mark := s1.clk }).railShow g.val)
  else if x.state = .discharge ∧ x.stopRamp then
    .next (s1.setSlot g.val s.val { x.quiet with mark := s1.clk })
  else .next st

/-- QUALIFY_DONE (R234, R240): QUAL has passed in window: the slot is GOOD. -/
def execQualifyDone (g : Fin 8) (s : Fin 12) (st : State) : Host.Outcome State Fault Refusal :=
  let x := st.slot g.val s.val
  if (x.state = .qualify ∨ (x.state = .retry ∧ x.phase = .qualify)) ∧ !x.wasOut then
    let s1 := st.advanceTo (x.mark + usC (st.rf g.val s.val 0x18 16 16))
    .next (((s1.setSlot g.val s.val { x with state := .good, goodSince := s1.clk }).checkUp g.val).railShow g.val)
  else .next st

/-- RAIL_TIMEOUT (R234): TIMEOUT × 10 µs have passed since the slot left WAIT_DEP or began its retry's ramp. -/
def execRailTimeout (g : Fin 8) (s : Fin 12) (st : State) : Host.Outcome State Fault Refusal :=
  let x := st.slot g.val s.val
  if x.state = .ramp ∨ x.state = .qualify ∨ (x.state = .retry ∧ x.phase ≠ .offTime) then
    let s1 := (st.advanceTo (x.left + usC (st.rf g.val s.val 0x1C 0 16 * 10))).count (slotCnt g.val s.val 0x15C)
    let s2 := { s1 with glb.odo.slotFaults := tabMod 0 s1.glb.odo.slotFaults (g.val * 12 + s.val) (· + 1) }
    .next ((s2.log 162 (slotUnit g.val s.val) 0 (s2.reaction g.val s.val)).react g.val [s.val] 2)
  else .next st

/-- RETRY_OFF_EXPIRE (R240): after 1 ms with DRV low the slot ramps again. -/
def execRetryOffExpire (g : Fin 8) (s : Fin 12) (st : State) : Host.Outcome State Fault Refusal :=
  let x := st.slot g.val s.val
  if x.state = .retry ∧ x.phase = .offTime then .next ((st.advanceTo (x.mark + msC 1)).startSlot g.val s.val) else .next st

/-- RETRIES_CLEAR (R240): 1 s GOOD without a break. -/
def execRetriesClear (g : Fin 8) (s : Fin 12) (st : State) : Host.Outcome State Fault Refusal :=
  let x := st.slot g.val s.val
  if x.state = .good then
    let s1 := st.advanceTo (x.goodSince + msC 1000)
    .next (s1.setSlot g.val s.val { x with retries := 0 })
  else .next st

/-- EXTERNAL_SLOT_OFF_TIMER (R235). -/
def execExternalSlotOffTimer (g : Fin 8) (s : Fin 12) (st : State) : Host.Outcome State Fault Refusal :=
  let x := st.slot g.val s.val
  if x.state = .discharge ∧ !st.sensed g.val s.val then .next ((st.advanceTo (x.mark + msC 1)).slotOff_ g.val s.val) else .next st

/-- OFFTMO_EXPIRE (R235): a slot still above 10 % OFFTMO × 10 µs after its DRV went low is counted and taken as OFF. -/
def execOfftmoExpire (g : Fin 8) (s : Fin 12) (st : State) : Host.Outcome State Fault Refusal :=
  let x := st.slot g.val s.val
  if x.state = .discharge ∧ !x.stopRamp then
    .next (((st.advanceTo (x.mark + usC (st.rf g.val s.val 0x1C 16 16 * 10))).count (slotCnt g.val s.val 0x164)).slotOff_ g.val s.val)
  else .next st

/-! ### Feed-forward (R231, R232) -/

/-- R231: load what waits into the loops of a group. -/
def State.loadFf (s : State) (g : Nat) : State :=
  (List.range 12).foldl (fun st i => st.modSlot g i fun x => match x.ffNext with
    | some f => { x with ff := if x.drv then f else 0, ffNext := none }
    | none => x) s

/-- R231: wall time at which the feed-forward of flip N + 1 is loaded, in ns. -/
def State.ffTime (s : State) (g : Nat) : Nat := s.flipTime (s.time.wfn + 1) - s.liveF (baseRail g + 4) 16 10 * 1000

/-- FF_LOAD (R231): PRELEAD µs before the flip. -/
def execFfLoad (g : Fin 8) (s : State) : Host.Outcome State Fault Refusal :=
  if (List.range 12).any fun i => (s.slot g.val i).ffNext.isSome then .next ((s.advanceWall (s.ffTime g.val)).loadFf g.val)
  else .next s

/-- R89, R231, R232: the RC takes a group's prediction: above RG_QLIM it is scaled, counted and logged; the terms are loaded at
PRELEAD before the flip, or at once when that has passed. -/
def State.takePrediction (s : State) (g : Nat) : State :=
  let total := ((s.enSlots g).map (s.qpred g)).sum
  let lim := s.live (baseRail g + 0x10)
  let above := decide (lim < total)
  let s1 := if above then ((s.count (baseRail g + 0x48)).count (baseWsa + 0x124)).log 164 g (min total 0xFFFFFFFF) lim else s
  let p := s.frameLen (s.time.wfn + 1)
  let s2 := (s1.enSlots g).foldl (fun st i =>
    let role := st.slotRole g i
    if st.slotExt g i ∨ role = 0 ∨ 9 < role then st
    else
      let q := if above then s.qpred g i * lim / total else s.qpred g i
      st.modSlot g i fun x => { x with ffNext := some (q * st.rf g i 0x28 0 16 / (256 * p)) }) s1
  if s2.ffTime g ≤ s2.nowNs then s2.loadFf g else s2

/-! ### FAULT_N (R244 to R246) -/

/-- FAULT_N_RELEASE (R244). -/
def execFaultNRelease (s : State) : Host.Outcome State Fault Refusal :=
  let causing := (List.range 8).filter fun g => (s.group g).fnCause
  if s.rc.fnDriving && causing.all fun g => decide ((s.group g).state = .tripped) then
    let s1 := s.advanceTo (s.rc.fnDriveStart + usC (s.liveF 0x30E0C 0 16 * 10))
    let s2 := { s1 with rc.fnDriving := false, rc.fnReleased := some s1.clk, rc.fnLine := true, rc.fnSince := s1.clk }
    .next (causing.foldl (fun st g => st.modGroup g fun x => { x with fnCause := false }) s2).vinShow
  else .next s

/-- FAULT_N_RELEASE_SAMPLE (R245): 5 µs after the release. -/
def execFaultNReleaseSample (low : Bool) (s : State) : Host.Outcome State Fault Refusal :=
  match s.rc.fnReleased with
  | some t =>
    let s1 := s.advanceTo (t + usC 5)
    if low then
      .next ((({ s1 with rc.fnReleased := none, rc.fnLine := false, rc.fnSince := s1.rc.fnLowAt, rc.fnExternal := true }).log 165 noUnit 0 0).vinShow)
    else .next { s1 with rc.fnReleased := none }
  | none => .next s

/-- FAULT_N_EVENT (R245): low for 2 µs since the cycle `since`. One low level is one event. -/
def execFaultNEvent (since : Nat) (s : State) : Host.Outcome State Fault Refusal :=
  let s1 := s.advanceTo (since + usC 2)
  let s2 := if s1.rc.fnLine then { s1 with rc.fnLine := false, rc.fnSince := since, rc.fnLowAt := since, rc.fnEvent := false } else s1
  if s2.rc.fnEvent then .next s2
  else
    let s3 := ({ s2 with rc.fnEvent := true }).count 0x30E4C
    .next (((List.range 8).foldl (fun st g =>
      if st.liveB (baseRail g + 4) 1 then st.shutGroup g 4 else st) s3).vinShow)

/-- FAULT_N_STUCK (R245): low for more than 1 s; one low level is logged once. -/
def execFaultNStuck (s : State) : Host.Outcome State Fault Refusal :=
  if s.rc.fnLine ∨ s.rc.fnStuckLow = some s.rc.fnLowAt then .next s
  else .next (({ s.advanceTo (s.rc.fnLowAt + msC 1000) with rc.fnStuck := true, rc.fnStuckLow := some s.rc.fnLowAt }).log 166 noUnit 0 0)

/-- FAULT_N_REARM (R246): the line has been high for REARM: groups that wait may start. -/
def execFaultNRearm (s : State) : Host.Outcome State Fault Refusal :=
  if s.rc.fnDriving then .next s
  else
    let rearm := usC (s.liveF 0x30E0C 16 16 * 10)
    let s1 := if s.rc.fnLine then s.advanceTo (s.rc.fnSince + rearm)
      else { s with rc.fnLine := true, rc.fnSince := s.clk - rearm, rc.fnEvent := false }
    .next s1.vinShow.tryStartAll

/-- MINOFF_EXPIRE (R236). -/
def execMinoffExpire (g : Fin 8) (s : State) : Host.Outcome State Fault Refusal :=
  let x := s.group g.val
  if x.state = .tripped then
    .next ((s.advanceTo (x.tripAt + msC (s.liveF (baseRail g.val + 0x14) 0 10))).tryStart g.val)
  else .next s

/-- HELD_UP_START (R236). -/
def execHeldUpStart (g : Fin 8) (s : State) : Host.Outcome State Fault Refusal := .next (s.tryStart g.val)

/-! ### Input supply (R247 to R249) -/

/-- R247: FS, LOW, OK, COLL in force. -/
def State.vinFs (s : State) : Nat := s.liveF 0x30E00 0 16
def State.vinOk (s : State) : Nat := s.liveF 0x30E00 16 16
def State.vinLowTh (s : State) : Nat := s.liveF 0x30E04 0 16
def State.vinColl (s : State) : Nat := s.liveF 0x30E04 16 16

/-- R247, R426: VIN_MON is converted with `u` µV at its ball: the code stands for a share of FS. -/
def State.convertVin (s : State) (u : BitVec 32) : State :=
  { s.bump with rc.vin := (freeDiv ((adcCode u * s.vinFs : Nat) : Int) 4095 s.freeVal).toNat }

/-- R247: whether the code of `u` µV lies below a threshold in mV, exactly. -/
def State.vinBelow (s : State) (u : BitVec 32) (mv : Nat) : Bool := decide (adcCode u * s.vinFs < mv * 4095)

/-- VIN_LOW (R247, R248): 8 samples below LOW, the last with `u` µV at the ball. -/
def execVinLow (u : BitVec 32) (s : State) : Host.Outcome State Fault Refusal :=
  if s.vinFs = 0 then .next s
  else
    let s1 := s.convertVin u
    if s.vinBelow u s.vinLowTh && !s.rc.vinLow then
      let s2 := ({ s1 with rc.vinLow := true, glb.odo.vinLow := s1.glb.odo.vinLow + 1 }).count 0x30E40
      .next (((List.range 8).foldl (fun st g => st.shutGroup g 5) (s2.log 167 noUnit s2.rc.vin 0)).vinShow)
    else .next s1

/-- VIN_RETURN (R247, R248): 8 samples at or above OK, the last with `u` µV at the ball. -/
def execVinReturn (u : BitVec 32) (s : State) : Host.Outcome State Fault Refusal :=
  if s.vinFs = 0 then .next s
  else
    let s1 := s.convertVin u
    if !s.vinBelow u s.vinOk && (s.rc.vinLow || s.rc.collapsed) then
      .next ((({ s1 with rc.vinLow := false, rc.collapsed := false }).log 168 noUnit s1.rc.vin 0).vinShow.tryStartAll)
    else .next s1

/-- R249, R391, R392: every DRV goes low; a group that was STARTING, UP or STOPPING is TRIPPED with cause `c`. -/
def State.dropRails (s : State) (g c : Nat) : State :=
  let x := s.group g
  let s1 := (List.range 12).foldl (fun st i => st.modSlot g i fun y => { y.quiet with state := .off }) s
  if x.state = .starting ∨ x.state = .up ∨ x.state = .stopping then
    let s2 := (s1.modGroup g fun y => { y with state := .tripped, tripAt := s.clk, autoUp := x.autoUp || decide (x.state ≠ .stopping) }).noteCause g c
    let s3 := s2.count (baseRail g + 0x44)
    { s3 with glb.odo.groupTrips := tabMod 0 s3.glb.odo.groupTrips g (· + 1) }
  else s1

/-- R247: whether `u` µV at the ball of VIN_MON lie below COLL: the comparator sees the voltage itself. -/
def State.vinCollapses (s : State) (u : BitVec 32) : Bool :=
  decide (sext 32 u.toNat * (s.vinFs : Int) < ((s.vinColl * 1200000 : Nat) : Int))

/-- VIN_COLLAPSE (R247, R249): the input falls below COLL, with `u` µV at the ball of VIN_MON; the record of the event is the next one
the odometer writes. -/
def execVinCollapse (u : BitVec 32) (s : State) : Host.Outcome State Fault Refusal :=
  if s.vinFs = 0 || !s.vinCollapses u then .next s
  else
    let mask := ((List.range 8).map fun g => if (s.group g).state = .disabled then 0 else 2 ^ g).sum
    let c := s.convertVin u
    let s1 := ({ c with
      rc.collapsed := true
      glb.odo.vinColl := c.glb.odo.vinColl + 1
      glb.odoDue := 3 :: c.glb.odoDue.filter fun r => r ≠ 3 }).count 0x30E44
    .next (((List.range 8).foldl (fun st g => st.dropRails g 6) s1).log 169 noUnit mask 0).railShowAll

/-- RAIL_STATUS_UPDATE (R250): every 1 ms. -/
def execRailStatusUpdate (s : State) : Host.Outcome State Fault Refusal := .next s.railShowAll

/-! ### RG_CTRL (R233 to R237) -/

/-- R402: every group is DISABLED, in SAFE. -/
def State.disableRails (s : State) : State := (List.range 8).foldl (fun st g =>
  ((List.range 12).foldl (fun t i => t.modSlot g i fun y => { y.quiet with state := .off })
    (st.modGroup g fun x => { x with enable := false, state := .disabled, upPending := false, autoUp := false, trip := 0 })).railShow g) s

/-- R233, R251, R402: a write of RG_CTRL.ENABLE; 0 is accepted only while OFF, TRIPPED or DISABLED, and in SAFE every group stays
DISABLED. TRIP_CAUSE is kept until a power-up (R242). -/
def State.rgEnable (s : State) (g : Nat) (enable : Bool) : State :=
  let x := s.group g
  if enable then
    if x.state = .disabled ∧ s.pwr.state ≠ .safe then (s.setGroup g { x with enable := true, state := .off }).railShow g else s
  else if x.state = .off ∨ x.state = .tripped then
    (s.setGroup g { x with enable := false, state := .disabled, upPending := false, autoUp := false }).railShow g
  else s

/-- RG_CTRL_ENABLE (R233, R251). -/
def execRgCtrlEnable (g : Fin 8) (enable : Bool) (s : State) : Host.Outcome State Fault Refusal := .next (s.whenReady fun t => t.rgEnable g.val enable)

/-- R234, R236, R246, R248: a write of RG_CTRL.UP: started, held or refused. -/
def State.rgUp (s : State) (g : Nat) : State :=
  let x := s.group g
  if x.state = .disabled ∨ x.state = .stopping then s.setGroup g { x with reqRefused := true }
  else if x.state = .off ∨ x.state = .tripped then ((s.setGroup g { x with upPending := true }).tryStart g).railShow g
  else s

/-- RG_CTRL_UP (R234, R236, R246, R248). -/
def execRgCtrlUp (g : Fin 8) (s : State) : Host.Outcome State Fault Refusal := .next (s.whenReady fun t => t.rgUp g.val)

/-- R102, R237: whether the region of a session touches the rectangle of tile `i`. -/
def State.regionTouches (s : State) (q : Req) (i : Nat) : Bool :=
  let x := s.tileX i
  let y := s.tileY i
  decide (q.x < x + s.tileW i) && decide (x < q.x + q.w) && decide (q.y < y + s.tileH i) && decide (y < q.y + q.h)

/-- R237: a tile of the group has an owned pixel, or lies in the region of a session that is BOOKED, PREPARING, RUNNING or
CLOSING. -/
def State.groupBusy (s : State) (g : Nat) : Bool :=
  ((List.range 1024).filter fun i => decide (s.tileRg i = g) && s.inMap i).any fun i =>
    s.tileOwned i || s.sch.slots.any fun q => q.2.any fun x => decide (3 ≤ x.state) && decide (x.state ≤ 6) && s.regionTouches x.req i

/-- R235 to R237: a write of RG_CTRL.DOWN. -/
def State.rgDown (s : State) (g : Nat) : State :=
  let x := s.group g
  if x.state = .disabled ∨ s.groupBusy g then s.setGroup g { x with reqRefused := true }
  else ((s.setGroup g { x with upPending := false }).shutGroup g 0).railShow g

/-- RG_CTRL_DOWN (R235 to R237). -/
def execRgCtrlDown (g : Fin 8) (s : State) : Host.Outcome State Fault Refusal := .next (s.whenReady fun t => t.rgDown g.val)

end Sys2Proof.Machine
end

