-- ==== Sys2Proof/Machine/Power.lean ====
section
/-! DEFINITION. The power states and the entry to and exit from PLATEAU (R378 to R384, R95, R286, R304). -/

namespace Sys2Proof.Machine

/-- R378, R380: the power state changes; each change is logged. -/
def State.setPower (s : State) (new : PState) : State :=
  if s.pwr.state = new then s
  else ({ s with pwr.state := new }).log 212 noUnit s.pwr.state.code new.code

/-- R379: some session slot is BOOKED to RETAINED. -/
def State.sessionsRun (s : State) : Bool := s.sch.slots.any fun q => q.2.any fun x => decide (3 ≤ x.state)

/-- R379: HOLD and RUN follow the session slots. -/
def State.followSessions (s : State) : State :=
  if s.frameLoop then s.setPower (if s.sessionsRun then .run else .hold) else s

/-- R373, R382: every group is OFF, TRIPPED or DISABLED. -/
def State.railsOff (s : State) : Bool := (List.range 8).all fun g =>
  let x := (s.group g).state
  decide (x = .off) || decide (x = .tripped) || decide (x = .disabled)

/-- R238, R373, R391: every group that is STARTING or UP shuts down and ends OFF. -/
def State.shutAll (s : State) : State :=
  (List.range 8).foldl (fun st g =>
    let x := (st.group g).state
    if x = .starting ∨ x = .up then st.shutGroup g 0 else st) s

/-- R382 step 3: the groups shut down; those that ran are remembered. -/
def State.plateauRails (s : State) : State :=
  let gs := (List.range 8).filter fun g => decide ((s.group g).state = .starting) || decide ((s.group g).state = .up)
  ({ s with pwr.groups := gs, pwr.transit := .entryOff }).shutAll

/-! ### PLATEAU (R286, R287, R304, R382, R383) -/

/-- R288: why a set-point switch is refused: BUSY_TRAINING, FSP_UNTRAINED. -/
def State.switchRefused (s : State) (target : Nat) : Option Nat :=
  if (List.range 12).any fun c => decide ((s.chan c).state = .training) then some 12
  else if target = 1 ∧ !([0, 1].all fun c => (s.chan c).fsplTrained) then some 13
  else none

/-- R288: a switch is requested: it waits for a tracking step that runs on CH0 or CH1, and the wait is counted. A step lasts at
most 2 µs; whether one begun less long ago still runs is a free value. -/
def State.requestSwitch (s : State) (target : Nat) : State :=
  let near := [0, 1].any fun c => decide ((s.chan c).trkAt ≠ 0) && decide (s.clk < (s.chan c).trkAt + usC 2)
  let s1 := { s with dmc.switching := some target }
  if near then
    let r := s1.draw 2
    if r.1 = 1 then r.2.count 0xD084C else r.2
  else s1

/-- R288: a refused switch is counted. -/
def State.countRefused (s : State) (st : Nat) : State := s.count (0xD0000 + (if st = 12 then 0x844 else 0x848))

/-- R303: a bank in retention starts to wake, and is ready 250 ns later; it is counted. -/
def State.wakeBank (s : State) (k : Nat) : State :=
  if (s.bank k).ret then (s.setBank k { s.bank k with ret := false, wakeAt := s.clk + 200 }).count (baseVale + 0x318) else s

/-- R304: the function banks enter retention or wake. -/
def State.functionBanks (s : State) (ret : Bool) : State :=
  (List.range 53).foldl (fun st k => if ret then st.setBank k { st.bank k with ret := true } else st.wakeBank k) s

/-- R383: whether every group that ran at the entry is UP or TRIPPED. -/
def State.exitRailsDone (s : State) : Bool := s.pwr.groups.all fun g =>
  decide ((s.group g).state = .up) || decide ((s.group g).state = .tripped)

/-- R286: CH2 to CH11 leave self-refresh at the exit from PLATEAU, and each of their subchannels runs a tracking step. -/
def State.leaveSelfRefresh (s : State) : State := bulkChans.foldl State.exitChan { s with dmc.bulkSr := false }

/-- R286, R384: the DMC's exit steps begin: CH0 and CH1 switch to FSP-H, after which CH2 to CH11 leave self-refresh; where the switch to
FSP-L has not been made, it is dropped and they leave at once. -/
def State.startDmcExit (s : State) : State :=
  if (s.chan 0).fsp = 1 then s.requestSwitch 0 else { s with dmc.switching := none }.leaveSelfRefresh

/-- R383 steps 1 and 2, R384: an exit begins: the DMC's exit steps, the function banks wake, and every group that ran at the
entry is powered up, once it is OFF. -/
def State.beginExit (s : State) : State :=
  let s1 := s.functionBanks false
  let groups := if s.pwr.transit = .entryFlip then [] else s.pwr.groups
  let s2 := { s1 with
    pwr.transit := .exitRails, pwr.groups := groups, pwr.start := s.clk
    wsa.gated := false }
  let s3 := s2.startDmcExit
  groups.foldl (fun st g =>
    let x := st.group g
    if x.state = .off ∨ x.state = .stopping ∨ x.state = .tripped then
      ((st.setGroup g { x with upPending := true }).tryStart g).railShow g
    else st) s3

/-- R288: why an exit's switch to FSP-H is refused, where it needs one: training may run that an entry has left time to start (R292). -/
def State.exitRefused (s : State) : Option Nat := if (s.chan 0).fsp = 1 then s.switchRefused 0 else none

/-- R288, R383, R384: an exit is asked for: it begins, unless R288 refuses its switch, which is counted; the power state then stays. -/
def State.startExit (s : State) : State := match s.exitRefused with
  | some e => s.countRefused e
  | none => s.beginExit

/-- R380: a POWER_SET that runs completes with the state reached. -/
def State.endPowerSet (s : State) : State :=
  match s.runOf .powerSet with
  | some r => s.endRun r 0 s.pwr.state.code []
  | none => s

/-- R382 steps 4 and 5, R37, R95, R286, R304: every group is off: the WSA is gated and loses what its partitions held, the sweep
stops, banks and channels retain, essence is discarded, and CH0 and CH1 are asked to switch to FSP-L. -/
def State.plateauGate (s : State) : State :=
  let s1 := bulkChans.foldl State.selfRefresh (s.functionBanks true)
  let srcs := (List.range 16).foldl (fun t n => tabMod SrcS.init t n fun x => { x with recv := [], newest := none }) s1.mp.srcs
  { s1 with
    wsa.gated := true, wsa.sess := [], wsa.groups := [], wsa.clusters := []
    film.plateauTick := some s.film.tickSweep, film.fresh := []
    mp.srcs := srcs
    dmc.bulkSr := true
    pwr.transit := .entryDram }.requestSwitch 1

/-- R382 step 6: the state becomes PLATEAU. -/
def State.plateauReached (s : State) : State :=
  ((({ s with
    pwr.transit := .none
    pwr.entryLat := min ((s.clk - s.pwr.start) / usC 100) 0xFFFF
    pwr.plateaus := s.pwr.plateaus + 1 } : State).setPower .plateau).odoRequest 6).endPowerSet

/-- R288: the switch of an entry is refused: the entry ends where it stands, its POWER_SET with that status, and the groups that it took
down power up again (R383; assumption 136). -/
def State.entryAborted (s : State) (e : Nat) : State :=
  let s1 := (s.countRefused e).startExit
  match s1.runOf .powerSet with
  | some r => s1.endRun r e 0 []
  | none => s1

/-- PLATEAU_ENTRY_COMPLETE (R382 steps 4 to 6): once every group is off, the WSA, the banks and the DRAM make ready for PLATEAU, unless
R288 refuses the switch to FSP-L; the state becomes PLATEAU when that switch has been made (SET_POINT_SWITCH). -/
def execPlateauEntryComplete (s : State) : Host.Outcome State Fault Refusal :=
  if s.pwr.transit = .entryOff ∧ s.railsOff then
    match s.switchRefused 1 with
    | some e => .next (s.entryAborted e)
    | none => .next s.plateauGate
  else if s.pwr.transit = .entryDram ∧ s.dmc.switching = none then .next s.plateauReached
  else .next s

/-- PLATEAU_EXIT_COMPLETE (R383 steps 3 and 4): in the first guard after the groups are UP or TRIPPED. -/
def execPlateauExitComplete (s : State) : Host.Outcome State Fault Refusal :=
  if s.pwr.transit = .exitRails ∧ s.dmc.switching = none ∧ s.wsa.inGuard ∧ s.exitRailsDone then
    let s1 := { s with pwr.transit := .none, pwr.exitLat := min ((s.clk - s.pwr.start) / usC 10) 0xFFFF }
    .next (s1.setPower (if s1.sessionsRun then .run else .hold)).endPowerSet
  else .next s

end Sys2Proof.Machine
end

