-- ==== Sys2Proof/Machine/Dmc.lean ====
section
/-! DEFINITION. The DRAM controller (R269 to R293): refresh, power-down, tracking, set points, training, ECC errors and BAR2. -/

namespace Sys2Proof.Machine

/-! ### Refresh, power-down, tracking (R280 to R287, R291) -/

/-- REFRESH_DUE (R280, R281, R285): a unit falls due, which wakes a rank that is powered down. On CH0 and CH1 and outside an RT burst
it is issued; in a burst it is postponed and counted, and at d = 8 the burst is broken for one REFab. -/
def execRefreshDue (c : Fin 12) (sub rank : Fin 2) (burst : Bool) (s : State) : Host.Outcome State Fault Refusal :=
  let x := s.chan c.val
  let k := 2 * sub.val + rank.val
  if x.state ≠ .active ∨ s.rankKeys.contains k = false then .next s
  else if c.val < 2 then .next s
  else
    let y := x.touch rank.val s.clk
    if !burst then .next (s.setChan c.val y)
    else
      let d := min 8 (x.debtOf k + 1)
      let s1 := s.count (baseDmc c.val + 0x40)
      if d = 8 then .next ((s1.setChan c.val { y with debt := tabSet 0 x.debt k 7 }).count (baseDmc c.val + 0x44))
      else .next (s1.setChan c.val { y with debt := tabSet 0 x.debt k d })

/-- REFRESH_PULLIN (R280, R285): with no request queued, a rank with d above −PULLIN is refreshed ahead; a rank that is powered down
wakes for it. -/
def execRefreshPullin (c : Fin 12) (sub rank : Fin 2) (s : State) : Host.Outcome State Fault Refusal :=
  let x := s.chan c.val
  let k := 2 * sub.val + rank.val
  if x.state = .active ∧ s.rankKeys.contains k ∧ -(s.pullin c.val) < x.debtOf k then
    .next ((s.setChan c.val { x.touch rank.val s.clk with debt := tabSet 0 x.debt k (x.debtOf k - 1) }).count (baseDmc c.val + 0x4C))
  else .next s

/-- MR4_POLL (R280, R283): the refresh rate that the dies report; above 2× it is counted and logged. -/
def execMr4Poll (c : Fin 12) (rate : Fin 5) (s : State) : Host.Outcome State Fault Refusal :=
  let x := s.chan c.val
  if x.state = .active then
    let s1 := s.setChan c.val { x with refRate := rate.val }
    .next (if 3 < rate.val then (s1.count (baseDmc c.val + 0x6C)).log 193 c.val rate.val 0 else s1)
  else .next s

/-- RANK_POWER_DOWN (R285): a rank of CH2 to CH11 to which no refresh is owed, idle for TIMER × 10 ns. -/
def execRankPowerDown (c : Fin 12) (rank : Fin 2) (s : State) : Host.Outcome State Fault Refusal :=
  let x := s.chan c.val
  let down := if rank.val = 0 then x.pd0 else x.pd1
  if 2 ≤ c.val ∧ x.state = .active ∧ !down ∧ rank.val < max 1 s.dmc.ranks ∧ x.debtOf rank.val ≤ 0 ∧ x.debtOf (2 + rank.val) ≤ 0 then
    let s1 := s.advanceTo (tabGet 0 x.lastReq rank.val + 8 * bits (s.dmcVal (baseDmc c.val + 0xC)) 0 12)
    .next ((s1.setChan c.val { x with pd0 := x.pd0 || decide (rank.val = 0), pd1 := x.pd1 || decide (rank.val = 1) }).count
      (baseDmc c.val + 0x50))
  else .next s

/-- SELF_REFRESH_REENTRY (R287): a channel woken in PLATEAU re-enters self-refresh after SRIDLE µs without a request. -/
def execSelfRefreshReentry (c : Fin 12) (s : State) : Host.Outcome State Fault Refusal :=
  let x := s.chan c.val
  if x.awake ∧ x.state = .active ∧ s.dmc.bulkSr then
    let last := max (tabGet 0 x.lastReq 0) (tabGet 0 x.lastReq 1)
    .next ((s.advanceTo (last + usC (bits (s.dmcVal (baseDmc c.val + 0xC)) 16 16))).selfRefresh c.val)
  else .next s

/-- TRACKING_STEP (R291): PERIOD after a subchannel's last step fell due the next one does. On CH0 and CH1 it runs at once; on CH2 to
CH11 it waits for the guard. None falls due in self-refresh. -/
def execTrackingStep (c : Fin 12) (sub : Fin 2) (s : State) : Host.Outcome State Fault Refusal :=
  let x := s.chan c.val
  if x.state ≠ .active then .next s
  else
    let due := tabGet 0 x.trkBase sub.val + msC (bits (s.dmcVal (baseDmc c.val + 0x10)) 0 10)
    let s1 := s.advanceTo due
    let y := { x with trkBase := tabSet 0 x.trkBase sub.val due }
    if c.val < 2 then .next ((s1.setChan c.val { y with trkAt := s1.clk }).count (baseDmc c.val + 0x58))
    else if x.trkDue.contains sub.val then .next (s1.setChan c.val y)
    else .next (s1.setChan c.val { y with trkDue := x.trkDue ++ [sub.val] })

/-- SET_POINT_SWITCH (R286, R288, R289): the switch that the power sequence requested is made, with the stall it took (10 ns). At the
exit from PLATEAU CH2 to CH11 leave self-refresh after it. -/
def execSetPointSwitch (stall : BitVec 16) (s : State) : Host.Outcome State Fault Refusal :=
  match s.dmc.switching with
  | some f =>
    let one (st : State) (c : Nat) : State :=
      ((st.modChan c fun x => { x with fsp := f, debt := [] } |>.track st.clk).count (baseDmc c + 0x54)).count (baseDmc c + 0x58) 2
    let s1 := ([0, 1].foldl one { s with dmc.switching := none, dmc.lastStall := min stall.toNat 1500 }).count 0xD0840
    .next (if f = 0 then s1.leaveSelfRefresh else s1)
  | none => .next s

/-! ### BAR2 (R272, R276, R287, R344) -/

/-- R344: the window's size in bytes. -/
def State.bar2Size (s : State) : Nat := 2 ^ (30 + s.net.bar2Log2)

/-- R272, R273, R276, R344: the physical bulk addresses that bytes `o` to `o + n − 1` of the window reach, one at least for each 256 bytes,
which one bank and row hold, and each granule's check bytes. -/
def State.bar2Phys (s : State) (o n : Nat) : List Nat :=
  if n = 0 then []
  else (List.range (n / 256 + 2)).flatMap fun k => s.physOf 3 (min (o + k * 256) (o + n - 1))

/-- The channels that bytes `o` to `o + n − 1` of the window lie on. -/
def State.bar2Chans (s : State) (o n : Nat) : List Nat := ((s.bar2Phys o n).map fun b => (bulkMap b).1).eraseDups

/-- R273, R285: the ranks that an access to the window reaches, as (channel, rank). -/
def State.bar2Ranks (s : State) (o n : Nat) : List (Nat × Nat) :=
  ((s.bar2Phys o n).map fun b => ((s.bulkLoc b).channel, (s.bulkLoc b).rank)).eraseDups

/-- R273, R279, R287: an access to the window reaches its ranks and opens its rows. -/
def State.reachBar2 (s : State) (o n : Nat) : State :=
  (s.bar2Phys o n).foldl (fun st b => st.openRow (st.bulkLoc b)) (s.touchRanks (s.bar2Ranks o n))

/-- R279, R287: a requestor's access to the window that may have waited is granted and made. -/
def State.grantBar2 (s : State) (w : Waiter) (o n : Nat) : State := (s.grantReq w (s.bar2Chans o n)).reachBar2 o n

/-- Bytes of the BAR2 window (an unlisted byte reads as 0, assumption 5). -/
def State.bar2Bytes (s : State) (o n : Nat) : List Byte := memBytes s.dmc.bulk (s.dmc.bar2Blk * 32768 + o) n

/-- Store bytes in the BAR2 window. -/
def State.bar2Store (s : State) (o : Nat) (bs : List (Option Byte)) : State :=
  { s with dmc.bulk := storeEnabled s.dmc.bulk (s.dmc.bar2Blk * 32768 + o) bs }

/-- Bytes of an access. -/
def MemAcc.len : MemAcc → Nat
  | .read n => n
  | .write bs => bs.length

/-- R344: serve an access to the window. -/
def State.bar2Serve (s : State) (o : Nat) (acc : MemAcc) : State :=
  let s1 := s.reachBar2 o (MemAcc.len acc)
  match acc with
  | .read n => s1.emit (.readData .pcie (s1.bar2Bytes o n))
  | .write bs => s1.bar2Store o bs

/-- R287, R292: an access waits while a channel of it trains, or for good where the channel has FAILED. -/
def State.bar2Held (s : State) (o n : Nat) : Bool :=
  (s.bar2Chans o n).any fun c => decide ((s.chan c).state = .training) || decide ((s.chan c).state = .failed)

/-! ### Held accesses (R278, R279, R292) -/

/-- R278, R279: the level of a held access, which is BULK. -/
def State.heldLevel (s : State) (r : MemReq) : Nat := dramLevel .bulk (s.clk - r.at_)

/-- R279: whether a held access is to an open row; an access is judged by its first byte (assumption 135). -/
def State.rowHit (s : State) (r : MemReq) : Bool := match s.bar2Phys r.off (max 1 (MemAcc.len r.acc)) with
  | b :: _ => s.rowOpen (s.bulkLoc b)
  | [] => false

/-- R273, R279: the subchannels, as 2 · channel + subchannel, that a held access lies on. -/
def State.reqSubs (s : State) (r : MemReq) : List Nat :=
  ((s.bar2Phys r.off (MemAcc.len r.acc)).map fun b => 2 * (s.bulkLoc b).channel + (s.bulkLoc b).subchannel).eraseDups

/-- R279: whether two held accesses are requests to one subchannel, which orders them. -/
def State.sharesSub (s : State) (r q : MemReq) : Bool := (s.reqSubs r).any (s.reqSubs q).contains

/-- R279: which of accesses, oldest first, a subchannel serves next: of the level that goes first the one passed over 16 times, else
the oldest to an open row, else the oldest. -/
def State.pickHeld (s : State) (l : List MemReq) : Option MemReq :=
  let first := l.filter fun r => l.all fun q => decide (s.heldLevel r ≤ s.heldLevel q)
  ((first.find? fun r => decide (16 ≤ r.passed)).or (first.find? s.rowHit)).or first.head?

/-- R279: which of the held accesses, oldest first, is served next: the oldest that its subchannels serve before every other on them. -/
def State.nextHeld (s : State) (l : List MemReq) : Option MemReq :=
  (l.find? fun r => decide (s.pickHeld (l.filter (s.sharesSub r)) = some r)).or l.head?

/-- R279: `r` is served: the older accesses of its level on its subchannels have been passed over once more. -/
def State.passOver (s : State) (r : MemReq) (l : List MemReq) : List MemReq :=
  let older := l.takeWhile fun q => q ≠ r
  (older.map fun q => if s.heldLevel q = s.heldLevel r ∧ s.sharesSub r q then { q with passed := q.passed + 1 } else q) ++
    (l.dropWhile fun q => q ≠ r).drop 1

/-- R279: a grant at level 3 is counted in each channel that the access lies on. -/
def State.countAged (s : State) (r : MemReq) : State :=
  if s.heldLevel r = 3 then (s.bar2Chans r.off (MemAcc.len r.acc)).foldl (fun st c => st.count (baseDmc c + 0x68)) s else s

/-- R279, R292: the held accesses whose channels serve again are served, in the order of R279; the others stay held. -/
def State.serveHeld : Nat → List MemReq → State → State
  | 0, _, s => s
  | k + 1, l, s => match s.nextHeld l with
    | some r => State.serveHeld k (s.passOver r l) ((s.countAged r).bar2Serve r.off r.acc)
    | none => s

/-- R292: channels serve again: what they held is served. -/
def State.releaseHeld (s : State) : State :=
  let waits (r : MemReq) : Bool := s.bar2Held r.off (MemAcc.len r.acc)
  State.serveHeld s.dmc.held.length (s.dmc.held.filter fun r => !waits r) { s with dmc.held := s.dmc.held.filter waits }

/-- BAR2_ACCESS (R287, R292, R344): outside the window, or before DRAM is up, nothing answers. -/
def execBar2Access (off : BitVec 36) (acc : MemAcc) (s : State) : Host.Outcome State Fault Refusal :=
  let o := off.toNat
  let n := MemAcc.len acc
  if s.bar2Size < o + n ∨ ((s.bar2Chans o n).any fun c => decide ((s.chan c).state = .off)) then .next s
  else if s.bar2Held o n then .next { s with dmc.held := s.dmc.held ++ [⟨o, acc, s.clk, 0⟩] }
  else .next (s.bar2Serve o acc)

/-! ### Training (R292) -/

def trainOff : Nat := 0xD0820

/-- R292: the last frame whose slot begins less than 30 ms from now. -/
def State.trainFrames (s : State) : Nat :=
  ((List.range 8).map fun k => s.time.wfn + k).foldl (fun b n => if s.flipTime n < s.nowNs + 30000000 then max b n else b) 0

/-- R292: a snapshot operation runs. -/
def State.snapshotRuns (s : State) : Bool := s.qm.running.any fun r => decide (r.grp = .snapshot)

/-- R292: a write of DMC_TRAIN: MASK is kept, the W1C bits are cleared, START starts or refuses. A FAILED channel stays so until the
next reset. -/
def State.writeTrain (s : State) (v : Nat) : State :=
  let s1 := s.putReg trainOff v
  let s2 := { s1 with
    dmc.trainRefused := s1.dmc.trainRefused && decide (bits v 14 1 = 0)
    dmc.trainFailed := s1.dmc.trainFailed && decide (bits v 15 1 = 0) }
  let mask := bulkChans.filter fun c => decide (bits (s2.shadow trainOff) c 1 = 1)
  if bits v 12 1 = 0 ∨ mask = [] then s2
  else if s2.pwr.state = .plateau ∨ s2.dmc.train.isSome ∨ s2.snapshotRuns ∨ s2.sessionsRun then
    { s2 with dmc.trainRefused := true }
  else
    let live := mask.filter fun c => decide ((s2.chan c).state ≠ .failed)
    let s3 := { s2 with dmc.train := some (live, s2.clk), sch.noMem := max s2.sch.noMem s2.trainFrames }
    live.foldl (fun st c => st.modChan c fun x => { x with state := .training }) s3

/-- DMC_TRAIN_START (R292): a write of DMC_TRAIN. -/
def execDmcTrainStart (value : Word) (s : State) : Host.Outcome State Fault Refusal := .next (s.whenReady fun t => t.writeTrain value.toNat)

/-- R58, R292: the records of pixels that became unknown while the planes were held are written, unless they still are. -/
def State.releaseUnknown (s : State) : State :=
  if s.planesHeld || decide (s.film.heldUnknown = []) then s
  else s.film.heldUnknown.foldl (fun st q => st.tileUnknown q.1 q.2) { s.touchPlanes with film.heldUnknown := [] }

/-- R292: commanded training of the channels `mask` ends: those of `bad` stay FAILED, the others are ACTIVE. -/
def State.endTraining (s : State) (mask bad : List Nat) : State :=
  let s1 := mask.foldl (fun st c => st.modChan c fun x => { x with
    state := if bad.contains c then .failed else .active, debt := [], lastReq := [(0, st.clk), (1, st.clk)], openRows := []
    trkBase := [(0, st.clk), (1, st.clk)] }) { s with dmc.train := none }
  bad.foldl (fun st c => st.log 194 c 0 0) { s1 with dmc.trainFailed := s1.dmc.trainFailed || decide (bad ≠ []) }

/-! ### Inline ECC (R276, R277) -/

/-- INLINE_ECC_ERROR (R277, R403): in a region with ECC a single error is corrected, counted and written
back, a BULK request for its rank; a double one is counted and
logged, and in P0 it is a fatal error. -/
def execInlineEccError (c : Fin 12) (addr : BitVec 64) (double : Bool) (s : State) : Host.Outcome State Fault Refusal :=
  let r := s.eccRegion c.val addr.toNat
  if !s.eccOn r then .next s
  else if double then
    let s1 := ({ s with glb.odo.dramUe := s.glb.odo.dramUe + 1 }).count (baseDmc c.val + 0x64)
    let s2 := s1.log 192 c.val (bits addr.toNat 0 32) (bits addr.toNat 32 32)
    .next (if r = 0 then s2.beginReset 6 addr.toNat else s2)
  else
    let s1 := ({ s with glb.odo.dramCe := s.glb.odo.dramCe + 1 }).count (baseDmc c.val + 0x60)
    .next (if c.val < 2 then s1 else s1.touchRank (c.val, addr.toNat / s.rankSize))

end Sys2Proof.Machine
end

