-- ==== Sys2Proof/Machine/SchAdm.lean ====
section
/-! DEFINITION. Admission of sessions (R22 to R26, R99 to R120, R127): regions and tiles, capacities, lengths, demands, the
calendar, the search for a start frame, displacement and the records of an answer. -/

namespace Sys2Proof.Machine

/-! ### Regions (R180) -/

/-- A region's part on a tile: tile-local columns and rows, the ends excluded. -/
structure Part where
  tile : Nat
  x0 : Nat
  y0 : Nat
  x1 : Nat
  y1 : Nat
deriving DecidableEq, Repr

def Part.rows (a : Part) : Nat := a.y1 - a.y0
def Part.pixels (a : Part) : Nat := (a.x1 - a.x0) * (a.y1 - a.y0)
/-- R110: segments per row that the part overlaps. -/
def Part.segs (a : Part) : Nat := (a.x1 - 1) / 64 - a.x0 / 64 + 1
def Part.holds (a : Part) (x y : Nat) : Bool :=
  decide (a.x0 ≤ x) && decide (x < a.x1) && decide (a.y0 ≤ y) && decide (y < a.y1)

/-- The part of a region on tile `i`, if it has one. -/
def State.partOn (s : State) (q : Req) (i : Nat) : Option Part :=
  let tx := s.tileX i
  let ty := s.tileY i
  let x0 := max q.x tx
  let y0 := max q.y ty
  let x1 := min (q.x + q.w) (tx + s.tileW i)
  let y1 := min (q.y + q.h) (ty + s.tileH i)
  if x0 < x1 ∧ y0 < y1 then some ⟨i, x0 - tx, y0 - ty, x1 - tx, y1 - ty⟩ else none

/-- The parts of a region on the tiles of the tile map. -/
def State.parts (s : State) (q : Req) : List Part := s.mapTiles.filterMap (s.partOn q)

/-- R103, R180: the region holds a pixel and lies within the tile map: no valid tile overlaps another (R203). -/
def regionOk (q : Req) (ps : List Part) : Bool := decide (ps ≠ []) && decide ((ps.map Part.pixels).sum = q.w * q.h)

/-- Whether two regions overlap. -/
def Req.overlaps (a b : Req) : Bool :=
  decide (a.x < b.x + b.w) && decide (b.x < a.x + a.w) && decide (a.y < b.y + b.h) && decide (b.y < a.y + a.h)

/-- Whether region `a` lies wholly inside region `b`. -/
def Req.inside (a b : Req) : Bool :=
  decide (b.x ≤ a.x) && decide (b.y ≤ a.y) && decide (a.x + a.w ≤ b.x + b.w) && decide (a.y + a.h ≤ b.y + b.h)

/-- R102: the request that 48 bytes spell. -/
def reqOf (b : List Byte) : Req where
  kind := fieldB b 0 1
  prio := fieldB b 1 1
  queue := decide (bits (fieldB b 2 2) 0 1 = 1)
  useCode := decide (bits (fieldB b 2 2) 1 1 = 1)
  bitmap := decide (bits (fieldB b 2 2) 2 1 = 1)
  x := fieldB b 4 4
  y := fieldB b 8 4
  w := fieldB b 12 4
  h := fieldB b 16 4
  tol := if fieldB b 20 2 = 0 then 128 else fieldB b 20 2
  fresh := if fieldB b 22 1 = 0 then 3 else fieldB b 22 1
  tmode := fieldB b 23 1
  start := fieldB b 24 8
  deadline := fieldB b 32 8
  srcFirst := fieldB b 40 2
  srcCount := fieldB b 42 2
  code := fieldB b 44 2
  raw := sliceB b 0 48

/-- R102: whether a kind uses the source fields. -/
def Req.usesSource (q : Req) : Bool := decide (q.kind = 0) || decide (q.kind = 1) || (decide (q.kind = 3) && !q.useCode)

/-- R99: kinds that level every pixel (LEVEL_ALL). -/
def Req.levelAll (q : Req) : Bool := decide (q.kind = 2) || decide (q.kind = 3)

/-- R103, R138, R147: a bitmap source that exists is one of kind BITMAP. -/
def State.bitmapOk (s : State) (n : Nat) : Bool := decide (s.liveF (baseMp + 0x1000 + n * 0x40) 0 2 = 2)

/-! ### Sessions -/

/-- The sessions whose slot is not FREE: slot number and record. -/
def State.sessions (s : State) : List (Nat × Sess) :=
  s.sch.slots.filterMap fun q => match q.2 with
    | some x => if x.state = 0 then none else some (q.1, x)
    | none => none

/-- BOOKED, PREPARING, RUNNING or CLOSING. -/
def Sess.live (x : Sess) : Bool := decide (3 ≤ x.state) && decide (x.state ≤ 6)

/-- R124: an open STREAM. -/
def Sess.openStream (x : Sess) : Bool := decide (x.req.kind = 1) && !x.closed

/-- R125: a STREAM closed so early that its C is not after its S. -/
def Sess.endsUnstarted (x : Sess) : Bool := x.closeReq && decide (x.c ≤ x.s)

/-- R108: L. -/
def Sess.len (x : Sess) : Nat := x.p + x.t + x.w

/-- R104: SFLAGS. -/
def Sess.sflags (x : Sess) : Nat :=
  b2n x.est + 2 * b2n x.voided + 4 * b2n x.timeLost + 8 * b2n x.stranded + 16 * b2n x.closed

/-- R31: no free slot among 0 to 1,022, or the lowest. -/
def State.freeSlot (s : State) : Option Nat := (List.range 1023).find? fun n => match s.sess n with
  | some x => decide (x.state = 0)
  | none => true

/-- R62, R439: tiles that no new session may touch. -/
def State.tileBarred (s : State) (i : Nat) : Bool := s.film.snapTiles.contains i || decide ((s.tile i).fill = 2)

/-! ### Lengths (R108, R109) -/

/-- SCH_PKGn.SWB in force. -/
def State.pkgSwb (s : State) (n : Nat) : Nat := s.liveF (baseSch + 0x400 + n * 0x40) 0 7

/-- SCH_PKGn.TRANS of knot `k`, of a set that `get` reads. -/
def transOf (get : Nat → Nat) (n k : Nat) : Nat := bits (get (baseSch + 0x404 + n * 0x40 + (k / 2) * 4)) (k % 2 * 16) 16

/-- R109: the knot whose bound a tile at temperature `t` (1/16 °C) takes. -/
def Pkg.boundKnot (p : Pkg) (t : Int) : Nat := ((List.range p.knotCount).filter fun k => decide (p.knot k * 16 ≤ t)).getLast?.getD 0

/-- R109: a tile's transit bound. -/
def State.tileTrans (s : State) (i n : Nat) (p : Pkg) (tmode : Nat) (get : Nat → Nat) : Nat :=
  if p.table then 2 * p.lmax tmode
  else transOf get n (p.boundKnot ((s.tileTemp i).temp - ((bits (get baseSch) 8 4 * 16 : Nat) : Int)))

/-- R108: the levelling length that a session of this kind books. -/
def State.lvlLen (s : State) (q : Req) (tiles : List Nat) : Nat :=
  ((tiles.filter fun i => q.levelAll || (s.tile i).unknown).map fun i => match s.tilePkg i with
    | some p => p.bookLevelLen
    | none => 0).foldl max 0

/-- R108, R109: (P, T, W) for a region's tiles under the SCH set that `get` reads, however long; the reason of a refusal where no bound
is given. -/
def State.boundsWith (s : State) (q : Req) (tiles : List Nat) (get : Nat → Nat) : Except Nat (Nat × Nat × Nat) :=
  if tiles.any fun i => (s.tilePkg i).isNone then .error 51
  else
    let rows := tiles.filterMap fun i => match s.boundTo i, s.tilePkg i with
      | some n, some p => some (n, p, s.tileTrans i n p q.tmode get)
      | _, _ => none
    if rows.any fun r => !r.2.1.table && decide (r.2.2 = 0) then .error 50
    else
      let t := (rows.map fun r => r.2.2).foldl max 0
      let w := (rows.map fun r => if r.2.1.table then 0 else bits (get (baseSch + 0x400 + r.1 * 0x40)) 0 7).foldl max 0
      .ok (s.lvlLen q tiles, t, w)

/-- R108, R109: (P, T, W), or the reason of a refusal; a span that no calendar holds is too long. -/
def State.lengthWith (s : State) (q : Req) (tiles : List Nat) (get : Nat → Nat) : Except Nat (Nat × Nat × Nat) :=
  match s.boundsWith q tiles get with
  | .ok (p, t, w) => if 1024 < p + t + w + 2 then .error 49 else .ok (p, t, w)
  | .error e => .error e

/-- R108, R109: (P, T, W) of a request. -/
def State.lengthOf (s : State) (q : Req) : Except Nat (Nat × Nat × Nat) :=
  s.lengthWith q ((s.parts q).map fun a => a.tile) s.live

/-! ### Demand (R110) -/

/-- R110: the largest charge per pixel of a tile, CHARGE × QSCALE in 1/4,096 fC. -/
def State.tileQmax (s : State) (i : Nat) (p : Pkg) : Nat :=
  ((driveCodes.map fun c => s.codeCharge p c).foldl max 0) * s.tileQscale i

/-- R110: the port that a tile loads: the one driving it, or its home port while it has not been found. -/
def State.demandPort (s : State) (i : Nat) : Nat := if (s.tile i).bound then (s.tile i).port else i / 32

/-- Add an amount under a key of a list. -/
def addAt (k v : Nat) : List (Nat × Nat) → List (Nat × Nat)
  | [] => [(k, v)]
  | (j, w) :: l => if j = k then (j, w + v) :: l else (j, w) :: addAt k v l

/-- R110: the demand of parts of a region per frame slot, as a booking of the compute slots `lo` to `hi`. -/
def State.demandOf (s : State) (ps : List Part) (lo : Nat) (hi : Option Nat) : Booking where
  lo := lo
  hi := hi
  syn := 64 * (ps.map fun a => a.rows * a.segs).sum
  mem := 18 * (ps.map fun a => a.rows * a.segs).sum
  ports := ps.foldl (fun l a => addAt (s.demandPort a.tile) (a.rows * (192 * a.segs + 256 * cdiv a.segs 8)) l) []
  rails := ps.foldl (fun l a =>
    let q := match s.tilePkg a.tile with
      | some p => s.tileQmax a.tile p
      | none => 0
    addAt (s.tileRg a.tile) (cdiv (a.pixels * q + 2000 * s.tileGateq a.tile * 4096) 4096000) l) []

/-! ### Capacities (R22 to R25, R196, R284, R292) -/

/-- The four kinds of calendar resources. -/
inductive Res where
  | syn | mem | port (k : Nat) | rail (g : Nat)
deriving DecidableEq, Repr

/-- R22: SYN capacity at frame rate `f` and guard `g`. -/
def capSyn (f g : Nat) : Nat := if g ≤ 25 then 10800000000 / f else 144000000 * (100 - g) / f

/-- R269: tRFCab in ns by density. -/
def trfcNs (density : Nat) : Nat := [210, 280, 280, 380, 380].getD density 0

/-- R284: MEM capacity in 64-byte units at frame rate `f`, guard `g`, FSP-H rate `r` in MT/s and tRFCab `t` in ns, with inline
ECC over the regions of `iecc`. X and Y are taken exactly, over the denominator 1,600,000·f; a negative value is 0. -/
def capMem (f g r t iecc : Nat) : Nat :=
  let b : Int := ((40000000 * r : Nat) : Int)
  let m : Int := if bits iecc 2 2 ≠ 0 then 67500000000 else 60000000000
  let d : Int := ((320 * t * r * f : Nat) : Int)
  let x := 13 * b * 100000 - m * 1600000 - 1600 * d
  let y := 13 * b * 1000 * ((100 - g : Nat) : Int) - 1600 * d
  let k : Int := if bits iecc 1 1 = 1 then 8 else 9
  (Int.fdiv (min x y * k) ((1600000 * f * 9 * 64 : Nat) : Int)).toNat

/-- R24: PORT capacity: 85 % of the post-FEC bits of a frame. -/
def capPort (f : Nat) : Nat := 25000000000 * 514 * 85 / (52800 * f)

/-- R25, R232: RG_QLIM in force. -/
def State.capRail (s : State) (g : Nat) : Nat := s.live (baseRail g + 0x10)

/-- WSA_FRAME.GUARD in force. -/
def State.guardPct (s : State) : Nat := s.liveF baseWsa 0 6

/-- The MEM capacity in force. -/
def State.capMemNow (s : State) : Nat := capMem s.time.rate s.guardPct s.dmc.rate (trfcNs s.dmc.density) s.dmc.iecc

/-- R196: the capacity of port `k`, half while DEGRADED lowers it. -/
def State.capPortNow (s : State) (k : Nat) : Nat :=
  let c := capPort s.time.rate
  if s.sch.halved.contains k then c / 2 else c

/-- The capacity of a resource in frame slot `f` (R292: no MEM while commanded training may run). -/
def State.capOf (s : State) (f : Nat) : Res → Nat
  | .syn => capSyn s.time.rate s.guardPct
  | .mem => if f ≤ s.sch.noMem then 0 else s.capMemNow
  | .port k => s.capPortNow k
  | .rail g => s.capRail g

/-! ### The calendar (R110, R111) -/

/-- What a list holds under a key. -/
def amountAt (k : Nat) (l : List (Nat × Nat)) : Nat := match l.find? fun q => q.1 = k with
  | some q => q.2
  | none => 0

/-- R110: what a booking takes of a resource in frame slot `f`. -/
def Booking.at_ (b : Booking) (r : Res) (f : Nat) : Nat :=
  let below (x : Nat) : Bool := match b.hi with
    | some h => decide (x ≤ h)
    | none => true
  let now := decide (b.lo ≤ f) && below f
  match r with
  | .syn => if now then b.syn else 0
  | .mem => if now then b.mem else 0
  | .port k => if now then amountAt k b.ports else 0
  | .rail g => if decide (b.lo + 1 ≤ f) && below (f - 1) then amountAt g b.rails else 0

/-- R111, R132: the effective priority under which a session's bookings count: a recovery is booked at priority 0. -/
def Sess.bookPrio (x : Sess) : Nat := if x.state = 7 then 0 else x.eff

/-- R111: booked_all, or booked_low, of a resource in a frame slot, without the slots of `skip`. -/
def State.booked (s : State) (r : Res) (f : Nat) (low : Bool) (skip : List Nat) : Nat :=
  (s.sessions.map fun q =>
    if skip.contains q.1 || (low && decide (q.2.bookPrio = 7)) then 0 else (q.2.books.map fun b => b.at_ r f).sum).sum

/-- SCH_ADM.DEFILE in force. -/
def State.defile (s : State) : Nat := s.liveF baseSch 0 5

/-- R111: the ceiling of effective priorities below 7. -/
def lowCeiling (cap defile : Nat) : Nat := cap * (100 - defile) / 100

/-- R111: whether a demand fits a frame slot in one resource. -/
def State.fitsRes (s : State) (b : Booking) (eff : Nat) (skip : List Nat) (r : Res) (f : Nat) : Bool :=
  let d := b.at_ r f
  let cap := s.capOf f r
  decide (s.booked r f false skip + d ≤ cap) &&
    (decide (eff = 7) || decide (s.booked r f true skip + d ≤ lowCeiling cap s.defile))

/-- The resources a demand names. -/
def Booking.resources (b : Booking) : List Res :=
  [.syn, .mem] ++ (b.ports.map fun q => Res.port q.1) ++ b.rails.map fun q => Res.rail q.1

/-- R22 to R25: every resource of the calendar, in the order of R112. -/
def allRes : List Res := [.syn, .mem] ++ (List.range 32).map Res.port ++ (List.range 8).map Res.rail

/-- The frame slots of a span. -/
def spanFrames (lo hi : Nat) : List Nat := (List.range (hi + 1 - lo)).map fun k => lo + k

/-- The last frame slot a booking touches, given the horizon. -/
def Booking.end_ (b : Booking) (horizon : Nat) : Nat := match b.hi with
  | some h => h + 1
  | none => horizon

/-- R111 over the frame slots from `first` to the end of a booking's span: the first resource, in the order of R112, that does not
fit. `skip`: the slots whose bookings do not count in a frame slot. -/
def State.misfit (s : State) (b : Booking) (eff : Nat) (skip : Nat → List Nat) (first horizon : Nat) : Option Res :=
  allRes.find? fun r => (spanFrames first (b.end_ horizon)).any fun f => !s.fitsRes b eff (skip f) r f

/-! ### The search (R107, R112, R120) -/

/-- R207, R210: T(m) with the pending rate change taken in. -/
def State.planTime (s : State) (m : Nat) : Nat :=
  match s.time.chg with
  | some (rate, n) => if n < m then flipTimeAt (s.flipTime n) n rate m else s.flipTime m
  | none => s.flipTime m

/-- R107: the earliest preparation frame. -/
def State.earliestPrep (s : State) : Nat :=
  let n := s.time.wfn
  if s.pwr.state = .plateau ∨ s.pwr.transit ≠ .none then
    ((List.range 8).map fun k => n + 1 + k).find? (fun m => decide (s.nowNs + 40000000 ≤ s.planTime m)) |>.getD (n + 8)
  else if s.wsa.inGuard then n + 2 else n + 1

/-- R120: the sessions whose bookings a session of effective priority `eff` over region `q` does not count at start `st`. -/
def State.credited (s : State) (slot eff : Nat) (q : Req) (st : Nat) : List Nat :=
  slot :: (s.sessions.filter fun y => decide (y.1 ≠ slot) && y.2.live && decide (y.2.eff ≤ eff) && y.2.req.inside q &&
    (decide (y.2.state ≠ 3) || decide (y.2.s < st))).map fun y => y.1

/-- R120: the slots whose bookings do not count in frame slot `f` for a session that starts at `st`: its own, and from slot `st` on those
credited. -/
def State.creditAt (s : State) (slot eff : Nat) (q : Req) (st f : Nat) : List Nat :=
  if st ≤ f then s.credited slot eff q st else [slot]

/-- R112: a session of higher effective priority holds the region at start `st`. An open STREAM has no C for the condition: it holds its
region at every start, until its SESSION_CLOSE fixes one (DESIGN CHOICE, assumption 157). -/
def State.regionHeld (s : State) (slot eff : Nat) (q : Req) (st : Nat) : Bool :=
  s.sessions.any fun y => decide (y.1 ≠ slot) && y.2.live && decide (eff < y.2.eff) && y.2.req.overlaps q &&
    ((y.2.openStream && !y.2.closeReq) || decide (st - 1 ≤ y.2.c))

/-- What a search looks for: slot, request, effective priority, length, demand. -/
structure Want where
  slot : Nat
  req : Req
  eff : Nat
  len : Nat
  demand : Booking

/-- The booking of a wanted session at start `st`; an open STREAM is booked up to the horizon (R124). -/
def Want.bookAt (v : Want) (st : Nat) : Booking :=
  { v.demand with lo := st, hi := if v.req.kind = 1 then none else some (st + v.len - 1) }

/-- R112: why a start does not do: REGION_HELD, or the resource that does not fit. -/
def State.startFails (s : State) (v : Want) (st : Nat) : Option Nat :=
  if s.regionHeld v.slot v.eff v.req st then some 52
  else match s.misfit (v.bookAt st) v.eff (s.creditAt v.slot v.eff v.req st) (st - 1) (s.time.wfn + 1024) with
    | some .syn => some 53
    | some .mem => some 54
    | some (.port _) => some 55
    | some (.rail _) => some 56
    | none => none

/-- R112: the first start the search tries. -/
def State.firstStart (s : State) (v : Want) : Nat := max (s.earliestPrep + 1) v.req.start

/-- The least start from `st` on, within `n` frames, that does. -/
def State.leastStart (s : State) (v : Want) (st : Nat) : Nat → Option Nat
  | 0 => none
  | n + 1 => if (s.startFails v st).isNone then some st else s.leastStart v (st + 1) n

/-- R112: the least start of a wanted session. -/
def State.search (s : State) (v : Want) : Option Nat :=
  let st := s.firstStart v
  s.leastStart v st (s.time.wfn + 1024 + 1 - v.len - st)

/-- R112: whether a start keeps the DEADLINE; a STREAM has no C to compare (R124). -/
def Want.inTime (v : Want) (st : Nat) : Bool :=
  decide (v.req.deadline = 0) || decide (v.req.kind = 1) || decide (st + v.len ≤ v.req.deadline)

/-- R112: the reason of a refusal, decided at the first start. -/
def State.refusalReason (s : State) (v : Want) : Nat := (s.startFails v (s.firstStart v)).getD 57

/-- R104: C, which an open STREAM does not have. -/
def Want.promise (v : Want) (st : Nat) : Nat := if v.req.kind = 1 then 0 else st + v.len

/-! ### Records (R133) -/

/-- A session record of any kind but REFUSED. -/
def sessRecord (slot : Nat) (x : Sess) (kind frame a b c d : Nat) : List Byte :=
  sessionEntry (srcCode x.src) x.tag kind slot x.sflags frame a b (c + d * 4294967296)

/-- Post a later record of a session. -/
def State.postSess (s : State) (slot : Nat) (x : Sess) (kind frame a b c d : Nat) : State :=
  s.postRecord x.dst (sessRecord slot x kind frame a b c d) slot kind

/-- R104, R133: count and post REPROMISED, the cause and the promise it replaces given. -/
def State.repromise (s : State) (slot cause prev : Nat) : State :=
  match s.sess slot with
  | some x =>
    let y := { x with repromises := x.repromises + 1 }
    let s1 := s.setSess slot (some y)
    let s2 := { s1 with glb.odo.repromised := s1.glb.odo.repromised + 1 }
    (s2.postSess slot y 36 x.c cause prev 0 0).count (baseSch + 0xF0C)
  | none => s

/-! ### Booking (R112, R118, R127) -/

/-- What the search needs of a session that stands in slot `n`, its length taken afresh (R108). -/
def State.wantOf (s : State) (n : Nat) (x : Sess) : Except Nat (Want × Nat × Nat × Nat) :=
  match s.lengthOf x.req with
  | .error e => .error e
  | .ok (p, t, w) => .ok (⟨n, x.req, x.eff, p + t + w, s.demandOf (s.parts x.req) 0 none⟩, p, t, w)

/-- Book a session at start `st`. -/
def State.bookSess (s : State) (n : Nat) (x : Sess) (v : Want) (ptw : Nat × Nat × Nat) (st : Nat) : State :=
  let c := v.promise st
  s.setSess n (some { x with
    state := 3, p := ptw.1, t := ptw.2.1, w := ptw.2.2, s := st, c := c
    cFirst := if x.cFirst = 0 then c else x.cFirst
    synDemand := v.demand.syn
    phaseP := ptw.1, forced := st + ptw.1 + ptw.2.1, last := st + v.len - 1
    books := [v.bookAt st] })

/-- Drop a BOOKED session's bookings, as displacement does. -/
def State.unbook (s : State) (n : Nat) : State := s.modSess n fun x => { x with books := [] }

/-- R127: whether `a` is displaced before `b`: lower effective priority, then later S, then higher slot. -/
def displacedBefore (a b : Nat × Sess) : Bool :=
  decide (a.2.eff < b.2.eff) || (decide (a.2.eff = b.2.eff) &&
    (decide (b.2.s < a.2.s) || (decide (a.2.s = b.2.s) && decide (b.1 < a.1))))

/-- Insert into a list in an order. -/
def insertBy {α : Type} (before : α → α → Bool) (x : α) : List α → List α
  | [] => [x]
  | y :: l => if before x y then x :: y :: l else y :: insertBy before x l

/-- Sort in an order. -/
def sortBy {α : Type} (before : α → α → Bool) (l : List α) : List α := l.foldr (insertBy before) []

/-- R127: BOOKED sessions of lower effective priority that book one of the resources `lack`, in the order of displacement. A session that
books such a resource shares it in whatever slots it does (DESIGN CHOICE, assumption 125). -/
def State.displaceable (s : State) (slot eff : Nat) (lack : List Res) : List Nat :=
  (sortBy displacedBefore (s.sessions.filter fun y => decide (y.1 ≠ slot) && decide (y.2.state = 3) && decide (y.2.eff < eff) &&
    y.2.books.any fun b => lack.any fun r => b.resources.contains r)).map fun y => y.1

/-- Give up sessions one by one until `fits` holds; the state with their bookings dropped, and which. -/
def State.grab (s : State) (fits : State → Bool) (taken : List Nat) : List Nat → Option (State × List Nat)
  | [] => if fits s then some (s, taken) else none
  | n :: l => if fits s then some (s, taken) else (s.unbook n).grab fits (taken ++ [n]) l

/-- R127: the resources that a wanted session lacks in some slot of the window in which it may start. -/
def State.lacking (s : State) (v : Want) : List Res :=
  let lo := s.firstStart v
  let hi := if v.req.deadline = 0 ∨ v.req.kind = 1 then s.time.wfn + 1024 else min v.req.deadline (s.time.wfn + 1024)
  let b : Booking := { v.demand with lo := lo, hi := none }
  allRes.filter fun r => (spanFrames (lo - 1) hi).any fun f => !s.fitsRes b v.eff (s.creditAt v.slot v.eff v.req lo f) r f

/-- R112 with its DEADLINE. -/
def State.searchInTime (s : State) (v : Want) : Option Nat := (s.search v).filter v.inTime

/-- R112, R127: the start of a wanted session, and for priority 7 the sessions displaced to make room. -/
def State.findPlace (s : State) (v : Want) : Option (State × Nat × List Nat) :=
  match s.searchInTime v with
  | some st => some (s, st, [])
  | none =>
    if v.eff = 7 then
      match s.grab (fun z => (z.searchInTime v).isSome) [] (s.displaceable v.slot v.eff (s.lacking v)) with
      | some (z, taken) => (z.searchInTime v).map fun st => (z, st, taken)
      | none => none
    else none

/-- R118: BOOKED sessions of lower effective priority that overlap the new session and start later; one whose bookings have been given up
already is being displaced. -/
def State.outranked (s : State) (n : Nat) : List Nat :=
  match s.sess n with
  | some x => (sortBy displacedBefore (s.sessions.filter fun y => decide (y.1 ≠ n) && decide (y.2.state = 3) && decide (y.2.books ≠ []) &&
      decide (y.2.eff < x.eff) && decide (x.s < y.2.s) && y.2.req.overlaps x.req)).map fun y => y.1
  | none => []

/-- R118, R127: re-book a displaced session, its DEADLINE ignored, or let it wait; REPROMISED either way. -/
def State.rebookOne (s : State) (cause : Nat) (n : Nat) : State :=
  match s.sess n with
  | some x =>
    let y := { x with books := [], state := 2, voided := true, s := 0, c := 0 }
    let s1 := s.setSess n (some y)
    let s2 := if cause = 64 then s1.count (baseSch + 0xF18) else s1
    let s3 := match s2.wantOf n y with
      | .ok (v, ptw) => match s2.search v with
        | some st => s2.bookSess n y v ptw st
        | none => s2.count (baseSch + 0xF08)
      | .error _ => s2.count (baseSch + 0xF08)
    s3.repromise n cause x.c
  | none => s

/-- R118: a session that is booked anew displaces those it outranks, which are re-booked in turn: each of lower effective priority than
the one before, so that eight rounds (priorities 0 to 7) reach the last. -/
def State.rebookIn : Nat → Nat → State → Nat → State
  | 0, _, s, _ => s
  | k + 1, cause, s, n =>
    let s1 := s.rebookOne cause n
    let out := if (s1.sess n).any fun x => decide (x.state = 3) then s1.outranked n else []
    out.foldl (State.rebookIn k 64) (out.foldl State.unbook s1)

/-- R118, R127: a displaced session is re-booked, and those that it outranks then. -/
def State.rebook (s : State) (cause : Nat) (n : Nat) : State := State.rebookIn 8 cause s n

/-- What a session is answered with. -/
inductive Answer where
  | accepted | deferred | waiting | refused (reason frame : Nat)
deriving DecidableEq, Repr

/-- R112: try to book a session that stands in slot `n`. -/
def State.admitSession (s : State) (n : Nat) : State × Answer :=
  match s.sess n with
  | none => (s, .refused 2 0)
  | some x => match s.wantOf n x with
    | .error e => (s, .refused e 0)
    | .ok (v, ptw) =>
      if x.req.start ≠ 0 ∧ s.time.wfn + 1024 < x.req.start + v.len then
        (s.setSess n (some { x with state := 1, p := ptw.1, t := ptw.2.1, w := ptw.2.2 }), .deferred)
      else match s.findPlace v with
        | some (z, st, taken) =>
          let z1 := z.bookSess n x v ptw st
          let out := taken ++ z1.outranked n
          (out.foldl (fun a k => a.rebook 64 k) (out.foldl State.unbook z1), .accepted)
        | none =>
          let y := { x with p := ptw.1, t := ptw.2.1, w := ptw.2.2 }
          if x.req.queue ∨ x.req.kind = 2 then (s.setSess n (some { y with state := 2 }), .waiting)
          else (s.setSess n (some y), .refused (s.refusalReason v) (match s.search v with
            | some st => v.promise st
            | none => 0))

/-- R106: a slot becomes FREE; its descriptor stays readable until the slot is allocated again (R133). The WSA's entry follows in the
guard (R75). -/
def State.freeSess (s : State) (n : Nat) : State :=
  s.modSess n fun x => { x with state := 0, books := [], recover := none, strand := [] }

/-- The record kind and counter of an answer. -/
def Answer.kind : Answer → Nat
  | .accepted => 32
  | .refused _ _ => 33
  | .deferred => 34
  | .waiting => 35

def Answer.counter : Answer → Nat
  | .accepted => baseSch + 0xF00
  | .refused _ _ => baseSch + 0xF04
  | _ => baseSch + 0xF08

/-- R133: the entry of an answer. -/
def answerEntry (n : Nat) (x : Sess) : Answer → List Byte
  | .refused reason frame => refusedEntry x.src x.tag frame reason
  | a => sessRecord n x a.kind (if a = .accepted then x.c else 0) x.s x.len 0 0

/-- R383, R384: an admission in PLATEAU or during an entry starts the exit. -/
def State.wakeForSession (s : State) : State :=
  if s.pwr.state = .plateau ∧ s.pwr.transit ≠ .exitRails ∨ (s.pwr.transit ≠ .none ∧ s.pwr.transit ≠ .exitRails) then s.startExit
  else s

/-- R106, R112, R133: answer the session in slot `n`; `first`: the answer uses the entry that its SESSION_OPEN reserved. -/
def State.answer (s : State) (n : Nat) (first : Bool) : State :=
  let q := s.admitSession n
  match q.1.sess n with
  | none => q.1
  | some x =>
    let e := answerEntry n x q.2
    let slot := match q.2 with
      | .refused _ _ => 0x3FF
      | _ => n
    let s1 := if first then q.1.openAnswered x.dst e slot q.2.kind else q.1.postRecord x.dst e slot q.2.kind
    let s2 := s1.count q.2.counter
    match q.2 with
    | .accepted => s2.wakeForSession
    | .refused _ _ => s2.freeSess n
    | _ => s2

/-- R101, R104: a session as its SESSION_OPEN brings it. -/
def newSess (q : Req) (src : CmdSource) (dst : CplDst) (tag order : Nat) : Sess where
  req := q
  src := src
  dst := dst
  tag := tag
  order := order
  state := 2
  eff := if q.kind = 2 then 0 else q.prio
  est := false
  voided := false
  timeLost := false
  stranded := false
  closed := false
  p := 0
  t := 0
  w := 0
  s := 0
  c := 0
  cFirst := 0
  total := 0
  settled := 0
  carry := 0
  miss := 0
  superseded := 0
  strandedPix := 0
  synDemand := 0
  repromises := 0
  stale := 0
  phaseP := 0
  forced := 0
  last := 0
  books := []
  cancel := false
  closeReq := false
  lastOwn := none
  promiseVoid := false
  cancelled := false
  recover := none
  strand := []
  lastPics := []
  desc := []

/-- R103: the reasons that need no search: a region outside the tile map, a bitmap that is none, a barred tile, no free
slot. The order among them is the model's where the spec gives none (assumption 40). -/
def State.openRefused (s : State) (q : Req) : Option Nat :=
  let ps := s.parts q
  if !regionOk q ps || (q.usesSource && q.bitmap && !s.bitmapOk q.srcFirst) then some 2
  else if ps.any fun a => s.tileBarred a.tile then some 10
  else if s.freeSlot.isNone then some 48
  else none

/-- R100, R112: open a session. -/
def State.openSession (s : State) (org : Origin) (tag : Nat) (b : List Byte) : State :=
  let q := reqOf b
  match s.openRefused q, s.freeSlot with
  | none, some n =>
    let s1 := { s with sch.arrivals := s.sch.arrivals + 1 }
    (s1.setSess n (some (newSess q org.src org.dst tag s1.sch.arrivals))).answer n true
  | r, _ => (s.openAnswered org.dst (refusedEntry org.src tag 0 (r.getD 48)) 0x3FF 33).count (baseSch + 0xF04)

/-- The SESSION_OPEN of a source that the SCH may take now. -/
def State.openHead (s : State) (src : CmdSource) : Option Cmd :=
  (s.headCmd src).filter fun c => decide (c.opcode = 16) && s.mayStart c && decide (c.badStatus = none)

/-- R101: the effective priority that a SESSION_OPEN asks for. -/
def Cmd.openPrio (c : Cmd) : Nat := (if (reqOf c.param).kind = 2 then 0 else (reqOf c.param).prio)

/-- R100: the sources whose pending SESSION_OPEN goes before that of `src`: of higher priority, or of the same and fetched earlier. -/
def State.opensBefore (s : State) (src : CmdSource) : List CmdSource :=
  match s.openHead src with
  | none => []
  | some c =>
    let heads := ((s.qm.fetched.map fun d => d.src).eraseDups).filterMap s.openHead
    let ahead := (heads.takeWhile (· ≠ c)).filter (fun d => decide (c.openPrio ≤ d.openPrio)) ++
      heads.filter (fun d => decide (c.openPrio < d.openPrio) && !(heads.takeWhile (· ≠ c)).contains d)
    (sortBy (fun a b => decide (b.openPrio ≤ a.openPrio)) ahead).map fun d => d.src

/-- R100: requests that arrive once a guard has begun wait for its retries. -/
def State.opensWait (s : State) : Bool :=
  (s.frameLoop || decide (s.pwr.state = .plateau)) && s.wsa.inGuard && !s.sch.guardDone

/-- R103, R107 to R112: the pending SESSION_OPEN of a source is taken. -/
def State.takeOpen (s : State) (src : CmdSource) : State := s.runCmd src 16 fun org tag p st => st.openSession org tag p

/-- SESSION_OPEN (R100, R103, R107 to R112, R118, R127): of the requests pending at this moment those that go before that of `src` are
taken first. Within a guard they wait for the SCH's work in it. -/
def execSessionOpen (src : CmdSource) (s : State) : Host.Outcome State Fault Refusal :=
  .next (if s.opensWait then s else (s.opensBefore src ++ [src]).foldl State.takeOpen s)

/-- The session in slot `n` that a source opened, unless it is FREE or RETAINED (R325). -/
def State.ownSess (s : State) (src : CmdSource) (n : Nat) : Option Sess :=
  match s.sess n with
  | some x => if x.src = src ∧ x.state ≠ 0 ∧ x.state ≠ 7 then some x else none
  | none => none

/-- R104, R129: a promise that stands is void: VOIDED is set, and there is no C any more. -/
def Sess.unpromised (x : Sess) : Sess := { x with voided := x.voided || decide (x.c ≠ 0) || x.live, c := 0 }

/-- R128, R129, R133: the record of a session that ends at once; its promise, if it had one, is void. -/
def State.cancelNow (s : State) (n : Nat) (x : Sess) : State :=
  let y := x.unpromised
  (((s.setSess n (some y)).postSess n y 38 0 y.settled y.carry y.miss y.superseded).count (baseSch + 0xF14)).freeSess n

/-- SESSION_CANCEL (R128, R325, R331): the completion goes before the record it causes. -/
def execSessionCancel (src : CmdSource) (s : State) : Host.Outcome State Fault Refusal :=
  .next (s.runCmd src 17 fun org tag p st =>
    let n := fieldB p 0 2
    match st.ownSess src n with
    | none => st.errCmd org tag 17 4
    | some x =>
      let s1 := st.okCmd org tag 17 x.state []
      if x.state ≤ 3 then s1.cancelNow n x
      else if x.state ≤ 5 then s1.modSess n fun y => { y with cancel := true }
      else s1)

/-- R76, R122: what the compute frame `f` to come asks of an entry: the forced Switchback start and the truncation. -/
def WSess.forFrame (e : WSess) (x : Sess) (f : Nat) : WSess :=
  if e.holdOpen then e
  else
    let e1 := if e.phase = 2 ∧ x.forced ≤ f then { e with phase := 3, pframe := 0 } else e
    if x.last ≤ f then { e1 with phase := 3, pframe := 63 } else e1

/-- Write a session's WSA entry. -/
def State.setWsess (s : State) (n : Nat) (e : WSess) : State := { s with wsa.sess := tabSet WSess.init s.wsa.sess n e }

/-- R125: the STREAM in slot `n` is CLOSED, and the HOLD_OPEN of one that runs, or has been handed over in this guard, is 0. -/
def State.closeNow (s : State) (n : Nat) (x : Sess) : State :=
  let s1 := s.setSess n (some { x with closed := true })
  if x.state = 5 ∨ (x.state = 4 ∧ x.s = s.time.wfn + 1) then s1.setWsess n (({ s.wsess n with holdOpen := false } : WSess).forFrame x (s.time.wfn + 1)) else s1

/-- R125: the promise of a STREAM closed in frame n: C = n + 1 + T + W, with T and W taken at the close, whatever its state; its
bookings after C are returned. -/
def State.closeSess (s : State) (n : Nat) (x : Sess) : State × Nat :=
  let tw := match s.lengthOf x.req with
    | .ok (_, t, w) => (t, w)
    | .error _ => (x.t, x.w)
  let c := s.time.wfn + 1 + tw.1 + tw.2
  let y := { x with
    closeReq := true, t := tw.1, w := tw.2, c := c, cFirst := if x.cFirst = 0 then c else x.cFirst
    forced := s.time.wfn + 1 + tw.1, last := c - 1
    books := x.books.map fun b => { b with hi := some (match b.hi with
      | some h => min h (c - 1)
      | none => c - 1) } }
  (s.setSess n (some y), c)

/-- SESSION_CLOSE (R125): HOLD_OPEN and CLOSED follow in the SCH's work in the guard of this frame, or at once where that has been done. A
STREAM that is DEFERRED or WAITING has nothing to close: INVALID_STATE (DESIGN CHOICE, assumption 126). -/
def execSessionClose (src : CmdSource) (s : State) : Host.Outcome State Fault Refusal :=
  .next (s.runCmd src 18 fun org tag p st =>
    let n := fieldB p 0 2
    match st.ownSess src n with
    | none => st.errCmd org tag 18 4
    | some x =>
      if x.openStream && !x.closeReq && x.live then
        let q := st.closeSess n x
        let s1 := match q.1.sess n with
          | some y => if st.sch.guardDone then q.1.closeNow n y else q.1
          | none => q.1
        s1.okCmd org tag 18 (q.2 % 4294967296) []
      else st.errCmd org tag 18 5)

end Sys2Proof.Machine
end

