-- ==== Sys2Proof/Machine/Time.lean ====
section
/-! DEFINITION. Wall time and frame lock (R205 to R223): the PTP slave, holdover and its loss, the step, and wall sync. -/

namespace Sys2Proof.Machine

/-! ### Small arithmetic -/

/-- A quotient rounded to a whole number in a way the spec does not state: exact where it divides, else the number below or
above, free (assumption 1). -/
def State.roundFree (s : State) (a : Int) (d : Nat) : Int × State :=
  if a % (d : Int) = 0 then (a / (d : Int), s)
  else
    let q := s.draw 2
    (Int.fdiv a d + (q.1 : Int), q.2)

/-- Cycles of CLK_FAB in 2^k seconds. -/
def logC (k : Int) : Nat := if 0 ≤ k then 800000000 * 2 ^ k.toNat else 800000000 / 2 ^ (-k).toNat

/-- R205: ±100 ppm in units of 2^-16 ppm. -/
def epsMax : Nat := 6553600

/-! ### The servo (R212) -/

/-- The changes of ε that the last 64 s before `now` need: those within them and the last one before them. -/
def keepEps (now : Nat) (l : List (Nat × Int)) : List (Nat × Int) :=
  let recent (q : Nat × Int) : Bool := decide (now ≤ q.1 + 64 * 800000000)
  l.takeWhile recent ++ (l.dropWhile recent).take 1

/-- R212: the servo slews ε to a value that the spec leaves open within ±100 ppm. -/
def State.slew (s : State) : State :=
  let q := s.draw (2 * epsMax + 1)
  let e : Int := (q.1 : Int) - (epsMax : Int)
  let s1 := q.2
  { s1 with
    time.eps := e
    time.epsHist := (s1.clk, e) :: keepEps s1.clk s1.time.epsHist }

/-- The sum of ε over the cycles from `lo` to `hi`, changes newest first; before the first of them ε is 0 (R205). -/
def epsSum (lo hi : Nat) : List (Nat × Int) → Int
  | [] => 0
  | (t, e) :: l => (if t ≤ lo then 0 else epsSum lo (min hi t) l) + e * ((hi - max t lo : Nat) : Int)

/-- R212: ε is frozen at its mean over the last 64 s. -/
def State.freezeEps (s : State) : State :=
  let lo := s.clk - 64 * 800000000
  if s.clk = lo then s
  else
    let r := s.roundFree (epsSum lo s.clk s.time.epsHist) (s.clk - lo)
    { r.2 with time.eps := r.1, time.epsHist := (s.clk, r.1) :: keepEps s.clk s.time.epsHist }

/-- R212, R218: the source is lost: HOLDOVER from LOCKED, or again from ACQUIRING with wall time still valid. -/
def State.enterHoldover (s : State) : State :=
  let go := decide (s.time.state = .locked) || (decide (s.time.state = .acquiring) && s.time.acqValid)
  if go then
    let since := if s.time.state = .locked then s.clk else s.time.holdStart
    ({ s with time.state := .holdover, time.holdStart := since, time.good := 0, time.bad := 0 }.freezeEps).count (baseTime + 0x84)
  else s

/-- A frame number moved by Δ; 0 (none) stays 0. -/
def shiftN (d : Int) (n : Nat) : Nat := if n = 0 then 0 else ((n : Int) + d).toNat

/-- R129, R215: wall time is lost: every session that holds a promise, an open STREAM's freshness among them (R124), carries TIME_LOST
from now on and is told, its C as it stands. -/
def State.tellTimeLost (s : State) : State :=
  s.sessions.foldl (fun st q =>
    if q.2.live then
      (st.modSess q.1 fun x => { x with timeLost := true, voided := true }).repromise q.1 176 q.2.c
    else st) s

/-- R215: a step has renumbered the frames by `d`: every session that holds a promise is told its C as renumbered. -/
def State.tellStep (s : State) (d : Int) : State :=
  s.sessions.foldl (fun st q => if q.2.live then st.repromise q.1 176 (shiftN (-d) q.2.c) else st) s

/-- The code of a TIME state (R206). -/
def timeCode : TimeState → Nat
  | .freeRun => 0
  | .acquiring => 1
  | .locked => 2
  | .holdover => 3
  | .lost => 4
  | .stepPending => 5

/-- R212, R213, R215: wall time is lost beyond holdover. -/
def State.loseTime (s : State) (new : TimeState) : State :=
  let old := timeCode s.time.state
  (({ s with time.state := new, time.acqValid := false, time.good := 0, time.bad := 0 }.count (baseTime + 0x88)).log 176
    noUnit old 0).tellTimeLost

/-- R213: an offset above 1 µs: STEP_PENDING; it counts as a loss where wall time was still to be lost. -/
def State.toStep (s : State) : State :=
  let s1 := { s with time.stepNow := false }
  if s.time.state = .lost then { s1 with time.state := .stepPending, time.good := 0, time.bad := 0 } else s1.loseTime .stepPending

/-- R212, R213, R218: what one measured offset does to the state: `a` its magnitude, `lock`, `leave` and 1 µs in the same unit,
after 16 offsets within `lock`, 3 above `leave`. -/
def State.servoStep (s : State) (a lock leave micro : Nat) : State :=
  match s.time.state with
  | .locked =>
    let bad := if leave < a then s.time.bad + 1 else 0
    if 3 ≤ bad then { s with time.state := .acquiring, time.acqValid := true, time.holdStart := s.clk, time.good := 0, time.bad := 0 }
    else { s with time.bad := bad }
  | .acquiring | .holdover | .lost =>
    if micro < a then s.toStep
    else
      let valid := decide (s.time.state = .holdover) || (decide (s.time.state = .acquiring) && s.time.acqValid)
      let good := if a ≤ lock then s.time.good + 1 else 0
      if 16 ≤ good then { s with time.state := .locked, time.acqValid := false, time.good := 0, time.bad := 0 }
      else { s with time.state := .acquiring, time.acqValid := valid, time.good := good, time.bad := 0 }
  | .freeRun | .stepPending => s

/-! ### PTP (R211) -/

/-- TIME_CTRL.SRC in force. -/
def State.timeSrc (s : State) : Nat := s.liveF baseTime 0 2

/-- R211: whether PTP listens on an Ethernet port. -/
def State.ptpPort (s : State) (p : Nat) : Bool :=
  let c := s.live (baseTime + 0x50)
  decide (s.timeSrc = 1) && (decide (bits c 0 4 = p) || (decide (bits c 4 1 = 1) && decide (bits c 8 4 = p)))

/-- R367: every PTP message that arrives on a port is noted. -/
def State.ptpHeard (s : State) (p : Nat) : State :=
  if netPortOn s.live p then { s with net.ptpSeen := tabSet none s.net.ptpSeen p (some s.clk) } else s

/-- R211: DOMAIN in force. -/
def State.ptpDomain (s : State) : Nat := s.liveF (baseTime + 0x50) 16 8

/-- PTP_SYNC (R211 to R213): the offset from the master that a Sync of the present master shows; the correction by TIME_PTP_ASYM is
subtracted (DESIGN CHOICE, assumption 154: the spec gives it no sign). -/
def execPtpSync (m : PtpSync) (s : State) : Host.Outcome State Fault Refusal :=
  let s1 := s.ptpHeard m.port.val
  if s1.ptpPort m.port.val ∧ m.domain.toNat = s1.ptpDomain then
    if s1.time.master = some m.source.toNat ∧ -7 ≤ m.logInterval ∧ m.logInterval ≤ 0 then
      let diff : Int := (m.rxStamp : Int) * 16384 - (m.origin : Int)
      let ofs := diff - s1.time.mpd - sext 16 (s1.liveF (baseTime + 0x54) 0 16) * 65536
      let r := s1.roundFree ofs 65536
      let s2 := { r.2 with
        time.syncDiff := some diff, time.lastSync := s1.clk, time.syncLog := m.logInterval
        time.offset := ofs * 65536, time.ofs := r.1 }
      .next ((if s2.time.state = .stepPending then s2 else s2.slew).servoStep ofs.natAbs 3276800 32768000 65536000)
    else .next s1
  else .next s1

/-- The data set comparison of IEEE 1588 over what an Announce carries (PRESUMED, assumption 42). -/
def announceRank (m : PtpAnnounce) : List Nat :=
  [m.priority1.toNat, m.clockClass.toNat, m.accuracy.toNat, m.variance.toNat, m.priority2.toNat, m.grandmaster.toNat,
    m.stepsRemoved.toNat, m.source.toNat, m.port.val]

/-- A master qualifies with two Announce messages within four of its intervals (PRESUMED, assumption 42). -/
def Foreign.qualified (f : Foreign) (now : Nat) : Bool :=
  decide (2 ≤ (f.heard.filter fun t => decide (now ≤ t + 4 * logC f.logInterval)).length)

/-- The best of the masters heard. -/
def bestForeign (now : Nat) (l : List Foreign) : Option Foreign :=
  (l.filter fun f => f.qualified now).foldl (fun b f => match b with
    | none => some f
    | some g => if f.rank < g.rank then some f else some g) none

/-- R211: choose the master afresh. A new one starts without a measured delay. -/
def State.chooseMaster (s : State) : State :=
  match bestForeign s.clk s.time.foreign with
  | some f =>
    if s.time.master = some f.source then { s with time.gm := f.grandmaster }
    else { s with
      time.master := some f.source, time.gm := f.grandmaster, time.lastSync := s.clk, time.syncDiff := none, time.delayT3 := none }
  | none => s

/-- PTP_ANNOUNCE (R211): a master's data set is entered, and the best master chosen. -/
def execPtpAnnounce (m : PtpAnnounce) (s : State) : Host.Outcome State Fault Refusal :=
  let s1 := s.ptpHeard m.port.val
  if s1.ptpPort m.port.val ∧ m.domain.toNat = s1.ptpDomain then
    if m.stepsRemoved.toNat < 255 then
      let same (f : Foreign) : Bool := decide (f.source = m.source.toNat) && decide (f.port = m.port.val)
      let heard := match s1.time.foreign.find? same with
        | some f => f.heard
        | none => []
      let f : Foreign := ⟨m.source.toNat, m.port.val, announceRank m, m.grandmaster.toNat, (s1.clk :: heard).take 4, m.logInterval⟩
      .next ({ s1 with time.foreign := f :: s1.time.foreign.filter fun g => !same g }.chooseMaster)
    else .next s1
  else .next s1

/-- PTP_DELAY_REQ_SEND (R211): the master is sent a Delay_Req, its departure stamped (0.25 ns). -/
def execPtpDelayReqSend (txStamp : Nat) (s : State) : Host.Outcome State Fault Refusal :=
  match s.time.master with
  | some src =>
    if s.timeSrc = 1 then
      let port := match s.time.foreign.find? fun f => f.source = src with
        | some f => f.port
        | none => bits (s.live (baseTime + 0x50)) 0 4
      let seq := (s.time.delaySeq + 1) % 65536
      .next ({ s with time.delaySeq := seq, time.delayT3 := some (txStamp * 16384) }.emit (.delayReq port (s.frameTag port) seq))
    else .next s
  | none => .next s

/-- PTP_DELAY_RESP (R211): the mean path delay, end to end. -/
def execPtpDelayResp (m : PtpDelayResp) (s : State) : Host.Outcome State Fault Refusal :=
  let s1 := s.ptpHeard m.port.val
  if s1.ptpPort m.port.val ∧ m.domain.toNat = s1.ptpDomain then
    match s1.time.syncDiff, s1.time.delayT3 with
    | some d, some t3 =>
      if s1.time.master = some m.source.toNat ∧ m.seqId.toNat = s1.time.delaySeq then
        let sum : Int := d + ((m.rxTime : Int) - (t3 : Int))
        let r := s1.roundFree sum 131072
        .next { r.2 with time.mpd := Int.fdiv sum 2, time.mpdNs := r.1, time.delayT3 := none, time.delayLog := m.logInterval }
      else .next s1
    | _, _ => .next s1
  else .next s1

/-- ANNOUNCE_RECEIPT_TIMEOUT (R211, R212): three announce intervals have passed since the master's last Announce. -/
def execAnnounceReceiptTimeout (s : State) : Host.Outcome State Fault Refusal :=
  match s.time.master with
  | some src =>
    match s.time.foreign.find? fun f => f.source = src with
    | some f =>
      if s.timeSrc = 1 then
        let s1 := s.advanceTo (f.heard.headD 0 + 3 * logC f.logInterval)
        let s2 := { s1 with time.foreign := s1.time.foreign.filter (fun g => g.source ≠ src), time.master := none }
        .next ((s2.count (baseTime + 0x8C)).enterHoldover.chooseMaster)
      else .next s
    | none => .next s
  | none => .next s

/-- SYNC_TIMEOUT (R212): no Sync for 8 sync intervals. -/
def execSyncTimeout (s : State) : Host.Outcome State Fault Refusal :=
  if s.timeSrc = 1 ∧ s.time.master.isSome then
    .next ((s.advanceTo (s.time.lastSync + 8 * logC s.time.syncLog)).enterHoldover)
  else .next s

/-- HOLDOVER_EXPIRE (R206, R212): MAXSEC seconds after the holdover timer started, wall time is lost; the timer runs on in an ACQUIRING
that keeps wall time valid (DEDUCED, assumption 153). -/
def execHoldoverExpire (s : State) : Host.Outcome State Fault Refusal :=
  let holds := decide (s.time.state = .holdover) || (decide (s.time.state = .acquiring) && s.time.acqValid)
  if holds then
    .next ((s.advanceTo (s.time.holdStart + s.liveF (baseTime + 0x40) 0 12 * 800000000)).loseTime .lost)
  else .next s

/-- R214: a write of STEP_NOW: a pending step is permitted at the next flip. -/
def State.stepNowOn (s : State) : State := if s.time.state = .stepPending then { s with time.stepNow := true } else s

/-- TIME_STEP_NOW (R214). -/
def execTimeStepNow (s : State) : Host.Outcome State Fault Refusal := .next (s.whenReady State.stepNowOn)

/-! ### Renumbering (R207, R214, R215) -/

/-- R215: a booking moved by Δ. -/
def Booking.shift (d : Int) (b : Booking) : Booking := { b with lo := shiftN d b.lo, hi := b.hi.map (shiftN d) }

/-- R215: a session's frames moved by Δ; 0 (none) stays 0. -/
def Sess.shift (d : Int) (x : Sess) : Sess :=
  { x with
    s := shiftN d x.s, c := shiftN d x.c, forced := shiftN d x.forced, last := shiftN d x.last, lastOwn := x.lastOwn.map (shiftN d)
    books := x.books.map (Booking.shift d), recover := x.recover.map fun q => (q.1, shiftN d q.2) }

/-- R215: the sessions and what else counts frames of the device's own work move by Δ. Reports of the frame that was running
still bear its old number, and no tile is taken for lost for want of one (assumption 43). -/
def State.renumber (s : State) (d : Int) : State :=
  { s with
    sch.slots := s.sch.slots.map fun q => (q.1, q.2.map fun x => if x.state = 0 then x else x.shift d)
    sch.noMem := shiftN d s.sch.noMem
    thm.shutdown := s.thm.shutdown.map fun q => (q.1, shiftN d q.2)
    glb.entry := s.glb.entry.map fun e => { e with frame := shiftN d e.frame }
    pwr.transit := (match s.pwr.transit with
      | .entryRails n => .entryRails (shiftN d n)
      | t => t)
    wsa.doneLast := s.wsa.doneLast.map fun r => { r with frame := shiftN d r.frame }
    mp.renders := s.mp.renders.map fun r => { r with frame := shiftN d r.frame }
    tiles := (List.range 1024).foldl (fun t i => tabMod TileSlot.init t i fun x => { x with
      expect := none, drops := x.drops.map fun q => (shiftN d q.1, q.2) }) s.tiles }

/-- R214: whether the step is taken at the flip tick to come. -/
def State.stepDue (s : State) : Bool :=
  decide (s.time.state = .stepPending) && s.time.chg.isNone &&
    (s.time.stepNow || !(s.sessions.any fun q => decide (4 ≤ q.2.state) && decide (q.2.state ≤ 6)))

/-- R214: the least M with T(M) ≥ r + 10^9 / f, r in 2^-32 ns. -/
def stepTarget (anchorT anchorN rate r : Nat) : Nat :=
  let y := cdiv (r * rate + 1000000000 * 4294967296) (rate * 4294967296)
  anchorN + cdiv ((y - anchorT) * rate) 1000000000

/-- R214, R215: the step at flip tick N, which is now: the counter is set to the reference, and the frame that begins takes the
number M − 1. -/
def State.takeStep (s : State) : State :=
  let n := s.time.wfn + 1
  let a := s.time.wsAnchor.getD (s.time.anchorT, s.time.anchorN, s.time.rate)
  let r := ((s.time.wall : Int) - s.time.offset).toNat
  let m := stepTarget a.1 a.2.1 a.2.2 r
  let d : Int := (m : Int) - 1 - (n : Int)
  let q := s.roundFree (-s.time.offset) 4294967296
  let s1 := { q.2.renumber d with
    time.past := []
    time.wall := r
    time.anchorT := a.1, time.anchorN := a.2.1, time.rate := a.2.2, time.wsAnchor := none
    time.wfn := (m + 281474976710655) % 281474976710656
    time.state := .acquiring, time.acqValid := false, time.good := 0, time.bad := 0, time.offset := 0, time.stepNow := false }
  ((s1.count (baseTime + 0x80)).log 177 noUnit (toField 32 d) (toField 32 (satInt 32 q.1))).tellStep d

/-! ### The flip tick of the TIME block (R207 to R210, R213, R216, R217, R222) -/

/-- R210: a pending rate change takes effect at flip `n`. -/
def State.rateFlip (s : State) (n : Nat) : State :=
  match s.time.chg with
  | some (rate, at_) =>
    if at_ = n then { s with
      time.anchorT := s.flipTime n, time.anchorN := n, time.rate := rate, time.chg := none
      time.past := (s.flipTime n, s.time.anchorT, s.time.anchorN, s.time.rate) :: s.time.past }
    else s
  | none => s

/-- R206, R213, R222: the TIME set becomes live; a new SRC starts to be acquired with wall time as valid as it was. SRC 0 is FREE_RUN at
once, and no loss of wall time is told for it (DEDUCED, assumption 151). -/
def State.timeLive (s : State) : State :=
  match s.pendSet unitTime with
  | none => s
  | some _ =>
    let old := s.timeSrc
    let valid := s.wallValid
    let s1 := s.pendLive unitTime
    if s1.timeSrc = old then s1
    else
      let s2 := { s1 with
        time.master := none, time.foreign := [], time.syncDiff := none, time.delayT3 := none, time.good := 0, time.bad := 0
        time.wsAnchor := none, time.wsMiss := 0, time.wsGot := false }
      if s1.timeSrc = 0 then { s2 with time.state := .freeRun, time.acqValid := false }
      else { s2 with time.state := .acquiring, time.acqValid := valid, time.holdStart := s2.clk }

/-- R217: the marker message of the frame that begins. -/
def State.markerMsg (s : State) : List Byte :=
  let t := s.time
  let locked := decide (t.state = .locked)
  let body := leBytes 8 (s.flipTime t.wfn) ++ leBytes 6 t.wfn ++ leBytes 1 t.rate ++
    leBytes 1 (b2n s.wallValid + 2 * b2n t.chg.isSome + 4 * b2n locked) ++
    leBytes 6 (match t.chg with
      | some q => q.2
      | none => 0) ++
    leBytes 1 (match t.chg with
      | some q => q.1
      | none => 0)
  body ++ leBytes 2 (crc16 body)

/-- R216: the bits of a message, byte by byte, each byte least significant bit first. -/
def messageBits (m : List Byte) : List Bool := m.flatMap fun b => (List.range 8).map fun k => b.toNat.testBit k

/-- R216: WALL_SYNC_OUT after a flip, each level with the ns after the flip at which it begins: the marker, the start bit, the message
bits of 100 ns each, and low until the next flip. -/
def markerWave (m : List Byte) : List (Nat × Bool) :=
  [(0, true), (1000, false), (3000, true)] ++ ((messageBits m).mapIdx fun k b => (3100 + 100 * k, b)) ++
    [(3100 + 800 * m.length, false)]

/-- R216, R219: the marker and its message. -/
def State.wallOut (s : State) : State :=
  if s.liveB (baseTime + 0x70) 0 then
    let m := s.markerMsg
    { s with time.wsOut := m }.emit (.wallSync (markerWave m))
  else s

/-- R223: a follower counts the frames without an accepted marker. -/
def State.markerCheck (s : State) : State :=
  if s.timeSrc = 2 then
    if s.time.wsGot then { s with time.wsGot := false, time.wsMiss := 0 }
    else { s with time.wsMiss := s.time.wsMiss + 1 }.count (baseTime + 0x94)
  else s

/-- R207: the flip tick: the counter reaches T(N), and frame N begins, unless a step is taken at the tick. The TIME set becomes
live with the flip. -/
def State.timeFlip (s : State) : State :=
  let n := s.time.wfn + 1
  let s1 := (s.advanceWall (s.flipTime n)).markerCheck
  let s2 := if s1.stepDue then s1.takeStep else { s1.rateFlip n with time.wfn := n % 2 ^ 48 }
  (s2.timeLive).wallOut

/-! ### Wall sync, the follower (R218) -/

/-- R218: whether a marker is accepted. -/
def State.markerOk (s : State) (m : Marker) : Bool :=
  decide (m.msg.length = 25) && decide (100000000 ≤ m.lowPs) && decide (800000 ≤ m.highPs) && decide (m.highPs ≤ 1200000) &&
    decide (fieldB m.msg 23 2 = crc16 (m.msg.take 23)) &&
    (decide (s.time.state ≠ .locked) || decide (fieldB m.msg 8 6 = (s.time.wsWfn + 1) % 281474976710656))

/-- R218: the anchor and the rate of an accepted marker. -/
def State.markerAnchor (s : State) (t n rate : Nat) : State :=
  let d : Int := (n : Int) - (s.time.wfn : Int)
  let s1 := if d = 0 then s else s.renumber d
  { s1 with
    time.past := if d ≠ 0 then [] else if rate = s.time.rate then s.time.past
      else (t, s.time.anchorT, s.time.anchorN, s.time.rate) :: s.time.past
    time.anchorT := t, time.anchorN := n, time.rate := rate, time.wfn := n }

/-- WALL_SYNC_MARKER (R218). -/
def execWallSyncMarker (m : Marker) (s : State) : Host.Outcome State Fault Refusal :=
  if s.timeSrc ≠ 2 then .next s
  else if s.markerOk m then
    let t := fieldB m.msg 0 8
    let n := fieldB m.msg 8 6
    let rate := fieldB m.msg 14 1
    let fl := fieldB m.msg 15 1
    let e : Int := (m.edge : Int) - ((s.liveF (baseTime + 0x70) 16 16 * 1073741824 : Nat) : Int) - ((t * 4294967296 : Nat) : Int)
    let r := s.roundFree e 1073741824
    let chg := if bits fl 1 1 = 1 then some (fieldB m.msg 22 1, fieldB m.msg 16 6) else none
    let s1 := { r.2 with
      time.pherr := satInt 16 r.1, time.offset := e, time.wsWfn := n, time.leaderValid := decide (bits fl 0 1 = 1)
      time.wsGot := true, time.wsMiss := 0, time.chg := chg }
    let s2 : State := (if s1.time.state = .stepPending then s1 else s1.slew).servoStep e.natAbs 42949672960 429496729600 4294967296000
    .next (if s2.time.state = .stepPending then { s2 with time.wsAnchor := some (t, n, rate) } else s2.markerAnchor t n rate)
  else .next (s.count (baseTime + 0x90))

/-- MARKER_MISS_HOLDOVER (R218): three frames without an accepted marker. -/
def execMarkerMissHoldover (s : State) : Host.Outcome State Fault Refusal :=
  .next (if s.timeSrc = 2 ∧ 3 ≤ s.time.wsMiss then s.enterHoldover else s)

/-! ### The commit (R209, R222) -/

/-- R209: whether the descriptor of the tile in slot `i` is known: it has answered ENUM (R178) since its slot was last reset. -/
def State.tileKnown (s : State) (i : Nat) : Bool := decide ((s.tile i).newWidth ≠ 0 ∨ (s.tile i).maxRate ≠ 0)

/-- R209: whether a rate change that the TIME shadow set asks for is refused. -/
def State.rateRefused (s : State) : Bool :=
  let rate := bits (s.shadow (baseTime + 0x20)) 0 7
  let at_ := s.shadow (baseTime + 0x24) + (s.shadow (baseTime + 0x28) % 65536) * 4294967296
  decide (rate ≠ s.time.rate) && (decide (rate < 25) || decide (120 < rate) || decide (at_ < s.time.wfn + 2) ||
    decide (s.sessions ≠ []) || (s.mapTiles.any fun i => s.tileKnown i && decide ((s.tile i).maxRate < rate)) ||
    decide (bits (s.shadow baseTime) 0 2 = 2) || decide (s.timeSrc = 2) || decide (s.time.state = .stepPending) || s.time.chg.isSome)

/-- R222: whether the TIME shadow set passes its checks. -/
def State.timeSetOk (s : State) : Bool :=
  let get := s.shadow
  let ptp := get (baseTime + 0x50)
  let src := bits (get baseTime) 0 2
  let maxsec := bits (get (baseTime + 0x40)) 0 12
  decide (src ≠ 3) && decide (1 ≤ maxsec) && decide (maxsec ≤ 3600) && decide (bits ptp 16 8 ≤ 127) &&
    !(decide (src = 1) && !netPortOn s.live (bits ptp 0 4)) &&
    !(decide (src = 1) && decide (bits ptp 4 1 = 1) && !netPortOn s.live (bits ptp 8 4)) && !s.rateRefused

/-- R17, R210, R222: COMMIT of the TIME set: whether it is accepted, and the state after it. A new RATE waits for AT_WFN. -/
def State.commitTime (s : State) : Bool × State :=
  if s.timeSetOk then
    let rate := bits (s.shadow (baseTime + 0x20)) 0 7
    let at_ := s.shadow (baseTime + 0x24) + (s.shadow (baseTime + 0x28) % 65536) * 4294967296
    let s1 := if rate ≠ s.time.rate then { s with time.chg := some (rate, at_) } else s
    (true, s1.acceptCommit unitTime)
  else (false, s.rejectCommit unitTime)

end Sys2Proof.Machine
end

