-- ==== Sys2Proof/Machine/Mp.lean ====
section
/-! DEFINITION. Sources (R138 to R147): their registers, the reception of ST 2110-20 streams, and the checks of an MP commit
(R165). -/

namespace Sys2Proof.Machine

/-! ### Source registers (R165), read from a set through `get` -/

/-- Offset of register `r` of source `n`. -/
def srcOff (n r : Nat) : Nat := baseMp + 0x1000 + n * 0x40 + r

def srcKind (get : Nat → Nat) (n : Nat) : Nat := bits (get (srcOff n 0)) 0 2
def srcFormat (get : Nat → Nat) (n : Nat) : Nat := bits (get (srcOff n 0)) 2 3
def srcDepth (get : Nat → Nat) (n : Nat) : Nat := bits (get (srcOff n 0)) 5 2
def srcBpm (get : Nat → Nat) (n : Nat) : Bool := decide (bits (get (srcOff n 0)) 7 1 = 1)
def src2020 (get : Nat → Nat) (n : Nat) : Bool := decide (bits (get (srcOff n 0)) 8 1 = 1)
def srcFull (get : Nat → Nat) (n : Nat) : Bool := decide (bits (get (srcOff n 0)) 9 1 = 1)
def srcPaired (get : Nat → Nat) (n : Nat) : Bool := decide (bits (get (srcOff n 0)) 11 1 = 1)
def srcW (get : Nat → Nat) (n : Nat) : Nat := bits (get (srcOff n 4)) 0 16
def srcH (get : Nat → Nat) (n : Nat) : Nat := bits (get (srcOff n 4)) 16 16
def srcAddr (get : Nat → Nat) (n : Nat) : Nat := get (srcOff n 8) + get (srcOff n 12) * 4294967296
def srcStride (get : Nat → Nat) (n : Nat) : Nat := get (srcOff n 16)
def srcRate (get : Nat → Nat) (n : Nat) : Nat := bits (get (srcOff n 20)) 0 17

/-- R141: bytes and pixels of one pixel group of a stream. -/
def pixelGroup (get : Nat → Nat) (n : Nat) : Nat × Nat :=
  match decide (srcFormat get n = 0), srcDepth get n with
  | true, 0 => (4, 2)
  | true, 1 => (5, 2)
  | true, _ => (6, 2)
  | false, 0 => (3, 1)
  | false, 1 => (15, 4)
  | false, _ => (9, 2)

/-- R145: bytes per pixel of a bitmap. -/
def bitmapBpp (get : Nat → Nat) (n : Nat) : Nat := [3, 4, 4, 2].getD (srcFormat get n) 0

/-- R144: the intake of one stream, times 1,000 · the pixels of a group. -/
def srcIntake (get : Nat → Nat) (n : Nat) : Nat × Nat :=
  let g := pixelGroup get n
  (srcW get n * srcH get n * g.1 * srcRate get n, 1000 * g.2)

/-- R144: the sum of the intakes, times 4,000 (every group has 1, 2 or 4 pixels). -/
def intake4000 (get : Nat → Nat) : Nat :=
  ((List.range 16).map fun n =>
    if srcKind get n = 1 then (srcIntake get n).1 * (4000 / (srcIntake get n).2) else 0).sum

/-- R274: what three buffers of a stream take from POOL: whole pixel groups, row by row. -/
def srcBuffers (get : Nat → Nat) (n : Nat) : Nat :=
  let g := pixelGroup get n
  3 * (cdiv (srcW get n) g.2 * g.1 * srcH get n)

/-- R144: the live intake as MP_INTAKE shows it, rounded down to its unit (DESIGN CHOICE, assumption 121). -/
def State.intakeMb (s : State) : Nat := intake4000 s.live / (4000 * 1000000)

/-- R164: MP_BUDGET. -/
def State.mpBudget (s : State) : Nat := (60000000000 * 4000 - intake4000 s.live) / (4000 * s.time.rate)

/-- R164: MP_LAYERCAP. -/
def State.mpLayerCap (s : State) : Nat := 11520000000 / s.time.rate

/-! ### Reception (R140 to R143) -/

/-- R142: copies of a packet meet within 16 ms. -/
def mergeWindow : Nat := msC 16

/-- R142: how long the receiver remembers a sequence number (assumption 53). -/
def seenWindow : Nat := msC 1000

/-- R142: packets whose window has closed with one path missing are counted; the oldest are forgotten. A second copy that comes later
still counts as a late one (DEDUCED, assumption 122). -/
def State.sweepSeen (s : State) (n : Nat) : State :=
  let x := s.src n
  let lost := (x.seen.filter fun e => decide (e.at_ + mergeWindow < s.clk) && (e.onA != e.onB)).length
  let seen := (x.seen.map fun e => if e.at_ + mergeWindow < s.clk then { e with onA := true, onB := true } else e).filter fun e =>
    decide (s.clk ≤ e.at_ + seenWindow)
  let s1 := s.setSrc n { x with seen := seen }
  if lost = 0 then s1 else s1.count (srcOff n 0x2C) lost

/-- R140: whether the data of a packet fit the configured sampling, depth and packing, and lie inside the picture. -/
def packetFits (get : Nat → Nat) (n : Nat) (rows : List SampleRow) : Bool :=
  let g := pixelGroup get n
  let total : Nat := (rows.map fun r => r.data.length).sum
  (rows.all fun r =>
    !r.field && decide (r.line.toNat < srcH get n) && decide (r.offset.toNat < srcW get n) &&
      decide (r.offset.toNat % g.2 = 0) && decide (1 ≤ r.data.length) && decide (r.data.length % g.1 = 0) &&
      decide (r.offset.toNat + r.data.length / g.1 * g.2 ≤ cdiv (srcW get n) g.2 * g.2)) &&
    (!srcBpm get n || (decide (total % 180 = 0) && decide (total ≤ 1260)))

/-- R141: store the rows of a packet in a picture. -/
def storeRows (get : Nat → Nat) (n : Nat) (p : Pic) (rows : List SampleRow) : Pic :=
  let g := pixelGroup get n
  let rowBytes := cdiv (srcW get n) g.2 * g.1
  rows.foldl (fun q r =>
    let o := r.offset.toNat / g.2 * g.1
    { q with
      data := memStore q.data (r.line.toNat * rowBytes + o) r.data
      spans := (r.line.toNat, o, r.data.length) :: q.spans }) p

/-- How far the spans reach from byte `at_` on without a hole: `fuel` passes over them. -/
def reach (spans : List (Nat × Nat)) : Nat → Nat → Nat
  | 0, at_ => at_
  | f + 1, at_ =>
    reach spans f (spans.foldl (fun a q => if q.1 ≤ a ∧ a < q.1 + q.2 then q.1 + q.2 else a) at_)

/-- R141: every row covered, the marker there, no gap in the sequence numbers. -/
def picComplete (get : Nat → Nat) (n : Nat) (p : Pic) : Bool :=
  let g := pixelGroup get n
  let rowBytes := cdiv (srcW get n) g.2 * g.1
  match p.marker with
  | none => false
  | some m =>
    let back (q : Nat) : Nat := (m + 4294967296 - q) % 4294967296
    (p.seqs.all fun q => decide (back q < p.seqs.length)) &&
      ((List.range (srcH get n)).all fun y =>
        let row := (p.spans.filter fun q => q.1 = y).map fun q => q.2
        decide (rowBytes ≤ reach row row.length 0))

/-- R143: the frame that contains instant `t` (ns), by the anchor and the rate that were live then. -/
def State.frameOf (s : State) (t : Nat) : Nat :=
  match (s.time.past.filter fun a => decide (t < a.1)).getLast? with
  | some a => frameAt a.2.1 a.2.2.1 a.2.2.2 t
  | none => frameAt s.time.anchorT s.time.anchorN s.time.rate t

/-- R143: the presentation frame of a picture that completes now. -/
def State.presentation (s : State) (ts : Nat) : Option Nat :=
  if s.wallValid then
    let tick := s.nowNs * 9 / 100000
    let up := (ts + 4294967296 - tick % 4294967296) % 4294967296
    let t : Int := if up < 2147483648 then ((tick + up : Nat) : Int) else ((tick + up : Nat) : Int) - 4294967296
    some (s.frameOf (Int.fdiv (t * 100000) 9).toNat)
  else none

/-- R141: a picture is discarded for damage or a gap. -/
def State.dropPic (s : State) (n : Nat) (p : Pic) : State :=
  let x := s.src n
  (s.setSrc n { x with recv := x.recv.filter fun q => q.serial ≠ p.serial }).count (srcOff n 0x24)

/-- Whether RTP timestamp `b` lies after `a`, in the circle of 2^32. -/
def tsAfter (a b : Nat) : Bool :=
  let d := (b + 4294967296 - a) % 4294967296
  decide (0 < d) && decide (d < 2147483648)

/-- R141, R161: a picture is complete: it becomes the newest, and the one it overtakes before a render used it is skipped. One that
completes after a later picture has is overtaken itself. -/
def State.takePic (s : State) (n : Nat) (p : Pic) : State :=
  let x := s.src n
  let rest := x.recv.filter fun q => q.serial ≠ p.serial
  if x.newest.any fun q => tsAfter p.ts q.ts then ((s.setSrc n { x with recv := rest }).count (srcOff n 0x20)).count (srcOff n 0x28)
  else
    let s1 := (s.setSrc n { x with recv := rest, newest := some { p with frame := s.presentation p.ts }, used := false }).count (srcOff n 0x20)
    if x.newest.isSome && !x.used then s1.count (srcOff n 0x28) else s1

/-- R141: the pictures of source `n` that occupy buffers: the newest, those that renders read, those in reception. -/
def State.heldPics (s : State) (n : Nat) : Nat :=
  let x := s.src n
  let read := ((s.mp.renders.flatMap fun r => r.pics).filter fun q => q.1 = n).map fun q => q.2.serial
  let done := match x.newest with
    | some p => p.serial :: read
    | none => read
  done.eraseDups.length + x.recv.length

/-- R141, R142: whether no packet of the picture of timestamp `ts` can come any more: a later picture has begun and, over two paths,
began more than the path differential ago. -/
def State.picOver (s : State) (n ts : Nat) : Bool :=
  let x := s.src n
  (x.recv ++ x.newest.toList).any fun q => tsAfter ts q.ts && (!srcPaired s.live n || decide (q.at_ + mergeWindow < s.clk))

/-- R141: the pictures in reception that are over have a gap. -/
def State.closeOver (s : State) (n : Nat) : State :=
  (s.src n).recv.foldl (fun st p => if st.picOver n p.ts then st.dropPic n p else st) s

/-- R141: a packet of picture `pic` in reception is stored. -/
def State.fillPic (s : State) (n : Nat) (p : RtpPkt) (pic : Pic) : State :=
  let get := s.live
  let q := if packetFits get n p.rows then storeRows get n pic p.rows else { pic with damaged := true }
  let q1 := { q with
    seqs := p.seq.toNat :: q.seqs.filter (fun a => a ≠ p.seq.toNat)
    marker := if p.marker then some p.seq.toNat else q.marker }
  let x := s.src n
  let s1 := (s.setSrc n { x with recv := x.recv.filter (fun a => a.serial ≠ q1.serial) ++ [q1] }).closeOver n
  if !q1.damaged && picComplete get n q1 then s1.takePic n q1 else s1

/-- R141: put a new packet into its picture, those that are over having been dropped. A packet of a new picture for which no buffer
is free is lost to overflow (R166; DESIGN CHOICE, assumption 123): a picture in reception that the new one ends, in a stream over
one path, has given its buffer up first. -/
def State.storePacket (s0 : State) (n : Nat) (p : RtpPkt) (came : Nat) : State :=
  let ts := p.ts.toNat
  let s := s0.closeOver n
  match (s.src n).recv.find? fun q => q.ts = ts with
  | some pic => s.fillPic n p pic
  | none =>
    if s.picOver n ts ∨ (s.src n).newest.any fun q => decide (q.ts = ts) then s
    else
      let ended := (s.src n).recv.filter fun q => !srcPaired s.live n && tsAfter q.ts ts
      let s1 := ended.foldl (fun st q => st.dropPic n q) s
      if 3 ≤ s1.heldPics n then s1.count (srcOff n 0x34)
      else
        let x := s1.src n
        (s1.setSrc n { x with nextSerial := x.nextSerial + 1 }).fillPic n p ⟨x.nextSerial, came, ts, [], [], [], none, false, none⟩

/-- R292: whether the channels of POOL, which are those of the bulk space, hold its requests. -/
def State.poolHeld (s : State) : Bool := s.planesHeld

/-- R285, R287, R292: a packet goes into its picture's buffer in POOL, or waits while POOL's channels hold requests. -/
def State.intake (s : State) (n : Nat) (p : RtpPkt) : State :=
  if s.poolHeld then { s with mp.held := s.mp.held ++ [(n, p, s.clk)] }
  else (s.touchPool n (s.src n).nextSerial).storePacket n p s.clk

/-- R279, R292: the packets that waited are stored, oldest first; the grant of one that waited longer than 2 µs is counted. -/
def State.releaseIntake (s : State) : State :=
  if s.poolHeld then s
  else s.mp.held.foldl (fun st q =>
    let d := Config.poolPlace q.1 (st.src q.1).nextSerial % max 1 (st.dmc.poolKib * 1024)
    let s1 := if dramLevel .bulk (st.clk - q.2.2) = 3 then
        (((st.physOf 2 d).map fun b => (bulkMap b).1).eraseDups).foldl (fun z c => z.count (baseDmc c + 0x68)) st
      else st
    (s1.touchPool q.1 (s1.src q.1).nextSerial).storePacket q.1 q.2.1 q.2.2) { s with mp.held := [] }

/-- TRAINING_DONE (R292): held requests are released; a channel that failed stays FAILED with its requests held. -/
def execTrainingDone (failed : List (Fin 12)) (s : State) : Host.Outcome State Fault Refusal :=
  match s.dmc.train with
  | some (mask, _) =>
    let bad := mask.filter fun c => failed.any fun f => decide (f.val = c)
    .next ((s.endTraining mask bad).releaseHeld.releaseUnknown.releaseIntake)
  | none => .next s

/-- R348: whether the receiver of source `n` takes a packet. -/
def State.rxTakes (s : State) (n : Nat) (p : RtpPkt) : Bool :=
  let o := baseNet + 0x400 + n * 16
  let cfg := s.live (o + 4)
  let from_ := s.live (o + 8)
  decide (bits cfg 24 1 = 1) && decide (srcKind s.live n = 1) && decide (p.dstIp.toNat = s.live o) &&
    decide (p.dstPort.toNat = bits cfg 0 16) && (decide (from_ = 0) || decide (from_ = p.srcIp.toNat)) &&
    (decide (p.port.val = bits cfg 16 4) || (srcPaired s.live n && decide (p.port.val = bits cfg 20 4)))

/-- R142: the merge: a second copy is discarded, a late one counted; answers whether the packet is new. -/
def State.mergeSeq (s : State) (n : Nat) (p : RtpPkt) : Bool × State :=
  if srcPaired s.live n then
    let x := s.src n
    let onA := decide (p.port.val = bits (s.live (baseNet + 0x400 + n * 16 + 4)) 16 4)
    match x.seen.find? fun e => e.seq = p.seq.toNat with
    | some e =>
      if e.at_ + mergeWindow < s.clk then (false, s.count (srcOff n 0x30))
      else
        let e1 := { e with onA := e.onA || onA, onB := e.onB || !onA }
        (false, s.setSrc n { x with seen := x.seen.map fun a => if a.seq = e.seq then e1 else a })
    | none => (true, s.setSrc n { x with seen := ⟨p.seq.toNat, s.clk, onA, !onA⟩ :: x.seen })
  else (true, s)

/-- R141, R142: one source takes a packet. -/
def State.rxPacket (s : State) (n : Nat) (p : RtpPkt) : State :=
  let s0 := s.setSrc n { s.src n with lastPkt := some s.clk }
  let s1 := if srcPaired s.live n then s0.sweepSeen n else s0
  let q := s1.mergeSeq n p
  if q.1 then q.2.intake n p else q.2

/-! ### The commit (R165) -/

/-- Word `w` of placement entry `e` in a set. -/
def placeWord (get : Nat → Nat) (e w : Nat) : Nat := get (placeOff e w)

/-- R148: VALID and SOURCE of an entry. -/
def placeValid (get : Nat → Nat) (e : Nat) : Bool := decide (bits (placeWord get e 0) 0 1 = 1)
def placeSource (get : Nat → Nat) (e : Nat) : Nat := bits (placeWord get e 1) 0 8

/-- R149: whether a valid entry meets its conditions. -/
def placeOk (get : Nat → Nat) (e : Nat) : Bool :=
  let w := placeWord get e
  let n := placeSource get e
  let rot := bits (w 0) 1 2
  let ext (a b : Nat) : Nat := if rot % 2 = 0 then a else b
  let xs := ext (w 4) (w 5) * 65536 / w 8
  let ys := ext (w 5) (w 4) * 65536 / w 9
  decide (n < 16) && decide (srcKind get n ≠ 0) && decide (1 ≤ w 4) && decide (1 ≤ w 5) && decide (1 ≤ w 8) && decide (1 ≤ w 9) &&
    decide (w 2 + w 4 ≤ srcW get n) && decide (w 3 + w 5 ≤ srcH get n) && decide (w 6 + w 8 ≤ 2147483648) &&
    decide (w 7 + w 9 ≤ 2147483648) && decide (w 10 = xs) && decide (w 11 = ys) && decide (0x400 ≤ xs) && decide (xs ≤ 0x40000) &&
    decide (0x400 ≤ ys) && decide (ys ≤ 0x40000) && decide (bits (w 0) 5 11 = 0) && decide (bits (w 1) 8 24 = 0) &&
    ((List.range 4).all fun j => decide (w (12 + j) = 0))

/-- R139, R145, R146: whether the fields of source `n` lie in their ranges. -/
def State.srcOk (s : State) (get : Nat → Nat) (n : Nat) : Bool :=
  let w := srcW get n
  let h := srcH get n
  match srcKind get n with
  | 0 => true
  | 1 =>
    decide (srcFormat get n ≤ 2) && decide (srcDepth get n ≤ 2) && decide (64 ≤ w) && decide (w ≤ 8192) && decide (16 ≤ h) &&
      decide (h ≤ 4320) && (decide (srcFormat get n ≠ 0) || decide (w % 2 = 0)) && decide (srcRate get n ≤ 120000)
  | 2 =>
    decide (srcFormat get n ≤ 3) && decide (1 ≤ w) && decide (w ≤ 16384) && decide (1 ≤ h) && decide (h ≤ 16384) &&
      decide (srcAddr get n % 4096 = 0) && decide (srcStride get n % 64 = 0) && decide (w * bitmapBpp get n ≤ srcStride get n) &&
      decide (srcAddr get n + srcStride get n * (h - 1) + w * bitmapBpp get n ≤ s.bar2Size)
  | _ => false

/-- R165: the sessions in the states of R165 that use sources. -/
def State.mpUsers (s : State) : List Req :=
  (s.sessions.filter fun q => decide (q.2.state ≤ 6) && q.2.req.usesSource).map fun q => q.2.req

/-- The sources that a request uses, directly or through its live entries. -/
def State.srcsOf (s : State) (q : Req) : List Nat :=
  if q.bitmap then [q.srcFirst]
  else (((List.range q.srcCount).filter fun j => placeValid s.live (q.srcFirst + j)).map fun j =>
    placeSource s.live (q.srcFirst + j)).eraseDups

/-- Entries that hold something: an unlisted entry is all 0, so not VALID. -/
def placeUsed (t : Tab Word) : List Nat :=
  ((t.filter fun e => decide (placeOff 0 0 ≤ e.1)).map fun e => (e.1 - placeOff 0 0) / 64).eraseDups

/-- R165, R274: whether the MP shadow set passes its checks. -/
def State.mpSetOk (s : State) : Bool :=
  let get := s.shadow
  let ecl := bits (get (baseMp + 0xC)) 16 12
  let gain (x : Nat) : Bool := decide (8192 ≤ x) && decide (x ≤ 32767)
  let fmt (g : Nat → Nat) (n : Nat) : Nat × Nat := (bits (g (srcOff n 0)) 0 10, g (srcOff n 4))
  ((placeUsed (s.shadowSet unitMp)).all fun e => !placeValid get e || placeOk get e) &&
    ((List.range 16).all fun n => s.srcOk get n) && decide (intake4000 get ≤ 30000000000 * 4000) &&
    decide (128 ≤ ecl) && decide (ecl ≤ 4095) &&
    ((List.range 1024).all fun i => gain (bits (get (baseMp + 0x4000 + i * 16)) 0 16) && gain (bits (get (baseMp + 0x4004 + i * 16)) 0 16)) &&
    (s.mpUsers.all fun q => q.bitmap || ((List.range q.srcCount).all fun j =>
      let e := q.srcFirst + j
      !placeValid s.live e || (placeValid get e && decide (placeSource get e = placeSource s.live e)))) &&
    (s.mpUsers.all fun q => (s.srcsOf q).all fun n => decide (fmt get n = fmt s.live n)) &&
    decide (((List.range 16).map fun n => if srcKind get n = 1 then srcBuffers get n else 0).sum ≤ s.dmc.poolKib * 1024)

/-- R17, R165: COMMIT of the MP set: whether it is accepted, and the state after it. -/
def State.commitMp (s : State) : Bool × State :=
  if s.mpSetOk then (true, s.acceptCommit unitMp) else (false, s.rejectCommit unitMp)

/-- R16, R165: the MP set becomes live; a source whose kind, size or format changes starts afresh. -/
def State.mpLive (s : State) : State :=
  match s.pendSet unitMp with
  | none => s
  | some _ =>
    let s1 := s.pendLive unitMp
    let fmt (g : Nat → Nat) (n : Nat) : Nat × Nat := (bits (g (srcOff n 0)) 0 10, g (srcOff n 4))
    { s1 with mp.srcs := tabKeep (fun n => decide (fmt s.live n = fmt s1.live n)) s1.mp.srcs }

end Sys2Proof.Machine
end

