-- ==== Sys2Proof/Machine/Net.lean ====
section
/-! DEFINITION. The Ethernet ports (R346 to R348), authenticated command datagrams (R349 to R352), PMBus (R365) and the NET
commit (R366). -/

namespace Sys2Proof.Machine

/-! ### Ports (R346, R347) -/

/-- R347: whether an enabled port takes frames with this tag. -/
def State.frameTaken (s : State) (q : Nat) (vid : Option (BitVec 12)) : Bool :=
  let cfg := s.live (portOff q 0xC)
  netPortOn s.live q && (match vid with
    | none => decide (bits cfg 6 1 = 0)
    | some v => decide (bits cfg 6 1 = 1) && decide (v.toNat = bits cfg 8 12))

/-- R347: whether a frame with `n` bytes behind its IPv4 and UDP or ICMP headers is within 9,216 bytes: 14 bytes of Ethernet header, 4 of
tag where it has one, 28 of IPv4 and UDP or ICMP (assumption 12). -/
def frameFits (vid : Option (BitVec 12)) (n : Nat) : Bool := decide (n + 42 + (if vid.isSome then 4 else 0) ≤ 9216)

/-- R140: bytes of an RTP packet: its header of 12 bytes, the 2 high bytes of the sequence number, and for each row its header of 6
bytes and its data (RFC 4175). -/
def rtpSize (p : RtpPkt) : Nat := 14 + (p.rows.map fun r => 6 + r.data.length).sum

/-- R347: a frame that the device discards is counted, where a port is there to receive it. -/
def State.rxDrop (s : State) (q : Nat) : State := if netPortOn s.live q then s.count (baseNet + 0xF18) else s

/-- The IPv4 address of port `q`. -/
def State.portIp (s : State) (q : Nat) : Nat := s.live (portOff q 8)

/-- ETH_FRAME_DISCARD (R347). -/
def execEthFrameDiscard (port : Fin 16) (_vid : Option (BitVec 12)) (s : State) : Host.Outcome State Fault Refusal :=
  .next (s.rxDrop port.val)

/-- ARP_REQUEST (R347): answered for the port's own address. -/
def execArpRequest (port : Fin 16) (vid : Option (BitVec 12)) (mac : BitVec 48) (ip target : BitVec 32) (s : State) :
    Host.Outcome State Fault Refusal :=
  let q := port.val
  if !s.frameTaken q vid then .next (s.rxDrop q)
  else if target.toNat = s.portIp q then .next (s.emit (.arp q (s.frameTag q) true mac.toNat ip.toNat target.toNat))
  else .next s

/-- ICMP_ECHO (R347). -/
def execIcmpEcho (port : Fin 16) (vid : Option (BitVec 12)) (mac : BitVec 48) (ip dst : BitVec 32) (payload : List Byte)
    (s : State) : Host.Outcome State Fault Refusal :=
  let q := port.val
  if s.frameTaken q vid ∧ frameFits vid payload.length ∧ dst.toNat = s.portIp q then
    .next (s.emit (.icmpReply q (s.frameTag q) mac.toNat ip.toNat payload))
  else .next (s.rxDrop q)

/-- R348: the enabled receivers on port `q`, each with its group. -/
def State.rxOn (s : State) (q : Nat) : List (Nat × Nat) :=
  ((List.range 16).filter fun n =>
    let cfg := s.live (baseNet + 0x400 + n * 16 + 4)
    decide (bits cfg 24 1 = 1) &&
      (decide (bits cfg 16 4 = q) || (srcPaired s.live n && decide (bits cfg 20 4 = q)))).map fun n =>
    (n, s.live (baseNet + 0x400 + n * 16))

/-- R348: the groups of the enabled receivers on port `q`. -/
def State.groupsOn (s : State) (q : Nat) : List Nat := (s.rxOn q).map Prod.snd

/-- IGMP_QUERY (R347): IGMPv2 and IGMPv3 queries, general (group 0) or for one group, are answered with IGMPv3 reports. -/
def execIgmpQuery (port : Fin 16) (vid : Option (BitVec 12)) (version : Fin 4) (group : BitVec 32) (s : State) :
    Host.Outcome State Fault Refusal :=
  let q := port.val
  if s.frameTaken q vid ∧ 2 ≤ version.val then
    let gs := ((s.groupsOn q).filter fun g => decide (group.toNat = 0) || decide (g = group.toNat)).eraseDups
    .next (if gs = [] then s else s.emit (.igmpReport q (s.frameTag q) gs))
  else .next (s.rxDrop q)

/-- RTP_PACKET (R140 to R142, R348): every receiver that names the stream takes it; without one the frame is discarded. In
PLATEAU and SAFE no essence is received (R382, R402). -/
def execRtpPacket (p : RtpPkt) (s : State) : Host.Outcome State Fault Refusal :=
  let ns := (List.range 16).filter fun n => s.rxTakes n p
  if s.frameTaken p.port.val p.vid ∧ frameFits p.vid (rtpSize p) ∧ ns ≠ [] then
    .next (if s.frameLoop then ns.foldl (fun st n => st.rxPacket n p) s else s)
  else .next (s.rxDrop p.port.val)

/-! ### The next hop (R347, R351) -/

/-- R347, R351: where a datagram to `ip` from port `q` goes first: on link, or through the gateway; none without one. -/
def State.nextHop (s : State) (q ip : Nat) : Option Nat :=
  let sh := 32 - bits (s.live (portOff q 0xC)) 0 6
  if ip / 2 ^ sh = s.portIp q / 2 ^ sh then some ip
  else
    let gw := s.live (portOff q 0x10)
    if gw = 0 then none else some gw

/-- Key of a resolved address. -/
def arpKey (q ip : Nat) : Nat := q * 4294967296 + ip

/-- R351, R368: a completion datagram leaves, and counts. -/
def State.udpOut (s : State) (q mac ip port : Nat) (payload : List Byte) : State :=
  (s.emit (.udp q (s.frameTag q) mac ip port payload)).count (baseNet + 0xF14)

/-- R351: send a payload to a peer's return address; an unresolved next hop is asked for first. -/
def State.sendUdp (s : State) (q ip port : Nat) (payload : List Byte) : State :=
  match s.nextHop q ip with
  | none => s
  | some hop =>
    match tabGet none s.net.arp (arpKey q hop) with
    | some mac => s.udpOut q mac ip port payload
    | none => { s with net.arpWait := s.net.arpWait ++ [(q, hop, ip, port, payload)] }.emit (.arp q (s.frameTag q) false 0 (s.portIp q) hop)

/-- ARP_REPLY (R347): the next hop is known; what waited for it is sent. -/
def execArpReply (port : Fin 16) (vid : Option (BitVec 12)) (mac : BitVec 48) (ip target : BitVec 32) (s : State) :
    Host.Outcome State Fault Refusal :=
  let q := port.val
  if s.frameTaken q vid ∧ target.toNat = s.portIp q then
    let mine (w : Nat × Nat × Nat × Nat × List Byte) : Bool := decide (w.1 = q) && decide (w.2.1 = ip.toNat)
    let s1 := { s with
      net.arp := tabSet none s.net.arp (arpKey q ip.toNat) (some mac.toNat)
      net.arpWait := s.net.arpWait.filter fun w => !mine w }
    .next ((s.net.arpWait.filter mine).foldl (fun st w => st.udpOut q mac.toNat w.2.2.1 w.2.2.2.1 w.2.2.2.2) s1)
  else .next (s.rxDrop q)

/-! ### Command datagrams (R349, R350) -/

/-- R349: a datagram: header, body and its TAG. -/
def datagram (key : List Byte) (peer dir count seq : Nat) (body : List Byte) : List Byte :=
  let m := leBytes 4 0x50434D4C ++ leBytes 1 1 ++ leBytes 1 peer ++ leBytes 1 dir ++ leBytes 1 count ++ leBytes 8 seq ++ body
  m ++ hmac key m

/-- R350 steps 1 and 2: port, length and header. -/
def State.datagramShaped (s : State) (d : Datagram) : Bool :=
  let b := d.payload
  let cmd := s.live (baseNet + 0x14)
  let count := fieldB b 7 1
  decide (d.dstPort.toNat = bits cmd 0 16) && decide (bits cmd (16 + d.port.val) 1 = 1) && decide (1 ≤ count) && decide (count ≤ 8) &&
    decide (b.length = 48 + 64 * count) && decide (fieldB b 0 4 = 0x50434D4C) && decide (fieldB b 4 1 = 1) && decide (fieldB b 6 1 = 0)

/-- R350 steps 3 and 4: the peer is enabled and keyed, and the datagram comes from it. -/
def State.datagramFrom (s : State) (d : Datagram) (j : Nat) : Bool :=
  let o := baseNet + 0x1000 + j * 16
  let cfg := s.live (o + 4)
  decide (bits cfg 16 1 = 1) && (s.peer j).key.isSome && decide (d.srcIp.toNat = s.live o) &&
    (decide (bits cfg 0 16 = 0) || decide (bits cfg 0 16 = d.srcPort.toNat))

/-- R350: an authentication failure. -/
def State.authFail (s : State) (j q : Nat) : State := (s.count (baseNet + 0xF08)).log 242 j q 0

/-- The entries of a body. -/
def splitEntries (bs : List Byte) : Nat → List (List Byte)
  | 0 => []
  | n + 1 => bs.take 64 :: splitEntries (bs.drop 64) n

/-- R350 step 6: a packet with a new SEQ is placed whole on its ring. -/
def State.placePacket (s : State) (d : Datagram) (j : Fin 256) (seq count : Nat) : State :=
  let n := 2560 + 2 * j.val
  let r := s.ring n
  if r.size < r.held + count then s.count (baseNet + 0xF10)
  else
    let es := splitEntries (d.payload.drop 16) count
    let p := s.peer j.val
    let s1 := s.setPeer j.val { p with
      last := seq, recent := (seq :: p.recent).take 16, retPort := d.port.val, retIp := d.srcIp.toNat, retUdp := d.srcPort.toNat
      cmds := p.cmds ++ [(fieldB d.payload 18 2, seq)] }
    let s2 := s1.setRing n { r with prod := idxAdd r.prod count }
    (({ s2 with qm.netRing := tabMod [] s2.qm.netRing j.val fun l => l ++ es }.ctrlReach 1).count (baseNet + 0xF00)).fetchNets j 256

/-- R350 step 6: a duplicate: its completion datagram is sent again if it was sent. -/
def State.resend (s : State) (j seq : Nat) : State :=
  let p := s.peer j
  let s1 := s.count (baseNet + 0xF0C)
  match p.sent.find? fun c => c.cmdSeq = seq with
  | some c => s1.sendUdp p.retPort p.retIp p.retUdp c.bytes
  | none => s1

/-- COMMAND_DATAGRAM (R350). While the boot ROM serves SAFE there is no network path (R402). -/
def execCommandDatagram (d : Datagram) (s : State) : Host.Outcome State Fault Refusal :=
  let q := d.port.val
  if !s.frameTaken q d.vid ∨ !frameFits d.vid d.payload.length ∨ d.dstIp.toNat ≠ s.portIp q ∨ s.glb.rom then .next (s.rxDrop q)
  else
    let j : Fin 256 := Fin.ofNat 256 (fieldB d.payload 5 1)
    if !s.datagramShaped d ∨ !s.datagramFrom d j.val then .next (s.count (baseNet + 0xF04))
    else
      let count := fieldB d.payload 7 1
      let seq := fieldB d.payload 8 8
      let body := 16 + 64 * count
      let p := s.peer j.val
      if hmac (p.key.getD []) (d.payload.take body) ≠ d.payload.drop body then .next (s.authFail j.val q)
      else if p.last < seq then .next (s.placePacket d j seq count)
      else if p.recent.contains seq then .next (s.resend j.val seq)
      else .next (s.authFail j.val q)

/-! ### Completion datagrams (R351) -/

/-- Whether an entry answers a command: a completion, or the first record of a SESSION_OPEN. -/
def answersCmd (e : List Byte) : Bool :=
  decide (fieldB e 4 1 = 0) || (decide (fieldB e 4 1 = 1) && decide (32 ≤ fieldB e 2 2) && decide (fieldB e 2 2 ≤ 35))

/-- R350: note which commands of a peer a datagram answers. -/
def noteSent (p : Peer) (bytes : List Byte) : List (List Byte) → Peer
  | [] => p
  | e :: es =>
    if answersCmd e then
      match p.cmds.find? fun c => c.1 = fieldB e 0 2 with
      | some c => noteSent { p with
          cmds := p.cmds.erase c
          sent := (p.sent ++ [SentCpl.mk c.2 bytes]).filter fun x => p.recent.contains x.cmdSeq } bytes es
      | none => noteSent p bytes es
    else noteSent p bytes es

/-- COMPLETION_DATAGRAM_SEND (R351): the entries posted to the peer's completion ring leave, at most 32 in one datagram. -/
def execCompletionDatagramSend (j : Fin 256) (s : State) : Host.Outcome State Fault Refusal :=
  let es := (tabGet [] s.qm.netOut j.val).take 32
  let p := s.peer j.val
  match p.key with
  | some key =>
    if es = [] then .next s
    else
      let n := 2561 + 2 * j.val
      let r := s.ring n
      let bytes := datagram key j.val 1 es.length p.devSeq es.flatten
      let p1 := noteSent { p with devSeq := p.devSeq + 1 } bytes es
      let s1 := (s.setPeer j.val p1).setRing n { r with cons := idxAdd r.cons es.length }
      let s2 := { s1 with qm.netOut := tabMod [] s1.qm.netOut j.val fun l => l.drop 32 }
      .next ((s2.sendUdp p.retPort p.retIp p.retUdp bytes).refetch (.peer j))
  | none => .next s

/-- NET_KEY_SET's effect (R352). -/
def State.setKey (s : State) (j : Nat) (key : List Byte) : State :=
  let k := if allZero key then none else some key
  let s1 := s.setPeer j { s.peer j with key := k, last := 0, recent := [], devSeq := 1, cmds := [], sent := [] }
  { s1 with flash.keys := tabSet none s1.flash.keys j k }

/-! ### PMBus (R365) -/

/-- R365: a Linear11 word in thousandths, exact as a quotient: numerator and denominator. -/
def linear11Milli (w : Nat) : Int × Nat :=
  let e := sext 5 (bits w 11 5)
  let m := sext 11 (bits w 0 11)
  if 0 ≤ e then (m * 1000 * ((2 ^ e.toNat : Nat) : Int), 1) else (m * 1000, 2 ^ (-e).toNat)

/-- R365, R367: READ_POUT in mW; a value that the 24 bits of POUT cannot hold is free. -/
def State.poutMilli (s : State) (w : Nat) : Nat × State :=
  let q := linear11Milli w
  let r := s.roundFree q.1 q.2
  if 0 ≤ r.1 ∧ r.1 < 16777216 then (r.1.toNat, r.2) else r.2.draw 16777216

/-- R365: a failed poll. -/
def State.pmbFail (s : State) (n : Nat) (pec : Bool) : State :=
  let x := tabGet Pmb.init s.net.pmb n
  { s with net.pmb := tabSet Pmb.init s.net.pmb n { x with
    fails := x.fails + 1, stale := x.stale || decide (3 ≤ x.fails + 1), pecErr := x.pecErr || pec } }.count (baseNet + 0xF1C)

/-- PMBUS_POLL (R365): of an enabled regulator. -/
def execPmbusPoll (n : Fin 8) (poll : PmbusPoll) (s : State) : Host.Outcome State Fault Refusal :=
  if bits (s.live (baseNet + 0x600 + n.val * 16)) 7 1 = 1 then
    match poll with
    | .words mode vout iout temp pout status =>
      let q := s.poutMilli pout.toNat
      let x := tabGet Pmb.init q.2.net.pmb n.val
      .next { q.2 with net.pmb := tabSet Pmb.init q.2.net.pmb n.val { x with
        vmode := x.vmode.or (some mode.toNat), vout := vout.toNat, iout := iout.toNat, temp := temp.toNat, pout := q.1
        status := status.toNat, stale := false, fails := 0 } }
    | .nack => .next (s.pmbFail n.val false)
    | .pecError => .next (s.pmbFail n.val true)
  else .next s

/-! ### The commit (R366) -/

/-- R366: the ports that the receiver of source `n` names in the set of `get`. -/
def State.rxPorts (s : State) (get : Nat → Nat) (n : Nat) : List Nat :=
  let cfg := get (baseNet + 0x404 + n * 16)
  if bits cfg 24 1 = 1 then bits cfg 16 4 :: (if srcPaired s.live n then [bits cfg 20 4] else []) else []

/-- No two of a list are equal. -/
def distinct : List (Nat × Nat) → Bool
  | [] => true
  | x :: l => !l.contains x && distinct l

/-- R366: whether the NET shadow set passes its checks. The range of ADDR is asked of every regulator, enabled or not (DEDUCED,
assumption 155). -/
def State.netSetOk (s : State) : Bool :=
  let get := s.shadow
  let on := netPortOn get
  let ptp := s.live (baseTime + 0x50)
  let ptpOk := decide (s.timeSrc ≠ 1) || (on (bits ptp 0 4) && (decide (bits ptp 4 1 = 0) || on (bits ptp 8 4)))
  let used := (s.mpUsers.flatMap s.srcsOf).eraseDups
  let rx (g : Nat → Nat) (n : Nat) : Nat × Nat := (g (baseNet + 0x400 + n * 16), bits (g (baseNet + 0x404 + n * 16)) 0 24)
  let rxEn (g : Nat → Nat) (n : Nat) : Bool := decide (bits (g (baseNet + 0x404 + n * 16)) 24 1 = 1)
  let peers := (List.range 256).filter fun j => decide (bits (get (baseNet + 0x1004 + j * 16)) 16 1 = 1)
  let pmb := (List.range 8).filter fun n => decide (bits (get (baseNet + 0x600 + n * 16)) 7 1 = 1)
  let addr (n : Nat) : Nat := bits (get (baseNet + 0x600 + n * 16)) 0 7
  ptpOk && ((List.range 16).all fun n => (s.rxPorts s.live n).all fun q => !netPortOn s.live q || on q) &&
    ((List.range 16).all fun n => (s.rxPorts get n).all on) &&
    ((List.range 16).all fun n => !srcPaired s.live n ||
      (let cfg := get (baseNet + 0x404 + n * 16)
       decide (bits cfg 20 4 ≠ bits cfg 16 4))) &&
    (used.all fun n => (!rxEn s.live n || rxEn get n) && decide (rx get n = rx s.live n)) &&
    ((List.range 16).all fun q => decide (bits (get (portOff q 0xC)) 0 6 ≤ 30) && (!on q || decide (get (portOff q 8) ≠ 0))) &&
    (peers.all fun j => decide (get (baseNet + 0x1000 + j * 16) ≠ 0)) &&
    distinct (peers.map fun j => (get (baseNet + 0x1000 + j * 16), bits (get (baseNet + 0x1004 + j * 16)) 0 16)) &&
    ((List.range 8).all fun n => decide (8 ≤ addr n) && decide (addr n ≤ 0x77)) && distinct (pmb.map fun n => (addr n, 0))

/-- R17, R366: COMMIT of the NET set: whether it is accepted, and the state after it. -/
def State.commitNet (s : State) : Bool × State :=
  if s.netSetOk then (true, s.acceptCommit unitNet) else (false, s.rejectCommit unitNet)

/-- R347, R365, R366: the NET set becomes live: every newly enabled receiver's group is reported, a newly enabled regulator is read afresh. -/
def State.netLive (s : State) : State :=
  match s.pendSet unitNet with
  | none => s
  | some _ =>
    let s1 := s.pendLive unitNet
    let s2 := (List.range 16).foldl (fun st q =>
      let gs := (((s1.rxOn q).filter fun r => !(s.rxOn q).contains r).map Prod.snd).eraseDups
      if gs ≠ [] ∧ netPortOn s1.live q then st.emit (.igmpReport q (st.frameTag q) gs) else st) s1
    { s2 with net.pmb := (List.range 8).foldl (fun t n =>
      let en (x : State) : Bool := decide (bits (x.live (baseNet + 0x600 + n * 16)) 7 1 = 1)
      if en s1 && !en s then tabMod Pmb.init t n fun x => { x with vmode := none } else t) s2.net.pmb }

end Sys2Proof.Machine
end

