-- ==== Sys2Proof/Machine/Pipeline.lean ====
section
/-! DEFINITION. The colour pipeline (R145, R151 to R157): from the samples of a source to the code of a wall pixel. All of it is
a function of its operands (R159); where the spec states a result only to some precision, `Config.renderFree` decides
(assumption 51). -/

namespace Sys2Proof.Machine

/-- A colour of 12-bit components. -/
abbrev Rgb := Nat × Nat × Nat

/-- A pixel of a source: a film colour code, or R′G′B′ with its alpha. -/
inductive Texel where
  | code (c : Nat)
  | rgb (c : Rgb) (a : Nat)
deriving DecidableEq, Repr

/-! ### Exact roots -/

/-- The largest `r` below 2^k more than `r` given whose `n`-th power is at most `x`, by bits. -/
def rootGo (n x : Nat) : Nat → Nat → Nat
  | 0, r => r
  | k + 1, r =>
    let c := r + 2 ^ k
    rootGo n x k (if c ^ n ≤ x then c else r)

/-- floor of the `n`-th root of a number below 2^(k·n). -/
def root (n k x : Nat) : Nat := rootGo n x k 0

/-- R154, stages 2 and 3: a value to the nearest whole number; where it lies close to a half, either one may result, since the stages keep
at least 16 fraction bits and the spec gives no more (assumption 51). -/
def roundMp (num : Int) (den : Nat) : Int :=
  let f := Int.fdiv num den
  let r := (num - f * den).toNat
  if r * 8 < 3 * den then f else if 5 * den < r * 8 then f + 1 else f + ((Config.renderFree 1 (toField 64 num) % 2 : Nat) : Int)

/-! ### Stage 1: samples (R141, R145, R154) -/

/-- Sample `k` of a row of packed `depth`-bit samples that begins at byte `base`, most significant bit first. -/
def packed (m : Mem) (base depth k : Nat) : Nat :=
  let o := k * depth
  let v := ((memGet m (base + o / 8)).toNat * 256 + (memGet m (base + o / 8 + 1)).toNat) * 256 + (memGet m (base + o / 8 + 2)).toNat
  (v >>> (24 - o % 8 - depth)) % 2 ^ depth

/-- The three samples of pixel (x, y) of a stream's picture: Y′, Cb, Cr or R, G, B. -/
def streamSamples (get : Nat → Nat) (n : Nat) (m : Mem) (x y : Nat) : Nat × Nat × Nat :=
  let g := pixelGroup get n
  let base := y * (cdiv (srcW get n) g.2 * g.1)
  let depth := 8 + 2 * srcDepth get n
  let at_ (k : Nat) : Nat := packed m base depth k
  if srcFormat get n = 0 then
    let k := x / 2 * 4
    if x % 2 = 0 then (at_ (k + 1), at_ k, at_ (k + 2))
    else if x + 1 < srcW get n then (at_ (k + 3), (at_ k + at_ (k + 4) + 1) / 2, (at_ (k + 2) + at_ (k + 6) + 1) / 2)
    else (at_ (k + 3), at_ k, at_ (k + 2))
  else if srcFormat get n = 1 then (at_ (3 * x + 1), at_ (3 * x), at_ (3 * x + 2))
  else (at_ (3 * x), at_ (3 * x + 1), at_ (3 * x + 2))

/-! ### Stage 2: R′G′B′ -/

/-- A component, num / den, held within 0 to 1 and rounded to 12 bits. -/
def to12 (num : Int) (den : Nat) : Nat := (roundMp (clampInt 0 den num * 4095) den).toNat

/-- R154 stage 2 for a stream. -/
def streamRgb (get : Nat → Nat) (n : Nat) (q : Nat × Nat × Nat) : Rgb :=
  let bits_ := 8 + 2 * srcDepth get n
  let k := 2 ^ (bits_ - 8)
  let full := srcFull get n
  let top := 2 ^ bits_ - 1
  let luma (d : Nat) : Int × Nat := if full then ((d : Int), top) else ((d : Int) - ((16 * k : Nat) : Int), 219 * k)
  if srcFormat get n = 2 then
    let c (d : Nat) : Nat := to12 (luma d).1 (luma d).2
    (c q.1, c q.2.1, c q.2.2)
  else
    let kr : Int := if src2020 get n then 2627 else 2126
    let kb : Int := if src2020 get n then 593 else 722
    let y := luma q.1
    let chroma (d : Nat) : Int := if full then (d : Int) - ((2 ^ (bits_ - 1) : Nat) : Int) else (d : Int) - ((128 * k : Nat) : Int)
    let cden : Nat := if full then top else 224 * k
    let den : Nat := y.2 * cden * 10000
    let yn : Int := y.1 * (cden : Int) * 10000
    let r := yn + 2 * (10000 - kr) * chroma q.2.2 * (y.2 : Int)
    let b := yn + 2 * (10000 - kb) * chroma q.2.1 * (y.2 : Int)
    let g := yn * 10000 - kr * r - kb * b
    (to12 r den, to12 g (den * (10000 - kr - kb).toNat), to12 b den)

/-! ### Stage 3: primaries -/

/-- V^2.4 in units of 2^-32, for V = v / 4,095. -/
def linear24 (v : Nat) : Nat := root 5 33 (v ^ 12 * 2 ^ 160 / 4095 ^ 12)

/-- The 12-bit value of E^(1/2.4), for E = e / (10,000 · 2^32). -/
def encode24 (e : Int) : Nat :=
  let one : Nat := 10000 * 4294967296
  let x := (clampInt 0 one e).toNat
  (roundMp ((root 12 29 (x ^ 5 * (4095 * 65536) ^ 12 / one ^ 5) : Nat) : Int) 65536).toNat

/-- R154 stage 3: BT.2020 primaries to BT.709. -/
def to709 (c : Rgb) : Rgb :=
  let r : Int := linear24 c.1
  let g : Int := linear24 c.2.1
  let b : Int := linear24 c.2.2
  (encode24 (16605 * r - 5876 * g - 728 * b), encode24 (-1246 * r + 11329 * g - 83 * b), encode24 (-182 * r - 1006 * g + 11187 * b))

/-- R145, R154 stage 2: the pixel that bytes of a bitmap spell. -/
def bitmapTexel (get : Nat → Nat) (n : Nat) (bs : List Byte) : Texel :=
  let f := srcFormat get n
  let v := leNat bs
  let e8 (x : Nat) : Nat := x * 16 + x / 16
  let e10 (x : Nat) : Nat := x * 4 + x / 256
  let conv (c : Rgb) : Rgb := if src2020 get n then to709 c else c
  if f = 3 then .code (v % 65536)
  else if f = 2 then .rgb (conv (e10 (bits v 0 10), e10 (bits v 10 10), e10 (bits v 20 10))) (bits v 30 2 * 85)
  else .rgb (conv (e8 (bits v 0 8), e8 (bits v 8 8), e8 (bits v 16 8))) (if f = 1 then bits v 24 8 else 255)

/-- Pixel (x, y) of source `n`, as stages 1 to 3 leave it. A stream of which no picture is held supplies a free value. -/
def State.texel (s : State) (get : Nat → Nat) (pics : List (Nat × Pic)) (n x y : Nat) : Texel :=
  if srcKind get n = 2 then
    let bpp := bitmapBpp get n
    bitmapTexel get n (s.bar2Bytes (srcAddr get n + y * srcStride get n + x * bpp) bpp)
  else match pics.find? fun q => q.1 = n with
    | some q =>
      let c := streamRgb get n (streamSamples get n q.2.data x y)
      .rgb (if src2020 get n then to709 c else c) 255
    | none =>
      let v := Config.renderFree 3 (n * 4294967296 + y * 65536 + x)
      .rgb (v % 4096, v / 4096 % 4096, v / 16777216 % 4096) 255

/-! ### Stage 4: resampling (R151, R152) -/

/-- A placement entry (R148). -/
structure Place where
  num : Nat
  rot : Nat
  lanczos : Bool
  srcAlpha : Bool
  z : Nat
  alpha : Nat
  source : Nat
  sx : Nat
  sy : Nat
  sw : Nat
  sh : Nat
  dx : Nat
  dy : Nat
  dw : Nat
  dh : Nat
  xstep : Nat
  ystep : Nat
deriving DecidableEq, Repr

/-- Entry `e` of a set. -/
def placeAt (get : Nat → Nat) (e : Nat) : Place :=
  let w := placeWord get e
  ⟨e, bits (w 0) 1 2, decide (bits (w 0) 3 1 = 1), decide (bits (w 0) 4 1 = 1), bits (w 0) 16 8, bits (w 0) 24 8, bits (w 1) 0 8,
    w 2, w 3, w 4, w 5, w 6, w 7, w 8, w 9, w 10, w 11⟩

/-- Whether an entry covers a wall pixel. -/
def Place.covers (p : Place) (wx wy : Nat) : Bool :=
  decide (p.dx ≤ wx) && decide (wx < p.dx + p.dw) && decide (p.dy ≤ wy) && decide (wy < p.dy + p.dh)

/-- R151: the sample point of wall pixel (DST_X + u, DST_Y + v), in 1/65,536 source pixel. -/
def Place.point (p : Place) (u v : Nat) : Int × Int :=
  let a : Int := (((2 * u + 1) * p.xstep / 2 : Nat) : Int) - 32768
  let b : Int := (((2 * v + 1) * p.ystep / 2 : Nat) : Int) - 32768
  let left : Int := ((p.sx * 65536 : Nat) : Int)
  let top : Int := ((p.sy * 65536 : Nat) : Int)
  let right : Int := (((p.sx + p.sw - 1) * 65536 : Nat) : Int)
  let low : Int := (((p.sy + p.sh - 1) * 65536 : Nat) : Int)
  if p.rot = 0 then (left + a, top + b)
  else if p.rot = 1 then (left + b, low - a)
  else if p.rot = 2 then (right - a, low - b)
  else (right - b, top + a)

/-- π in units of 2^-80. -/
def pi80 : Nat := 3797952473636338580787993

/-- The Taylor series of sin at x / 2^80: `n` terms from the `k`-th on, `t` the present term. -/
def sinGo (x : Int) : Nat → Nat → Int → Int
  | 0, _, _ => 0
  | n + 1, k, t => t + sinGo x n (k + 1) (-(Int.fdiv (Int.fdiv (t * x) (2 ^ 80) * x) ((2 ^ 80 * ((2 * k + 2) * (2 * k + 3)) : Nat) : Int)))

/-- sin at x / 2^80, in units of 2^-80. -/
def sin80 (x : Int) : Int := sinGo x 40 0 x

/-- sinc(a / b) = sin(πa/b) / (πa/b), in units of 2^-80. -/
def sinc80 (a b : Nat) : Int :=
  if a = 0 then 2 ^ 80
  else if a % b = 0 then 0
  else
    let x : Nat := pi80 * a / b
    Int.fdiv (sin80 x * 2 ^ 80) x

/-- R152: L(a / b) in Q1.14: the whole number below the exact value, or the one above it. -/
def lanczosCoef (a b : Nat) : Int :=
  if 3 * b ≤ a then 0
  else if a = 0 then 16384
  else if a % b = 0 then 0
  else
    let v := sinc80 a b * sinc80 a (3 * b)
    Int.fdiv v (2 ^ 146) + ((Config.renderFree 0 (a * 4294967296 + b) % 2 : Nat) : Int)

/-- R152: the taps of one axis: sample and weight, and the sum of the weights. The centre tap, which takes up what the others leave, is the
one at floor(s), whatever the phase (DESIGN CHOICE, assumption 124). -/
def taps (lanczos : Bool) (step : Nat) (at_ : Int) : List (Int × Int) × Nat :=
  let i := Int.fdiv at_ 65536
  let ph := (Int.fdiv at_ 1024 % 64).toNat
  if lanczos then
    let k := max 65536 step
    let half := 3 * cdiv k 65536
    let js : List Int := (List.range (2 * half)).map fun (j : Nat) => (j : Int) - (half : Int) + 1
    let raw := js.map fun j =>
      let d := (j * 64 - (ph : Int)).natAbs
      (j, lanczosCoef (d * 1024) k)
    let rest : Int := ((raw.filter fun q => q.1 ≠ 0).map fun q => q.2).sum
    (raw.map fun q => (i + q.1, if q.1 = 0 then 16384 - rest else q.2), 16384)
  else ([(i, 64 - (ph : Int)), (i + 1, (ph : Int))], 64)

/-- A component of a texel; alpha is component 3. -/
def Texel.comp : Texel → Nat → Nat
  | .code _, _ => 0
  | .rgb c a, k => if k = 0 then c.1 else if k = 1 then c.2.1 else if k = 2 then c.2.2 else a

/-- R152: one component at a sample point: the horizontal pass keeps 20 bits, the vertical pass rounds, halves up, and clamps. -/
def resampleComp (tx ty : List (Int × Int) × Nat) (px : Int → Int → Texel) (k : Nat) : Nat :=
  let frac : Nat := if k = 3 then 4096 else 256
  let row (y : Int) : Int :=
    let sum : Int := (tx.1.map fun q => q.2 * (((px q.1 y).comp k : Nat) : Int)).sum * (frac : Int)
    if sum % (tx.2 : Int) = 0 then Int.fdiv sum tx.2
    else Int.fdiv sum tx.2 + ((Config.renderFree 2 (toField 64 sum) % 2 : Nat) : Int)
  let tot : Int := (ty.1.map fun q => q.2 * row q.1).sum
  (clampInt 0 (if k = 3 then 255 else 4095) (roundHalfUp tot (ty.2 * frac))).toNat

/-- R151, R152: the texel of an entry at a wall pixel. -/
def State.sample (s : State) (get : Nat → Nat) (pics : List (Nat × Pic)) (p : Place) (wx wy : Nat) : Texel :=
  let pt := p.point (wx - p.dx) (wy - p.dy)
  let edge (lo n : Nat) (i : Int) : Nat := (clampInt lo ((lo + n - 1 : Nat) : Int) i).toNat
  let px (x y : Int) : Texel := s.texel get pics p.source (edge p.sx p.sw x) (edge p.sy p.sh y)
  if srcKind get p.source = 2 ∧ srcFormat get p.source = 3 then
    px (Int.fdiv (pt.1 + 32768) 65536) (Int.fdiv (pt.2 + 32768) 65536)
  else
    let stepX := if p.rot % 2 = 0 then p.xstep else p.ystep
    let stepY := if p.rot % 2 = 0 then p.ystep else p.xstep
    let tx := taps p.lanczos stepX pt.1
    let ty := taps p.lanczos stepY pt.2
    .rgb (resampleComp tx ty px 0, resampleComp tx ty px 1, resampleComp tx ty px 2) (resampleComp tx ty px 3)

/-! ### Stage 5: layers (R147, R153) -/

/-- R154 stage 2: MP_BG expanded. -/
def background (get : Nat → Nat) : Rgb :=
  let w := get (baseMp + 8)
  let e (x : Nat) : Nat := x * 4 + x / 256
  (e (bits w 0 10), e (bits w 10 10), e (bits w 20 10))

/-- R153: the effective alpha of an entry whose texel is `t`. -/
def Place.alphaAt (p : Place) (t : Texel) : Nat :=
  let a := match t with
    | .code _ => 255
    | .rgb _ a => a
  if p.srcAlpha then (p.alpha * a + 127) / 255 else p.alpha

/-- R153: one component blended over what lies below. -/
def blend (a x below : Nat) : Nat := (a * x + (255 - a) * below + 127) / 255

/-- R153: what a wall pixel shows: the layers from the bottom up with their effective alpha. -/
def layerUp (bg : Rgb) (layers : List (Texel × Nat)) : Texel :=
  match (layers.reverse.find? fun q => decide (0 < q.2)) with
  | some (.code c, _) => .code c
  | _ => .rgb (layers.foldl (fun b q => match q.1 with
      | .code _ => b
      | .rgb c _ => (blend q.2 c.1 b.1, blend q.2 c.2.1 b.2.1, blend q.2 c.2.2 b.2.2)) bg) 255

/-- R147, R153: the value of a wall pixel in a render of the request `q`. -/
def State.pixelValue (s : State) (get : Nat → Nat) (pics : List (Nat × Pic)) (q : Req) (places : List Place) (wx wy : Nat) :
    Texel :=
  if q.bitmap then
    let n := q.srcFirst
    let x := wx - q.x
    let y := wy - q.y
    if x < srcW get n ∧ y < srcH get n then s.texel get pics n x y else .rgb (background get) 255
  else
    layerUp (background get) ((places.filter fun p => p.covers wx wy).map fun p =>
      let t := s.sample get pics p wx wy
      (t, p.alphaAt t))

/-! ### Stages 6 and 7: appearance and correction (R154 to R156) -/

/-- R53: a node of the GAMUT table. -/
def Pkg.gamutNode (p : Pkg) (r g b : Nat) : Lab :=
  let o := 0xB000 + ((r * 17 + g) * 17 + b) * 6
  (p.i o 2, p.i (o + 2) 2, p.i (o + 4) 2)

/-- R155: the appearance of R′G′B′ by the GAMUT table. -/
def Pkg.gamut (p : Pkg) (c : Rgb) : Lab :=
  let f := insertFrac (2, c.2.2 % 256) (insertFrac (1, c.2.1 % 256) [(0, c.1 % 256)])
  let up (i : Nat × Nat × Nat) (k : Nat) : Nat × Nat × Nat :=
    if k = 0 then (i.1 + 1, i.2.1, i.2.2) else if k = 1 then (i.1, i.2.1 + 1, i.2.2) else (i.1, i.2.1, i.2.2 + 1)
  let a := f.getD 0 (0, 0)
  let b := f.getD 1 (0, 0)
  let d := f.getD 2 (0, 0)
  let v0 := (c.1 / 256, c.2.1 / 256, c.2.2 / 256)
  let v1 := up v0 a.1
  let v2 := up v1 b.1
  let v3 := up v2 d.1
  let nd (v : Nat × Nat × Nat) : Lab := p.gamutNode v.1 v.2.1 v.2.2
  let mix (g : Lab → Int) : Int :=
    Int.fdiv (((256 - a.2 : Nat) : Int) * g (nd v0) + ((a.2 - b.2 : Nat) : Int) * g (nd v1) + ((b.2 - d.2 : Nat) : Int) * g (nd v2) +
      (d.2 : Int) * g (nd v3) + 128) 256
  (mix fun l => l.1, mix fun l => l.2.1, mix fun l => l.2.2)

/-- IEC 61966-2-1: the linear component of a 12-bit value, in units of 2^-96. -/
def srgbLinear (v : Nat) : Nat :=
  if v * 100000 ≤ 4045 * 4095 then v * 2 ^ 96 * 100 / (4095 * 1292)
  else root 5 97 ((v * 1000 + 55 * 4095) ^ 12 * 2 ^ 480 / (1055 * 4095) ^ 12)

/-- CIE 1976: f(t) for t in units of 2^-96, in the same units. -/
def labF (t : Nat) : Nat :=
  if 216 * 2 ^ 96 < t * 24389 then root 3 100 (t * 2 ^ 192)
  else (t * 24389 / 27 + 16 * 2 ^ 96) / 116

/-- R154 stage 6 for a table-package tile: IEC 61966-2-1 to CIE XYZ and L*a*b* with its D65 white (0.9505, 1, 1.089), carried to 2^-96
and rounded to Q8.7. -/
def srgbLab (c : Rgb) : Lab :=
  let r := srgbLinear c.1
  let g := srgbLinear c.2.1
  let b := srgbLinear c.2.2
  let fx : Int := labF ((4124 * r + 3576 * g + 1805 * b) / 9505)
  let fy : Int := labF ((2126 * r + 7152 * g + 722 * b) / 10000)
  let fz : Int := labF ((193 * r + 1192 * g + 9505 * b) / 10890)
  (roundHalfUp ((116 * fy - 16 * 2 ^ 96) * 128) (2 ^ 96), roundHalfUp (500 * (fx - fy) * 128) (2 ^ 96),
    roundHalfUp (200 * (fy - fz) * 128) (2 ^ 96))

/-- R156: the correction of tile `i`. -/
def correct (get : Nat → Nat) (i : Nat) (a : Lab) : Lab :=
  let l := get (baseMp + 0x4000 + i * 16)
  let c := get (baseMp + 0x4004 + i * 16)
  let o := get (baseMp + 0x4008 + i * 16)
  let f (x : Int) (gain : Nat) (off : Int) : Int := satInt 16 (Int.fdiv (x * (gain : Int) + 8192) 16384 + off)
  (f a.1 (bits l 0 16) (sext 16 (bits l 16 16)), f a.2.1 (bits c 0 16) (sext 16 (bits o 0 16)),
    f a.2.2 (bits c 0 16) (sext 16 (bits o 16 16)))

/-! ### Stage 8: the quantiser (R157) -/

/-- R157: one axis index. -/
def axisIndex (d min_ : Int) (step top : Nat) : Nat :=
  if step = 0 then 0 else (clampInt 0 top (Int.fdiv (d - min_ + ((step / 2 : Nat) : Int)) step)).toNat

/-- R56: the appearance of a table state. -/
def Pkg.stateLab (p : Pkg) (k : Nat) : Lab := (p.i (0x80 + 8 * k) 2, p.i (0x82 + 8 * k) 2, p.i (0x84 + 8 * k) 2)

/-- The state with the least distance, the lowest first. -/
def nearest (f : Nat → Nat) (n : Nat) : Nat :=
  (List.range n).foldl (fun b k => if f k < f b then k else b) 0

/-- R157: the code of a desired appearance, and the appearance it will show. -/
def Pkg.quantise (p : Pkg) (d : Lab) : Nat × Lab :=
  if p.table then
    let dist (k : Nat) : Nat :=
      let a := p.stateLab k
      let sq (x : Int) : Nat := x.natAbs * x.natAbs
      sq (a.1 - d.1) + sq (a.2.1 - d.2.1) + sq (a.2.2 - d.2.2)
    let k := nearest dist p.stateCount
    (k, p.stateLab k)
  else
    let li := axisIndex d.1 (p.i 56 2) (p.u 58 2) 63
    let ai := axisIndex d.2.1 (p.i 60 2) (p.u 62 2) 31
    let bi := axisIndex d.2.2 (p.i 64 2) (p.u 66 2) 31
    let code := p.remap (li * 1024 + ai * 32 + bi)
    (code, p.codeLab code)

/-- R154 stages 6 and 7: the corrected appearance of a colour on tile `i`. -/
def State.corrected (s : State) (get : Nat → Nat) (i : Nat) (c : Rgb) : Option (Pkg × Lab) :=
  (s.tilePkg i).map fun p => (p, correct get i (if p.table then srgbLab c else p.gamut c))

end Sys2Proof.Machine
end

