-- ==== Sys2Proof/Machine/SchGuard.lean ====
section
/-! DEFINITION. The scheduler's guard (R15, R70 to R72, R76, R91, R113 to R135): counts, records, phases, handovers,
re-admission, retries, recovery, the activity bitmap, row bundles and the summaries in the status window; the tile fill of
R439. -/

namespace Sys2Proof.Machine

/-! ### Pixels of a session -/

/-- A pixel with its tile and record. -/
structure Pix where
  tile : Nat
  x : Nat
  y : Nat
  psr : Psr
deriving DecidableEq, Repr

/-- The pixels that session `n` owns. -/
def State.ownedBy (s : State) (n : Nat) : List Pix :=
  s.film.psr.filterMap fun e =>
    let p := Psr.ofWord e.2
    if p.session = n then some ⟨pixTile e.1, pixCol e.1, pixRow e.1, p⟩ else none

/-- R131: a tile is drivable: it is UP and its rail group is UP (every rail has been GOOD; a slot in RETRY keeps its group UP,
R130). -/
def State.drivable (s : State) (i : Nat) : Bool := s.tileUp i && decide ((s.group (s.tileRg i)).state = .up)

/-! ### Counts and records (R77, R91, R123, R133, R134) -/

/-- R89, R134: take over what the WSA counted for each session. -/
def State.takeCounts (s : State) : State :=
  s.sessions.foldl (fun st q =>
    let c := st.sessCnt q.1
    st.modSess q.1 fun x => { x with
      settled := x.settled + c.settled, carry := x.carry + c.carry, miss := x.miss + c.miss, est := x.est || c.est }) s

/-- Take a pixel out of the count in which it completed. -/
def Sess.uncount (x : Sess) (kind : Nat) : Sess :=
  if kind = 0 then { x with settled := x.settled - 1 }
  else if kind = 1 then { x with carry := x.carry - 1 }
  else { x with miss := x.miss - 1 }

/-- The sessions that hand over in this guard (R119), those of which an earlier handover was held (R292) among them, the winner of shared
pixels last (R118). -/
def State.heirs (s : State) : List (Nat × Sess) :=
  sortBy (fun a b => decide (a.2.eff < b.2.eff) || (decide (a.2.eff = b.2.eff) && decide (a.2.order < b.2.order)))
    (s.sessions.filter fun q => decide (q.2.state = 4) && decide (q.2.s ≤ s.time.wfn + 1))

/-- Whether a region holds a pixel of tile `i`. -/
def State.regionHas (s : State) (q : Req) (i x y : Nat) : Bool :=
  let wx := s.tileX i + x
  let wy := s.tileY i + y
  decide (q.x ≤ wx) && decide (wx < q.x + q.w) && decide (q.y ≤ wy) && decide (wy < q.y + q.h)

/-- R91, R119, R123: one reopened pixel: handed back to a RUNNING session unless another owns it or a handover of this guard
takes it, and to a RETAINED one while its recovery runs; a CLOSING session moves a table pixel whose last code was lost to MISS. -/
def State.reopenPixel (s : State) (key n : Nat) : State :=
  let i := pixTile key
  let x := pixCol key
  let y := pixRow key
  match s.sess n, s.wsa.doneLast.find? fun d => d.key = key ∧ d.session = n with
  | some e, some d =>
    if e.state = 6 then
      if (s.tilePkg i).any Pkg.table ∧ d.code ≠ 0 ∧ d.kind ≠ 2 then
        s.modSess n fun z => { z.uncount d.kind with miss := z.miss + 1 }
      else s
    else if e.state = 5 ∨ (e.state = 7 ∧ e.recover.isSome) then
      let p := s.psr i x y
      if p.owned ∨ (s.heirs.any fun h => !h.2.cancel && s.regionHas h.2.req i x y) then s
      else (s.setPsr i x y { p with session := n, active := true }).modSess n fun z => z.uncount d.kind
    else s
  | _, _ => s

/-- R91: the reopened pixels of this frame. -/
def State.reopenAll (s : State) : State :=
  { s.wsa.reopen.foldl (fun st q => st.reopenPixel q.1 q.2) s with wsa.reopen := [] }

/-- Post the last record of a session (R123, R128, R131, R133), count it, and return its bookings. -/
def State.lastRecord (s : State) (n : Nat) (x : Sess) (frame : Nat) : State :=
  let kind := if x.promiseVoid then 39 else if x.cancelled then 38 else 37
  let s1 := s.postSess n x kind frame x.settled x.carry x.miss x.superseded
  let s2 := if kind = 39 then s1.count (baseSch + 0xF10) else if kind = 38 then s1.count (baseSch + 0xF14)
    else { s1 with glb.odo.sessDone := s1.glb.odo.sessDone + 1 }
  s2.modSess n fun y => { y with books := [] }

/-- R106, R132: after its record a session is RETAINED while it owns unknown pixels; a known pixel that it still owns is
released with it (assumption 41). `all`: every pixel it owns is about to be unknown (R131). -/
def State.retire (s : State) (n : Nat) (all : Bool) : State :=
  let unk := (s.ownedBy n).filter fun q => q.psr.unknown || all
  let s1 := { s with film.psr := s.film.psr.map fun (e : Nat × DWord) =>
    let p := Psr.ofWord e.2
    if p.session = n ∧ !p.unknown ∧ !all then (e.1, p.release.toWord) else e }
  if unk = [] then s1.freeSess n
  else (s1.modSess n fun x => { x with state := 7 }).count (baseSch + 0xF1C)

/-- R133: the frame after the last compute frame in which the session owned a pixel; 0 for none. -/
def Sess.lastDrive (x : Sess) : Nat := match x.lastOwn with
  | some n => n + 1
  | none => 0

/-- R123: the records of the sessions that were CLOSING in this frame. -/
def State.closeRecords (s : State) : State :=
  (s.sessions.filter fun q => decide (q.2.state = 6)).foldl (fun st q => match st.sess q.1 with
    | some x => (st.lastRecord q.1 x x.lastDrive).retire q.1 false
    | none => st) s

/-- R106, R439: a RETAINED session whose last unknown pixel a fill has released becomes FREE, what else it owns released with it; one
whose recovery runs ends with that (R132). -/
def State.freeRetained (s : State) : State :=
  (s.sessions.filter fun q => decide (q.2.state = 7) && q.2.recover.isNone).foldl (fun st q =>
    if (st.ownedBy q.1).any fun a => a.psr.unknown then st
    else ({ st with film.psr := st.film.psr.map fun (e : Nat × DWord) =>
        let p := Psr.ofWord e.2
        if p.session = q.1 then (e.1, p.release.toWord) else e } : State).freeSess q.1) s

/-- R125: a STREAM that was closed before it started, with no compute frame left before its C, does not start: it ends with its record in
the guard of frame C (DESIGN CHOICE, assumption 167). -/
def State.closeUnstarted (s : State) : State :=
  (s.sessions.filter fun q => decide (q.2.state = 3) && q.2.endsUnstarted && decide (q.2.c ≤ s.time.wfn)).foldl (fun st q =>
    (st.lastRecord q.1 q.2 0).freeSess q.1) s

/-! ### Phases (R76, R117, R122, R125, R128, R132) -/

/-- R60, R241: a levelling begins: no step of it has been replaced on a pixel of session `n` yet. -/
def State.startLevel (s : State) (n : Nat) : State :=
  let keys := (s.film.psr.filter fun e => decide ((Psr.ofWord e.2).session = n)).map fun e => e.1
  { s with
    wsa.replaced := s.wsa.replaced.filter fun k => !keys.contains k
    sch.unlevelled := s.sch.unlevelled.filter fun q => q.1 ≠ n }

/-- R117: a session's LEVEL phase is complete: the tiles that its region covers whole lose their UNKNOWN flag, but for those with
a pixel reported left unknown and those it could not drive; a recovery's is that of its tiles alone (R132). -/
def State.levelDone (s : State) (n : Nat) (x : Sess) : State :=
  let s1 := (s.parts x.req).foldl (fun st a =>
    if a.x0 = 0 ∧ a.y0 = 0 ∧ a.x1 = st.tileW a.tile ∧ a.y1 = st.tileH a.tile ∧ !s.sch.unlevelled.contains (n, a.tile) ∧
        !x.strand.contains a.tile ∧ st.drivable a.tile ∧ (x.recover.all fun r => r.1.contains a.tile) then
      st.modTile a.tile fun t => { t with unknown := false }
    else st) s
  { s1 with sch.unlevelled := s1.sch.unlevelled.filter fun q => q.1 ≠ n }

/-- Keep a session's bookings up to compute frame `f` and the drive frame after it. -/
def Sess.trimBooks (x : Sess) (f : Nat) : Sess :=
  { x with books := x.books.map fun b => { b with hi := some (match b.hi with
    | some h => min h f
    | none => f) } }

/-- The phase step of one session that runs, or recovers, in the guard of frame `wfn` (R76, R106, R122, R125, R128, R132). A pixel
stranded by an earlier re-admission keeps no session RUNNING; a tile lost since the last guard is left to the re-admission of this
guard (R131). A session is within tolerance when every ACTIVE pixel that the WSA computed in the frame was: the others are not judged
(DESIGN CHOICE, assumption 127). -/
def State.phaseStep (s : State) (n : Nat) (x : Sess) : State :=
  let f := s.time.wfn
  let e := s.wsess n
  let c := s.sessCnt n
  let lvl := decide (e.phase = 1) && decide (x.phaseP ≤ e.pframe + 1)
  let s1 := if lvl then s.levelDone n x else s
  let mine := match x.recover with
    | some r => (s1.ownedBy n).any fun q => r.1.contains q.tile
    | none => (s1.ownedBy n).any fun q => q.psr.active && (s1.drivable q.tile || !x.strand.contains q.tile)
  if (!e.holdOpen && decide (x.last ≤ f)) || !mine then
    if x.state = 5 then s1.modSess n fun y => { y with state := 6 }
    else if s1.ownedBy n = [] then s1.freeSess n
    else s1.modSess n fun y => { y with books := [], recover := none }
  else
    let within := decide (e.phase = 2) && !e.holdOpen && c.act && !c.out
    let e1 : WSess := if lvl then { e with phase := 2, pframe := 0 }
      else if within then { e with phase := 3, pframe := 0 }
      else { e with pframe := min 255 (e.pframe + 1) }
    let x1 := if x.closeReq then { x with closed := true } else x
    let e2 := if x.closeReq then { e1 with holdOpen := false } else e1
    (s1.setSess n (some x1)).setWsess n (e2.forFrame x1 (f + 1))

/-- R76: every session that runs or recovers. -/
def State.phaseAll (s : State) : State :=
  (s.sessions.filter fun q => decide (q.2.state = 5) || (decide (q.2.state = 7) && q.2.recover.isSome)).foldl (fun st q =>
    match st.sess q.1 with
    | some x => st.phaseStep q.1 x
    | none => st) s

/-! ### Re-admission (R129 to R131, R196) -/

/-- R131: the session of slot `n` is left no pixel on a drivable tile: PROMISE_VOID at once, then RETAINED. -/
def State.voidNow (s : State) (n : Nat) (x : Sess) : State :=
  let y := { x.unpromised with promiseVoid := true, lastOwn := some s.time.wfn }
  ((s.setSess n (some y)).lastRecord n y (s.time.wfn + 1)).retire n true

/-- R131: what a session's remaining pixels book: (P, T, W), none where R108 or R109 gives no length. -/
def State.remainLength (s : State) (x : Sess) (live : List Pix) : Option (Nat × Nat × Nat) :=
  let tiles := (live.map fun q => q.tile).eraseDups
  let unk := (live.filter fun q => q.psr.unknown || s.film.toUnknown.any fun u => u.1 = q.tile).map fun q => q.tile
  let lv := (if x.req.levelAll then tiles else unk).map fun i => match s.tilePkg i with
    | some p => p.bookLevelLen
    | none => 0
  let p := if unk = [] then 0 else lv.foldl max 0
  match s.lengthWith x.req tiles s.live with
  | .ok (_, t, w) => some (p, t, w)
  | .error _ => none

/-- R122, R131: an extension does not fit: the session is truncated in this guard. -/
def State.truncateNow (s : State) (n : Nat) (x : Sess) : State :=
  let e := s.wsess n
  (s.setSess n (some { x.unpromised with promiseVoid := true, last := s.time.wfn + 1 })).setWsess n
    { e with phase := 3, pframe := 63, holdOpen := false }

/-- R131: the session goes on under a new promise. -/
def State.resume (s : State) (n : Nat) (x : Sess) (p t w : Nat) (ext : List Booking) (cause : Nat) : State :=
  let f := s.time.wfn
  let open_ := x.openStream && !x.closeReq
  let c := if open_ then 0 else f + 1 + p + t + w
  let e := s.wsess n
  let y := { x with
    s := f + 1, p := p, t := t, w := w, c := c, phaseP := p, forced := f + 1 + p + t, last := f + p + t + w
    books := x.books ++ ext }
  let e1 := ({ e with phase := if 0 < p then 1 else 2, pframe := 0, levelAll := x.req.levelAll } : WSess).forFrame y (f + 1)
  let s1 := (s.setSess n (some y)).setWsess n e1
  (s1.startLevel n).repromise n cause x.c

/-- R131: re-admission of the remaining pixels of the session in slot `n`. -/
def State.readmit (s : State) (n cause : Nat) : State :=
  match s.sess n with
  | none => s
  | some x0 =>
    let own := (s.ownedBy n).filter fun q => q.psr.active
    let dead := own.filter fun q => !s.drivable q.tile
    let live := own.filter fun q => s.drivable q.tile
    let x := { x0 with
      voided := true, strandedPix := dead.length, stranded := decide (dead ≠ [])
      strand := (dead.map fun q => q.tile).eraseDups }
    if live = [] then s.voidNow n x
    else
      let s0 := s.setSess n (some x)
      match s0.remainLength x live with
      | none => s0.truncateNow n x
      | some (p, t, w) =>
        if x.openStream ∧ !x.closeReq then s0.resume n x p t w [] cause
        else
          let c' := s0.time.wfn + 1 + p + t + w
          if c' ≤ x.c then s0.resume n x p t w [] cause
          else
            let tiles := live.map fun q => q.tile
            let b := s0.demandOf ((s0.parts x.req).filter fun a => tiles.contains a.tile) x.c (some (c' - 1))
            let fits (z : State) : Bool := (z.misfit b x.eff (fun _ => []) x.c (z.time.wfn + 1024)).isNone
            let lack := allRes.filter fun r => (spanFrames x.c c').any fun f => !s0.fitsRes b x.eff [] r f
            if s0.time.wfn + 1024 < c' then s0.truncateNow n x
            else match s0.grab fits [] (s0.displaceable n x.eff lack) with
              | some (z, taken) => taken.foldl (fun a k => a.rebook 64 k) (z.resume n x p t w [b] cause)
              | none => s0.truncateNow n x

/-- The tiles that a voiding event names, its cause code, and the port whose bookings it touches too. -/
def State.voidTiles (s : State) : VoidEv → List Nat × Nat × Option Nat
  | .tileLost i => ([i], 144, none)
  | .railFault g => (s.mapTiles.filter fun i => decide (s.tileRg i = g), 161, none)
  | .portDegraded p => (s.mapTiles.filter fun i => decide ((s.tile i).port = p), 145, some p)
  | .tileReturned _ => ([], 65, none)

/-- R129, R196: the capacity of the ports whose degradation awaits this guard is halved before any session is re-admitted in it. -/
def State.halvePorts (s : State) : State :=
  { s with sch.halved := s.sch.events.foldl (fun l ev => match ev with
      | .portDegraded p => if l.contains p then l else p :: l
      | _ => l) s.sch.halved }

/-- R129, R196: one voiding event: the sessions with pixels on its tiles are re-admitted, once in a guard (`done`); a degraded
port also re-books the BOOKED sessions that book it. -/
def State.voidOne (q : State × List Nat) (ev : VoidEv) : State × List Nat :=
  let v := q.1.voidTiles ev
  q.1.sessions.foldl (fun (z : State × List Nat) y =>
    if z.2.contains y.1 then z
    else if (y.2.state = 4 ∨ y.2.state = 5) ∧ (z.1.ownedBy y.1).any fun a => a.psr.active && v.1.contains a.tile then
      (z.1.readmit y.1 v.2.1, y.1 :: z.2)
    else match v.2.2 with
      | some p =>
        if y.2.state = 3 ∧ y.2.books.any fun b => decide (amountAt p b.ports ≠ 0) then (z.1.rebook 145 y.1, y.1 :: z.2) else z
      | none => z) q

/-- R131: a stranded tile that has become drivable re-admits its RUNNING session. -/
def State.returnOne (q : State × List Nat) (y : Nat × Sess) : State × List Nat :=
  if q.2.contains y.1 then q
  else match q.1.sess y.1 with
    | some x =>
      if x.state = 5 ∧ x.strand.any fun i => q.1.drivable i && (q.1.ownedBy y.1).any fun a => decide (a.tile = i) then
        (q.1.readmit y.1 65, y.1 :: q.2)
      else q
    | none => q

/-- R129 to R131: the voiding events since the last guard, then the tiles that returned. `done`: sessions re-admitted already. -/
def State.voidAll (s : State) (done : List Nat) : State :=
  let q := s.sch.events.foldl State.voidOne ({ s with sch.events := [] }, done)
  (q.1.sessions.foldl State.returnOne q).1

/-! ### Handover (R19, R118, R119, R122, R192, R243) -/

/-- R119, R285, R287: one pixel, whose record is written: a DEFECT pixel, one that a later winner takes, and one that a session of higher
effective priority holds stay; answers whether it was handed over. -/
def State.handPixel (s : State) (n : Nat) (x : Sess) (later : List Req) (i px py : Nat) : State × Nat :=
  let p := s.psr i px py
  let above : Bool := match s.sess p.session with
    | some y => p.owned && y.live && decide (x.eff < y.eff)
    | none => false
  if p.defect ∨ (later.any fun q => s.regionHas q i px py) ∨ above then (s, 0)
  else
    let s1 := if p.owned ∧ p.session ≠ n then s.modSess p.session fun y => { y with superseded := y.superseded + 1 } else s
    ((s1.setPsr i px py { p with session := n, active := true }).touchPsr (pixKey i px py), 1)

/-- R119: every pixel of a part of a region. -/
def State.handPart (s : State) (n : Nat) (x : Sess) (later : List Req) (a : Part) : State × Nat :=
  (List.range a.rows).foldl (fun q dy =>
    (List.range (a.x1 - a.x0)).foldl (fun (z : State × Nat) dx =>
      let r := z.1.handPixel n x later a.tile (a.x0 + dx) (a.y0 + dy)
      (r.1, z.2 + r.2)) q) (s, 0)

/-- R192, R193, R243: a tile that is not drivable at a handover: it counts as lost, or as under a rail fault, for the session. One that
an enumeration had found becomes LOST, and its domain is enumerated again in the next frame (assumption 66). -/
def State.handLost (s : State) (i : Nat) : State :=
  let t := s.tile i
  if t.state = 2 then { s with film.toUnknown := s.film.toUnknown ++ [(i, true)] }
  else if t.state = 1 then
    let s1 := s.loseTile i t.cause
    if t.epoch = 0 then s1 else s1.modPort t.port fun x => { x with reEnum := true }
  else
    let s1 := { s with film.toUnknown := s.film.toUnknown ++ [(i, true)] }
    if t.state = 3 then s1
    else
      let s2 := ((s1.setTile i { t with state := 3, cause := 1 }).count (baseTf (i / 32) + 0x78)).log 144 i 1 0
      { s2 with glb.odo.tilesLost := s2.glb.odo.tilesLost + 1 }

/-- R119, R122: hand the region over to the session in slot `n`, and write its WSA entry. -/
def State.handOver (s : State) (n : Nat) (x : Sess) (later : List Req) : State :=
  let q := (s.parts x.req).foldl (fun (z : State × Nat) a =>
    let r := z.1.handPart n x later a
    (r.1, z.2 + r.2)) (s, 0)
  let y := { x with total := q.2, closed := x.closed || x.closeReq }
  let e : WSess := ⟨if 0 < x.p then 1 else 2, 0, decide (x.req.kind = 1) && !x.closeReq, x.req.levelAll, x.req.tmode, x.req.tol⟩
  ((q.1.setSess n (some y)).setWsess n (e.forFrame y (s.time.wfn + 1))).startLevel n

/-- The undrivable tiles of a handover: the session is re-admitted in the same guard (R131). -/
def State.handStranded (s : State) (n : Nat) (x : Sess) : State × Bool :=
  let bad := ((s.parts x.req).filter fun a => !s.drivable a.tile).map fun a => a.tile
  if bad = [] then (s, false)
  else
    let cause := if bad.all s.tileUp then 161 else 144
    ((bad.foldl State.handLost s).readmit n cause, true)

/-- R119, R128: the handovers of this guard, in the order in which the winner of shared pixels comes last. They wait while the planes are
held (R292). Answers the sessions re-admitted on the way. -/
def State.handAll (s : State) : State × List Nat :=
  let hs := s.heirs
  let s1 := (hs.filter fun h => h.2.cancel).foldl (fun st h => st.cancelNow h.1 h.2) s
  let go := if s.planesHeld then [] else hs.filter fun h => !h.2.cancel
  let rec run (s : State) (done : List Nat) : List (Nat × Sess) → State × List Nat
    | [] => (s, done)
    | h :: l =>
      let s2 := s.handOver h.1 h.2 (l.map fun q => q.2.req)
      let r := s2.handStranded h.1 h.2
      run r.1 (if r.2 then h.1 :: done else done) l
  run s1 [] go

/-- R106, R133: a RUNNING session that has lost its last pixel to a handover posts its record at once; a RETAINED one is FREE. -/
def State.supersededAll (s : State) : State :=
  s.sessions.foldl (fun st q =>
    if (q.2.state = 5 ∨ q.2.state = 7) ∧ st.ownedBy q.1 = [] then
      if q.2.state = 7 then st.freeSess q.1
      else match st.sess q.1 with
        | some x => (st.lastRecord q.1 x (s.time.wfn + 1)).retire q.1 false
        | none => st
    else st) s

/-- R128: a cancelled session that runs is released, its LEVEL phase done: truncation falls on the compute frame to come, and its bookings
end with it. A session that has become CLOSING, or lost its last pixel, in this guard is not affected: its record is COMPLETED (DEDUCED
from R128's last point, assumption 128). -/
def State.releaseCancelled (s : State) (n : Nat) (x : Sess) : State :=
  let f := s.time.wfn
  let e := s.wsess n
  if x.state = 5 ∧ x.cancel ∧ !x.cancelled ∧ e.phase ≠ 1 then
    let y := { (x.trimBooks (f + 1)).unpromised with last := f + 1, cancelled := true }
    (s.setSess n (some y)).setWsess n (({ e with holdOpen := false } : WSess).forFrame y (f + 1))
  else s

/-- R128: every cancelled session that runs. -/
def State.cancelAll (s : State) : State :=
  s.sessions.foldl (fun st q => st.releaseCancelled q.1 q.2) s

/-! ### Retries and recovery (R100, R113 to R115, R126, R132) -/

/-- R126: the drift limit of a tile. -/
def State.driftLimit (s : State) (i : Nat) : Nat := match s.tilePkg i with
  | some p => if p.table then s.liveF baseSch 12 4 else p.driftLimit
  | none => 16

/-- R126: promote the DRIFT sessions over a tile whose report of the last guard is at its limit; then take in the report that
is due in the guard of frame 64t + 63. -/
def State.promote (s : State) : State :=
  let hot := (s.sch.ageRep.filter fun q => decide (s.driftLimit q.1 + 1 ≤ q.2)).map fun q => q.1
  let s1 := s.sessions.foldl (fun st q =>
    if q.2.req.kind = 2 ∧ q.2.state ≤ 6 ∧ hot.any fun i => (s.partOn q.2.req i).isSome then
      st.modSess q.1 fun x => { x with eff := 6 }
    else st) s
  if s.time.wfn % 64 = 63 ∧ s.pwr.state ≠ .plateau then
    { s1 with sch.ageRep := s1.sch.ageAcc.filter fun q => !s1.sch.ageSkip.contains q.1 }
  else { s1 with sch.ageRep := [] }

/-- R113: take in the DEFERRED sessions whose span has come within the calendar, in the order of R100. -/
def retryBefore (a b : Nat × Sess) : Bool :=
  let ea := if a.2.state = 7 then 0 else a.2.eff
  let eb := if b.2.state = 7 then 0 else b.2.eff
  decide (eb < ea) || (decide (ea = eb) && decide (a.2.order < b.2.order))

/-- R113: a DEFERRED session in a guard. -/
def State.retryDeferred (s : State) (n : Nat) : State :=
  match s.sess n with
  | some x => match s.lengthOf x.req with
    | .ok (p, t, w) => if s.time.wfn + 1024 < x.req.start + (p + t + w) then s else s.answer n false
    | .error _ => s.answer n false
  | none => s

/-- R133: refuse a session that waits. -/
def State.refuseWaiting (s : State) (n : Nat) (x : Sess) (reason frame : Nat) : State :=
  ((s.postRecord x.dst (refusedEntry x.src x.tag frame reason) 0x3FF 33).count (baseSch + 0xF04)).freeSess n

/-- R108, R114: the least that L of a request can be now: its bounds where they have values, whatever their sum; 0 where it has none. -/
def State.leastLen (s : State) (q : Req) : Nat :=
  match s.boundsWith q ((s.parts q).map fun a => a.tile) s.live with
  | .ok (p, t, w) => p + t + w
  | .error _ => 0

/-- R112, R114: a WAITING session in a guard: refused once its DEADLINE cannot be met, booked where it fits. -/
def State.retryWaiting (s : State) (n : Nat) (x : Sess) : State :=
  match s.wantOf n x with
  | .error e =>
    if x.req.deadline ≠ 0 ∧ x.req.deadline < s.time.wfn + 2 + s.leastLen x.req then s.refuseWaiting n x e 0 else s
  | .ok (v, _) =>
    if x.req.deadline ≠ 0 ∧ x.req.deadline < s.time.wfn + 2 + v.len then
      s.refuseWaiting n x (s.refusalReason v) (match s.search v with
        | some st => v.promise st
        | none => 0)
    else if (s.findPlace v).isSome then s.answer n false
    else s

/-- R132: the booking of a recovery of `p` + 1 frames on one tile, if it fits, beside those booked already. -/
def State.recoverTile (s : State) (n : Nat) (p i : Nat) : State :=
  let f := s.time.wfn
  match s.sess n with
  | none => s
  | some x =>
    let b := s.demandOf ((s.parts x.req).filter fun a => decide (a.tile = i)) (f + 1) (some (f + 1 + p))
    if (s.misfit b 0 (fun _ => []) f (f + 1024)).isSome then s
    else
      let tiles := (x.recover.map fun r => r.1).getD []
      (s.setSess n (some { x with books := x.books ++ [b], recover := some (tiles ++ [i], f + 1 + p) })).log 130 i n 0

/-- R132: a RETAINED session recovers the drivable tiles on which it holds unknown pixels, each booked where it fits now. One entry of the
WSA's table stands for the session (R75), so the tiles that begin in one guard share P, the longest of theirs, and a tile that
becomes drivable meanwhile waits for them (DEDUCED, assumption 129). -/
def State.recoverOne (s : State) (n : Nat) (x : Sess) : State :=
  let f := s.time.wfn
  let tiles := (((s.ownedBy n).filter fun q => q.psr.unknown && s.drivable q.tile).map fun q => q.tile).eraseDups
  let p := (tiles.map fun i => match s.tilePkg i with
    | some k => k.bookLevelLen
    | none => 0).foldl max 0
  if tiles = [] ∨ x.recover.isSome ∨ p = 0 then s
  else
    let s1 := tiles.foldl (fun st i => st.recoverTile n p i) (s.setSess n (some { x with books := [] }))
    match s1.sess n with
    | some y =>
      if y.recover.isSome then
        ((s1.setSess n (some { y with phaseP := p, forced := f + 1 + p, last := f + 1 + p })).setWsess n
          ⟨1, 0, false, false, x.req.tmode, x.req.tol⟩).startLevel n
      else s1
    | none => s1

/-- R100, R114, R132: WAITING sessions, and recoveries at priority 0, in the order of R100. -/
def State.retryAll (s : State) : State :=
  let s1 := ((sortBy retryBefore (s.sessions.filter fun q => decide (q.2.state = 1))).map fun q => q.1).foldl State.retryDeferred s
  ((sortBy retryBefore (s1.sessions.filter fun q => decide (q.2.state = 2) || decide (q.2.state = 7))).map fun q => q.1).foldl
    (fun st n => match st.sess n with
      | some x => if x.state = 2 then st.retryWaiting n x else if x.state = 7 then st.recoverOne n x else st
      | none => st) s1

/-! ### The activity bitmap and row bundles (R70 to R73, R131) -/

/-- The row of a segment: tile and row together. -/
def segRow (k : Nat) : Nat := k / 256

/-- R70: the bits of segments that hold an ACTIVE pixel; those of rows with a held journal entry stay set. -/
def State.activity (s : State) : State :=
  let held := s.heldRows.map fun r => segRow (segKey r.row.tile r.row.row 0)
  let kept := s.film.active.filter fun q => held.contains (segRow q.1)
  { s with film.active := s.film.psr.foldl (fun t e =>
      if (Psr.ofWord e.2).active then
        tabSet false t (segKey (pixTile e.1) (pixRow e.1) (pixCol e.1 / 64)) true
      else t) kept }

/-- The rows of a tile that hold active segments, from the top. -/
def State.activeRows (s : State) (i : Nat) : List (Nat × List Nat) :=
  let ks := (s.film.active.filter fun q => decide (segTile q.1 = i) && q.2).map Prod.fst
  ((ks.map segRowOf).eraseDups).map fun y => (y, (ks.filter fun k => decide (segRowOf k = y)).map segPlace)

/-- R71: the bundles of a tile's rows: a bundle closes before a row that would take it past 256 segments. A row without active segments
between two others ends no bundle (DESIGN CHOICE, assumption 130). -/
def bundlesOf (tile slot : Nat) : List (Nat × List Nat) → Option Bundle → List Bundle
  | [], none => []
  | [], some b => [b]
  | r :: l, none => bundlesOf tile slot l (some ⟨tile, slot, [r], r.2.length⟩)
  | r :: l, some b =>
    if 256 < b.count + r.2.length then b :: bundlesOf tile slot l (some ⟨tile, slot, [r], r.2.length⟩)
    else bundlesOf tile slot l (some { b with rows := b.rows ++ [r], count := b.count + r.2.length })

/-- R131, R132: whether a segment is driven: it holds an ACTIVE pixel that does not wait for a recovery, or its row a held journal entry. -/
def State.segDriven (s : State) (i y g : Nat) : Bool :=
  ((segCols (s.tileW i) g).any fun x => (s.psr i x y).active && !s.awaitsRecovery i (s.psr i x y).session) ||
    s.heldRows.any fun r => decide (r.row.tile = i) && decide (r.row.row = y)

/-- R71, R132: the rows of a tile with the segments of them that are driven. -/
def State.drivenRows (s : State) (i : Nat) : List (Nat × List Nat) :=
  ((s.activeRows i).map fun r => (r.1, r.2.filter (s.segDriven i r.1))).filter fun r => r.2 ≠ []

/-- R71, R131: the bundles of every drivable tile. -/
def State.allBundles (s : State) : List Bundle :=
  (((s.film.active.map fun q => segTile q.1).eraseDups).filter s.drivable).flatMap fun i => match s.boundTo i with
    | some n => bundlesOf i n (s.drivenRows i) none
    | none => []

/-- R72: the order of a queue: more segments first, then port, tile, first row. -/
def State.bundleBefore (s : State) (a b : Bundle) : Bool :=
  let key (x : Bundle) : List Nat := [(s.tile x.tile).port, x.tile, (x.rows.headD (0, [])).1]
  decide (b.count < a.count) || (decide (a.count = b.count) && decide (key a < key b))

/-- R72: the clusters of the groups: 48 · a / A rounded, at least one, the rest at the largest group. -/
def groupSizes (ws : List (Nat × Nat)) : List (Nat × Nat) :=
  let total := (ws.map fun q => q.2).sum
  let raw := ws.map fun q => (q.1, max 1 ((96 * q.2 + total) / (2 * total)))
  let big := ws.foldl (fun b q => match b with
    | none => some q
    | some c => if c.2 < q.2 then some q else some c) none
  let sum := (raw.map fun q => q.2).sum
  raw.map fun q => if big.any (fun b => b.1 = q.1) then (q.1, q.2 + 48 - sum) else q

/-- R67, R95: a cluster whose COEF holds nothing, after PLATEAU, loads in the guard the coefficients of the tiles in its group's queue. -/
def Cluster.reload (c : Cluster) (g : PGroup) : Cluster :=
  if c.coef = [] then { c with coef := ((g.queue.map fun b => b.tile).eraseDups).take 76 } else c

/-- R72, R73, R95: the row bundles of the next frame, their groups and queues, the maps and coefficients that clusters load for them;
clusters in hand of nothing. -/
def State.assignBundles (s : State) : State :=
  let bs := s.allBundles
  let slots := (List.range 8).filter fun n => bs.any fun b => decide (b.slot = n)
  let sizes := groupSizes (slots.map fun n => (n, ((bs.filter fun b => decide (b.slot = n)).map fun b => b.count).sum))
  let groups := (sizes.foldl (fun (q : List PGroup × Nat) z =>
    (q.1 ++ [⟨z.1, q.2, z.2, sortBy s.bundleBefore (bs.filter fun b => decide (b.slot = z.1))⟩], q.2 + z.2)) ([], 0)).1
  let clusterOf (c : Nat) (old : Cluster) : Cluster :=
    match groups.find? fun g => g.first ≤ c ∧ c < g.first + g.size with
    | some g => { old.reload g with group := some g.slot, appear0 := g.slot + 1, switched := false, bundle := none, later := [] }
    | none => { old with group := none, switched := false, bundle := none, later := [] }
  { s with
    wsa.groups := groups
    wsa.clusters := (List.range 48).foldl (fun t c => tabMod Cluster.init t c (clusterOf c)) s.wsa.clusters }

/-! ### What software sees (R104, R135, R201, R202, R359) -/

/-- R102, R104: the descriptor of a session. -/
def Sess.bytes (x : Sess) : List Byte :=
  x.req.raw ++ leBytes 1 x.state ++ leBytes 1 x.eff ++ leBytes 2 x.sflags ++ leBytes 2 x.p ++ leBytes 2 x.t ++ leBytes 2 x.w ++
    zeroBytes 2 ++ leBytes 8 x.s ++ leBytes 8 x.c ++ leBytes 8 x.cFirst ++ leBytes 4 x.total ++ leBytes 4 x.settled ++
    leBytes 4 x.carry ++ leBytes 4 x.miss ++ leBytes 4 x.superseded ++ leBytes 4 x.strandedPix ++ leBytes 4 x.synDemand ++
    leBytes 2 x.repromises ++ zeroBytes 2 ++ leBytes 4 x.stale ++ zeroBytes 8

/-- R135: the summary word of a session. -/
def State.summary (s : State) (n : Nat) (x : Sess) : Nat :=
  let left := if x.live ∧ x.c ≠ 0 then min 65535 (x.c - s.time.wfn) else 0
  place x.state 0 4 + place (s.wsess n).phase 4 2 + place x.eff 6 3 + place x.req.kind 9 3 + place (b2n x.voided) 12 1 +
    place (b2n x.stranded) 13 1 + place (b2n x.est) 14 1 + left * 65536

/-- R104, R131: the ACTIVE pixels that a session holds on undrivable tiles, as they stand in this guard. -/
def State.countStranded (s : State) : State :=
  s.sessions.foldl (fun st q =>
    if 5 ≤ q.2.state then
      let dead := (st.ownedBy q.1).filter fun p => p.psr.active && !st.drivable p.tile
      st.modSess q.1 fun x => { x with
        strandedPix := dead.length, stranded := decide (dead ≠ []), strand := (dead.map fun p => p.tile).eraseDups }
    else st) s

/-- R125: a STREAM whose close was processed in this frame is CLOSED in its guard. -/
def State.closeStreams (s : State) : State :=
  s.sessions.foldl (fun st q => if q.2.closeReq && !q.2.closed then st.closeNow q.1 q.2 else st) s

/-- R75: the entries of slots that are FREE are idle. -/
def State.idleEntries (s : State) : State :=
  { s with wsa.sess := tabKeep (fun n => s.sessions.any fun q => decide (q.1 = n)) s.wsa.sess }

/-- R104, R135: descriptors and summaries as of this guard. -/
def State.showSessions (s : State) : State :=
  s.sch.slots.foldl (fun st q => match q.2 with
    | some x => (st.setSess q.1 (some { x with desc := x.bytes })).swinPut ((0x1000 + 4 * q.1) / 4) (if x.state = 0 then 0 else st.summary q.1 x)
    | none => st) s

/-- R201: the rows of a tile dropped in the last 64 frames. -/
def State.dropSum (s : State) (i : Nat) : Nat :=
  (((s.tile i).drops.filter fun d => decide (s.time.wfn < d.1 + 64)).map fun d => d.2).sum

/-- R201: the health word of tile `i`. -/
def State.health (s : State) (i : Nat) : Nat :=
  let t := s.tile i
  place t.state 0 2 + place (b2n t.unknown) 2 1 + place (b2n (s.tileTemp i).estimated) 3 1 + place (b2n t.panelOn) 4 1 +
    place (b2n (decide ((s.flTile i).marks ≠ []))) 5 1 + place (b2n t.partner) 6 1 + place t.pos 7 5 + place t.port 12 5 +
    place (min 255 (s.dropSum i)) 17 8 + place t.cause 25 4

def PortState.code : PortState → Nat
  | .off => 0
  | .down => 1
  | .bringup => 2
  | .enum => 3
  | .up => 4
  | .degraded => 5

/-- R202: the status word of port `p`. -/
def State.portWord (s : State) (p : Nat) : Nat :=
  let x := s.port p
  let pr := s.port (p / 2 * 2)
  place x.state.code 0 3 + place (s.upCount p) 3 6 + place (b2n pr.loopClosed) 9 1 + place (b2n pr.loopBroken) 10 1 +
    place x.held 11 7 + place (min 16383 (s.portRtt p / 16)) 18 14

/-- R201, R202: tile health and port status words, and the WFN word (R359), in every guard. -/
def State.showTiles (s : State) : State :=
  let s1 := (List.range 1024).foldl (fun st i =>
    if s.tile i = TileSlot.init ∧ s.health i = 0 ∧ st.swinGet ((0x2000 + 4 * i) / 4) = 0 then st
    else (st.modTile i fun t => { t with drops := t.drops.filter fun d => decide (s.time.wfn < d.1 + 64) }).swinPut
      ((0x2000 + 4 * i) / 4) (s.health i)) s
  let s2 := (List.range 32).foldl (fun st p => st.swinPut ((0x3000 + 4 * p) / 4) (s.portWord p)) s1
  s2.swinPut 4 (s.time.wfn % 4294967296)

/-! ### The guard (R15) -/

/-- R373 step 3, R106, R129: every session ends without a record, its promise void. -/
def State.endSessions (s : State) : State :=
  { s.sessions.foldl (fun st q => (st.modSess q.1 Sess.unpromised).freeSess q.1) s with sch.events := [] }

/-- Note that the sessions that own a pixel will own one in the compute frame to come (R133). -/
def State.noteOwners (s : State) : State :=
  s.sessions.foldl (fun st q =>
    if (q.2.state = 4 ∨ q.2.state = 5) ∧ st.ownedBy q.1 ≠ [] then
      st.modSess q.1 fun x => { x with lastOwn := some (s.time.wfn + 1) }
    else st) s

/-- The guard's work on sessions: reopened pixels, counts, records, phases, handovers, voids, promotions, retries. -/
def State.guardSessions (s : State) : State :=
  let s1 := s.halvePorts.takeCounts.reopenAll.closeRecords.closeUnstarted.freeRetained.phaseAll
  let h := s1.handAll
  (((h.1.supersededAll.voidAll h.2).cancelAll.promote.retryAll).closeStreams.countStranded).noteOwners

/-- R288, R383: an exit that a session asked for and R288 refused is asked for again in each guard in PLATEAU (assumption 170). -/
def State.wakeAgain (s : State) : State :=
  if s.pwr.state = .plateau ∧ s.pwr.transit = .none ∧ s.sessionsRun then s.startExit else s

/-- SCH_GUARD_PROCESS (R15): once in a guard, after the WSA's hand-off; in PLATEAU there is none to wait for. -/
def execSchGuardProcess (s : State) : Host.Outcome State Fault Refusal :=
  let runs := (s.frameLoop && s.wsa.handed) || decide (s.pwr.state = .plateau)
  if runs && s.wsa.inGuard && !s.sch.guardDone && !s.glb.refclkStopped then
    let ends := match s.thm.shutdown with
      | some q => decide (q.2 ≤ s.time.wfn)
      | none => false
    let s0 := s.ctrlReach 1
    let s1 := if ends then s0.endSessions else s0.guardSessions
    let s2 := (if ends then s1 else s1.activity.assignBundles).idleEntries.showSessions.showTiles
    .next ({ s2 with
      sch.guardDone := true
      wsa.cnt := []
      wsa.doneLast := s2.wsa.doneLast.filter fun d => d.frame = s2.time.wfn }.followSessions.wakeAgain)
  else .next s

/-! ### Tile fill (R439) -/

/-- R439: whether a session that is DEFERRED to CLOSING has a region touching the tile: its part under the geometry the slot
has or the one it takes. -/
def State.fillBlocked (s : State) (i : Nat) : Bool :=
  let t := s.tile i
  let grown := s.setTile i { t with width := max t.width t.newWidth, height := max t.height t.newHeight }
  s.sessions.any fun q => decide (q.2.state ≤ 6) && (grown.partOn q.2.req i).isSome

/-- TILE_FILL (R439, R287, R292): a fill that is due begins: the RETAINED sessions' pixels of the tile are released. A RETAINED session
left without an unknown pixel becomes FREE in the next guard (R106). -/
def execTileFill (tile : Fin 1024) (s : State) : Host.Outcome State Fault Refusal :=
  let i := tile.val
  let t := s.tile i
  if t.fill = 1 ∧ t.awaits ≠ 8 ∧ !s.fillBlocked i ∧ !s.film.snapTiles.contains i ∧ !s.planesHeld then
    .next ((s.mapPsrs i fun _ _ p => p.release).setTile i { t with fill := 2 }).touchPlanes
  else .next s

/-- Whether a key of the planes lies in tile `i`. -/
def inTile (i k : Nat) : Bool := decide (pixTile k = i)

/-- TILE_FILL_DONE (R439, R287, R292): every PSR and target of the tile is filled, its geometry is the new one, it is flagged UNKNOWN, and it
becomes UP if nothing else holds it. -/
def execTileFillDone (tile : Fin 1024) (s : State) : Host.Outcome State Fault Refusal :=
  let i := tile.val
  let t := s.tile i
  if t.fill = 2 ∧ !s.planesHeld then
    let s1 := s.touchPlanes.setTile i { t with
      fill := 0, unknown := true, width := t.newWidth, height := t.newHeight, lastW := t.newWidth, lastH := t.newHeight }
    let s2 := { s1 with
      film.psr := s1.film.psr.filter fun e => !inTile i e.1
      film.target := s1.film.target.filter fun e => !inTile i e.1 }
    .next (s2.tryUp i)
  else .next s

end Sys2Proof.Machine
end

