-- ==== Sys2Proof/Machine/Render.lean ====
section
/-! DEFINITION. Render orders (R158 to R164): when renders start, what they write, and when they are late. -/

namespace Sys2Proof.Machine

/-! ### Which pixels a render writes (R162) -/

/-- R162: whether the session in slot `n` owns the pixel after the guard of the render frame: as that flip left it for a late render, as
it stands once that guard has passed, and before it as the handovers to come will leave it (assumption 54). -/
def State.rendersPixel (s : State) (r : Render) (i x y : Nat) : Bool :=
  let p := s.psr i x y
  let mine := p.owned && decide (p.session = r.slot)
  if r.late then r.own.contains (pixKey i x y)
  else if s.sch.guardDone then mine
  else
    let takes (h : Nat × Sess) : Bool := !h.2.cancel && s.regionHas h.2.req i x y && !p.defect &&
      !(match s.sess p.session with
        | some z => p.owned && z.live && decide (h.2.eff < z.eff)
        | none => false)
    match (s.heirs.reverse.find? takes) with
    | some h => decide (h.1 = r.slot)
    | none => mine

/-- The pixels of a region, tile by tile. -/
def State.regionKeys (s : State) (q : Req) : List (Nat × Nat × Nat) :=
  (s.parts q).flatMap fun a => (List.range a.rows).flatMap fun dy => (List.range (a.x1 - a.x0)).map fun dx =>
    (a.tile, a.x0 + dx, a.y0 + dy)

/-- R162: the pixels that a render writes. -/
def State.renderKeys (s : State) (r : Render) : List (Nat × Nat × Nat) :=
  (s.regionKeys r.req).filter fun k => s.rendersPixel r k.1 k.2.1 k.2.2

/-- Write a target. -/
def State.setTarget (s : State) (i x y c : Nat) : State :=
  { s with film.target := tabSet 0 s.film.target (pixKey i x y) (c % 65536) }

/-! ### Error diffusion (R158) -/

/-- The error shares of R158, by component: right, down left, down, down right. -/
def shares (e : Int) : Int × Int × Int × Int :=
  let e7 := Int.fdiv (7 * e + 8) 16
  let e3 := Int.fdiv (3 * e + 8) 16
  let e5 := Int.fdiv (5 * e + 8) 16
  (e7, e3, e5, e - e7 - e3 - e5)

/-- Add to an accumulator. -/
def addAcc (t : Tab Lab) (x : Int) (d : Lab) : Tab Lab :=
  if x < 0 then t
  else tabMod (0, 0, 0) t x.toNat fun a => (a.1 + d.1, a.2.1 + d.2.1, a.2.2 + d.2.2)

/-- What diffusion carries through a row: the state, its own row's accumulators and the next row's. -/
abbrev Dith := State × Tab Lab × Tab Lab

/-- R153, R157, R158: one pixel of a render: wall column and tile position. -/
def ditherPixel (get : Nat → Nat) (r : Render) (places : List Place) (wy : Nat) (dir : Int) (q : Dith) (px : Nat × Nat × Nat × Nat) :
    Dith :=
  let (s, cur, next) := q
  let (wx, i, x, y) := px
  if !s.rendersPixel r i x y then q
  else match s.pixelValue get r.pics r.req places wx wy with
    | .code c => ((s.setTarget i x y c).count (baseMp + 0xF08), cur, next)
    | .rgb c _ =>
      match s.corrected get i c with
      | none => q
      | some (p, a) =>
        let w := get (baseMp + 0xC)
        let on := decide (bits w 0 1 = 1)
        let ecl : Int := bits w 16 12
        let acc := tabGet (0, 0, 0) cur wx
        let f (v e : Int) : Int := if on then v + clampInt (-ecl) ecl e else v
        let d : Lab := (f a.1 acc.1, f a.2.1 acc.2.1, f a.2.2 acc.2.2)
        let z := p.quantise d
        let s1 := s.setTarget i x y z.1
        if on then
          let e := (shares (d.1 - z.2.1), shares (d.2.1 - z.2.2.1), shares (d.2.2 - z.2.2.2))
          let pick (g : Int × Int × Int × Int → Int) : Lab := (g e.1, g e.2.1, g e.2.2)
          let cx : Int := wx
          let cur1 := addAcc cur (cx + dir) (pick fun t => t.1)
          let next1 := addAcc (addAcc (addAcc next (cx - dir) (pick fun t => t.2.1)) cx (pick fun t => t.2.2.1)) (cx + dir)
            (pick fun t => t.2.2.2)
          (s1, cur1, next1)
        else (s1, cur, next)

/-- The pixels of a region on wall row `wy`, in ascending x: wall column, tile, column, row. -/
def State.rowPixels (s : State) (ps : List Part) (wy : Nat) : List (Nat × Nat × Nat × Nat) :=
  let on := ps.filter fun a => decide (s.tileY a.tile + a.y0 ≤ wy) && decide (wy < s.tileY a.tile + a.y1)
  let sorted := sortBy (fun a b => decide (s.tileX a.tile < s.tileX b.tile)) on
  sorted.flatMap fun a => (List.range (a.x1 - a.x0)).map fun k =>
    (s.tileX a.tile + a.x0 + k, a.tile, a.x0 + k, wy - s.tileY a.tile)

/-- R158: a render row by row, in serpentine order. -/
def State.renderRows (s : State) (r : Render) : State :=
  let get := regGet r.cfg
  let q := r.req
  let ps := s.parts q
  let places := sortBy (fun a b => decide (a.z < b.z) || (decide (a.z = b.z) && decide (a.num < b.num)))
    (((List.range q.srcCount).filter fun j => placeValid get (q.srcFirst + j)).map fun j => placeAt get (q.srcFirst + j))
  ((List.range q.h).foldl (fun (z : State × Tab Lab) dy =>
    let wy := q.y + dy
    let row := z.1.rowPixels ps wy
    let even := decide (wy % 2 = 0)
    let r1 := (if even then row else row.reverse).foldl (ditherPixel get r places wy (if even then 1 else -1)) (z.1, z.2, [])
    (r1.1, r1.2.2)) (s, [])).1

/-- R160: CLEAR_CODE in every pixel of the region that the render writes. -/
def State.renderClear (s : State) (r : Render) : State :=
  (s.renderKeys r).foldl (fun st k => st.setTarget k.1 k.2.1 k.2.2 r.req.code) s

/-- R160: a render whose pixels all take CLEAR_CODE. -/
def Req.plain (q : Req) : Bool := decide (q.kind = 4) || (decide (q.kind = 3) && q.useCode)

/-- R160 to R163: a render completes: the targets of its region are written. A late one whose slot has gone to another session meanwhile
writes nothing: its session owns no pixel any more (DEDUCED, assumption 160). -/
def State.finishRender (s : State) (r : Render) : State :=
  let s1 := { s with mp.renders := s.mp.renders.erase r }
  let same := match s.sess r.slot with
    | some x => decide (x.order = r.order)
    | none => false
  let s2 := if !same then s1 else if r.req.plain then s1.renderClear r else s1.renderRows r
  s2.count (baseMp + 0xF00)

/-- RENDER_COMPLETE (R164, R292): the oldest render of the slot; on a gated or stopped pipeline there is none. -/
def execRenderComplete (slot : Fin 1023) (s : State) : Host.Outcome State Fault Refusal :=
  .next (match s.mp.renders.find? fun r => r.slot = slot.val with
    | some r => if s.planesHeld then s else s.touchPlanes.finishRender r
    | none => s)

/-! ### Capacity (R164) -/

/-- R164: the pixels that a render writes. -/
def State.pixelsWritten (s : State) (r : Render) : Nat := (s.renderKeys r).length

/-- Wall pixels that a rectangle and a region share. -/
def sharedPixels (p : Place) (q : Req) : Nat :=
  (min (p.dx + p.dw) (q.x + q.w) - max p.dx q.x) * (min (p.dy + p.dh) (q.y + q.h) - max p.dy q.y)

/-- R164: the layer pixels of a render. -/
def State.layerPixels (s : State) (r : Render) : Nat :=
  let get := regGet r.cfg
  if r.req.plain ∨ r.req.bitmap then s.pixelsWritten r
  else (((List.range r.req.srcCount).filter fun j => placeValid get (r.req.srcFirst + j)).map fun j =>
    sharedPixels (placeAt get (r.req.srcFirst + j)) r.req).sum

/-- R164: the render bytes of a render, times 4; of a bitmap the part inside the region is read (R147). -/
def State.renderBytes4 (s : State) (r : Render) : Nat :=
  let get := regGet r.cfg
  let bpp4 (n : Nat) : Nat :=
    if srcKind get n = 2 then 4 * bitmapBpp get n else 4 * (pixelGroup get n).1 / (pixelGroup get n).2
  let read :=
    if r.req.plain then 0
    else if r.req.bitmap then min (srcW get r.req.srcFirst) r.req.w * min (srcH get r.req.srcFirst) r.req.h * bpp4 r.req.srcFirst
    else (((List.range r.req.srcCount).filter fun j => placeValid get (r.req.srcFirst + j)).map fun j =>
      let p := placeAt get (r.req.srcFirst + j)
      p.sw * p.sh * bpp4 p.source).sum
  read + 8 * s.pixelsWritten r

/-- R164: whether the frame's renders keep within both limits, so that all of them complete before the flip. -/
def State.rendersFit (s : State) : Bool :=
  let rs := s.mp.renders.filter fun r => !r.late
  decide ((rs.map s.layerPixels).sum ≤ s.mpLayerCap) && decide ((rs.map s.renderBytes4).sum ≤ 4 * s.mpBudget)

/-- R164: the flip that ends a render frame: what fits has completed; what is left is late. -/
def State.endRenders (s : State) : State :=
  let open_ := s.mp.renders.filter fun r => !r.late
  if open_ = [] then s
  else if s.rendersFit && !s.planesHeld then open_.foldl State.finishRender s.touchPlanes
  else
    let s1 := { s with mp.renders := s.mp.renders.map fun r =>
      if r.late then r else { r with late := true, own := (s.renderKeys r).map fun k => pixKey k.1 k.2.1 k.2.2 } }
    open_.foldl (fun st r => (st.count (baseMp + 0xF04)).log 129 r.slot r.frame 0) s1

/-! ### Starting renders (R160, R161) -/

/-- R161: the pictures of a render: for each of its STREAM sources the newest complete one. -/
def State.fixPics (s : State) (q : Req) : List (Nat × Pic) :=
  (s.srcsOf q).filterMap fun n =>
    if srcKind s.live n = 1 then (s.src n).newest.map fun p => (n, p) else none

/-- R161: whether a picture is newer than the one the session last rendered from its source. -/
def newerPic (last : List (Nat × Nat)) (q : Nat × Pic) : Bool := !(last.contains (q.1, q.2.serial))

/-- R161, R163: start a render of the session in slot `n` for frame `k`. For STILL and LEVEL, whose FRESH R102 ignores, a picture is judged
by the bound of 3 frames that a STREAM has by default (DESIGN CHOICE, assumption 159). -/
def State.startRender (s : State) (n : Nat) (x : Sess) (k : Nat) : State :=
  let pics := if x.req.plain ∨ x.req.bitmap then [] else s.fixPics x.req
  let fresh := if x.req.kind ≠ 1 ∨ x.req.fresh = 0 then 3 else x.req.fresh
  let stale := (pics.filter fun q => newerPic x.lastPics q && (match q.2.frame with
    | some m => decide (m + fresh < k + 2)
    | none => false)).length
  let s1 := pics.foldl (fun st q => st.setSrc q.1 { st.src q.1 with used := true }) s
  { s1.setSess n (some { x with
      stale := if s.wallValid then x.stale + stale else x.stale
      lastPics := pics.map fun q => (q.1, q.2.serial) }) with
    mp.renders := s1.mp.renders ++ [Render.mk n x.order x.req k (s1.liveSet unitMp) pics false []] }

/-- R125, R160: whether the session in slot `n` renders in the frame `k` that begins. A STREAM with a cancellation pending, or released by
one in its LEVEL phase, starts no further render, as one whose close has been taken does not (DESIGN CHOICE, assumption 158). -/
def State.rendersIn (s : State) (n : Nat) (x : Sess) (k : Nat) : Bool :=
  let busy := s.mp.renders.any fun r => decide (r.slot = n)
  if x.req.kind = 2 ∨ x.cancel ∨ x.closeReq then false
  else if x.state = 4 ∧ x.s = k + 1 then true
  else
    decide (x.req.kind = 1) && decide (x.state = 5) && !busy &&
      ((s.fixPics x.req).any (newerPic x.lastPics))

/-- R160, R161: the renders of the frame that begins. -/
def State.startRenders (s : State) : State :=
  let k := s.time.wfn
  s.sessions.foldl (fun st q => match st.sess q.1 with
    | some x => if st.rendersIn q.1 x k then st.startRender q.1 x k else st
    | none => st) s

end Sys2Proof.Machine
end

