-- ==== Sys2Proof/Machine/Odo.lean ====
section
/-! DEFINITION. The odometer (R408 to R410): its counters, its records as bytes, and the records that the flash holds. -/

namespace Sys2Proof.Machine

/-- Cycles of CLK_FAB in a second. -/
def secC : Nat := 800000000

/-- R396, R408: bytes whose CRC field of 4 bytes lies at `o`, that field taken as 0. -/
def withoutCrc (o : Nat) (bs : List Byte) : List Byte := bs.take o ++ zeroBytes 4 ++ bs.drop (o + 4)

/-- R396, R408: the same bytes with their CRC in it. -/
def withCrc (o : Nat) (bs : List Byte) : List Byte := bs.take o ++ leBytes 4 (crc32c (withoutCrc o bs)) ++ bs.drop (o + 4)

/-- Whether the CRC field at `o` is right. -/
def crcOk (o : Nat) (bs : List Byte) : Bool := decide (fieldB bs o 4 = crc32c (withoutCrc o bs))

/-- R408: a counter of a table, as a field of `n` bytes. -/
def odoTab (n : Nat) (ks : List Nat) (t : Tab Nat) : List Byte := ks.flatMap fun k => leBytes n (tabGet 0 t k)

/-- R408: seconds of a table kept in cycles. -/
def odoSecs (ks : List Nat) (t : Tab Nat) : List Byte := ks.flatMap fun k => leBytes 8 (tabGet 0 t k / secC)

/-- R408: the causes of WARM_BY, in the record's order. -/
def warmCauses : List Nat := [2, 3, 4, 5, 6, 7, 8]

/-- R408: bytes 32 to 4,095 of a record. -/
def Odo.body (o : Odo) : List Byte :=
  leBytes 8 (o.onC / secC) ++ odoSecs [1, 2, 3, 4, 5] o.stateC ++ leBytes 4 o.cold ++ leBytes 4 o.warm ++
    odoTab 4 warmCauses o.warmBy ++ zeroBytes 4 ++ leBytes 4 o.thermShut ++ leBytes 4 o.fallback ++
    odoSecs (List.range 16) o.tempHist ++ leBytes 8 (o.step4 / secC) ++ leBytes 8 o.pf ++ leBytes 8 o.frames ++
    leBytes 4 o.sessDone ++ leBytes 4 o.repromised ++ leBytes 4 o.vinColl ++ leBytes 4 o.vinLow ++ leBytes 8 o.dramCe ++
    leBytes 4 o.dramUe ++ leBytes 4 o.valeFail ++ leBytes 8 o.jtlUncorr ++ leBytes 4 o.tilesLost ++ zeroBytes 4 ++
    odoTab 4 (List.range 8) o.groupTrips ++ odoTab 4 (List.range 96) o.slotFaults ++
    sliceB o.lastErr.flatten 0 512 ++ zeroBytes 2840

/-- R408: a record; a collapse record (REASON 3) is SHORT, 256 bytes. -/
def State.odoRecord (s : State) (reason : Nat) : List Byte :=
  let head := leBytes 4 0x444F4D4C ++ leBytes 2 1 ++ leBytes 1 reason ++ leBytes 1 (b2n (decide (reason = 3))) ++
    leBytes 4 (s.glb.odoGen + 1) ++ zeroBytes 4 ++ leBytes 8 s.otp.uid.toNat ++ leBytes 8 (if s.wallValid then s.nowNs else 0)
  withCrc 12 ((head ++ s.glb.odo.body).take (if reason = 3 then 256 else 4096))

/-- R408, R410: whether a slot's bytes are a valid record. -/
def odoValid (b : List Byte) : Bool :=
  decide (fieldB b 0 4 = 0x444F4D4C) && decide (fieldB b 4 2 = 1) && crcOk 12 b

/-- R408: SHORT of a record. -/
def odoShort (b : List Byte) : Bool := decide (bits (fieldB b 7 1) 0 1 = 1)

/-- R410: the valid records of the flash: key (area · 256 + slot) and bytes. -/
def FlashS.odoRecords (f : FlashS) : List (Nat × List Byte) := f.odo.filterMap fun q => match q.2 with
  | some b => if odoValid b then some (q.1, b) else none
  | none => none

/-- The record of the highest GEN. -/
def newestOdo (l : List (Nat × List Byte)) : Option (Nat × List Byte) := l.foldl (fun best r => match best with
  | some x => if fieldB x.2 8 4 < fieldB r.2 8 4 then some r else some x
  | none => some r) none

/-- R410: the newest valid record, a SHORT one completed from the newest valid full record older than it. -/
def FlashS.odoMerged (f : FlashS) : Option (List Byte) :=
  let rs := f.odoRecords
  match newestOdo rs with
  | none => none
  | some (_, b) =>
    if odoShort b then
      let older := newestOdo (rs.filter fun r => !odoShort r.2 && decide (fieldB r.2 8 4 < fieldB b 8 4))
      some (sliceB b 0 256 ++ (match older with
        | some r => sliceB r.2 256 3840
        | none => zeroBytes 3840))
    else some (sliceB b 0 4096)

/-- A table of counters read from a record: `n`-byte fields from `o` on, under the keys `ks`, each times `m`. -/
def odoTabOf (b : List Byte) (o n m : Nat) (ks : List Nat) : Tab Nat :=
  ((List.range ks.length).map fun j => (ks.getD j 0, fieldB b (o + n * j) n * m)).foldl (fun t q => tabSet 0 t q.1 q.2) []

/-- R410: the counters that a merged record gives. -/
def odoOf (b : List Byte) : Odo where
  onC := fieldB b 32 8 * secC
  stateC := odoTabOf b 40 8 secC [1, 2, 3, 4, 5]
  cold := fieldB b 80 4
  warm := fieldB b 84 4
  warmBy := odoTabOf b 88 4 1 warmCauses
  thermShut := fieldB b 120 4
  fallback := fieldB b 124 4
  tempHist := odoTabOf b 128 8 secC (List.range 16)
  step4 := fieldB b 256 8 * secC
  pf := fieldB b 264 8
  frames := fieldB b 272 8
  sessDone := fieldB b 280 4
  repromised := fieldB b 284 4
  vinColl := fieldB b 288 4
  vinLow := fieldB b 292 4
  dramCe := fieldB b 296 8
  dramUe := fieldB b 304 4
  valeFail := fieldB b 308 4
  jtlUncorr := fieldB b 312 8
  tilesLost := fieldB b 320 4
  groupTrips := odoTabOf b 328 4 1 (List.range 8)
  slotFaults := odoTabOf b 360 4 1 (List.range 96)
  lastErr := ((List.range 16).map fun j => sliceB b (744 + 32 * j) 32).filter fun r => !allZero r

/-- R410: the counters at boot: those of the newest valid record, or 0. -/
def FlashS.odoLoad (f : FlashS) : Odo := match f.odoMerged with
  | some b => odoOf b
  | none => Odo.init

/-- R409: the slot after the newest record: (GEN, area, slot). -/
def FlashS.odoNext (f : FlashS) : Nat × Nat × Nat := match newestOdo f.odoRecords with
  | some (k, b) => if k % 256 = 255 then (fieldB b 8 4, 1 - k / 256, 0) else (fieldB b 8 4, k / 256, k % 256 + 1)
  | none => (0, 0, 0)

/-! ### Writing records (R409) -/

/-- R409: the record that is written next: a collapse or a thermal shutdown before what waits. -/
def State.odoNextReason (s : State) : Option Nat :=
  (s.glb.odoDue.find? fun r => r = 3 || r = 4).or s.glb.odoDue.head?

/-- R409: whether a record is one of those that 10 s must separate. -/
def odoSpaced (reason : Nat) : Bool := decide (reason ≠ 3) && decide (reason ≠ 4)

/-- R409: whether the area that is not active has records still to be erased, at most 16 slots of the active one being free. -/
def FlashS.eraseDue (f : FlashS) (area slot : Nat) : Bool :=
  decide (256 - slot ≤ 16) && f.odo.any fun q => decide (q.1 / 256 ≠ area)

/-- R409: the next slot: the other area once this one is full, which has been erased by then. -/
def State.odoStep (s : State) : State :=
  let n := s.glb.odoSlot + 1
  if n = 256 then
    let a := 1 - s.glb.odoArea
    let f := if s.glb.odoErase then tabKeep (fun k => decide (k / 256 ≠ a)) s.flash.odo else s.flash.odo
    { s with glb.odoSlot := 0, glb.odoArea := a, flash.odo := f, glb.odoErase := false }
  else { s with glb.odoSlot := n, glb.odoErase := s.glb.odoErase || decide (256 - n = 16) || s.flash.eraseDue s.glb.odoArea n }

/-- ODOMETER_RECORD_WRITE (R409): a due record is written to the next slot, `flashOk` or not: a record that fails is tried once
more in the next slot, and then counted. -/
def execOdometerRecordWrite (flashOk : Bool) (s : State) : Host.Outcome State Fault Refusal :=
  .next (match s.odoNextReason with
    | none => s
    | some r =>
      let s1 := match s.glb.odoLast with
        | some t => if odoSpaced r && !s.glb.odoRetry then s.advanceTo (t + 10 * secC) else s
        | none => s
      let due := s1.glb.odoDue.erase r
      if flashOk then
        let key := s1.glb.odoArea * 256 + s1.glb.odoSlot
        ({ s1 with
          flash.odo := tabSet none s1.flash.odo key (some (s1.odoRecord r))
          glb.odoGen := s1.glb.odoGen + 1, glb.odoDue := due, glb.odoRetry := false
          glb.odoLast := if odoSpaced r then some s1.clk else s1.glb.odoLast }).odoStep
      else if s1.glb.odoRetry then
        ({ s1 with glb.odoErrs := (s1.glb.odoErrs + 1) % 65536, glb.odoDue := due, glb.odoRetry := false }).odoStep
      else ({ s1 with glb.odoRetry := true }).odoStep)

/-- ODOMETER_AREA_ERASE (R409): the other area is erased in the background; an erase that fails is tried once more and then counted,
and stays due (DEDUCED, assumption 110). -/
def execOdometerAreaErase (flashOk : Bool) (s : State) : Host.Outcome State Fault Refusal :=
  .next (if !s.glb.odoErase then s
    else if flashOk then
      { s with flash.odo := tabKeep (fun k => decide (k / 256 = s.glb.odoArea)) s.flash.odo, glb.odoErase := false, glb.odoEraseRetry := false }
    else if s.glb.odoEraseRetry then { s with glb.odoErrs := (s.glb.odoErrs + 1) % 65536, glb.odoEraseRetry := false }
    else { s with glb.odoEraseRetry := true })

/-- ODOMETER_PERIODIC (R409): after every 600 s of RUN a record is due. -/
def execOdometerPeriodic (s : State) : Host.Outcome State Fault Refusal :=
  let mark := s.glb.runMark + 600 * secC
  let ran := tabGet 0 s.glb.odo.stateC 3
  .next (if s.pwr.state = .run ∨ mark ≤ ran then
      let s1 := s.advance (mark - ran)
      ({ s1 with glb.runMark := mark }).odoRequest 0
    else s)

end Sys2Proof.Machine
end

