-- ==== Sys2Proof/Machine/Rings.lean ====
section
/-! DEFINITION. The queue manager's registers and events (R315 to R342): doorbells, ring descriptors, fetching, MSI-X. -/

namespace Sys2Proof.Machine

/-! ### Access paths (R7, R358, R400) -/

/-- The number of an access path (R7): PCIe, the LCB, firmware, and the REG_READ commands of each source. -/
def pathKey : Path → Nat
  | .pcie => 0
  | .lcb => 1
  | .firmware => 2
  | .command src => 16 + srcCode src

/-- R7: a write of _LO stores its value in the path's write latch. -/
def State.latchLo (s : State) (path : Path) (lo v : Nat) : State :=
  { s with regs.wl := tabSet none s.regs.wl (pathKey path) (some (lo, BitVec.ofNat 32 v)) }

/-- R7: what a write of _HI finds as the lower half: the latched value, or the pair's own; the latch is emptied if used. -/
def State.takeLo (s : State) (path : Path) (lo cur : Nat) : Nat × State :=
  match tabGet none s.regs.wl (pathKey path) with
  | some (o, w) => if o = lo then (w.toNat, { s with regs.wl := tabSet none s.regs.wl (pathKey path) none }) else (cur, s)
  | none => (cur, s)

/-! ### Doorbells (R318) -/

/-- R318: a doorbell write that is discarded. -/
def State.badDoorbell (s : State) (n x : Nat) : State :=
  let r := s.ring n
  ((s.setRing n { r with dbErr := true }).count (baseQm + 0x18108)).log 240 n 0 x

/-- R318: whether the index is accepted. -/
def Ring.dbOk (r : Ring) (n x : Nat) : Bool :=
  if n < 256 ∨ 512 ≤ n ∧ n < 1536 then
    decide ((x + 65536 - r.cons) % 65536 ≤ r.size) && decide ((x + 65536 - r.prod) % 65536 ≤ r.size)
  else decide ((r.prod + 65536 - x) % 65536 ≤ (r.prod + 65536 - r.cons) % 65536)

/-- R318, R340 step 3: a write of QM_DBn. -/
def State.doorbell (s : State) (path : Path) (n v : Nat) : State :=
  let x := v % 65536
  let r := s.ring n
  if path = .lcb ∨ !r.en ∨ 2560 ≤ n then s.badDoorbell n x
  else if r.dbOk n x then
    if n < 256 ∨ 512 ≤ n ∧ n < 1536 then s.setRing n { r with prod := x }
    else
      let s1 := s.setRing n { r with cons := x, armed := true, due := none }
      if 0 < (s1.ring n).held then s1.signalRing n else s1
  else s.badDoorbell n x

/-- QM_DOORBELL (R318). -/
def execQmDoorbell (path : Path) (n : Fin 4096) (value : Word) (s : State) : Host.Outcome State Fault Refusal :=
  .next (if s.reaches path baseQm then s.doorbell path n.val value.toNat else s)

/-! ### Ring descriptors (R317, R341) -/

/-- R341: QM_RINGn.CFG as it reads. -/
def Ring.cfgWord (r : Ring) : Nat :=
  r.log2 + b2n r.en * 16 + b2n r.irqEn * 32 + b2n r.dbErr * 64 + b2n r.cfgErr * 128 + r.vec * 256 + r.coal * 65536 +
    b2n r.ovf * 8388608 + r.pair * 16777216

/-- R317: whether EN of ring `n` may be cleared. -/
def State.mayDisable (s : State) (n : Nat) : Bool :=
  if 256 ≤ n ∧ n < 512 then
    let evt := s.live (baseQm + 0x18000)
    !((List.range 256).any fun m => (s.ring m).en && decide (256 + (s.ring m).pair = n)) &&
      !(decide (bits evt 8 1 = 1) && decide (256 + bits evt 0 8 = n)) &&
      !(s.sch.slots.any fun q => match q.2 with
        | some x => decide (x.state ≠ 0) && (match x.dst with
          | .complete j => decide (256 + j.val = n)
          | _ => false)
        | none => false)
  else true

/-- R317: whether ring `n` may be enabled as described. -/
def State.mayEnable (s : State) (n : Nat) (r : Ring) : Bool :=
  decide (r.base.toNat % 4096 = 0) && decide (4 ≤ r.log2) && decide (r.log2 ≤ 12) &&
    (decide (256 ≤ n) || (s.ring (256 + r.pair)).en)

/-- R317, R341: a write of CFG. Of a ring that is enabled, a write that changes LOG2SIZE, VEC or PAIR is discarded whole; a
refused write changes nothing but CFG_ERR. -/
def State.writeRingCfg (s : State) (n v : Nat) : State :=
  let r := s.ring n
  let bad := s.setRing n { r with cfgErr := true }
  let log2 := bits v 0 4
  let en := decide (bits v 4 1 = 1)
  let vec := bits v 8 8
  let pair := bits v 24 8
  let r1 := { r with
    log2 := log2, vec := vec, pair := pair, en := en, irqEn := decide (bits v 5 1 = 1), coal := bits v 16 7
    dbErr := r.dbErr && decide (bits v 6 1 = 0), cfgErr := r.cfgErr && decide (bits v 7 1 = 0)
    ovf := r.ovf && decide (bits v 23 1 = 0) }
  if r.en ∧ (log2 ≠ r.log2 ∨ vec ≠ r.vec ∨ pair ≠ r.pair) then bad
  else if r.en ∧ !en then (if s.mayDisable n then s.setRing n { r1 with due := none } else bad)
  else if !r.en ∧ en then
    if s.mayEnable n r1 then s.setRing n { r1 with prod := 0, cons := 0, armed := r1.irqEn, due := none } else bad
  else s.setRing n r1

/-- R7, R317: a write of BASE_LO or BASE_HI. -/
def State.writeRingBase (s : State) (path : Path) (n : Nat) (hi : Bool) (v : Nat) : State :=
  let r := s.ring n
  if r.en then s.setRing n { r with cfgErr := true }
  else if hi then
    let q := s.takeLo path (baseQm + n * 16) (r.base.toNat % 4294967296)
    q.2.setRing n { r with base := BitVec.ofNat 64 (q.1 + v * 4294967296) }
  else s.latchLo path (baseQm + n * 16) v

/-- R317, R318: a write of a ring descriptor; the LCB writes nothing in the QM, and the descriptors of NET and INTERNAL rings
are written by firmware alone: of another path, BASE_LO only fills its write latch (R7). -/
def State.writeRing (s : State) (path : Path) (n w v : Nat) : State :=
  if path = .lcb ∨ (2560 ≤ n ∧ path ≠ .firmware) then (if w = 0 then s.latchLo path (baseQm + n * 16) v else s)
  else if w = 2 then s.writeRingCfg n v
  else s.writeRingBase path n (decide (w = 1)) v

/-- QM_RING_CFG_WRITE (R317). -/
def execQmRingCfgWrite (path : Path) (n : Fin 4096) (word : Fin 3) (value : Word) (s : State) :
    Host.Outcome State Fault Refusal :=
  .next (if s.reaches path baseQm then s.writeRing path n.val word.val value.toNat else s)

/-- R341: a write of QM_EVT: EN stays 0 while the ring named is disabled. -/
def State.writeEvt (s : State) (path : Path) (v : Nat) : State :=
  if path = .lcb then s
  else
    let ok := decide (bits v 8 1 = 0) || (s.ring (256 + bits v 0 8)).en
    s.putReg (baseQm + 0x18000) (if ok then v else v - 256)

/-- QM_EVT_WRITE (R339, R341). -/
def execQmEvtWrite (path : Path) (value : Word) (s : State) : Host.Outcome State Fault Refusal :=
  .next (if s.reaches path baseQm then s.writeEvt path value.toNat else s)

/-- A write of a counter clear register: its CLR clears the counters of the block. -/
def State.clearOn (s : State) (v lo hi : Nat) : State := if bits v 0 1 = 1 then s.clearCnt lo hi else s

/-- QM_CNT_CLR (R342). -/
def execQmCntClr (path : Path) (value : Word) (s : State) : Host.Outcome State Fault Refusal :=
  .next (if s.reaches path baseQm ∧ path ≠ .lcb then s.clearOn value.toNat (baseQm + 0x18100) (baseQm + 0x18120) else s)

/-! ### Fetching and draining -/

/-- COMMAND_FETCH (R320, R333). -/
def execCommandFetch (src : CmdSource) (host : HostDma) (s : State) : Host.Outcome State Fault Refusal :=
  .next (match src with
    | .submit r => s.fetchSubmit r host
    | .peer j => s.fetchNet j
    | .mailbox m => s.fetchMbox m)

/-- OVERFLOW_QUEUE_DRAIN (R334). -/
def execOverflowQueueDrain (dst : CplDst) (s : State) : Host.Outcome State Fault Refusal :=
  .next (s.drainOvq dst s.qm.ovq.length)

/-! ### MSI-X (R340) -/

/-- MSIX_COALESCE_EXPIRE (R340): COAL_US has passed since the ring had its entry. -/
def execMsixCoalesceExpire (n : Fin 4096) (s : State) : Host.Outcome State Fault Refusal :=
  .next (match (s.ring n.val).due with
    | some t => (s.advanceTo t).fireRing n.val
    | none => s)

/-- R340: the vector control word of vector `v` is written; clearing the mask sends a pending message. -/
def State.writeVectorCtl (s : State) (v x : Nat) : State :=
  let s1 := s.putReg (msixOff v 3) x
  if bits x 0 1 = 0 ∧ s1.qm.pba.contains v then
    { s1 with qm.pba := s1.qm.pba.filter fun w => w ≠ v }.sendMsix v
  else s1

/-- MSIX_VECTOR_UNMASK (R340). -/
def execMsixVectorUnmask (v : Fin 256) (s : State) : Host.Outcome State Fault Refusal :=
  .next (s.whenReady fun s1 => s1.writeVectorCtl v.val 0)

end Sys2Proof.Machine
end

