-- ==== Sys2Proof/Machine/Thermal.lean ====
section
/-! DEFINITION. The thermal monitor (R369 to R377): zone samples, the throttle step, failed sensors, the compatibility model and
the thermal shutdown. -/

namespace Sys2Proof.Machine

/-! ### Limits in force (R386) -/

def State.thmWarn (s : State) : Int := (s.liveF baseThm 0 8 : Nat)
def State.thmThrottle (s : State) : Int := (s.liveF baseThm 8 8 : Nat)
def State.thmShutdown (s : State) : Int := (s.liveF baseThm 16 8 : Nat)
def State.thmHyst (s : State) : Int := (s.liveF baseThm 24 4 : Nat)

/-- R371: a flag and its run after a sample at `t` (1/16 °C) against `level` °C. -/
def flagStep (flag : Bool) (run t level hyst : Int) : Bool × Int :=
  if level * 16 ≤ t then
    let r := if 0 < run then run + 1 else 1
    (flag || decide (3 ≤ r), r)
  else if t < (level - hyst) * 16 then
    let r := if run < 0 then run - 1 else -1
    (flag && !decide (r ≤ -3), r)
  else (flag, 0)

/-- R370: the sampling rate for a temperature: 0 10 ms, 1 1 ms, 2 250 µs. -/
def State.sampleRate (s : State) (t : Int) : Nat :=
  if (s.thmShutdown - 2) * 16 ≤ t then 2 else if (s.thmThrottle - 5) * 16 ≤ t then 1 else 0

/-- R370: cycles between samples at a rate. -/
def ratePeriod (r : Nat) : Nat := if r = 2 then usC 250 else if r = 1 then msC 1 else msC 10

/-- R377: the estimate E_z. -/
def Zone.estimate (z : Zone) : Int := Int.fdiv z.m 256

/-- R375: what a failed zone takes as its temperature. -/
def State.substitute (s : State) (z : Zone) : Int := max ((s.thmThrottle + 1) * 16) z.estimate

/-- R374: the runs of failure conditions after a conversion `raw`. -/
def Zone.condRuns (z : Zone) (raw : Int) (isOpen isShort : Bool) : Zone :=
  { z with
    raw := raw
    openRun := if isOpen then z.openRun + 1 else 0
    shortRun := if isShort then z.shortRun + 1 else 0
    rangeRun := if raw < -640 ∨ 2400 < raw then z.rangeRun + 1 else 0
    pHist := ((z.p :: (if raw = z.raw then z.pHist else [])).take 64) }

/-- R374: the kind of failure that a sample confirms; 0 none. -/
def State.failKind (s : State) (z : Zone) : Nat :=
  if 3 ≤ z.openRun then 1
  else if 3 ≤ z.shortRun then 2
  else if 3 ≤ z.rangeRun then 3
  else if z.pHist.length = 64 ∧ s.liveF (baseThm + 4) 0 8 * 1000 ≤ z.pHist.foldl max 0 - z.pHist.foldl min (z.pHist.headD 0) then 4
  else 0

/-- R370: the temperature in force that a sample gives. -/
def State.sampleTemp (s : State) (z : Zone) (isOpen isShort : Bool) : Int :=
  if z.fkind ≠ 0 then s.substitute z
  else if isOpen ∨ isShort then (if z.known then z.temp else (s.thmThrottle + 1) * 16)
  else clampInt (-640) 2400 z.raw

/-- R372: the step changes: counted where it rises, and logged with a zone and its temperature. -/
def State.setStep (s : State) (k z : Nat) : State :=
  let s1 := if s.thm.step < k then s.count (baseThm + 0xF08) else s
  ({ s1 with thm.step := k }).log 209 z k (toField 32 (s.zone z).temp)

/-- R373 steps 1 and 2, R380, R384: a SHUTDOWN flag sets the thermal shutdown off; a POWER_SET whose transition it abandons completes with
the state reached (DEDUCED, assumption 142). During BOOT it only leads to SAFE at the end of it
(R373, R402), and in SAFE nothing is left to stop. -/
def State.thermalShutdown (s : State) (z : Nat) : State :=
  if s.pwr.state = .boot ∨ s.pwr.state = .safe ∨ s.thm.shutdown.isSome then s
  else
    let s1 := { s.stopDrive.endPowerSet with thm.shutdown := some (z, s.time.wfn) }
    let s2 := { s1 with glb.odo.thermShut := s1.glb.odo.thermShut + 1 }
    ((s2.log 210 z (toField 32 (s.zone z).temp) 0).odoRequest 4).startCapture 9 z

/-- R370 to R375: a conversion of zone `k`: its temperature in force, its flags, and what they count and log. -/
def State.zoneSample (s0 : State) (k : Nat) (raw : BitVec 16) (isOpen isShort : Bool) : State :=
  let x := s0.zone k
  let x1 := { x.condRuns (sext 16 raw.toNat) isOpen isShort with sampleAt := s0.clk }
  let kind := if x.fkind = 0 then s0.failKind x1 else 0
  let x2 := { x1 with fkind := if x.fkind = 0 then kind else x.fkind }
  let t := s0.sampleTemp x2 isOpen isShort
  let w := flagStep x.warn x.warnRun t s0.thmWarn s0.thmHyst
  let h := flagStep x.hot x.hotRun t s0.thmThrottle s0.thmHyst
  let d := flagStep x.shut x.shutRun t s0.thmShutdown s0.thmHyst
  let x3 := { x2 with
    temp := t, known := true, rate := s0.sampleRate t, warn := w.1, warnRun := w.2, hot := h.1, hotRun := h.2
    shut := x.shut || d.1, shutRun := d.2 }
  let s1 := s0.setZone k x3
  let s2 := if kind = 0 then s1 else (s1.count (baseThm + 0xF10)).log 211 k kind (toField 32 t)
  let s3 := if w.1 && !x.warn then (s2.count (baseThm + 0xF00)).log 208 k (toField 32 t) 0 else s2
  if h.1 && !x.hot then s3.count (baseThm + 0xF04) else s3

/-- The zone of a list with the highest temperature, the lowest number first. -/
def State.hottest (s : State) (zs : List Nat) : Nat :=
  zs.foldl (fun b z => if (s.zone b).temp < (s.zone z).temp then z else b) (zs.headD 0)

/-- One zone's conversion (R370, R374). -/
structure ZoneSample where
  zone : Fin 8
  raw : BitVec 16
  isOpen : Bool
  isShort : Bool
deriving DecidableEq, Repr

/-- The conversions of one moment, zone by zone; a zone for which a value is missing gives none. -/
def zoneSamples : List (Fin 8) → List (BitVec 16) → List Bool → List Bool → List ZoneSample
  | z :: zs, r :: rs, o :: os, h :: hs => ⟨z, r, o, h⟩ :: zoneSamples zs rs os hs
  | _, _, _, _ => []

/-- R372, R373: after the conversions of one moment: THROTTLE flags set together raise the step by one, and SHUTDOWN flags set together
are one shutdown, each with the hottest of its zones (of a shutdown DESIGN CHOICE, assumption 164). -/
def State.flagsSet (old s : State) : State :=
  let hot := (List.range 8).filter fun z => (s.zone z).hot && !(old.zone z).hot
  let shut := (List.range 8).filter fun z => (s.zone z).shut && !(old.zone z).shut
  let s1 := if hot ≠ [] ∧ s.thm.step < 4 then s.setStep (s.thm.step + 1) (s.hottest hot) else s
  if shut ≠ [] then s1.thermalShutdown (s1.hottest shut) else s1

/-- THM_ZONE_SAMPLE (R370 to R375): the zones converted at one moment, each a period after its last conversion. -/
def execThmZoneSample (zs : List (Fin 8)) (raw : List (BitVec 16)) (isOpen isShort : List Bool) (s : State) :
    Host.Outcome State Fault Refusal :=
  let samples := zoneSamples zs raw isOpen isShort
  let ps := (List.range 8).filterMap fun k => samples.find? fun p => decide (p.zone.val = k)
  let at_ := (ps.map fun p => (s.zone p.zone.val).sampleAt + ratePeriod (s.zone p.zone.val).rate).foldl max 0
  let s0 := s.advanceTo at_
  .next (State.flagsSet s0 (ps.foldl (fun st p => st.zoneSample p.zone.val p.raw p.isOpen p.isShort) s0))

/-- THERMAL_SAFE_ENTRY (R373 step 5, R402): every group is off after flip N + 2: the WSA is gated, every group is DISABLED and the
device is in SAFE; a reset triggered meanwhile has taken the shutdown over (R393). -/
def execThermalSafeEntry (s : State) : Host.Outcome State Fault Refusal :=
  match s.thm.shutdown with
  | some (_, n) =>
    if n + 2 ≤ s.time.wfn ∧ s.railsOff ∧ s.pwr.state ≠ .safe ∧ s.glb.entry.isNone then
      .next ({ s.disableRails with wsa.gated := true, glb.safeCause := 1, pwr.transit := .none }.setPower .safe)
    else .next s
  | none => .next s

/-! ### The tick (R372, R376, R377) -/

/-- R376: the power of a regulator: none while it is disabled, PMAX while its reading is STALE, else its last POUT. -/
def State.pmbPower (s : State) (n : Nat) : Nat :=
  if !s.liveB (baseNet + 0x600 + n * 16) 7 then 0
  else
    let r := tabGet Pmb.init s.net.pmb n
    if r.stale then s.liveF (baseThm + 0x480 + n * 4) 0 24 else r.pout

/-- R376: P_z in mW. -/
def State.zonePower (s : State) (z : Nat) : Nat :=
  (((List.range 8).map fun n => s.pmbPower n * s.liveF (baseThm + 0x440 + z * 8 + n / 4 * 4) (n % 4 * 8) 8).sum) / 256

/-- R377, R386: the model's next state; one that does not fit a signed 32-bit value is a free value. THM_CM_ESTz shows the estimate of
the last tick (assumption 165). -/
def State.modelZone (s : State) (z : Nat) : State :=
  let x := s.zone z
  let p := s.zonePower z
  let o := baseThm + 0x410 + z * 4
  let tss := sext 16 (s.liveF (baseThm + 0x400) 0 16) * 256 + ((p * s.liveF o 0 16 * 4096 / 1000000 : Nat) : Int)
  let m := x.m + Int.tdiv ((tss - x.m) * 10) (s.liveF o 16 16 : Nat)
  if satInt 32 m = m then s.setZone z { x with p := p, m := m, est := Int.fdiv m 256 }
  else let r := s.draw (2 ^ 32); r.2.setZone z { x with p := p, m := sext 32 r.1, est := Int.fdiv (sext 32 r.1) 256 }

/-- THM_TICK (R372, R376, R377, R386): every 10 ms a pending THM set becomes live, the model is updated, and the throttle step
rises or falls by one. -/
def execThmTick (s : State) : Host.Outcome State Fault Refusal :=
  let s0 := s.advanceTo (s.thm.tickAt + msC 10)
  let s1 := ({ s0 with thm.tickAt := s0.clk }).pendLive unitThm
  let s2 := (List.range 8).foldl State.modelZone s1
  let hot := (List.range 8).filter fun z => (s2.zone z).hot
  let above := hot.filter fun z => decide (s2.thmThrottle * 16 ≤ (s2.zone z).temp)
  let k := s2.thm.step
  let s3 := if above ≠ [] ∧ k < 4 then s2.setStep (k + 1) (s2.hottest hot)
    else if hot = [] ∧ 0 < k then s2.setStep (k - 1) (s2.hottest (List.range 8))
    else s2
  .next (if s3.thm.step = 4 then s3.count (baseThm + 0xF0C) else s3)

end Sys2Proof.Machine
end

