-- ==== Sys2Proof/Machine/Reset.lean ====
section
/-! DEFINITION. The resets (R388 to R394, R403): their triggers, the steps of R391, what each kind keeps. -/

namespace Sys2Proof.Machine

/-! ### What a reset keeps (R389) -/

/-- R352, R389: the keys survive in the flash; each peer's SEQ starts again, the device's own at 1 (assumption 55). -/
def FlashS.peers (f : FlashS) : Tab Peer := f.keys.foldl (fun t q => match q.2 with
  | some k => tabSet Peer.init t q.1 { Peer.init with key := some k, devSeq := 1 }
  | none => t) []

/-- R398: an image area whose programming a reset cut short no longer verifies; whether FW_WRITE had begun to erase it is a
free value. -/
def State.tearImage (s : State) : State :=
  match s.runOf .fwWrite with
  | some r =>
    let q := s.draw 2
    if q.1 = 0 then q.2
    else if fieldB r.param 0 1 = 0 then { q.2 with flash.imageA := some [] } else { q.2 with flash.imageB := some [] }
  | none => s

/-- R400: the thermal monitor runs from the first step of a boot, which begins now. -/
def State.bootFrom (s : State) : State :=
  { s with
    thm.tickAt := s.clk, glb.bootStart := s.clk
    thm.zones := (List.range 8).foldl (fun t z => tabSet Zone.init t z { Zone.init with sampleAt := s.clk }) [] }

/-- What neither kind of reset touches (R389): the flash and the keys, the fuses, the clock, the tile bridges, straps as sampled.
The sampling of the zones starts with the boot (R400), and the odometer's counters are those of the flash (R410), in which an erase of
the inactive area that has not succeeded is still due (R409). -/
def State.fresh (s0 : State) : State :=
  let s := s0.tearImage
  let r := State.reset
  let odo := s.flash.odoLoad
  let next := s.flash.odoNext
  State.bootFrom { r with
    flash := s.flash, otp := s.otp, bridges := s.bridges, hops := tabKeep (fun k => decide (32 ≤ k)) s.hops
    net.peers := s.flash.peers, net.smbAddr := 0x58 + s.glb.smbStrap
    glb.lcbCkSel := s.glb.lcbCkSel, glb.smbStrap := s.glb.smbStrap, glb.porst := s.glb.porst
    glb.odo := odo, glb.odoGen := next.1, glb.odoArea := next.2.1, glb.odoSlot := next.2.2
    glb.odoErase := s.flash.eraseDue next.2.1 next.2.2
    glb.runMark := tabGet 0 odo.stateC 3, glb.tap := s.glb.tap, glb.bsr := s.glb.bsr
    clk := s.clk, free := s.free, out := s.out, pending := s.pending }

/-- R388, R389: a cold boot begins: RWS fields cleared, GLB_RST_CAUSE as the trigger gives it. -/
def State.coldBoot (s : State) (kind cause : Nat) : State :=
  let f := s.fresh
  let odo := if kind = 0 then { f.glb.odo with cold := f.glb.odo.cold + 1 }
    else { f.glb.odo with warm := f.glb.odo.warm + 1, warmBy := tabMod 0 f.glb.odo.warmBy cause (· + 1) }
  { f with glb.rstKind := kind, glb.rstCause := cause, glb.bootKind := .cold, glb.odo := odo }

/-- R389, R394: the geometry and the serials of the tile slots that a warm reset keeps. -/
def TileSlot.kept (t : TileSlot) : TileSlot :=
  { TileSlot.init with serial := t.serial, bound := t.bound, lastW := t.lastW, lastH := t.lastH, width := t.lastW, height := t.lastH }

/-- R389, R394: a warm boot begins: DRAM, the event log, the dump, wall time, RWS fields and the boot configuration are kept.
`entry` is the reset entry that ends. -/
def State.warmBoot (s : State) (entry : ResetEntry) : State :=
  let f := s.fresh
  { f with
    film.psr := s.film.psr, film.target := s.film.target, film.kept := s.film.kept, film.tick := s.film.tick
    film.tickSweep := s.film.tickSweep, film.parityBase := tickParity s.film.tick
    dmc.bulk := s.dmc.bulk
    qm.evSeq := s.qm.evSeq, qm.evLog := s.qm.evLog
    time.wall := s.time.wall, time.eps := s.time.eps, time.epsHist := s.time.epsHist, time.anchorT := s.time.anchorT
    time.past := s.time.past, time.anchorN := s.time.anchorN, time.rate := s.time.rate, time.wfn := s.time.wfn, time.chg := s.time.chg
    vale.banks := (List.range 64).foldl (fun t k => tabSet (Bank.init k) t k { Bank.init k with fail := (s.bank k).fail }) []
    vale.failBank := s.vale.failBank, vale.failLine := s.vale.failLine
    tiles := s.tiles.foldl (fun t q => tabSet TileSlot.init t q.1 q.2.kept) []
    glb.rstKind := 1, glb.rstCause := entry.cause, glb.warms := min 65535 (s.glb.warms + 1), glb.strikes := s.glb.strikes
    glb.bootKind := .warm, glb.dump := s.glb.dump, glb.preBoot := some entry
    glb.odo := { f.glb.odo with warm := f.glb.odo.warm + 1, warmBy := tabMod 0 f.glb.odo.warmBy entry.cause (· + 1) }
    glb.cfgRate := s.glb.cfgRate, glb.cfgFspl := s.glb.cfgFspl, glb.cfgIecc := s.glb.cfgIecc, glb.cfgBar2 := s.glb.cfgBar2 }

/-! ### Balls under reset (R354, R424, R425) -/

/-- The outputs that R354 and R425 speak of. -/
inductive OutPin where
  | drv (g : Fin 8) (i : Fin 12)
  | readyOut
  | lcbWaitN
  | wallSyncOut
  | lcbClk
  | other
deriving DecidableEq, Repr

/-- What the device does with an output: a level, high-impedance, or driven by the unit that the ball belongs to. -/
inductive PinLevel where
  | low | high | highZ | driven
deriving DecidableEq, Repr

/-- R354, R424, R425: every output of the device. While PORST_N is low all but DRV, READY_OUT, LCB_WAIT_N and WALL_SYNC_OUT are
high-impedance; after it the device drives LCB_CLK where LCB_CKSEL was sampled high. -/
def State.pinOut (s : State) : OutPin → PinLevel
  | .drv g i => if s.glb.porst then .low else if (s.slot g.val i.val).drv then .driven else .low
  | .readyOut => if s.glb.readyOut then .high else .low
  | .lcbWaitN => if s.glb.porst then .high else .driven
  | .wallSyncOut => if s.glb.porst then .low else .driven
  | .lcbClk => if s.glb.porst || !s.glb.lcbCkSel then .highZ else .driven
  | .other => if s.glb.porst then .highZ else .driven

/-! ### Cold resets (R388, R392, R393) -/

/-- R391 step 5, R392: the reset is held for 1 ms from now, all of the state being reset already (DEDUCED, assumption 163). -/
def State.holdReset (s : State) (entry : ResetEntry) : State := { s with glb.entry := some { entry with stage := 5, clk := s.clk } }

/-- What a trigger records of the moment, where no reset is being entered: the first trigger stands (R393). -/
def State.entryOf (s : State) (kind : ResetKind) (cause : Nat) : ResetEntry :=
  match s.glb.entry with
  | some e => if kind = .cold then { e with kind := .cold } else e
  | none => ⟨kind, cause, 0, s.clk, s.nowNs, s.time.wfn, s.pwr.state.code, 5⟩

/-- POWER_ON (R388): the straps are sampled. -/
def execPowerOn (lcbCkSel : Bool) (smbAddr : BitVec 2) (s : State) : Host.Outcome State Fault Refusal :=
  .next (({ s with glb.lcbCkSel := lcbCkSel, glb.smbStrap := smbAddr.toNat, glb.tap := 1, glb.bsr := [] }).coldBoot 0 0)

/-- PORST_N_LOW (R392, R393, R425): every DRV goes low, a cold reset is held, and a cold boot follows. -/
def execPorstNLow (lcbCkSel : Bool) (smbAddr : BitVec 2) (s : State) : Host.Outcome State Fault Refusal :=
  let s1 := ({ s with glb.lcbCkSel := lcbCkSel, glb.smbStrap := smbAddr.toNat, glb.porst := true }).advance (usC 1)
  .next ((s1.coldBoot 0 0).holdReset (s1.entryOf .cold 0))

/-! ### Warm resets (R391 to R393) -/

/-- R393, R404: a capture that RST_N cuts short leaves a dump marked PARTIAL; how much of the area was written, and the SEQ of the
event that was not logged, are free values. -/
def State.cutCapture (s : State) : State :=
  match s.glb.capture with
  | some c =>
    let q := s.draw 0x4000001
    let e := q.2.draw (2 ^ 32)
    let t := match e.2.glb.entry with
      | some x => e.2.countStrike x.cause
      | none => e.2
    { t with
      glb.capture := none
      glb.dump := some {
        cause := c.cause, summaryOnly := false, partialCap := true, flashed := false, time := c.time, wfn := c.wfn, evSeq := e.1
        fwver := s.glb.fwver, image := s.glb.image, pstate := c.pstate, missed := c.missed, length := q.1, arg := c.arg
        cores := [], swin := [], regs := [], vale := [], fw := [], events := [], pkgs := [], active := [], parity := [] } }
  | none => s

/-- RST_N_LOW (R392, R393): a warm reset at once; where the DMC could not enter self-refresh in time, the boot that follows
counts as a cold one. The first trigger stands in GLB_RST_CAUSE; a reset that is held already is held on. -/
def execRstNLow (dramKept : Bool) (s : State) : Host.Outcome State Fault Refusal :=
  let s1 := (s.advance (usC 1)).cutCapture
  let entry := s1.entryOf .warm 3
  .next (if entry.stage = 5 && s1.glb.entry.isSome then s1.holdReset entry
    else (if dramKept then s1.warmBoot entry else s1.coldBoot 1 entry.cause).holdReset entry)

/-- R388, R389: a cold reset is commanded. -/
def State.enterCold (s : State) : State := s.coldBoot 0 1

/-- R388, R393: a write of GLB_RST_CTRL: COLD prevails, and KEY must be right. -/
def State.writeRstCtrl (s : State) (v : Nat) : State :=
  if bits v 8 8 ≠ 0xA5 then s
  else if bits v 1 1 = 1 then s.enterCold
  else if bits v 0 1 = 1 then s.beginReset 2 0
  else s

/-- GLB_RST_CTRL_WARM (R391): a write of GLB_RST_CTRL. -/
def execGlbRstCtrlWarm (value : Word) (s : State) : Host.Outcome State Fault Refusal := .next (s.writeRstCtrl value.toNat)

/-- GLB_RST_CTRL_COLD (R388): a write of GLB_RST_CTRL. -/
def execGlbRstCtrlCold (value : Word) (s : State) : Host.Outcome State Fault Refusal := .next (s.writeRstCtrl value.toNat)

/-- FW_EXCEPTION (R403, R406): CAUSE_ARG names the core and the exception code. -/
def execFwException (core : Fin 8) (code : BitVec 32) (s : State) : Host.Outcome State Fault Refusal :=
  .next (s.beginReset 4 (core.val + code.toNat * 4294967296))

/-- R403: the bases of the blocks whose on-die tables carry parity: SCH, QM and the TF ports. -/
def parityBase (b : Nat) : Bool :=
  decide (b = baseSch) || decide (b = baseQm) || (List.range 32).any fun p => decide (b = baseTf p)

/-- PARITY_ERROR (R403). -/
def execParityError (block : BitVec 26) (s : State) : Host.Outcome State Fault Refusal :=
  .next (if parityBase block.toNat then s.beginReset 7 block.toNat else s)

/-- WARM_RESET_DRV_TIMEOUT (R391 step 3): 100 ms after the trigger every DRV ball still high goes low. -/
def execWarmResetDrvTimeout (s : State) : Host.Outcome State Fault Refusal :=
  .next (match s.glb.entry with
    | some e =>
      if e.stage = 1 then
        let s1 := s.advanceTo (e.clk + msC 100)
        let s2 := (List.range 8).foldl (fun st g => (List.range 12).foldl (fun st i => st.killSlot g i) st) s1
        ({ s2 with glb.entry := some { e with stage := 3 } }).railShowAll
      else s
    | none => s)

/-- R239: no group runs or is on its way down. -/
def State.groupsDown (s : State) : Bool := (List.range 8).all fun g =>
  let x := (s.group g).state
  decide (x = .off) || decide (x = .tripped) || decide (x = .disabled)

/-- R244: throughout a reset the device does not drive FAULT_N. -/
def State.releaseFn (s : State) : State :=
  if s.rc.fnDriving then { s with rc.fnDriving := false, rc.fnReleased := none, rc.fnLine := true, rc.fnSince := s.clk } else s

/-- RESET_SELF_REFRESH (R239, R391 step 4): after the rails (steps 2 and 3: every group OFF or TRIPPED, or 100 ms after the
trigger; a rail reaction has shut every group down at once) and after any capture, every rank pays its debt and enters
self-refresh. -/
def execResetSelfRefresh (s : State) : Host.Outcome State Fault Refusal :=
  .next (match s.glb.entry with
    | some e =>
      if s.glb.capture.isNone ∧ (e.stage = 3 ∨ e.stage = 1 ∧ (e.cause = 8 ∨ e.frame + 2 ≤ s.time.wfn) ∧ s.groupsDown) then
        let s1 := ((List.range 12).foldl State.selfRefresh s).releaseFn
        { s1 with glb.entry := some { e with stage := 4, clk := s1.clk } }
      else s
    | none => s)

/-- RESET_HOLD_EXPIRE (R391 step 5, R392): 1 ms after step 4, or after RST_N or PORST_N took the reset at once, the boot begins. -/
def execResetHoldExpire (s : State) : Host.Outcome State Fault Refusal :=
  .next (match s.glb.entry with
    | some e =>
      let s1 := s.advanceTo (e.clk + msC 1)
      if e.stage = 4 then s1.warmBoot e
      else if e.stage = 5 then { s1 with glb.entry := none, glb.porst := false }.bootFrom
      else s
    | none => s)

/-- REFCLK_STOP (R431): the frame loop stops until a reset. -/
def execRefclkStop (s : State) : Host.Outcome State Fault Refusal := .next { s with glb.refclkStopped := true }

/-! ### The watchdog (R403) -/

/-- R403: a write of GLB_WDOG_KICK: firmware's alone. -/
def State.kick (s : State) (path : Path) (v : Nat) : State :=
  if path = .firmware ∧ bits v 0 1 = 1 then { s with glb.wdogLast := s.clk, glb.wdogLogged := false } else s

/-- GLB_WDOG_KICK (R403). -/
def execGlbWdogKick (path : Path) (value : Word) (s : State) : Host.Outcome State Fault Refusal := .next (s.kick path value.toNat)

/-- WATCHDOG_EXPIRE (R403): once per lack of a kick: a fatal error, or only a capture, which logs FATAL_DUMP at its end. -/
def execWatchdogExpire (s : State) : Host.Outcome State Fault Refusal :=
  .next (if s.glb.ready ∧ !s.glb.wdogLogged then
      let w := s.shadow 0x10020
      let s1 := s.advanceTo (s.glb.wdogLast + msC (100 * bits w 0 10))
      let s2 := { s1 with glb.wdogLogged := true }
      if bits w 10 1 = 0 then s2.beginReset 5 0 else s2.startCapture 5 0
    else s)

/-- STRIKES_CLEAR (R399): 600 s in HOLD, RUN or PLATEAU. -/
def execStrikesClear (s : State) : Host.Outcome State Fault Refusal :=
  .next (if s.pwr.state = .hold ∨ s.pwr.state = .run ∨ s.pwr.state = .plateau then
      { s.advanceTo (s.glb.stable + 600 * secC) with glb.strikes := 0 }
    else s)

end Sys2Proof.Machine
end

