-- ==== Sys2Proof/Machine/Commit.lean ====
section
/-! DEFINITION. The commits (R16, R17): the checks of every block with a shadow set, and the writes of its COMMIT register. -/

namespace Sys2Proof.Machine

/-! ### What a running session protects (R96, R116, R203, R251) -/

/-- R116: the requests of the sessions that are BOOKED, PREPARING, RUNNING, CLOSING, DEFERRED or WAITING. -/
def State.pendingReqs (s : State) : List Req := (s.sessions.filter fun q => decide (q.2.state ≤ 6)).map fun q => q.2.req

/-- R116: a change that lowers a capacity is refused while there is one. -/
def State.capsHeld (s : State) : Bool := decide (s.pendingReqs ≠ [])

/-- R96, R203: a tile of which any pixel is owned or lies in the region of such a session. -/
def State.tileHeld (s : State) (i : Nat) : Bool :=
  s.tileOwned i || (s.inMap i && s.pendingReqs.any fun q => s.regionTouches q i)

/-! ### WSA (R96) -/

/-- R96: whether the WSA shadow set passes its checks. -/
def State.wsaSetOk (s : State) : Bool :=
  let get := s.shadow
  let guard := bits (get baseWsa) 0 6
  let temp := get (baseWsa + 8)
  let dflt := sext 8 (bits temp 8 8)
  let rg (g : Nat → Nat) (i : Nat) : Nat := bits (g (tcfgOff i)) 4 3
  let qs (g : Nat → Nat) (i : Nat) : Nat := bits (g (tcfgOff i)) 16 16
  let gq (g : Nat → Nat) (i : Nat) : Nat := g (tcfgOff i + 4)
  let tblq (g : Nat → Nat) (c : Nat) : Nat := bits (g (baseWsa + 0x20 + c * 4)) 0 16
  let r := s.time.rate
  let mem (g : Nat) : Nat := capMem r g s.dmc.rate (trfcNs s.dmc.density) s.dmc.iecc
  let moved := (List.range 1024).filter fun i =>
    decide (rg get i ≠ rg s.live i) || decide (qs s.live i < qs get i) || decide (gq s.live i < gq get i)
  let raised := (List.range 8).any fun c => decide (tblq s.live c < tblq get c)
  decide (10 ≤ guard) && decide (guard ≤ 40) && decide (bits (get (baseWsa + 4)) 0 2 ≠ 0) &&
    decide (1 ≤ bits temp 0 6) && decide (bits temp 0 6 ≤ 60) && decide (-40 ≤ dflt) && decide (dflt ≤ 100) &&
    ((List.range 1024).all fun i => (s.boundTo i).isNone || decide (qs get i ≠ 0)) &&
    !((decide (capSyn r guard < capSyn r s.guardPct) || decide (mem guard < mem s.guardPct)) && s.capsHeld) &&
    !(moved.any s.tileHeld) &&
    !(raised && (List.range 1024).any fun i => (s.tilePkg i).any Pkg.table && s.tileHeld i)

/-! ### SCH (R136) -/

/-- R136: whether a new TRANS or SWB in the SCH set that `set` reads would lengthen a BOOKED session, and beyond its C. TMARGIN is taken
as it stands in force (assumption 168). -/
def State.lengthens (s : State) (set : Nat → Nat) (x : Sess) : Bool :=
  let tiles := (s.parts x.req).map fun a => a.tile
  let get (off : Nat) : Nat := if off = baseSch then s.live off else set off
  match s.lengthWith x.req tiles get, s.lengthWith x.req tiles s.live with
  | .ok (p, t, w), .ok (p', t', w') => decide (p' + t' + w' < p + t + w) && decide (x.c < x.s + (p + t + w))
  | .error _, .ok _ => true
  | _, .error _ => false

/-- R136: whether the SCH shadow set passes its checks. -/
def State.schSetOk (s : State) : Bool :=
  let get := s.shadow
  let d := bits (get baseSch) 0 5
  let swb (n : Nat) : Nat := bits (get (baseSch + 0x400 + n * 0x40)) 0 7
  let used (n : Nat) : Bool := (List.range 1024).any fun i => decide (s.boundTo i = some n)
  decide (d ≤ 30) && decide (bits (get baseSch) 12 4 ≠ 0) &&
    ((List.range 8).all fun n => decide (1 ≤ swb n) && decide (swb n ≤ 64)) &&
    ((List.range 8).all fun n => match s.pkg n with
      | some p => p.table || !used n || ((List.range p.knotCount).all fun k => decide (transOf get n k ≠ 0))
      | none => true) &&
    (decide (d ≤ s.defile) || ((spanFrames s.time.wfn (s.time.wfn + 1024)).all fun f => allRes.all fun r =>
      decide (s.booked r f true [] ≤ lowCeiling (s.capOf f r) d))) &&
    (s.sessions.all fun q => decide (q.2.state ≠ 3) || q.2.openStream || !s.lengthens get q.2)

/-- R17, R136: COMMIT of the SCH set, which is live at once. -/
def State.commitSch (s : State) : Bool × State :=
  if s.schSetOk then (true, { s.clearRejected unitSch with regs.live := tabSet [] s.regs.live unitSch (s.shadowSet unitSch) })
  else (false, s.rejectCommit unitSch)

/-! ### Tile ports (R203) -/

/-- The rectangle of tile `i` under a set of WX and WY: (x, y, width, height). -/
def State.rectOf (s : State) (get : Nat → Nat) (i : Nat) : Nat × Nat × Nat × Nat :=
  (get (tslotOff i 0), get (tslotOff i 4), s.tileW i, s.tileH i)

/-- Whether two rectangles overlap. -/
def rectsMeet (a b : Nat × Nat × Nat × Nat) : Bool :=
  decide (a.1 < b.1 + b.2.2.1) && decide (b.1 < a.1 + a.2.2.1) && decide (a.2.1 < b.2.1 + b.2.2.2) && decide (b.2.1 < a.2.1 + a.2.2.2) &&
    decide (0 < a.2.2.1) && decide (0 < a.2.2.2) && decide (0 < b.2.2.1) && decide (0 < b.2.2.2)

/-- R69: the segments of a tile. -/
def State.tileSegs (s : State) (i : Nat) : Nat := s.tileH i * segsPerRow (s.tileW i)

/-- R203: whether the shadow set of port `p` passes its checks. -/
def State.tfSetOk (s : State) (p : Nat) : Bool :=
  let get := s.shadow
  let cfg := get (baseTf p + 4)
  let old := s.live (baseTf p + 4)
  let own := (List.range 32).map fun k => p * 32 + k
  let valid (g : Nat → Nat) (i : Nat) : Bool := decide (bits (g (tslotOff i 12)) 2 1 = 1)
  let mine := own.filter (valid get)
  let others := (List.range 1024).filter fun i => decide (i / 32 ≠ p) && valid s.live i
  let within (lo n a b : Nat) : Bool := decide (a ≤ bits cfg lo n) && decide (bits cfg lo n ≤ b)
  let pair := (List.range 64).map fun k => p / 2 * 64 + k
  within 8 7 1 100 && within 16 7 1 100 && within 24 8 1 255 && !(decide (p % 2 = 1) && decide (bits cfg 5 1 = 1)) &&
    (mine.all fun i => (mine.all fun j => decide (i = j) || !rectsMeet (s.rectOf get i) (s.rectOf get j)) &&
      others.all fun j => !rectsMeet (s.rectOf get i) (s.rectOf s.live j)) &&
    decide (((mine ++ others).map s.tileSegs).sum ≤ 4194304) &&
    (own.all fun i => (decide (get (tslotOff i 0) = s.live (tslotOff i 0)) && decide (get (tslotOff i 4) = s.live (tslotOff i 4)) &&
      (valid get i == valid s.live i)) || !s.tileHeld i) &&
    (decide (bits cfg 0 6 = bits old 0 6) || !(pair.any fun i => s.inMap i && s.pendingReqs.any fun q => s.regionTouches q i))

/-! ### Rails (R226, R247, R251) -/

/-- R251: whether the dependency masks of a group, as lists of slots, have no cycle: slots whose slots are all placed are placed, up to
12 times. -/
def acyclicGo (mask : Nat → List Nat) : Nat → List Nat → Bool
  | 0, placed => (List.range 12).all placed.contains
  | n + 1, placed => acyclicGo mask n ((List.range 12).filter fun i => (mask i).all placed.contains)

/-- R226: the sign that a role's SETPT and VFS take: 1, −1, or 0 for none. -/
def roleSign (role : Nat) : Int := if role = 1 ∨ role = 3 ∨ role = 4 ∨ role = 5 then 1 else if role = 0 ∨ role = 10 then 0 else -1

/-- R226: whether an enabled slot's voltages have the sign its role takes. -/
def roleVolts (role : Nat) (setpt vfs : Int) : Bool :=
  let g := roleSign role
  decide (g = 0) || (decide (0 < g * setpt) && decide (0 < g * vfs))

/-- R251: whether the shadow set of group `g` passes its checks. -/
def State.railSetOk (s : State) (g : Nat) : Bool :=
  let f (get : Nat → Nat) (i r lo n : Nat) : Nat := bits (get (slotOff g i r)) lo n
  let get := s.shadow
  let en (i : Nat) : Bool := decide (f get i 0 0 1 = 1)
  let role (i : Nat) : Nat := f get i 0 3 4
  let setpt (i : Nat) : Int := sext 16 (f get i 8 0 16)
  let vfs (i : Nat) : Int := sext 16 (f get i 8 16 16)
  let mask (i : Nat) : List Nat := (List.range 12).filter fun k => decide (f get i 4 k 1 = 1)
  let slots := List.range 12
  let x := (s.group g).state
  let idle := decide (x = .off) || decide (x = .tripped) || decide (x = .disabled)
  let same (i : Nat) : Bool :=
    [(0, 0, 2), (0, 3, 4), (4, 0, 12), (4, 16, 16), (0x18, 0, 16), (8, 16, 16), (0x14, 0, 16)].all fun q =>
      decide (f get i q.1 q.2.1 q.2.2 = f s.live i q.1 q.2.1 q.2.2)
  let within (v a b : Nat) : Bool := decide (a ≤ v) && decide (v ≤ b)
  let cfg := get (baseRail g + 4)
  (slots.all fun i => decide (f get i 0xC 0 8 < f get i 0xC 8 8) && decide (f get i 0xC 8 8 < f get i 0xC 16 8) &&
    decide (f get i 0x10 0 16 < f get i 0x10 16 16) && decide (f get i 0x10 16 16 ≤ f get i 0x14 0 16)) &&
    (!(s.group g).enable || (((List.range 9).all fun k =>
        decide ((slots.filter fun i => en i && decide (role i = k + 1)).length = 1)) && en 0 && decide (role 0 = 1) && en 1 &&
        decide (role 1 = 2) && slots.all fun i => !en i || roleVolts (role i) (setpt i) (vfs i))) &&
    (slots.all fun i => decide (10 * (setpt i).natAbs ≤ 9 * (vfs i).natAbs) &&
      (decide (role i ≠ 9) || (decide (-3000 ≤ setpt i) && decide (setpt i ≤ -500))) &&
      !(decide (f get i 0 7 2 = 1) && decide (role i ∈ [1, 2, 9])) &&
      ((mask i).all fun k => en k && decide (k ≠ i))) &&
    acyclicGo mask 12 [] && (idle || slots.all same) &&
    (slots.all fun i => within (f get i 0x24 16 12) 100 4000 && within (f get i 0x18 0 16) 10 10000 && within (f get i 0x18 16 16) 1 10000) &&
    decide (bits cfg 16 10 ≤ 1000) && within (bits (get (baseRail g + 0x14)) 0 10) 1 1000 &&
    !(decide (get (baseRail g + 0x10) < s.live (baseRail g + 0x10)) && s.capsHeld)

/-- R247, R251: whether the device-wide shadow set passes its checks. -/
def State.rcSetOk (s : State) : Bool :=
  let cfg := s.shadow 0x30E00
  let th := s.shadow 0x30E04
  let fn := s.shadow 0x30E0C
  let fs := bits cfg 0 16
  let ok := bits cfg 16 16
  let low := bits th 0 16
  let coll := bits th 16 16
  (decide (fs = 0) || (decide (coll < low) && decide (low < ok) && decide (ok < fs))) && decide (bits fn 0 16 ≠ 0) &&
    decide (bits fn 16 16 ≠ 0)

/-! ### Thermal (R386) -/

/-- R386: whether the THM shadow set passes its checks. -/
def State.thmSetOk (s : State) : Bool :=
  let lim := s.shadow baseThm
  let w := bits lim 0 8
  let t := bits lim 8 8
  let d := bits lim 16 8
  let h := bits lim 24 4
  decide (w < t) && decide (t < d) && decide (t + 8 ≤ d) && decide (60 ≤ w) && decide (w ≤ 110) && decide (70 ≤ t) &&
    decide (t ≤ 115) && decide (100 ≤ d) && decide (d ≤ 125) && decide (1 ≤ h) && decide (h ≤ 8) &&
    decide (bits (s.shadow (baseThm + 4)) 0 8 ≠ 0) &&
    (List.range 8).all fun z =>
      let tau := bits (s.shadow (baseThm + 0x410 + z * 4)) 16 16
      decide (10 ≤ tau) && decide (tau ≤ 10000)

/-! ### COMMIT (R17) -/

/-- Accept or refuse by a check. -/
def State.commitBy (s : State) (u : Nat) (ok : Bool) : Bool × State := if ok then (true, s.acceptCommit u) else (false, s.rejectCommit u)

/-- R17: a write of 1 to COMMIT of unit `u`, refused while PENDING is 1: whether it is accepted, and the state after it. -/
def State.commit (s : State) (u : Nat) : Bool × State :=
  if (s.pendSet u).isSome then (false, s.rejectCommit u)
  else if u = unitWsa then s.commitBy u s.wsaSetOk
  else if u = unitSch then s.commitSch
  else if u = unitMp then s.commitMp
  else if u = unitTime then s.commitTime
  else if u = unitNet then s.commitNet
  else if u = unitThm then s.commitBy u s.thmSetOk
  else if u = unitRc then s.commitBy u s.rcSetOk
  else if u < unitTf 0 then s.commitBy u (s.railSetOk (u - unitRail 0))
  else s.commitBy u (s.tfSetOk (u - unitTf 0))

/-- R5, R17: a write of a COMMIT register: REJECTED is W1C, COMMIT checks and commits. -/
def State.writeCommit (s : State) (u v : Nat) : State :=
  let s1 := if bits v 2 1 = 1 then s.clearRejected u else s
  if bits v 0 1 = 1 then (s1.commit u).2 else s1

/-- How a COMMIT register reads. -/
def State.commitWord (s : State) (u : Nat) : Nat := 2 * b2n (s.pendSet u).isSome + 4 * b2n (s.isRejected u)

/-- WSA_COMMIT (R96). -/
def execWsaCommit (value : Word) (s : State) : Host.Outcome State Fault Refusal :=
  .next (s.whenReady fun t => t.writeCommit unitWsa value.toNat)

/-- SCH_COMMIT (R136). -/
def execSchCommit (value : Word) (s : State) : Host.Outcome State Fault Refusal :=
  .next (s.whenReady fun t => t.writeCommit unitSch value.toNat)

/-- MP_COMMIT (R165). -/
def execMpCommit (value : Word) (s : State) : Host.Outcome State Fault Refusal :=
  .next (s.whenReady fun t => t.writeCommit unitMp value.toNat)

/-- TF_PCOMMIT (R203). -/
def execTfPcommit (port : Fin 32) (value : Word) (s : State) : Host.Outcome State Fault Refusal :=
  .next (s.whenReady fun t => t.writeCommit (unitTf port.val) value.toNat)

/-- TIME_COMMIT (R222). -/
def execTimeCommit (value : Word) (s : State) : Host.Outcome State Fault Refusal :=
  .next (s.whenReady fun t => t.writeCommit unitTime value.toNat)

/-- RG_COMMIT (R251). -/
def execRgCommit (g : Fin 8) (value : Word) (s : State) : Host.Outcome State Fault Refusal :=
  .next (s.whenReady fun t => t.writeCommit (unitRail g.val) value.toNat)

/-- RC_COMMIT (R251). -/
def execRcCommit (value : Word) (s : State) : Host.Outcome State Fault Refusal :=
  .next (s.whenReady fun t => t.writeCommit unitRc value.toNat)

/-- NET_COMMIT (R366). -/
def execNetCommit (value : Word) (s : State) : Host.Outcome State Fault Refusal :=
  .next (s.whenReady fun t => t.writeCommit unitNet value.toNat)

/-- THM_COMMIT (R386). -/
def execThmCommit (value : Word) (s : State) : Host.Outcome State Fault Refusal :=
  .next (s.whenReady fun t => t.writeCommit unitThm value.toNat)

end Sys2Proof.Machine
end

