-- ==== Sys2Proof/Machine/Vale.lean ====
section
/-! DEFINITION. Vale memory (R294 to R308): access through the aliases, set and clear, handover, retention, the background test. -/

namespace Sys2Proof.Machine

/-- Bytes of a bank (R294). -/
def bankSize : Nat := 0x40000

/-- R303: a free bank. -/
def freeBank (k : Nat) : Bool := decide (53 ≤ k) && decide (k < 64)

def valeDirect (s : State) (r lo n : Nat) : Nat := bits (s.shadow (baseVale + r)) lo n

/-! ### Requestors and arbitration (R297, R300) -/

/-- R295, R297: the owner that a requestor belongs to. -/
def reqOwner : ValeReq → Nat
  | .core _ _ => 1
  | .pcie => 2
  | .lcb => 3
  | .sch => 4
  | .cluster _ => 4
  | .sweep => 4
  | .journal => 5
  | .fixup => 5
  | .report => 5

/-- R297: the priority number of a requestor within its owner. -/
def reqPrio : ValeReq → Nat
  | .sch => 1
  | .cluster n => 2 + n.val
  | .sweep => 50
  | .journal => 1
  | .fixup => 2
  | .report => 3
  | .core n _ => 1 + n.val
  | .pcie => 1
  | .lcb => 1

/-- R297: whether a requestor tags its access as interrupt-context. -/
def reqUrgent : ValeReq → Bool
  | .cluster _ => true
  | .journal => true
  | .fixup => true
  | .core _ i => i
  | _ => false

/-- The path on which a requestor outside the WSA and the TF gets what it reads. -/
def reqPath : ValeReq → Option Path
  | .pcie => some .pcie
  | .lcb => some .lcb
  | .core _ _ => some .firmware
  | _ => none

/-- R300: what asks, each with its loss count, and what its requestors ask for next. A grant goes to the lowest priority number
among those that have lost 16 cycles, else among all; the others lose the cycles that the granted access takes. The answer lists
the accesses in the order of their grants, each with whether it was granted for its loss count: ahead of a lower number that had
lost less. -/
def grantOrder {α : Type} [DecidableEq α] (prio dur : α → Nat) : Nat → List (α × Nat) → List α → List (α × Bool)
  | 0, _, _ => []
  | n + 1, front, back =>
    let starved := front.filter fun q => decide (16 ≤ q.2)
    let pool := if starved.isEmpty then front else starved
    match pool.find? fun q => pool.all fun r => decide (prio q.1 ≤ prio r.1) with
    | none => []
    | some a =>
      let rest := (front.erase a).map fun q => (q.1, q.2 + dur a.1)
      let byLoss := decide (16 ≤ a.2) && front.any fun q => decide (prio q.1 < prio a.1)
      match back.find? fun x => decide (prio x = prio a.1) with
      | some x => (a.1, byLoss) :: grantOrder prio dur n (rest ++ [(x, 0)]) (back.erase x)
      | none => (a.1, byLoss) :: grantOrder prio dur n rest back

/-- R300: the order in which accesses are granted that ask at once, each having lost a number of cycles: of one requestor's, one asks
at a time. -/
def grants {α : Type} [DecidableEq α] (prio dur : α → Nat) (l : List (α × Nat)) : List (α × Bool) :=
  let q := l.foldl (fun (q : List (α × Nat) × List α) x =>
    if q.1.any fun y => decide (prio y.1 = prio x.1) then (q.1, q.2 ++ [x.1]) else (q.1 ++ [x], q.2)) ([], [])
  grantOrder prio dur l.length q.1 q.2

/-! ### Access (R297 to R301) -/

/-- R297: when and where a requestor reaches its owner's banks: the SCH's bitmap writer in the guard only, the telemetry and report
writer in bank 52 only. -/
def State.reqMay (s : State) (who : ValeReq) (k : Nat) : Bool :=
  match who with
  | .sch => s.wsa.inGuard
  | .report => decide (k = 52)
  | _ => true

/-- R297, R298: whether bank `k` may be accessed by a requestor. -/
def State.valeOwned (s : State) (who : ValeReq) (k : Nat) : Bool :=
  decide ((s.bank k).owner = reqOwner who) && s.reqMay who k && (s.bank k).pending.isNone

/-- R299: whether an alias takes an access: within one line, of a size it allows. Cores and the internal requestors have no alias of
their own; their accesses are taken as PCIe's (assumption 28). -/
def aliasTakes (who : ValeReq) (via : ValeAlias) (off : Nat) (acc : MemAcc) : Bool :=
  let word := decide (off % 4 = 0) && (match acc with
    | .read n => decide (n = 4)
    | .write bs => decide (bs.length = 4) && bs.all Option.isSome)
  match via, who with
  | .normal, .lcb => word
  | .normal, _ => (match acc with
    | .read n => decide (4 ≤ n) && decide (off % 64 + n ≤ 64)
    | .write bs => decide (off % 64 + bs.length ≤ 64))
  | _, _ => word

/-- R301: the word stored by an access through the set or clear alias. -/
def aliasWord (via : ValeAlias) (old m : Nat) : Nat :=
  match via with
  | .normal => m
  | .set => old ||| m
  | .clear => old &&& (0xFFFFFFFF ^^^ m)

/-- The bank that an access touches. -/
def accBank (x : ValeAccess) : Nat := x.off.toNat / bankSize

/-- The bytes that an access spans. -/
def accLen (x : ValeAccess) : Nat := match x.acc with
  | .read n => n
  | .write bs => bs.length

/-- R301: the cycles for which an access holds its bank. -/
def accCycles (x : ValeAccess) : Nat :=
  match x.via, x.acc with
  | .set, .write _ => 2
  | .clear, .write _ => 2
  | _, _ => 1

/-- What a requestor reads is given to it. -/
def State.valeAnswer (s : State) (who : ValeReq) (data : List Byte) : State :=
  match reqPath who with
  | some p => s.emit (.readData p data)
  | none => s

/-- R298, R299: an access that is denied or discarded is counted; a read answers 0. -/
def State.valeDeny (s : State) (x : ValeAccess) : State :=
  let s1 := ({ s with vale.denied := true }).count (baseVale + 0x300)
  match x.acc with
  | .read n => s1.valeAnswer x.who (zeroBytes n)
  | .write _ => s1

/-- R299, R301: a granted access. What the WSA's and the TF's requestors write stands in the fields that hold it (R68, R70, R36, R90,
R191): here their accesses only take the bank. -/
def State.valeDo (s0 : State) (x : ValeAccess) : State :=
  let off := x.off.toNat
  let s := s0.setBank (accBank x) { s0.bank (accBank x) with last := s0.clk }
  if (reqPath x.who).isNone then s
  else match x.acc with
    | .read n => s.valeAnswer x.who (memBytes s.vale.mem off n)
    | .write bs =>
      match x.via with
      | .normal => { s with vale.mem := storeEnabled s.vale.mem off bs }
      | a =>
        let m := leNat (bs.map fun b => b.getD 0)
        { s with vale.mem := memStore s.vale.mem off (leBytes 4 (aliasWord a (memLe s.vale.mem off 4) m)) }

/-- R298, R300: the accesses to one bank, each with the cycle it asked in, are granted one after the other; those of a requestor
that has lost the bank meanwhile are denied. The cycles of the grants themselves are not counted on the clock (assumption 141). -/
def State.valeServe (s : State) (l : List (ValeAccess × Nat)) : State :=
  let order := grants (fun x => reqPrio x.who) accCycles (l.map fun q => (q.1, s.clk - q.2))
  order.foldl (fun st g =>
    if st.valeOwned g.1.who (accBank g.1) then (if g.2 then st.count (baseVale + 0x304) else st).valeDo g.1 else st.valeDeny g.1) s

/-! ### The background test (R305 to R308) -/

/-- R313: whether a bank is in retention or waking. -/
def State.retains (s : State) (k : Nat) : Bool := (s.bank k).ret || decide (s.clk < (s.bank k).wakeAt)

/-- R305: whether bank `k` can be tested now. -/
def State.testable (s : State) (k : Nat) : Bool :=
  decide (valeDirect s (if k < 32 then 0x114 else 0x118) (k % 32) 1 = 1) && !s.retains k && (s.bank k).pending.isNone

/-- BT_WINDOW_START (R305): GAP × 64 cycles after the last start, a window of the next selected bank opens. -/
def execBtWindowStart (s : State) : Host.Outcome State Fault Refusal :=
  if valeDirect s 0x110 0 1 = 0 ∨ s.vale.btActive then .next s
  else
    let s1 := s.advanceTo (s.vale.btStart + valeDirect s 0x110 16 12 * 64)
    let first := if s.vale.btStart = 0 then 0 else s.vale.btBank + 1
    match ((List.range 64).map fun j => (first + j) % 64).find? s1.testable with
    | some k => .next { s1 with vale.btActive := true, vale.btStart := s1.clk, vale.btBank := k, vale.btWin := tabGet 0 s1.vale.nextWin k }
    | none => .next { s1 with vale.btStart := s1.clk }

/-- The accesses that waited for the window are granted. -/
def State.valeResume (s : State) : State := ({ s with vale.waiting := [] }).valeServe s.vale.waiting

/-- R306: the open window is aborted: the lines that the test has written, at most 8 from its ninth cycle on, are written back, one
per cycle; after 16 aborts of one window in a row the engine moves on. -/
def State.btAbort (s0 : State) : State :=
  let s := s0.advance (min 8 (s0.clk - s0.vale.btStart - 8) + 1)
  let k := s.vale.btBank
  let n := tabGet 0 s.vale.aborts k + 1
  let s1 := ({ s with vale.btActive := false }).count (baseVale + 0x30C)
  if n < 16 then { s1 with vale.aborts := tabSet 0 s1.vale.aborts k n }
  else ({ s1 with vale.aborts := tabSet 0 s1.vale.aborts k 0, vale.nextWin := tabSet 0 s1.vale.nextWin k ((s.vale.btWin + 1) % 512) }).count
    (baseVale + 0x310)

/-- R308: a march read of a line of the window has failed. -/
def State.btFailed (s : State) (l : Fin 8) : State :=
  let k := s.vale.btBank
  let line := s.vale.btWin * 8 + l.val
  let s1 := (s.setBank k { s.bank k with fail := true }).count (baseVale + 0x314)
  { s1 with
    vale.btFail := true, vale.failBank := k, vale.failLine := line
    glb.odo.valeFail := s1.glb.odo.valeFail + 1 }.log 195 k line 0

/-- BT_WINDOW_DONE (R305, R307, R308): the window has run its 96 test cycles and is restored; each failed march read is recorded, and
the accesses that waited are granted. -/
def execBtWindowDone (fails : List (Fin 8)) (s : State) : Host.Outcome State Fault Refusal :=
  if s.vale.btActive then
    let k := s.vale.btBank
    let s0 := s.advanceTo (s.vale.btStart + 96)
    let s1 := ({ s0 with
      vale.btActive := false
      vale.aborts := tabSet 0 s0.vale.aborts k 0
      vale.nextWin := tabSet 0 s0.vale.nextWin k ((s.vale.btWin + 1) % 512) }).count (baseVale + 0x308)
    .next (fails.foldl State.btFailed s1).valeResume
  else .next s

/-! ### Accesses that ask (R299, R303, R306, R307) -/

/-- Whether an access touches a line of the open window. -/
def State.inWindow (s : State) (x : ValeAccess) : Bool :=
  let o := x.off.toNat % bankSize
  s.vale.btActive && decide (s.vale.btBank = accBank x) && decide (o / 512 ≤ s.vale.btWin) && decide (s.vale.btWin ≤ (o + accLen x - 1) / 512)

/-- R303, R306, R307: accesses to bank `k` that its owner may make: a retained bank wakes first; they may abort the window that is
open on the bank, or wait for it to complete. -/
def State.valeBank (s : State) (k : Nat) (l : List ValeAccess) : State :=
  if l.isEmpty then s
  else
    let s1 := (s.wakeBank k).advanceTo ((s.wakeBank k).bank k).wakeAt
    let mine := l.map fun x => (x, s1.clk)
    let opened := s1.vale.btActive && decide (s1.vale.btBank = k)
    if opened && (decide (valeDirect s1 0x110 1 1 = 1) || l.any fun x => reqUrgent x.who && s1.inWindow x) then
      let s2 := s1.btAbort
      { s2 with vale.waiting := [] }.valeServe (s2.vale.waiting ++ mine)
    else if opened && (!s1.vale.waiting.isEmpty || l.any s1.inWindow) then { s1 with vale.waiting := s1.vale.waiting ++ mine }
    else s1.valeServe mine

/-- R358: an access over the LCB at an address whose bits [1:0] are not 0 is one without effect. -/
def lcbVoid (x : ValeAccess) : Bool := decide (x.who = .lcb) && decide (x.off.toNat % 4 ≠ 0)

/-- R298 to R300: accesses that ask at once. Before READY the aliases are not reached: a read returns 0, a write is discarded; so it
is with an access of the LCB that R358 leaves without effect. -/
def State.valeAsk (s : State) (l : List ValeAccess) : State :=
  let reached (x : ValeAccess) : Bool := ((reqPath x.who).all fun p => s.reaches p 0x1000000) && !lcbVoid x
  let may (x : ValeAccess) : Bool := aliasTakes x.who x.via x.off.toNat x.acc && s.valeOwned x.who (accBank x)
  let s1 := (l.filter fun x => !reached x).foldl (fun st x => match x.acc with
    | .read n => st.valeAnswer x.who (zeroBytes n)
    | .write _ => st) s
  let s2 := (l.filter fun x => reached x && !may x).foldl State.valeDeny s1
  (List.range 64).foldl (fun st k => st.valeBank k (l.filter fun x => reached x && may x && decide (accBank x = k))) s2

/-- One access through an alias. -/
def State.valeAccess (s : State) (who : ValeReq) (via : ValeAlias) (off : Nat) (acc : MemAcc) : State :=
  s.valeAsk [⟨who, via, BitVec.ofNat 24 off, acc⟩]

/-- VALE_ALIAS_ACCESS (R297 to R300, R303, R306, R307). -/
def execValeAliasAccess (who : ValeReq) (via : ValeAlias) (off : BitVec 24) (op : ValeOp) (s : State) :
    Host.Outcome State Fault Refusal :=
  .next (s.valeAsk (⟨who, via, off, op.acc⟩ :: op.rivals))

/-- A write of the low `n` bytes of a mask, as an access. -/
def maskAcc (n : Nat) (mask : Word) : MemAcc := .write ((leBytes n mask.toNat).map some)

/-- VALE_SET_WRITE (R299, R301): word := word | mask in one read-modify-write. -/
def execValeSetWrite (who : ValeReq) (off : BitVec 24) (size : Nat) (mask : Word) (s : State) : Host.Outcome State Fault Refusal :=
  .next (s.valeAccess who .set off.toNat (maskAcc size mask))

/-- VALE_CLEAR_WRITE (R299, R301): word := word & ~mask in one read-modify-write. -/
def execValeClearWrite (who : ValeReq) (off : BitVec 24) (size : Nat) (mask : Word) (s : State) :
    Host.Outcome State Fault Refusal :=
  .next (s.valeAccess who .clear off.toNat (maskAcc size mask))

/-! ### Handover (R302) -/

/-- R302: the owner whose writes a path carries; 0 for a command, which writes as PCIe does (R325). -/
def pathOwner : Path → Nat
  | .pcie => 2
  | .lcb => 3
  | .command _ => 2
  | .firmware => 1

/-- R302: a write of VALE_OWNk. A write with OWNER above 5 is discarded whole (chapter 11). -/
def State.writeOwn (s : State) (path : Path) (k v : Nat) : State :=
  let b := s.bank k
  let new := bits v 0 3
  if 5 < new then s
  else if !freeBank k ∨ new = 4 ∨ new = 5 ∨ b.pending.isSome ∨ (b.owner ≠ 0 ∧ b.owner ≠ pathOwner path) then
    { s with vale.refused := true }
  else
    let s1 := s.wakeBank k
    let s2 := s1.setBank k { s1.bank k with pending := some (new, decide (bits v 3 1 = 1)) }
    if s2.vale.btActive ∧ s2.vale.btBank = k then s2.btAbort.valeResume else s2

/-- VALE_OWN_WRITE (R302, R8): of two writes in one cycle the LCB's is judged first, and PCIe's against the result. -/
def execValeOwnWrite (path : Path) (bank : Fin 64) (write : PortWrite) (s : State) :
    Host.Outcome State Fault Refusal :=
  .next (if s.reaches path baseVale then
      (portWrites path write.value.toNat write.other).foldl (fun st w => st.writeOwn w.1 bank.val w.2) s
    else s)

/-- VALE_HANDOVER_DONE (R302 steps 3 and 4): the bank is filled with 0 where CLEAR asked for it, in 4,096 cycles, and the new owner
is live. -/
def execValeHandoverDone (bank : Fin 64) (s : State) : Host.Outcome State Fault Refusal :=
  let k := bank.val
  match (s.bank k).pending with
  | some (new, clear) =>
    let s1 := if clear then
        let t := (s.advanceTo (s.bank k).wakeAt).advance 4096
        { t with vale.mem := memErase t.vale.mem (k * bankSize) ((k + 1) * bankSize) }
      else s
    .next ((s1.setBank k { s1.bank k with owner := new, pending := none, last := s1.clk }).count (baseVale + 0x31C))
  | none => .next s

/-! ### Retention (R303) -/

/-- R303: a write of VALE_RET_EN: a bank whose bit is cleared wakes. -/
def State.writeRetEn (s : State) (v : Nat) : State :=
  let s1 := s.putReg (baseVale + 0x104) v
  (List.range 11).foldl (fun st j => if bits v j 1 = 0 then st.wakeBank (53 + j) else st) s1

/-- VALE_RET_EN_WRITE (R303). -/
def execValeRetEnWrite (value : Word) (s : State) : Host.Outcome State Fault Refusal := .next (s.whenReady fun t => t.writeRetEn value.toNat)

/-- VALE_RETENTION_ENTER (R303): a free bank with its bit set, IDLE µs after its last granted access. -/
def execValeRetentionEnter (bank : Fin 64) (s : State) : Host.Outcome State Fault Refusal :=
  let k := bank.val
  let b := s.bank k
  if freeBank k ∧ valeDirect s 0x104 (k - 53) 1 = 1 ∧ !s.retains k ∧ b.pending.isNone ∧ !(s.vale.btActive && decide (s.vale.btBank = k)) then
    let s1 := s.advanceTo (b.last + usC (valeDirect s 0x108 0 16))
    .next (s1.setBank k { b with ret := true })
  else .next s

end Sys2Proof.Machine
end

