-- ==== Sys2Proof/Machine/Window.lean ====
section
/-! DEFINITION. The status window (R309 to R312, R359, R360), the mailboxes (R361 to R363) and the SMBus target (R364). -/

namespace Sys2Proof.Machine

/-! ### Words that mirror the device's state (R360, assumption 29) -/

def TimeState.code : TimeState → Nat
  | .freeRun => 0
  | .acquiring => 1
  | .locked => 2
  | .holdover => 3
  | .lost => 4
  | .stepPending => 5

/-- R360: a zone's word. -/
def Zone.word (z : Zone) : Nat := toField 16 z.temp + b2n (z.fkind ≠ 0) * 65536 + b2n z.warn * 131072

/-- QM_EVT_SEQ: SEQ of the newest event, 0 before the first one. -/
def State.evtSeqReg (s : State) : Nat := (s.qm.evSeq - 1) % 2 ^ 32

/-- R360: the word of index `w`, where the device's own state gives it. -/
def State.mirror (s : State) (w : Nat) : Option Nat :=
  if w = 0 then some (0x7240 + s.otp.rev * 65536)
  else if w = 1 then some (b2n s.glb.ready + 2 * b2n (s.pwr.state = .safe) + 4 * s.glb.image)
  else if w = 2 then some s.glb.fwver
  else if w = 3 then some s.glb.heartbeat.toNat
  else if w = 5 then some (s.time.state.code + 8 * b2n s.wallValid)
  else if w = 6 then some s.evtSeqReg
  else if w = 64 then
    some (s.pwr.state.code + s.thm.step * 8 + b2n ((List.range 8).any fun z => (s.zone z).warn) * 64 +
      b2n ((List.range 8).any fun z => decide ((s.zone z).fkind ≠ 0)) * 128)
  else if 65 ≤ w ∧ w < 73 then some (s.zone (w - 65)).word
  else none

/-- What the status window holds at word `w`. -/
def State.swinWord (s : State) (w : Nat) : Nat := (s.mirror w).getD (s.swinGet w)

/-- R391 step 5: a reset holds the control cores. -/
def State.ccHeld (s : State) : Bool := s.glb.entry.any fun e => decide (4 ≤ e.stage)

/-- R312: what a port reads. -/
def State.portRead (s : State) (lcb : Bool) (w : Nat) : Nat := if lcb && s.ccHeld then 0 else s.swinWord w

/-! ### Mailboxes (R361 to R363) -/

/-- R318, R362: what firmware makes of a write of MB_SUP: each index is judged by R318; one it would discard sets IDX_ERR. -/
def State.mboxIndices (s : State) (m : Fin 16) (v : Nat) : State :=
  let b := s.mbox m.val
  let p := bits v 0 16
  let c := bits v 16 16
  if !b.live then s
  else
    let pOk := decide ((p + 65536 - b.cmdCons) % 65536 ≤ 8) && decide ((p + 65536 - b.cmdProd) % 65536 ≤ 8)
    let cOk := decide ((b.cplProd + 65536 - c) % 65536 ≤ (b.cplProd + 65536 - b.cplCons) % 65536)
    let b1 := { b with
      cmdProd := if pOk then p else b.cmdProd, cplCons := if cOk then c else b.cplCons, idxErr := b.idxErr || !pOk || !cOk }
    (((s.setMbox m.val b1).mbShow m.val).drainOvq (.mailbox m) 32).fetchMboxes m 8

/-- R362: a write of MB_SUP: stored, then read by firmware. -/
def State.writeMbSup (s : State) (m : Fin 16) (v : Nat) : State := (s.swinPut (mbOff m.val / 4) v).mboxIndices m v

/-- R362: a write of MB_CTL opens or closes the mailbox, and sets IRQ_EN. Firmware serves it once it runs. -/
def State.writeMbCtl (s : State) (m : Fin 16) (v : Nat) : State :=
  let b := s.mbox m.val
  let en := decide (bits v 0 1 = 1)
  let s1 := s.swinPut (mbOff m.val / 4 + 1) (v % 4)
  let b1 := { b with en := en, irqEn := decide (bits v 1 1 = 1) }
  if en && !b.en && s.glb.ready then
    (((s1.setMbox m.val { b1 with cmdProd := 0, cmdCons := 0, cplProd := 0, cplCons := 0, live := true }).mbShow m.val).drainOvq
      (.mailbox m) 32).fetchMboxes m 8
  else (s1.setMbox m.val b1).mboxDone (.mailbox m)

/-- R363: LCB_IRQ_N is low. -/
def State.lcbIrq (s : State) : Bool :=
  s.glb.ready && (List.range 16).any fun m =>
    let b := s.mbox m
    b.en && b.irqEn && decide (b.cplProd ≠ b.cplCons)

/-- MAILBOX_DOORBELL (R362): nothing is written while a reset holds the control cores (R312). -/
def execMailboxDoorbell (m : Fin 16) (value : Word) (s : State) : Host.Outcome State Fault Refusal :=
  if s.ccHeld then .next s else .next (s.writeMbSup m value.toNat)

/-- MAILBOX_CONTROL (R362). -/
def execMailboxControl (m : Fin 16) (value : Word) (s : State) : Host.Outcome State Fault Refusal :=
  if s.ccHeld then .next s else .next (s.writeMbCtl m value.toNat)

/-! ### Writes and collisions (R309 to R311) -/

/-- R311: the words that the layout assigns to the mailboxes. -/
def mbAssigned (off : Nat) : Bool :=
  let r := off % 0x800
  decide (r < 0x10) || (decide (0x40 ≤ r) && decide (r < 0x240)) || (decide (0x400 ≤ r) && decide (r < 0x800))

/-- R311: whether a write is permitted. -/
def winPermits : WinWriter → Nat → Bool
  | .lcb, off => decide (0x8000 ≤ off)
  | .firmware, off => decide (0x8000 ≤ off)
  | .pcie, _ => false
  | _, off => decide (off < 0x8000)

/-- R309: the order in which port I grants its requestors. -/
def winPrio : WinWriter → Nat
  | .sch => 1
  | .tf => 2
  | .rc => 3
  | .thm => 4
  | .glb => 5
  | .firmware => 6
  | .pcie => 7
  | .lcb => 8

/-- R359, R360, R250: the words below the mailboxes that the layout assigns. -/
def winAssigned (off : Nat) : Bool :=
  decide (off < 0x1C) || (decide (0x100 ≤ off) && decide (off < 0x124)) ||
    (decide (0x400 ≤ off) && decide (off < 0x600) && decide (off % 0x40 < 0x34)) || decide (off = 0x600) ||
    (decide (0x1000 ≤ off) && decide (off < 0x3080))

/-- Store a permitted write: words that are not assigned keep reading 0, and mirrored words keep what they mirror. -/
def State.winStore (s : State) (who : WinWriter) (off v : Nat) : State :=
  if 0x8000 ≤ off then
    let m : Fin 16 := Fin.ofNat 16 ((off - 0x8000) / 0x800)
    let r := off % 0x800 / 4
    if !mbAssigned off then s
    else if who = .lcb ∧ r = 0 then s.writeMbSup m v
    else if who = .lcb ∧ r = 1 then s.writeMbCtl m v
    else s.swinPut (off / 4) v
  else if (s.mirror (off / 4)).isSome ∨ !winAssigned off then s
  else s.swinPut (off / 4) v

/-- R311: a write that is not permitted is discarded; nor does port L write while a reset holds the cores (R312). -/
def State.winWrite (s : State) (who : WinWriter) (off v : Nat) : State :=
  if who = .lcb ∧ s.ccHeld then s
  else if winPermits who off then s.winStore who off v
  else { s with vale.roWrite := true }

/-- R310: a write on both ports in one cycle: port I's is stored, port L's is discarded and the collision recorded. -/
def State.collide (s : State) (off : Nat) : State :=
  { s with vale.collide := true, vale.lastWord := off / 4, vale.collisions := min (s.vale.collisions + 1) 65535 }

/-- R309 to R312: a write of the word at `o`, and what the other port does to the same word in the same cycle. -/
def State.winCycle (s : State) (who : WinWriter) (o v : Nat) (other : WinOther) : State :=
  let portL := decide (who = .lcb)
  match other with
  | .none => s.winWrite who o v
  | .read =>
    let s1 := s.winWrite who o v
    if portL then s1.emit (.readData .pcie (leBytes 4 (s1.portRead false (o / 4))))
    else s1.emit (.readData .lcb (leBytes 4 (s.portRead true (o / 4))))
  | .write who2 v2 =>
    let l : WinWriter × Nat := if portL then (who, v) else (who2, v2.toNat)
    let i : WinWriter × Nat := if portL then (who2, v2.toNat) else (who, v)
    if (decide (who2 = .lcb) != portL) && winPermits l.1 o && winPermits i.1 o && !s.ccHeld then (s.collide o).winWrite i.1 o i.2
    else (s.winWrite i.1 o i.2).winWrite l.1 o l.2

/-- What a reader of port I gets. -/
def State.winAnswer (s : State) (who : WinWriter) (data : List Byte) : State :=
  match who with
  | .pcie => s.emit (.readData .pcie data)
  | .firmware => s.emit (.readData .firmware data)
  | _ => s

/-- R309, R311: a granted request of port I. -/
def State.winDo (s : State) (r : WinReq) : State :=
  match r.value with
  | some v => s.winWrite r.who r.off.toNat v.toNat
  | none => s.winAnswer r.who (leBytes 4 (s.portRead false (r.off.toNat / 4)))

/-- R4, R358: an access at an offset that is no multiple of 4 reaches no word: a read returns 0, a write is discarded. -/
def State.winVoid (s : State) (r : WinReq) : State := if r.value.isNone then s.winAnswer r.who (zeroBytes 4) else s

/-- The requestor whose access of a STATUS_WINDOW_WRITE is port I's. -/
def portIWriter (who : WinWriter) : WinOther → WinWriter
  | .write who2 _ => if who = .lcb then who2 else who
  | _ => if who = .lcb then .pcie else who

/-- STATUS_WINDOW_WRITE (R300, R309 to R312): the accesses that ask for port I are granted in their order, one per cycle; the write of
the command and what meets it on the other port take place in the cycle of the one that is port I's. A write of port L that meets
nothing asks port I for nothing. R4, R358: an access at an offset that is no multiple of 4 is one without effect. -/
def execStatusWindowWrite (who : WinWriter) (off : BitVec 16) (value : Word) (cycle : WinCycle) (s : State) :
    Host.Outcome State Fault Refusal :=
  let prio (x : Option WinReq) : Nat := match x with
    | some r => winPrio r.who
    | none => winPrio (portIWriter who cycle.other)
  let onI := cycle.rivals.filter fun r => r.who ≠ .lcb
  let asks : List (Option WinReq) := (onI.filter fun r => r.off.toNat % 4 = 0).map some
  let own (t : State) : State := if off.toNat % 4 = 0 then t.winCycle who off.toNat value.toNat cycle.other else t
  let alone := decide (who = .lcb) && decide (cycle.other = .none)
  let order := grants prio (fun _ => 1) ((if alone then asks else none :: asks).map fun x => (x, 0))
  let s1 := order.foldl (fun st g =>
    let t := if g.2 then st.count (baseVale + 0x304) else st
    match g.1 with
    | some r => t.winDo r
    | none => own t) (if alone then own s else s)
  .next ((onI.filter fun r => r.off.toNat % 4 ≠ 0).foldl State.winVoid s1)

/-- HEARTBEAT (R360): from READY on. -/
def execHeartbeat (s : State) : Host.Outcome State Fault Refusal :=
  if s.glb.ready then .next { s with glb.heartbeat := s.glb.heartbeat + 1 } else .next s

/-! ### SMBus (R364) -/

/-- SMB_SET_POINTER (R364): a word index from 0 to 16,383; another one is not served (assumption 30). -/
def execSmbSetPointer (index : BitVec 16) (s : State) : Host.Outcome State Fault Refusal :=
  if index.toNat < 16384 then .next { s with net.smbPtr := index.toNat } else .next s

/-- SMB_BLOCK_READ (R364). -/
def execSmbBlockRead (s : State) : Host.Outcome State Fault Refusal :=
  let p := s.net.smbPtr
  .next ({ s with net.smbPtr := (p + 8) % 16384 }.emit
    (.smbus ((List.range 8).flatMap fun j => leBytes 4 (s.portRead false ((p + j) % 16384)))))

/-- SMB_READ_ID (R364). -/
def execSmbReadId (s : State) : Host.Outcome State Fault Refusal := .next (s.emit (.smbus (leBytes 2 0x7240)))

end Sys2Proof.Machine
end

