-- ==== Sys2Proof/Machine/Regs.lean ====
section
/-! DEFINITION. The registers (R4 to R8, R20): what a read of every offset of BAR0 returns, what a write does, and the register
commands. -/

namespace Sys2Proof.Machine

/-! ### Reads, block by block -/

/-- A stored register, or a counter, or 0 where nothing is assigned (R6). -/
def State.plainReg (s : State) (off : Nat) : Nat := if (regDef off).isSome then s.shadow off else s.cnt off

/-- The commit unit of a bit of GLB_COMMIT_STAT: WSA, SCH, MP, TIME, NET, THM, RC, any RAIL group, any TF port. -/
def commitUnits : List (List Nat) :=
  [[unitWsa], [unitSch], [unitMp], [unitTime], [unitNet], [unitThm], [unitRc], (List.range 8).map unitRail, (List.range 32).map unitTf]

/-- One bit per entry of a list. -/
def bitSum (l : List Bool) : Nat := (l.zipIdx.map fun q => b2n q.1 * 2 ^ q.2).sum

/-- The GLB block (chapters 14 and 15). -/
def State.readGlb (s : State) (r : Nat) : Nat :=
  let g := s.glb
  if r = 0x000 then 0x7240 + s.otp.rev % 256 * 65536
  else if r = 0x004 then s.otp.uid.toNat % 4294967296
  else if r = 0x008 then s.otp.uid.toNat / 4294967296
  else if r = 0x014 then place g.rstKind 0 1 + place g.rstCause 4 4 + place g.warms 16 16
  else if r = 0x018 then
    place g.image 0 1 + place (b2n g.fallback) 1 1 + place (b2n g.rom) 2 1 + place g.strikes 8 4 + place g.safeCause 12 3
  else if r = 0x030 then
    bitSum (commitUnits.map fun us => us.any fun u => (s.pendSet u).isSome) +
      65536 * bitSum (commitUnits.map fun us => us.any s.isRejected)
  else if r = 0x100 then
    s.pwr.state.code + b2n (decide (s.pwr.transit ≠ .none)) * 8 + b2n (decide (s.pwr.transit = .exitRails)) * 16
  else if r = 0x104 then place s.pwr.entryLat 0 16 + place s.pwr.exitLat 16 16
  else if r = 0x108 then s.pwr.plateaus.toNat
  else s.plainReg (baseGlb + r)

/-- The THM block (R386). -/
def State.readThm (s : State) (r : Nat) : Nat :=
  let flags (f : Zone → Bool) : Nat := bitSum ((List.range 8).map fun z => f (s.zone z))
  if r = 0x008 then s.commitWord unitThm
  else if r = 0x00C then
    s.thm.step + flags Zone.warn * 256 + flags Zone.hot * 65536 + flags (fun z => decide (z.fkind ≠ 0)) * 16777216
  else if 0x040 ≤ r ∧ r < 0x080 then
    let z := s.zone ((r - 0x40) / 8)
    if r % 8 = 0 then toField 16 z.temp + toField 16 z.raw * 65536
    else z.rate + z.fkind * 4 + b2n z.warn * 32 + b2n z.hot * 64 + b2n z.shut * 128
  else if 0x4A0 ≤ r ∧ r < 0x4C0 then
    let z := s.zone ((r - 0x4A0) / 4)
    toField 16 z.est + min 65535 (z.p / 1000) * 65536
  else s.plainReg (baseThm + r)

/-- The RAIL block (R251). -/
def State.readRail (s : State) (off : Nat) : Nat :=
  let g := (off - baseRail 0) / 0x1000
  let r := off % 0x1000
  let x := s.group g
  let k := (r - 0x100) / 0x80
  let o := (r - 0x100) % 0x80
  if r = 0x000 then b2n x.enable + b2n x.autoRestart * 8
  else if r = 0x008 then s.commitWord (unitRail g)
  else if r = 0x00C then
    x.state.code + b2n (decide (x.withheld ≠ [])) * 8 + place x.trip 4 3 + b2n x.upPending * 128 + b2n x.reqRefused * 256 +
      place (s.goodBits g) 9 12
  else if 0x100 ≤ r ∧ r < 0x700 ∧ o = 0x30 then
    let y := s.slot g k
    y.state.code + b2n (s.slotWarn g k) * 8 + place y.retries 8 4 + place y.duty 12 12
  else if 0x100 ≤ r ∧ r < 0x700 ∧ o = 0x34 then
    let y := s.slot g k
    toField 16 y.v + place y.i 16 16
  else if g = 0 ∧ r = 0xE08 then place s.rc.vin 0 16 + b2n s.rc.vinLow * 65536 + b2n s.rc.collapsed * 131072
  else if g = 0 ∧ r = 0xE10 then b2n s.rc.fnLine + b2n s.rc.fnDriving * 2 + b2n s.rc.fnExternal * 4 + b2n s.rc.fnStuck * 8
  else if g = 0 ∧ r = 0xE14 then s.commitWord unitRc
  else s.plainReg off

/-- The QM block (R341). -/
def State.readQm (s : State) (r : Nat) : Nat :=
  if r < 0x10000 then
    let x := s.ring (r / 16)
    let w := r % 16 / 4
    if w = 0 then x.base.toNat % 4294967296
    else if w = 1 then x.base.toNat / 4294967296
    else if w = 2 then x.cfgWord
    else x.prod + x.cons * 65536
  else if 0x15000 ≤ r ∧ r < 0x15020 then
    bitSum ((List.range 32).map fun j => s.qm.pba.contains ((r - 0x15000) * 8 + j))
  else if r = 0x18004 then s.qm.ovq.length + b2n s.qm.ovqFull * 4096 + b2n s.qm.fetching * 8192
  else if r = 0x18008 then s.evtSeqReg
  else s.plainReg (baseQm + r)

/-- A resource that SCH_CAP and SCH_CAL number from a base. -/
def resAt (base port rail r : Nat) : Option Res :=
  if base + port ≤ r ∧ r < base + port + 128 then some (.port ((r - base - port) / 4))
  else if base + rail ≤ r ∧ r < base + rail + 32 then some (.rail ((r - base - rail) / 4))
  else none

/-- The SCH block (R136). -/
def State.readSch (s : State) (r : Nat) : Nat :=
  let st (f : Nat → Bool) : Nat := (s.sessions.filter fun q => f q.2.state).length
  let cal (x : Res) : Nat := s.booked x (s.time.wfn + s.shadow (baseSch + 0x14)) false []
  if r = 0x004 then s.commitWord unitSch
  else if r = 0x008 then
    place (st fun _ => true) 0 11 + place (st fun k => decide (k = 1) || decide (k = 2)) 11 11 + place (st fun k => decide (k = 7)) 22 10
  else if r = 0x00C then s.capOf s.time.wfn .syn
  else if r = 0x010 then s.capMemNow
  else if r = 0x018 then cal .syn
  else if r = 0x01C then cal .mem
  else if 0x900 ≤ r ∧ r < 0x980 then
    match s.sess (s.shadow (baseSch + 0x800)) with
    | some x => fieldB x.desc (r - 0x900) 4
    | none => 0
  else match resAt 0x100 0 0x80 r with
    | some x => s.capOf s.time.wfn x
    | none => match resAt 0x200 0 0x80 r with
      | some x => cal x
      | none => s.plainReg (baseSch + r)

/-- The WSA block (R96 to R98). -/
def State.readWsa (s : State) (r : Nat) : Nat :=
  if r = 0x00C then s.commitWord unitWsa
  else if r = 0x010 then
    b2n s.wsa.gated + b2n s.wsa.inGuard * 2 + place s.wsa.step 2 3 + place s.guardPct 8 6 + place (s.liveF (baseWsa + 4) 0 2) 14 2
  else if r = 0x100 then s.wsa.pf.toNat % 4294967296
  else if r = 0x104 then s.wsa.pf.toNat / 4294967296
  else if r = 0x108 then s.wsa.skip.toNat % 4294967296
  else if r = 0x10C then s.wsa.skip.toNat / 4294967296
  else if 0x200 ≤ r ∧ r < 0x400 then (if (r - 0x200) % 0x40 < 0x30 then s.qpred ((r - 0x200) / 0x40) ((r - 0x200) % 0x40 / 4) else 0)
  else if 0x4000 ≤ r ∧ r < 0x8000 then
    let i := (r - 0x4000) / 16
    if r % 16 = 0 then
      s.plainReg (baseWsa + r) + (match s.boundTo i with
        | some n => n + 8
        | none => 0)
    else if r % 16 = 8 then
      let t := s.tileTemp i
      toField 16 t.temp + place t.band 16 5 + place t.source 24 2 + b2n t.estimated * 67108864
    else s.plainReg (baseWsa + r)
  else if 0x8000 ≤ r ∧ r < 0xA000 then (if r % 8 = 0 then (s.wsess ((r - 0x8000) / 8)).word else 0)
  else s.plainReg (baseWsa + r)

/-- The MP block (R165, R166). MP_BUDGET and MP_LAYERCAP show what the formula of R164 gives from reset on, where the table of R165 gives
the reset value 0 (DEDUCED, assumption 161). -/
def State.readMp (s : State) (r : Nat) : Nat :=
  let e := s.shadow (baseMp + 0x20)
  if r = 0x000 then s.commitWord unitMp
  else if r = 0x004 then b2n (decide (s.mp.renders ≠ [])) + b2n (s.mp.renders.any fun x => x.late) * 2
  else if r = 0x010 then s.mpBudget % 4294967296
  else if r = 0x014 then s.mpLayerCap
  else if r = 0x018 then s.intakeMb
  else if 0x040 ≤ r ∧ r < 0x080 then s.shadow (placeOff e ((r - 0x40) / 4))
  else if 0x080 ≤ r ∧ r < 0x0C0 then s.live (placeOff e ((r - 0x80) / 4))
  else if 0x1000 ≤ r ∧ r < 0x1400 ∧ r % 0x40 = 0x18 then
    let x := s.src ((r - 0x1000) / 0x40)
    b2n (x.lastPkt.any fun t => decide (s.clk < t + msC 100)) + b2n x.newest.isSome * 2
  else s.plainReg (baseMp + r)

/-- The TF block (R203, R204). -/
def State.readTf (s : State) (off : Nat) : Nat :=
  let p := (off - baseTf 0) / 0x400
  let r := off % 0x400
  let x := s.port p
  let pr := s.port (p / 2 * 2)
  let i := p * 32 + (r - 0x200) / 16
  if r = 0x000 then b2n x.enable
  else if r = 0x008 then s.commitWord (unitTf p)
  else if r = 0x00C then s.portWord p % 262144 + place (pr.brk - 1) 18 5
  else if r = 0x010 then place (s.portRtt p) 0 17
  else if r = 0x014 then x.pseq
  else if 0x100 ≤ r ∧ r < 0x200 then
    let serial := (s.tile (p * 32 + (r - 0x100) / 8)).serial
    if r % 8 = 0 then serial % 4294967296 else serial / 4294967296
  else if 0x200 ≤ r ∧ r % 16 = 8 then place (s.tile i).width 0 16 + place (s.tile i).height 16 16
  else if 0x200 ≤ r ∧ r % 16 = 12 then
    let t := s.tile i
    s.plainReg off + place t.state 0 2 + b2n t.partner * 8 + place t.cause 4 4 + place t.pos 8 5
  else s.plainReg off

/-- The TIME block (R222, R223). -/
def State.readTime (s : State) (r : Nat) : Nat :=
  let pair (lo v : Nat) : Nat := if r = lo then v % 4294967296 else v / 4294967296 % 4294967296
  if r = 0x004 then s.commitWord unitTime
  else if r = 0x008 then
    s.time.state.code + b2n s.wallValid * 8 + place s.time.rate 4 7 + b2n s.time.chg.isSome * 2048 + b2n s.time.leaderValid * 4096
  else if r = 0x010 ∨ r = 0x014 then pair 0x010 s.nowNs
  else if r = 0x018 ∨ r = 0x01C then pair 0x018 (s.time.wfn % 2 ^ 48)
  else if r = 0x030 ∨ r = 0x034 then pair 0x030 s.time.anchorT
  else if r = 0x038 ∨ r = 0x03C then pair 0x038 (s.time.anchorN % 2 ^ 48)
  else if r = 0x044 then toField 32 s.time.eps
  else if r = 0x058 then toField 32 (satInt 32 s.time.ofs)
  else if r = 0x05C then toField 32 s.time.mpdNs
  else if r = 0x060 ∨ r = 0x064 then pair 0x060 s.time.gm
  else if r = 0x074 then toField 16 (satInt 16 s.time.pherr)
  else s.plainReg (baseTime + r)

def ChState.code : ChState → Nat
  | .off => 0
  | .training => 1
  | .active => 2
  | .selfRefresh => 3
  | .failed => 4

/-- R280: tREFI in force, in ns, under an MR4 refresh rate. -/
def trefi (rate : Nat) : Nat := [15616, 7808, 3904, 1952, 976].getD rate 3904

/-- The DMC block (R293). -/
def State.readDmc (s : State) (off : Nat) : Nat :=
  let c := (off - baseDmc 0) / 0x1000
  let r := off % 0x1000
  let x := s.chan c
  let d := s.dmc
  if r = 0x000 then
    let debt := (s.rankKeys.map x.debtOf).foldl max (x.debtOf 0)
    x.state.code + place x.fsp 3 1 + b2n x.fsplTrained * 16 + b2n x.pd0 * 32 + b2n x.pd1 * 64 + toField 5 debt * 4096 +
      place x.refRate 17 3
  else if r = 0x004 then place d.density 0 4 + place (d.ranks - 1) 4 1 + place d.cap 8 4 + place d.rate 16 16
  else if r = 0x008 then s.plainReg off + trefi x.refRate * 65536
  else if c = 0 ∧ r = 0x800 then
    b2n ((List.range 12).any fun k => decide ((s.chan k).state = .training)) + b2n d.switching.isSome * 2 + b2n d.bulkSr * 4 +
      b2n d.fsplEn * 8
  else if c = 0 ∧ r = 0x804 then d.iecc
  else if c = 0 ∧ r = 0x808 then d.bulkBlk / 32
  else if c = 0 ∧ r = 0x80C then d.poolBlk / 32
  else if c = 0 ∧ r = 0x810 then d.poolKib / 1024
  else if c = 0 ∧ r = 0x814 then d.bar2Blk / 32
  else if c = 0 ∧ r = 0x820 then
    s.plainReg off + b2n d.train.isSome * 8192 + b2n d.trainRefused * 16384 + b2n d.trainFailed * 32768
  else if c = 0 ∧ r = 0x824 then place d.lastStall 0 16
  else s.plainReg off

/-- The VALE block (R313, R314). -/
def State.readVale (s : State) (r : Nat) : Nat :=
  let v := s.vale
  if r < 0x100 then
    let b := s.bank (r / 4)
    b.owner + b2n b.pending.isSome * 16 + b2n (!freeBank (r / 4)) * 32 + b2n (s.retains (r / 4)) * 64 + b2n b.fail * 128
  else if r = 0x100 then b2n v.denied + b2n v.refused * 2 + b2n v.btFail * 4
  else if r = 0x11C then place v.btBank 0 6 + place v.btWin 8 9 + b2n v.btActive * 131072
  else if r = 0x120 then place v.failBank 0 6 + place v.failLine 6 12
  else if r = 0x200 then b2n v.collide + b2n v.roWrite * 2 + place v.lastWord 16 14
  else if r = 0x204 then place v.collisions 0 16
  else s.plainReg (baseVale + r)

/-- The NET block (R367, R368). -/
def State.readNet (s : State) (r : Nat) : Nat :=
  if r = 0x000 then
    place s.net.pcie.speed 0 4 + place s.net.pcie.width 4 4 + b2n s.net.pcie.bme * 256 + b2n s.net.pcie.l1 * 512 +
      place s.net.bar2Log2 16 3
  else if r = 0x004 then s.commitWord unitNet
  else if r = 0x018 then place s.net.smbAddr 0 7
  else if 0x100 ≤ r ∧ r < 0x300 ∧ r % 0x20 = 0x14 then
    let q := (r - 0x100) / 0x20
    b2n (s.linkUp q) + b2n (s.fecLock q) * 2 + b2n ((tabGet none s.net.ptpSeen q).any fun t => decide (s.clk ≤ t + secC)) * 4
  else if 0x600 ≤ r ∧ r < 0x680 ∧ r % 16 = 4 then place (tabGet Pmb.init s.net.pmb ((r - 0x600) / 16)).pout 0 24
  else if 0x600 ≤ r ∧ r < 0x680 ∧ r % 16 = 8 then
    let x := tabGet Pmb.init s.net.pmb ((r - 0x600) / 16)
    place x.status 0 16 + b2n x.stale * 65536 + b2n x.pecErr * 131072
  else if 0x1000 ≤ r ∧ r < 0x2000 ∧ r % 16 ≠ 0 then
    let p := s.peer ((r - 0x1000) / 16)
    if r % 16 = 4 then s.plainReg (baseNet + r) + b2n p.key.isSome * 131072
    else if r % 16 = 8 then p.last % 4294967296 else p.last / 4294967296
  else s.plainReg (baseNet + r)

/-- R406: DFLAGS of a dump. -/
def Dump.flags (d : Dump) : Nat := 1 + 2 * b2n d.summaryOnly + 4 * b2n d.partialCap + 8 * b2n d.flashed

/-- The DIAG block (chapter 15). -/
def State.readDiag (s : State) (r : Nat) : Nat :=
  let g := s.glb
  if r = 0x000 then
    (match g.dump with
      | some d => d.flags + d.cause * 16 + d.missed * 65536
      | none => 0) + b2n g.capture.isSome * 256
  else if r = 0x010 then b2n g.odoErase * 2 + g.odoArea * 4 + place g.odoSlot 8 8 + place g.odoErrs 16 16
  else if r = 0x014 then g.odoGen % 4294967296
  else if r = 0x024 then b2n g.cfgErr * 4
  else if r = 0x030 then place s.flash.jedecId 0 24 + place s.flash.sizeLog2 24 5 + b2n s.flash.ok * 536870912
  else if r = 0x040 then
    place s.otp.minSecver 0 6 + place g.secver 8 6 + place (bitSum ((List.range 3).map s.otp.revoked.contains)) 16 3
  else s.plainReg (baseDiag + r)

/-- R20: the register at an aligned offset below the Vale aliases, as it stands; reading it changes nothing (R404). -/
def State.peek (s : State) (off : Nat) : Nat :=
  if off < 0x10000 then s.swinWord (off / 4)
  else if off < 0x20000 then s.readGlb (off - baseGlb)
  else if off < 0x30000 then s.readThm (off - baseThm)
  else if off < 0x38000 then s.readRail off
  else if off < 0x50000 then 0
  else if off < 0x70000 then s.readQm (off - baseQm)
  else if off < 0x80000 then 0
  else if off < 0x90000 then s.readSch (off - baseSch)
  else if off < 0xA0000 then s.readWsa (off - baseWsa)
  else if off < 0xB0000 then s.readMp (off - baseMp)
  else if off < 0xB8000 then s.readTf off
  else if off < 0xC0000 then 0
  else if off < 0xD0000 then s.readTime (off - baseTime)
  else if off < 0xDC000 then s.readDmc off
  else if off < 0xE0000 then 0
  else if off < 0xF0000 then s.readVale (off - baseVale)
  else if off < 0x100000 then s.readNet (off - baseNet)
  else if off < 0x110000 then s.readDiag (off - baseDiag)
  else 0

/-! ### Reads over a path (R7, R312, R400) -/

/-- R7: what a read of the register at `off` returns, and the capture latch after it. -/
def State.readReg (s : State) (path : Path) (off : Nat) : Nat × State :=
  if off < 0x10000 then (s.portRead (decide (path = .lcb)) (off / 4), s)
  else if !s.reaches path off then (0, s)
  else match pairLo off with
    | some lo =>
      if off = lo then
        let v := s.peek lo + s.peek (lo + 4) * 4294967296
        (v % 4294967296, { s with regs.cap := tabSet none s.regs.cap (pathKey path) (some (lo, BitVec.ofNat 64 v)) })
      else match tabGet none s.regs.cap (pathKey path) with
        | some (o, v) => (if o = lo then v.toNat / 4294967296 else s.peek off, s)
        | none => (s.peek off, s)
    | none => (s.peek off, s)

/-- The requestor that a path is to Vale memory. -/
def pathReq : Path → ValeReq
  | .lcb => .lcb
  | .firmware => .core 0 false
  | _ => .pcie

/-- R20: the alias and the Vale byte address of an offset from 0x0100_0000 on. -/
def aliasOf (off : Nat) : ValeAlias × Nat :=
  (if off < 0x2000000 then .normal else if off < 0x3000000 then .set else .clear, off % 0x1000000)

/-- REGISTER_READ (R4, R7): a read of another size or alignment returns 0, as one beyond the map does (R20, R358); the Vale aliases
follow their own rules. -/
def execRegisterRead (path : Path) (off : BitVec 32) (size : Nat) (s : State) : Host.Outcome State Fault Refusal :=
  let o := off.toNat
  if 0x1000000 ≤ o ∧ o < 0x4000000 then .next (s.valeAccess (pathReq path) (aliasOf o).1 (aliasOf o).2 (.read size))
  else if size = 4 ∧ o % 4 = 0 ∧ o < 0x4000000 then
    let q := s.readReg path o
    .next (q.2.emit (.readData path (leBytes 4 q.1)))
  else .next (s.emit (.readData path (zeroBytes size)))

/-! ### Writes, block by block -/

/-- Whether a field of a value lies within a range. -/
def inRange (v lo n a b : Nat) : Bool := decide (a ≤ bits v lo n) && decide (bits v lo n ≤ b)

/-- Store a value unless one of its fields is out of range: it is then discarded whole. -/
def State.putIf (s : State) (ok : Bool) (off v : Nat) : State := if ok then s.putReg off v else s

/-- R7: a write of _HI to a stored pair: the latched _LO with it. -/
def State.putPair (s : State) (path : Path) (lo v : Nat) : State :=
  let q := s.takeLo path lo (s.shadow lo)
  (q.2.putReg lo q.1).putReg (lo + 4) v

/-- Writes to GLB. A GLB_WDOG whose TIMEOUT is out of range is discarded whole (assumption 56). -/
def State.writeGlb (s : State) (path : Path) (r v : Nat) : State :=
  if r = 0x010 then s.writeRstCtrl v
  else if r = 0x020 then s.putIf (inRange v 0 10 1 600) (baseGlb + r) v
  else if r = 0x024 then s.kick path v
  else s

/-- Writes to THM. -/
def State.writeThm (s : State) (r v : Nat) : State :=
  if r = 0x008 then s.writeCommit unitThm v
  else if r = 0xEFC then s.clearOn v (baseThm + 0xF00) (baseThm + 0xF14)
  else s.putReg (baseThm + r) v

/-- R252: CLR of a group: its counters and those of its slots. -/
def State.clearGroup (s : State) (g v : Nat) : State :=
  if bits v 0 1 = 1 then
    (List.range 12).foldl (fun st k => st.clearCnt (slotOff g k 0x40) (slotOff g k 0x68)) (s.clearCnt (baseRail g + 0x40) (baseRail g + 0x50))
  else s

/-- Writes to RG_CTRL: ENABLE and AUTO_RESTART are set, then UP and DOWN act. -/
def State.writeRgCtrl (s : State) (g v : Nat) : State :=
  let s1 := s.rgEnable g (decide (bits v 0 1 = 1))
  let s2 := s1.modGroup g fun x => { x with autoRestart := decide (bits v 3 1 = 1) }
  let s3 := if bits v 1 1 = 1 then s2.rgUp g else s2
  if bits v 2 1 = 1 then s3.rgDown g else s3

/-- Writes to RAIL. -/
def State.writeRail (s : State) (off v : Nat) : State :=
  let g := (off - baseRail 0) / 0x1000
  let r := off % 0x1000
  if r = 0x000 then s.writeRgCtrl g v
  else if r = 0x008 then s.writeCommit (unitRail g) v
  else if r = 0x00C then (if bits v 8 1 = 1 then s.modGroup g fun x => { x with reqRefused := false } else s)
  else if r = 0x05C then s.clearGroup g v
  else if g = 0 ∧ r = 0xE10 then
    { s with rc.fnExternal := s.rc.fnExternal && decide (bits v 2 1 = 0), rc.fnStuck := s.rc.fnStuck && decide (bits v 3 1 = 0) }
  else if g = 0 ∧ r = 0xE14 then s.writeCommit unitRc v
  else if g = 0 ∧ r = 0xE7C then s.clearOn v 0x30E40 0x30E50
  else s.putReg off v

/-- Writes to QM; the LCB writes nothing there (R358). -/
def State.writeQm (s : State) (path : Path) (r v : Nat) : State :=
  if r < 0x10000 then (if r % 16 = 12 then s else s.writeRing path (r / 16) (r % 16 / 4) v)
  else if r < 0x14000 then s.doorbell path ((r - 0x10000) / 4) v
  else if path = .lcb then s
  else if r < 0x15000 then (if r % 16 = 12 then s.writeVectorCtl ((r - 0x14000) / 16) v else s.putReg (baseQm + r) v)
  else if r = 0x18000 then s.writeEvt path v
  else if r = 0x18004 then { s with qm.ovqFull := s.qm.ovqFull && decide (bits v 12 1 = 0) }
  else if r = 0x180FC then s.clearOn v (baseQm + 0x18100) (baseQm + 0x18120)
  else s

/-- Writes to SCH. -/
def State.writeSch (s : State) (r v : Nat) : State :=
  if r = 0x004 then s.writeCommit unitSch v
  else if r = 0xEFC then s.clearOn v (baseSch + 0xF00) (baseSch + 0xF20)
  else s.putReg (baseSch + r) v

/-- R97: CLR of the WSA. -/
def State.clearWsa (s : State) (v : Nat) : State :=
  if bits v 0 1 = 1 then { s.clearCnt (baseWsa + 0x110) (baseWsa + 0x130) with wsa.pf := 0, wsa.skip := 0 } else s

/-- Writes to WSA. -/
def State.writeWsa (s : State) (r v : Nat) : State :=
  if r = 0x00C then s.writeCommit unitWsa v
  else if r = 0x0FC then s.clearWsa v
  else s.putReg (baseWsa + r) v

/-- R166: CLR of the MP, the counters of the sources included. -/
def State.clearMp (s : State) (v : Nat) : State :=
  if bits v 0 1 = 1 then
    (List.range 16).foldl (fun st n => st.clearCnt (baseMp + 0x1020 + n * 0x40) (baseMp + 0x1038 + n * 0x40))
      (s.clearCnt (baseMp + 0xF00) (baseMp + 0xF0C))
  else s

/-- Writes to MP. -/
def State.writeMp (s : State) (r v : Nat) : State :=
  if r = 0x000 then s.writeCommit unitMp v
  else if r = 0xEFC then s.clearMp v
  else if 0x040 ≤ r ∧ r < 0x080 then s.putReg (placeOff (s.shadow (baseMp + 0x20)) ((r - 0x40) / 4)) v
  else s.putReg (baseMp + r) v

/-- Writes to TF: in TF_PCTRL, ENABLE is set, then FORGET and ENUM act. -/
def State.writeTf (s : State) (off v : Nat) : State :=
  let p := (off - baseTf 0) / 0x400
  let r := off % 0x400
  if r = 0x000 then
    let en := decide (bits v 0 1 = 1)
    let s1 := if (s.port p).enable = en then s else s.portEnable p en
    let s2 := if bits v 2 1 = 1 then s1.forgetPort p else s1
    if bits v 1 1 = 1 then s2.enumerate p else s2
  else if r = 0x008 then s.writeCommit (unitTf p) v
  else if r = 0x0FC then s.clearOn v (baseTf p + 0x40) (baseTf p + 0x80)
  else if 0x200 ≤ r ∧ r % 16 = 12 then
    let s1 := s.putReg off v
    if bits v 31 1 = 1 then s1.acceptTile (p * 32 + (r - 0x200) / 16) else s1
  else s.putReg off v

/-- Writes to TIME. -/
def State.writeTime (s : State) (r v : Nat) : State :=
  if r = 0x000 then
    let s1 := s.putReg baseTime v
    if bits v 2 1 = 1 then s1.stepNowOn else s1
  else if r = 0x004 then s.writeCommit unitTime v
  else if r = 0x07C then s.clearOn v (baseTime + 0x80) (baseTime + 0x98)
  else s.putReg (baseTime + r) v

/-- Writes to DMC: a field out of its range discards the write whole. -/
def State.writeDmc (s : State) (off v : Nat) : State :=
  let c := (off - baseDmc 0) / 0x1000
  let r := off % 0x1000
  if r = 0x008 then s.putIf (inRange v 0 4 0 8) off v
  else if r = 0x00C then s.putIf (inRange v 0 12 1 4095 && inRange v 16 16 10 10000) off v
  else if r = 0x010 then s.putIf (inRange v 0 10 1 1000) off v
  else if r = 0x03C then s.clearOn v (baseDmc c + 0x40) (baseDmc c + 0x70)
  else if c = 0 ∧ r = 0x820 then s.writeTrain v
  else if c = 0 ∧ r = 0x83C then s.clearOn v 0xD0840 0xD0850
  else s

/-- R314: CLR of the VALE block, SWIN_CNT_COLLIDE with it. -/
def State.clearVale (s : State) (v : Nat) : State :=
  if bits v 0 1 = 1 then { s.clearCnt (baseVale + 0x300) (baseVale + 0x320) with vale.collisions := 0 } else s

/-- Writes to VALE: a field out of its range discards the write whole. -/
def State.writeVale (s : State) (path : Path) (r v : Nat) : State :=
  let keep (b : Bool) (k : Nat) : Bool := b && decide (bits v k 1 = 0)
  if r < 0x100 then s.writeOwn path (r / 4) v
  else if r = 0x100 then
    { s with vale.denied := keep s.vale.denied 0, vale.refused := keep s.vale.refused 1, vale.btFail := keep s.vale.btFail 2 }
  else if r = 0x104 then s.writeRetEn v
  else if r = 0x108 then s.putIf (inRange v 0 16 1 65535) (baseVale + r) v
  else if r = 0x110 then s.putIf (inRange v 16 12 2 4095) (baseVale + r) v
  else if r = 0x200 then { s with vale.collide := keep s.vale.collide 0, vale.roWrite := keep s.vale.roWrite 1 }
  else if r = 0x2FC then s.clearVale v
  else s

/-- Writes to NET. -/
def State.writeNet (s : State) (r v : Nat) : State :=
  if r = 0x004 then s.writeCommit unitNet v
  else if r = 0xEFC then s.clearOn v (baseNet + 0xF00) (baseNet + 0xF20)
  else if 0x600 ≤ r ∧ r < 0x680 ∧ r % 16 = 8 then
    if bits v 17 1 = 1 then { s with net.pmb := tabMod Pmb.init s.net.pmb ((r - 0x600) / 16) fun x => { x with pecErr := false } } else s
  else s.putReg (baseNet + r) v

/-- R396: a boot configuration record: GEN, rate (0 to 2), BFLAGS, BAR2_LOG2 and PREFER. -/
def bootcfgBytes (gen rate bflags bar2 prefer : Nat) : List Byte :=
  withCrc 60 (leBytes 4 0x43424D4C ++ leBytes 2 1 ++ zeroBytes 2 ++ leBytes 4 gen ++ leBytes 2 ([6400, 7500, 8533].getD rate 0) ++
    leBytes 1 bflags ++ leBytes 1 bar2 ++ leBytes 1 prefer ++ zeroBytes 47)

/-- R396: a record is written with GEN + 1 to the copy that was not in use, or the write fails. -/
def State.saveBootcfg (s : State) (rate fspl iecc bar2 prefer : Nat) (ok : Bool) : State :=
  if ok then
    let b := bootcfgBytes (s.glb.cfgGen + 1) rate (fspl + 2 * iecc) bar2 prefer
    let s1 := { s with glb.cfgGen := s.glb.cfgGen + 1, glb.cfgCopy := 1 - s.glb.cfgCopy }
    if s.glb.cfgCopy = 0 then { s1 with flash.bootcfg1 := some b } else { s1 with flash.bootcfg0 := some b }
  else { s with glb.cfgErr := true }

/-- DIAG_BOOTCFG_CTRL.SAVE: DIAG_BOOTCFG0 as it stands becomes a record. -/
def State.saveDiag (s : State) (ok : Bool) : State :=
  let v := s.shadow (baseDiag + 0x20)
  s.saveBootcfg (bits v 0 2) (bits v 2 1) (bits v 3 4) (30 + bits v 8 3) (bits v 11 1) ok

/-- R398: a write of RAISE raises the OTP minimum, but not above the SECVER of the running image. -/
def State.raiseSecver (s : State) (v : Nat) : State :=
  let n := bits v 24 6
  if n ≤ s.glb.secver then { s with otp.minSecver := max s.otp.minSecver n } else s

/-- Writes to DIAG: a field out of its range discards the write whole. Whether the flash takes a record that SAVE asks for here is a
free value. -/
def State.writeDiag (s : State) (r v : Nat) : State :=
  if r = 0x010 then (if bits v 0 1 = 1 then s.odoRequest 7 else s)
  else if r = 0x020 then s.putIf (inRange v 0 2 0 2 && inRange v 8 3 0 6) (baseDiag + r) v
  else if r = 0x024 then
    let s1 := if bits v 2 1 = 1 then { s with glb.cfgErr := false } else s
    if bits v 0 1 = 1 then
      let q := s1.draw 2
      q.2.saveDiag (decide (q.1 = 0))
    else s1
  else if r = 0x040 then s.raiseSecver v
  else s

/-- R7: a write of a block's register, the pairs of R7 apart: _LO goes into the path's latch, _HI takes it. -/
def State.writePlain (s : State) (path : Path) (off v : Nat) : State :=
  match pairLo off with
  | some lo => if off = lo then s.latchLo path lo v else s.putPair path lo v
  | none =>
    if off < 0x20000 then s.writeGlb path (off - baseGlb) v
    else if off < 0x30000 then s.writeThm (off - baseThm) v
    else if off < 0x38000 then s.writeRail off v
    else if off < 0x80000 then s
    else if off < 0x90000 then s.writeSch (off - baseSch) v
    else if off < 0xA0000 then s.writeWsa (off - baseWsa) v
    else if off < 0xB0000 then s.writeMp (off - baseMp) v
    else if off < 0xB8000 then s.writeTf off v
    else if off < 0xC0000 then s
    else if off < 0xD0000 then s.writeTime (off - baseTime) v
    else if off < 0xDC000 then s.writeDmc off v
    else if off < 0xE0000 then s
    else if off < 0xF0000 then s.writeVale path (off - baseVale) v
    else if off < 0x100000 then s.writeNet (off - baseNet) v
    else if off < 0x110000 then s.writeDiag (off - baseDiag) v
    else s

/-- Who a path is to the status window. -/
def pathWriter : Path → WinWriter
  | .lcb => .lcb
  | .firmware => .firmware
  | _ => .pcie

/-- R5, R20, R309, R400: a write of the 32-bit register at an aligned offset below the Vale aliases. -/
def State.writeReg (s : State) (path : Path) (off v : Nat) : State :=
  if off < 0x10000 then s.winWrite (pathWriter path) off v
  else if !s.reaches path off then s
  else if baseQm ≤ off ∧ off < 0x70000 then s.writeQm path (off - baseQm) v
  else s.writePlain path off v

/-- R5: the bits of the register at `off` that a write of 1 clears (W1C); no register has a W1S bit. The QM, which the LCB does not
write, is not among them. -/
def oneBits (off : Nat) : Nat :=
  let r := off % 0x1000
  if [0x20008, 0x80004, 0x9000C, 0xA0000, 0xC0004, 0xF0004, 0x30E14, 0x100024].contains off then 4
  else if 0x30000 ≤ off ∧ off < 0x38000 then
    if off = 0x30E10 then 0xC else if r = 8 then 4 else if r = 0xC then 0x100 else 0
  else if 0xB0000 ≤ off ∧ off < 0xB8000 then (if off % 0x400 = 8 then 4 else 0)
  else if off = 0xD0820 then 0xC000
  else if off = 0xE0100 then 7
  else if off = 0xE0200 then 3
  else if 0xF0600 ≤ off ∧ off < 0xF0680 ∧ off % 16 = 8 then 0x20000
  else 0

/-- R8: the LCB and PCIe write one register in one cycle: the LCB's write acts first, PCIe's second, so that PCIe's value stands, and
the bits that a 1 clears act once, as the union of both. -/
def State.writeBoth (s : State) (off lcb pcie : Nat) : State :=
  let m := lcb &&& oneBits off
  (s.writeReg .lcb off (lcb - m)).writeReg .pcie off (pcie ||| m)

/-- REGISTER_WRITE (R4, R5, R7, R8): a write of another size or alignment is discarded, as one beyond the map is (R20, R358); the Vale
aliases, which are no registers, follow their own rules, and there each port's access is a command of its own. -/
def execRegisterWrite (path : Path) (off : BitVec 32) (size : Nat) (write : PortWrite) (s : State) :
    Host.Outcome State Fault Refusal :=
  let o := off.toNat
  if 0x1000000 ≤ o ∧ o < 0x4000000 then
    .next (s.valeAccess (pathReq path) (aliasOf o).1 (aliasOf o).2 (.write ((leBytes size write.value.toNat).map some)))
  else if size = 4 ∧ o % 4 = 0 ∧ o < 0x4000000 then
    .next (match portWrites path write.value.toNat write.other with
      | [l, p] => s.writeBoth o l.2 p.2
      | _ => s.writeReg path o write.value.toNat)
  else .next s

/-! ### Rows of their own: counter clears and DIAG -/

/-- WSA_CNT_CLR (R97). -/
def execWsaCntClr (value : Word) (s : State) : Host.Outcome State Fault Refusal :=
  .next (s.whenReady fun t => t.clearWsa value.toNat)

/-- SCH_CNT_CLR (R137). -/
def execSchCntClr (value : Word) (s : State) : Host.Outcome State Fault Refusal :=
  .next (s.whenReady fun t => t.writeSch 0xEFC value.toNat)

/-- MP_CNT_CLR (R166). -/
def execMpCntClr (value : Word) (s : State) : Host.Outcome State Fault Refusal :=
  .next (s.whenReady fun t => t.clearMp value.toNat)

/-- TF_PCNT_CLR (R204). -/
def execTfPcntClr (port : Fin 32) (value : Word) (s : State) : Host.Outcome State Fault Refusal :=
  .next (s.whenReady fun t => t.clearOn value.toNat (baseTf port.val + 0x40) (baseTf port.val + 0x80))

/-- TIME_CNT_CLR (R223). -/
def execTimeCntClr (value : Word) (s : State) : Host.Outcome State Fault Refusal :=
  .next (s.whenReady fun t => t.writeTime 0x07C value.toNat)

/-- RG_CNT_CLR (R252). -/
def execRgCntClr (g : Fin 8) (value : Word) (s : State) : Host.Outcome State Fault Refusal :=
  .next (s.whenReady fun t => t.clearGroup g.val value.toNat)

/-- RC_CNT_CLR (R252). -/
def execRcCntClr (value : Word) (s : State) : Host.Outcome State Fault Refusal :=
  .next (s.whenReady fun t => t.clearOn value.toNat 0x30E40 0x30E50)

/-- DMC_CNT_CLR (R293). -/
def execDmcCntClr (c : Fin 12) (value : Word) (s : State) : Host.Outcome State Fault Refusal :=
  .next (s.whenReady fun t => t.clearOn value.toNat (baseDmc c.val + 0x40) (baseDmc c.val + 0x70))

/-- DMC_GCNT_CLR (R293). -/
def execDmcGcntClr (value : Word) (s : State) : Host.Outcome State Fault Refusal :=
  .next (s.whenReady fun t => t.clearOn value.toNat 0xD0840 0xD0850)

/-- VALE_CNT_CLR (R314). -/
def execValeCntClr (value : Word) (s : State) : Host.Outcome State Fault Refusal :=
  .next (s.whenReady fun t => t.clearVale value.toNat)

/-- NET_CNT_CLR (R368). -/
def execNetCntClr (value : Word) (s : State) : Host.Outcome State Fault Refusal :=
  .next (s.whenReady fun t => t.writeNet 0xEFC value.toNat)

/-- THM_CNT_CLR (R387). -/
def execThmCntClr (value : Word) (s : State) : Host.Outcome State Fault Refusal :=
  .next (s.whenReady fun t => t.writeThm 0xEFC value.toNat)

/-- DIAG_ODO_WRITE_NOW (R409): a record with REASON COMMAND is due. -/
def execDiagOdoWriteNow (s : State) : Host.Outcome State Fault Refusal := .next (s.whenReady fun t => t.odoRequest 7)

/-- DIAG_BOOTCFG_SAVE (R396). -/
def execDiagBootcfgSave (flashOk : Bool) (s : State) : Host.Outcome State Fault Refusal :=
  .next (s.whenReady fun t => t.saveDiag flashOk)

/-- DIAG_SECVER_RAISE (R398). -/
def execDiagSecverRaise (value : Word) (s : State) : Host.Outcome State Fault Refusal :=
  .next (s.whenReady fun t => t.raiseSecver value.toNat)

end Sys2Proof.Machine
end

