-- ==== Sys2Proof/Machine/Dump.lean ====
section
/-! DEFINITION. The fault dump (R404 to R407) and its summary in flash. -/

namespace Sys2Proof.Machine

/-- R404: the size of the dump area. -/
def dumpSize : Nat := regionSize .dump

/-- R406: header bytes 0 to 47. -/
def Dump.header (d : Dump) : List Byte :=
  leBytes 4 0x50444D4C ++ leBytes 2 1 ++ leBytes 1 d.cause ++ leBytes 1 d.flags ++ leBytes 8 d.time ++ leBytes 8 (d.wfn % 2 ^ 48) ++
    leBytes 4 d.evSeq ++ leBytes 4 d.fwver ++ leBytes 1 d.image ++ leBytes 1 d.pstate ++ leBytes 2 d.missed ++ leBytes 4 d.length ++
    leBytes 8 d.arg

/-- A byte of a table of words. -/
def wordByte (t : Tab Word) (o : Nat) : Byte := BitVec.ofNat 8 ((tabGet 0 t (o / 4 * 4)).toNat / 256 ^ (o % 4))

/-- R68: a byte of the code-table banks, whose entries lie as Config.codePlace says. -/
def Dump.codeByte (d : Dump) (v : Nat) : Byte :=
  let e := Config.codePlace (v % bankSize / 8)
  match tabGet none d.pkgs e.1.val with
  | some p => if p.table then Config.functionByte d.evSeq v else memGet p.bytes (0x12400 + (16 * e.2.val + v / bankSize) * 8 + v % 8)
  | none => Config.functionByte d.evSeq v

/-- R36, R68, R70, R296: a byte of the function banks: the code tables, the activity bitmap, the age parity map; of the others no
rule gives the layout. -/
def Dump.functionByte (d : Dump) (v : Nat) : Byte :=
  if v < 16 * bankSize then d.codeByte v
  else if v < 18 * bankSize then memGet d.active (v - 16 * bankSize)
  else if v < 20 * bankSize then memGet d.parity (v - 18 * bankSize)
  else Config.functionByte d.evSeq v

/-- R404: the bytes behind the header of a dump that a capture wrote whole. -/
def Dump.body (d : Dump) (a : Nat) : Byte :=
  if 0x10000 ≤ a ∧ a < 0x20000 then wordByte d.swin (a - 0x10000)
  else if 0x20000 ≤ a ∧ a < 0x120000 then wordByte d.regs (a - 0x10000)
  else if 0x200000 ≤ a ∧ a < 0x1200000 then
    let v := a - 0x200000
    if v < 53 * bankSize then d.functionByte v else memGet d.vale v
  else if 0x1200000 ≤ a then memGet d.fw a
  else if a < 0x9000 then memGet d.cores a
  else 0

/-- R405: the bytes behind the header of a dump area that holds a summary alone; what follows the summary is a free value. -/
def Dump.summaryBody (d : Dump) (a : Nat) : Byte :=
  if a < 0x20000 then d.body a
  else if a < 0x30000 then memGet d.events (a - 0x20000)
  else if a < 0x38000 then wordByte d.regs a
  else if a < 0x40000 then 0
  else Config.functionByte d.evSeq (dumpSize + a)

/-- R404 to R406: a byte of the dump area, the CRC apart. What a capture that was cut short left is a free value. -/
def Dump.byteNoCrc (d : Dump) (a : Nat) : Byte :=
  if a < 48 then d.header.getD a 0
  else if a < 0x1000 then 0
  else if d.partialCap then Config.functionByte d.evSeq (dumpSize + a)
  else if d.summaryOnly then d.summaryBody a
  else d.body a

/-- R406: a byte of the dump area. The CRC covers the first LENGTH bytes, whatever of the dump is held. -/
def Dump.byte (d : Dump) (a : Nat) : Byte :=
  if 48 ≤ a ∧ a < 52 then
    BitVec.ofNat 8 (crc32c ((List.range d.length).map d.byteNoCrc) / 256 ^ (a - 48))
  else d.byteNoCrc a

/-- Bytes of the dump area. -/
def Dump.bytes (d : Dump) (o n : Nat) : List Byte := (List.range n).map fun k => d.byte (o + k)

/-- R404: the words of BAR0 from `lo` up to `hi`, as the capture engine reads them: those that are not 0, by offset. -/
def State.words (s : State) (lo hi : Nat) : Tab Word := (List.range ((hi - lo) / 4)).filterMap fun k =>
  let v := s.peek (lo + 4 * k)
  if v % 2 ^ 32 = 0 then none else some (lo + 4 * k, BitVec.ofNat 32 v)

/-- R69: whether the range of tile `j` goes before that of tile `i`. -/
def segBefore (j i : Nat) : Bool :=
  decide (Config.segRank j < Config.segRank i) || (decide (Config.segRank j = Config.segRank i) && decide (j < i))

/-- R69: the first segment number of a tile's range: the ranges of the tile map's tiles follow one another without a gap. -/
def State.segBase (s : State) (i : Nat) : Nat :=
  ((s.mapTiles.filter fun j => segBefore j i).map fun j => s.tileH j * segsPerRow (s.tileW j)).sum

/-- R69: the number of a segment. -/
def State.segNumber (s : State) (i row seg : Nat) : Nat := s.segBase i + row * segsPerRow (s.tileW i) + seg

/-- A map of one bit for every segment listed: bit n mod 8 of byte n ÷ 8 for segment n. -/
def bitMapOf (ns : List Nat) : Mem :=
  ns.foldl (fun m n => memSet m (n / 8) (memGet m (n / 8) ||| BitVec.ofNat 8 (2 ^ (n % 8)))) []

/-- R70: the activity bitmap. -/
def State.activityMem (s : State) : Mem :=
  bitMapOf ((s.film.active.filter fun e => e.2 && s.inMap (segTile e.1)).map fun e =>
    s.segNumber (segTile e.1) (segRowOf e.1) (segPlace e.1))

/-- R36: the age parity map, in the layout of the activity bitmap (DEDUCED, assumption 11). -/
def State.parityMem (s : State) : Mem :=
  bitMapOf (s.mapTiles.flatMap fun i => (List.range (s.tileH i)).flatMap fun y =>
    ((List.range (segsPerRow (s.tileW i))).filter fun g => s.parityBit i y g).map fun g => s.segNumber i y g)

/-- R404: the dump that a capture makes. -/
def State.makeDump (s : State) (c : Capture) (cores fw : Mem) : Dump where
  cause := c.cause
  summaryOnly := false
  partialCap := false
  flashed := false
  time := c.time
  wfn := c.wfn
  evSeq := s.qm.evSeq % 2 ^ 32
  fwver := s.glb.fwver
  image := s.glb.image
  pstate := c.pstate
  missed := c.missed
  length := dumpSize
  arg := c.arg
  cores := cores
  swin := s.words 0 0x10000
  regs := s.words 0x10000 0x110000
  vale := s.vale.mem
  fw := if c.cause = 6 then [] else fw
  events := []
  pkgs := s.film.pkgs
  active := s.activityMem
  parity := s.parityMem

/-- The cells of a region: the others of a copy that a command carries lie outside what the dump holds. -/
def inRegion (base size : Nat) (m : Mem) : Mem := m.filter fun c => decide (base ≤ c.1) && decide (c.1 < base + size)

/-- FATAL_CAPTURE_DONE (R404, R411): the capture ends, having woken the retained banks; FATAL_DUMP is logged, and a fatal error that
led to a reset counts as a strike. -/
def execFatalCaptureDone (cores fw : List Host.Cell) (s : State) : Host.Outcome State Fault Refusal :=
  .next (match s.glb.capture with
    | some c =>
      let s1 := ((List.range 64).foldl State.wakeBank s).ctrlReach 0
      let d := s1.makeDump c (inRegion 0x1000 0x8000 cores) (inRegion 0x1200000 0x2E00000 fw)
      let s2 := ({ s1 with glb.capture := none, glb.dump := some d }).logD 226 noUnit c.cause 0 d.header
      match s2.glb.entry with
      | some e => s2.countStrike e.cause
      | none => s2
    | none => s)

/-- R405: the log entries of a summary: the 256 up to FATAL_DUMP, oldest first. -/
def State.summaryEvents (s : State) (seq : Nat) : List Byte :=
  ((List.range 256).filter fun k => decide (255 - k ≤ seq)).flatMap fun k =>
    let q := seq - (255 - k)
    match s.qm.evLog.find? fun e => decide (e.1 = q % 4096) && decide (e.2.seq = q) with
    | some e => e.2.bytes
    | none => zeroBytes 256

/-- DUMP_SUMMARY_WRITE (R405): after the READY that follows a capture firmware writes the summary and sets FLASHED; a write that
fails stays due. -/
def execDumpSummaryWrite (flashOk : Bool) (s : State) : Host.Outcome State Fault Refusal :=
  .next (match s.glb.dump with
    | some d =>
      if s.glb.summaryDue ∧ s.glb.ready ∧ !s.glb.rom ∧ flashOk then
        let d1 := { d with flashed := true, events := memStore [] 0 (s.summaryEvents d.evSeq) }
        { s with glb.summaryDue := false, glb.dump := some d1, flash.summary := some d1 }
      else s
    | none => s)

end Sys2Proof.Machine
end

