-- ==== Sys2Proof/Machine/Boot.lean ====
section
/-! DEFINITION. Firmware images (R395 to R399), the boot (R400 to R402) and test access (R412). -/

namespace Sys2Proof.Machine

/-! ### Images (R397 to R399) -/

/-- R398: the first check that an image fails; 0: it verifies. Its bytes are addressed from its header on. -/
def State.imageReject (s : State) (m : Mem) : Nat :=
  let u (o n : Nat) : Nat := memLe m o n
  let len := u 16 4
  let slot := u 6 2
  let pub := memBytes m 164 97
  if u 0 4 ≠ 0x57464D4C ∨ u 4 2 ≠ 1 then 1
  else if 2 < slot ∨ slot ∈ s.otp.revoked ∨ sha384 pub ≠ tabGet [] s.otp.keyHash slot then 2
  else if u 12 4 < s.otp.minSecver then 3
  else if len < 4 ∨ 8384512 < len ∨ len % 4 ≠ 0 then 4
  else if sha384 (memBytes m 4096 len) ≠ memBytes m 20 48 then 5
  else if ecdsaOk (sha384 (memBytes m 0 68)) (memBytes m 68 96) pub then 0
  else 6

/-- R397, R398: what the boot ROM finds in an image area: the bytes held are judged, unless this boot meets a read error (reason 7);
an area that a reset tore while it was programmed does not verify, for a reason that is a free value. -/
def State.checkImage (s : State) (img : Option Mem) (asDelivered : ImageCheck) : ImageCheck × State :=
  match img with
  | none => (asDelivered, s)
  | some [] =>
    let q := s.draw 7
    (⟨Fin.ofNat 8 (q.1 + 1), 0, 0⟩, q.2)
  | some m => (⟨if asDelivered.reject = 7 then 7 else Fin.ofNat 8 (s.imageReject m), BitVec.ofNat 32 (memLe m 8 4), BitVec.ofNat 6 (memLe m 12 4)⟩, s)

/-- R399: the images in the order tried (0 A, 1 B), by STRIKES and PREFER. -/
def imageOrder (strikes prefer : Nat) : List Nat :=
  if strikes < 3 then [prefer, 1 - prefer] else if strikes < 6 then [1 - prefer, prefer] else []

/-- R399: the image that runs, and those rejected before it. -/
def pickImage (check : Nat → ImageCheck) : List Nat → Option Nat × List Nat
  | [] => (none, [])
  | i :: l => if (check i).reject = 0 then (some i, []) else
    let q := pickImage check l
    (q.1, i :: q.2)

/-! ### The boot configuration (R396) -/

/-- R396: whether a copy is valid. -/
def bootcfgOk (b : List Byte) : Bool :=
  decide (fieldB b 0 4 = 0x43424D4C) && decide (fieldB b 4 2 = 1) && crcOk 60 b && decide (fieldB b 12 2 ∈ [6400, 7500, 8533]) &&
    decide (30 ≤ fieldB b 15 1) && decide (fieldB b 15 1 ≤ 36) && decide (fieldB b 16 1 ≤ 1)

/-- R396: the valid copy of the higher GEN, with its number. -/
def FlashS.bootcfg (f : FlashS) : Option (Nat × List Byte) :=
  let valid (k : Nat) (c : Option (List Byte)) : Option (Nat × List Byte) := match c with
    | some b => if bootcfgOk b then some (k, b) else none
    | none => none
  match valid 0 f.bootcfg0, valid 1 f.bootcfg1 with
  | some a, some b => if fieldB a.2 8 4 < fieldB b.2 8 4 then some b else some a
  | some a, none => some a
  | none, x => x

/-- R396: the boot configuration is read: PREFER at every boot, the other fields at a cold one; the defaults without a valid copy. -/
def State.readBootcfg (s : State) (readable : Bool) : State :=
  let cold := decide (s.glb.bootKind = .cold)
  match (if readable then s.flash.bootcfg else none) with
  | some (k, b) =>
    let s1 := { s with glb.cfgPrefer := fieldB b 16 1, glb.cfgGen := fieldB b 8 4, glb.cfgCopy := k }
    if cold then
      { s1 with
        glb.cfgRate := (if fieldB b 12 2 = 6400 then 0 else if fieldB b 12 2 = 7500 then 1 else 2)
        glb.cfgFspl := decide (bits (fieldB b 14 1) 0 1 = 1), glb.cfgIecc := bits (fieldB b 14 1) 1 4, glb.cfgBar2 := fieldB b 15 1 - 30 }
    else s1
  | none =>
    let s1 := { s with glb.cfgPrefer := 0, glb.cfgGen := 0, glb.cfgCopy := 1 }
    if cold then { s1 with glb.cfgRate := 2, glb.cfgFspl := true, glb.cfgIecc := 0, glb.cfgBar2 := 4 } else s1

/-- DIAG_BOOTCFG0 at boot: the configuration in force. -/
def State.showBootcfg (s : State) : State :=
  let g := s.glb
  s.putReg (baseDiag + 0x20) (g.cfgRate + b2n g.cfgFspl * 4 + g.cfgIecc * 8 + g.cfgBar2 * 256 + g.cfgPrefer * 2048)

/-! ### DRAM (R269, R274, R276, R290, R344) -/

/-- R269: the capacity of a channel in GiB. -/
def chanGib (density : Nat) (twoRanks : Bool) : Nat := [2, 3, 4, 6, 8].getD density 0 * (if twoRanks then 2 else 1)

/-- R274, R276: the 32 KiB blocks of physical DRAM that `kib` KiB of data take. -/
def blocksOf (kib : Nat) (ecc : Bool) : Nat := if ecc then cdiv kib 28 else cdiv kib 32

/-- R344: the largest window 2^(30 + k), k up to the request, that leaves POOL at least 1 GiB of `blocks`. -/
def bar2Fit (blocks planes : Nat) (ecc : Bool) : Nat → Nat
  | 0 => 0
  | k + 1 => if planes + blocksOf (2 ^ (20 + (k + 1))) ecc + 32768 ≤ blocks then k + 1 else bar2Fit blocks planes ecc k

/-- R269 to R276, R290, R344: the organisation found, the regions of the bulk space, every channel after its training, CH0 and CH1 trained
at FSP-L only where both are, and the ECC regions filled. -/
def State.dramUp (s : State) (f : BootFacts) : State :=
  let ecc (r : Nat) : Bool := decide (bits s.glb.cfgIecc r 1 = 1)
  let cap := chanGib f.density.val f.twoRanks
  let blocks := 10 * cap * 32768
  let planes := blocksOf (2560 * 1024) (ecc 1)
  let k := bar2Fit blocks planes (ecc 3) s.glb.cfgBar2
  let bar2 := blocksOf (2 ^ (20 + k)) (ecc 3)
  let pool := blocks - planes - bar2
  let bad (c : Nat) : Bool := f.failH.any fun x => decide (x.val = c)
  let badL (c : Nat) : Bool := f.failL.any fun x => decide (x.val = c)
  let s1 := { s with
    net.bar2Log2 := k
    dmc.density := f.density.val, dmc.ranks := if f.twoRanks then 2 else 1, dmc.cap := cap
    dmc.rate := [6400, 7500, 8533].getD s.glb.cfgRate 0, dmc.fsplEn := s.glb.cfgFspl, dmc.iecc := s.glb.cfgIecc
    dmc.filled := s.glb.cfgIecc, dmc.bulkBlk := blocks, dmc.poolBlk := planes, dmc.poolKib := pool * (if ecc 2 then 28 else 32), dmc.bar2Blk := planes + pool }
  let s2 := (List.range 12).foldl (fun st c => st.setChan c { Chan.init with
    state := if bad c then .failed else .active
    fsplTrained := decide (c < 2) && s.glb.cfgFspl && [0, 1].all fun k => !badL k && !bad k
    lastReq := [(0, st.clk), (1, st.clk)], trkAt := st.clk, trkBase := [(0, st.clk), (1, st.clk)] }) s1
  let s3 := ((List.range 12).filter bad).foldl (fun st c => st.log 194 c 0 0) s2
  if s.glb.cfgFspl then ((List.range 2).filter fun c => badL c && !bad c).foldl (fun st c => st.log 194 c 1 0) s3 else s3

/-! ### The planes after a warm reset (R394) -/

/-- R394: no pixel is owned or ACTIVE; those that were ACTIVE are unknown, and the tiles of unknown pixels are flagged. Pixels at
the cold-start fill are unknown. The shadow TIME_FRATE takes the rate in force. -/
def State.scrub (s : State) : State :=
  let s1 := (List.range 1024).foldl (fun st i => st.mapPsrs i fun _ _ p =>
    let q := if p.active then p.makeUnknown else p
    { q with session := noSession, active := false }) s
  ((List.range 1024).foldl (fun st i =>
    let known := ((st.tilePsrs i).filter fun q => !q.2.2.unknown).length
    if known < st.tileW i * st.tileH i then st.flagUnknown i else st) s1).putReg (baseTime + 0x20) s.time.rate

/-! ### READY (R400, R401) -/

/-- R327, R362: the mailboxes that were opened during BOOT are served, and the indices written meanwhile are judged. -/
def State.openMboxes (s : State) : State := (List.range 16).foldl (fun st k =>
  let m : Fin 16 := Fin.ofNat 16 k
  let b := st.mbox k
  if b.en && !b.live then
    let s1 := (st.setMbox k { b with cmdProd := 0, cmdCons := 0, cplProd := 0, cplCons := 0, live := true }).mbShow k
    s1.mboxIndices m (s1.swinGet (mbOff k / 4))
  else st) s

/-- R315: firmware enables the NET rings, of 256 entries. -/
def State.openNetRings (s : State) : State :=
  { s with qm.rings := (List.range 512).foldl (fun t k =>
      tabSet (Ring.init (2560 + k)) t (2560 + k) { Ring.init (2560 + k) with en := true }) s.qm.rings }

/-- R373: a zone at or above SHUTDOWN − HYST, or one whose SHUTDOWN flag is set. -/
def State.bootHot (s : State) : Bool := (List.range 8).any fun z =>
  (s.zone z).shut || decide ((s.thmShutdown - s.thmHyst) * 16 ≤ (s.zone z).temp)

/-- R411: the detail of RESET_TAKEN. -/
def resetDetail (e : ResetEntry) : List Byte := leBytes 1 e.cause ++ leBytes 1 e.pstate ++ zeroBytes 6 ++ leBytes 8 e.time

/-- R399, R411: IMAGE_FALLBACK. -/
def State.logFallback (s : State) (i : Nat) (c : ImageCheck) : State :=
  ({ s with glb.fallback := true, glb.odo := { s.glb.odo with fallback := s.glb.odo.fallback + 1 } }).logD 225 noUnit i 0
    (leBytes 1 c.reject.val ++ zeroBytes 3 ++ leBytes 4 c.fwver.toNat)

/-- R411: the detail of BOOT_READY. -/
def State.readyDetail (s : State) (micros : Nat) : List Byte :=
  leBytes 4 s.glb.fwver ++ leBytes 1 s.glb.secver ++ leBytes 1 (b2n (decide (s.glb.bootKind = .warm))) ++ zeroBytes 2 ++ leBytes 4 micros

/-- R400 to R402: the end of the boot, in SAFE for `cause` (0: HOLD unless a zone is hot), with `rom` serving. -/
def State.bootEnd (s : State) (f : BootFacts) (cause : Nat) : State :=
  let rom := decide (3 ≤ cause)
  let c := if cause = 0 && s.bootHot then 2 else cause
  let due := s.glb.dump.any fun d => !d.flashed && !d.summaryOnly
  let s1 := if rom then s else s.openNetRings
  let s2 := { s1 with
    net.link := f.links.foldl (fun (t : Tab (Bool × Bool)) (q : Fin 16) => tabSet (false, false) t q.val (true, true)) []
    glb.safeCause := c, glb.rom := rom, glb.ready := true, glb.readyOut := true, glb.stable := s1.clk, glb.wdogLast := s1.clk
    glb.wdogLogged := false, glb.summaryDue := due, wsa.gated := decide (c ≠ 0)
    qm.fetching := true }
  let s3 := if c = 0 then s2.setPower .hold else s2.disableRails.setPower .safe
  let s4 := s3.logD 224 noUnit s3.glb.image 0 (s3.readyDetail f.micros.toNat)
  let s5 := s4.odoRequest 1
  (if due then s5.odoRequest 5 else s5).openMboxes

/-- R402: with DRAM not usable, the boot ROM's own event log begins. -/
def State.romLog (s : State) : State := { s with qm.evSeq := 0, qm.evLog := [] }

/-- R405: after a cold boot, the summary in flash is copied to the dump area. -/
def State.restoreSummary (s : State) : State :=
  if s.glb.bootKind = .cold ∧ s.glb.dump.isNone then
    { s with glb.dump := s.flash.summary.map fun d => { d with summaryOnly := true, flashed := true } }
  else s

/-- R399 and steps 5 to 7 of R400, DRAM being up. -/
def State.loadImage (s : State) (f : BootFacts) : State :=
  let a := s.checkImage s.flash.imageA f.imageA
  let b := a.2.checkImage s.flash.imageB f.imageB
  let check (i : Nat) : ImageCheck := if i = 0 then a.1 else b.1
  let q := pickImage check (imageOrder s.glb.strikes s.glb.cfgPrefer)
  let s0 : State := b.2
  let s1 : State := { s0 with flash.checkA := f.imageA, flash.checkB := f.imageB }
  let s2 : State := if s.glb.bootKind = .warm then s1.scrub else s1
  let s3 : State := match s2.glb.preBoot with
    | some e => if s2.glb.bootKind = .warm then s2.logD 227 noUnit 1 0 (resetDetail e) else s2
    | none => s2
  let s4 := q.2.foldl (fun (st : State) (i : Nat) => st.logFallback i (check i)) s3.restoreSummary
  match q.1 with
  | some i =>
    ({ s4 with glb.image := i, glb.fwver := (check i).fwver.toNat, glb.secver := (check i).secver.toNat }).bootEnd f 0
  | none => s4.bootEnd f (if 6 ≤ s.glb.strikes then 5 else 4)

/-- R389, R400 step 1: the straps are sampled. -/
def State.sampleStraps (s : State) (lcbCkSel : Bool) (smbAddr : BitVec 2) : State :=
  { s with glb.lcbCkSel := lcbCkSel, glb.smbStrap := smbAddr.toNat, net.smbAddr := 0x58 + smbAddr.toNat }

/-- BOOT_READY (R400 to R402, R290, R344, R394, R410): the boot runs to its end as the board's facts have it: training fails, or an
image runs, or none does. Odometer counters are lost where the flash cannot be read (R410). -/
def execBootReady (facts : BootFacts) (s : State) : Host.Outcome State Fault Refusal :=
  if s.pwr.state = .boot ∧ !s.glb.ready ∧ s.glb.entry.isNone then
    let s1 := s.advanceTo (s.glb.bootStart + facts.micros.toNat * 800)
    let s2 := { (if s1.glb.bootKind = .cold then s1.sampleStraps facts.lcbCkSel facts.smbAddr else s1) with
      flash.jedecId := facts.jedecId.toNat, flash.sizeLog2 := facts.flashLog2.toNat, flash.ok := facts.flashOk
      net.pcie := PcieS.ofLink facts.pcie
      glb.odo := if facts.flashOk then s1.glb.odo else Odo.init }
    let s3 := (s2.readBootcfg facts.flashOk).showBootcfg
    if facts.failH = [] then .next ((s3.dramUp facts).loadImage facts)
    else .next ((s3.romLog.dramUp facts).bootEnd facts 3)
  else .next s

/-! ### JTAG (R412) -/

/-- R412: IDCODE, bit 0 first: 1, the manufacturer (assumption 57), the part number and the revision. -/
def State.idcode (s : State) : Nat := 1 + Config.jtagMaker % 2048 * 2 + 0x7240 * 4096 + s.otp.rev % 16 * 268435456

/-- The bits of a number, the least significant first. -/
def bitsOf (x : Nat) : Nat → List Bool
  | 0 => []
  | n + 1 => decide (x % 2 = 1) :: bitsOf (x / 2) n

/-- JTAG_TAP_OPERATION (R412, IEEE 1149.1): instructions 0 BYPASS, 1 IDCODE, 2 SAMPLE/PRELOAD, 3 EXTEST, 4 CLAMP, 5 HIGHZ. A data
register shifts out what it captured, then what was shifted in; what the boundary-scan cells capture is a free value. -/
def execJtagTapOperation (op : JtagOp) (s : State) : Host.Outcome State Fault Refusal :=
  .next (match op with
    | .loadIr code => { s with glb.tap := code.val }
    | .tapReset => { s with glb.tap := 1 }
    | .shiftDr tdi =>
      let n := tdi.length
      if s.glb.tap = 1 then s.emit (.jtagTdo ((bitsOf s.idcode 32 ++ tdi).take n))
      else if s.glb.tap = 2 ∨ s.glb.tap = 3 then
        let q := s.draw (2 ^ n)
        { q.2 with glb.bsr := tdi }.emit (.jtagTdo (bitsOf q.1 n))
      else s.emit (.jtagTdo ((false :: tdi).take n)))

end Sys2Proof.Machine
end

