-- ==== Sys2Proof/Machine/Bridge.lean ====
section
/-! DEFINITION. A tile bridge, as far as the spec gives it: the stream it forwards, its buffers and flips (R176 to R190), its
delay, telemetry and tile commands (R181, R197 to R199), its frontlight (R261 to R264, R267). -/

namespace Sys2Proof.Machine

/-- The record of a bridge, by what names it. -/
def State.br (s : State) (b : BridgeId) : Bridge := s.bridge (bridgeKey b)
def State.setBr (s : State) (b : BridgeId) (x : Bridge) : State := s.setBridge (bridgeKey b) x

/-- R172: a packet has been received on a side of the bridge. -/
def State.rxBridge (s : State) (b : BridgeId) (far : Bool) : State := s.received (.bridge b far)

/-- R176: a downstream packet has arrived: it is forwarded unchanged, but at the end of a domain. -/
def State.forward (s : State) (b : BridgeId) (bs : List Byte) : State :=
  let s1 := s.rxBridge b (decide ((s.br b).upSide = 1))
  if (s.br b).endDomain then s1 else s1.emit (.jtlForward (bridgeKey b) bs)

/-! ### PSEQ tracking (R188) -/

/-- Runs of consecutive numbers of a list, as (first, count), at most 65,535 each. -/
def seqRuns : List Nat → List (Nat × Nat)
  | [] => []
  | q :: l =>
    match seqRuns l with
    | (a, n) :: r => if a = (q + 1) % 4294967296 ∧ n < 65535 then (q, n + 1) :: r else (q, 1) :: (a, n) :: r
    | [] => [(q, 1)]

/-- R188: the PSEQ before `next` have been sent: those not received since the last one are missing, and each run of them is
reported once. A tile that has seen none yet starts here (DEDUCED, assumption 25). -/
def State.trackPseq (s : State) (b : BridgeId) (next : Nat) : State :=
  let x := s.br b
  match x.nextPseq, x.pos with
  | some e, some pos =>
    let d := (next + 4294967296 - e) % 4294967296
    if d < 2147483648 then
      let miss := (List.range d).map fun k => (e + k) % 4294967296
      let runs := seqRuns miss
      runs.foldl (fun st r => st.sendUp b (jtlPkt 18 pos 0 (leBytes 4 r.1 ++ leBytes 2 r.2 ++ zeroBytes 2)))
        (s.setBr b { x with nextPseq := some next, found := x.found ++ miss, nakSent := x.nakSent + runs.length })
    else s
  | none, _ => s.setBr b { x with nextPseq := some next }
  | _, none => s

/-- R190: a tile that holds as many rows as FLIP.ROWS gives sends FRAME_READY. -/
def State.checkReady (s : State) (b : BridgeId) : State :=
  let x := s.br b
  match x.sched, x.pos with
  | some (wfn, _, _, n), some pos =>
    if x.rows.length = n ∧ !x.readySent then
      (s.setBr b { x with readySent := true, found := [] }).sendUp b (jtlPkt 19 pos 0 (leBytes 6 wfn ++ zeroBytes 2))
    else s
  | _, _ => s

/-- A DRIVE_ROW packet in bytes. -/
def driveRowBytes (p : DriveRowPkt) : List Byte :=
  jtlPkt 2 p.addr.toNat (b2n p.resend) (leBytes 4 p.pseq.toNat ++ leBytes 4 p.orig.toNat ++ leBytes 2 p.frame.toNat ++
    leBytes 2 p.row.toNat ++ leBytes 1 p.segFirst.toNat ++ leBytes 1 p.codes.length ++ zeroBytes 2 ++
    p.codes.flatMap fun c => leBytes 24 c.toNat)

/-- Put the codes of a row into the buffer. -/
def putCodes (t : Tab Nat) (k : Nat) : List (BitVec 192) → Tab Nat
  | [] => t
  | c :: cs => putCodes (tabSet 0 t k c.toNat) (k + 1) cs

/-- Whether a row with FRAME `f` is for the tile's next flip (R186); a free value while the tile has had no FLIP to tell. -/
def State.frameFits (s : State) (b : BridgeId) (f : Nat) : Bool × State :=
  match (s.br b).nextWfn with
  | some n => (decide (n % 65536 = f), s)
  | none => let d := s.draw 2; (decide (d.1 = 1), d.2)

/-- DRIVE_ROW (R186, R188, R190): the tile tracks PSEQ and stores a row addressed to it for its next flip. -/
def execDriveRow (b : BridgeId) (p : DriveRowPkt) (s : State) : Host.Outcome State Fault Refusal :=
  let s1 := s.forward b (driveRowBytes p)
  match (s1.br b).pos with
  | none => .next s1
  | some pos =>
    let q := p.pseq.toNat
    let s2 := s1.trackPseq b q
    let x := s2.br b
    let newer := x.nextPseq = some q
    let s3 := s2.setBr b { x with
      nextPseq := if newer then some ((q + 1) % 4294967296) else x.nextPseq
      found := x.found.filter fun m => m ≠ p.orig.toNat ∧ m ≠ q
      high := if newer then q else x.high }
    if p.addr.toNat = pos then
      let fit := s3.frameFits b p.frame.toNat
      if fit.1 then
        let y := fit.2.br b
        .next ((fit.2.setBr b { y with
          buf := putCodes y.buf (p.row.toNat * 256 + p.segFirst.toNat) p.codes
          rows := if y.rows.contains p.orig.toNat then y.rows else p.orig.toNat :: y.rows }).checkReady b)
      else .next fit.2
    else .next s3

/-- A FLIP packet in bytes. -/
def flipBytes (p : FlipPkt) : List Byte :=
  jtlPkt 3 p.addr.toNat 0 (leBytes 8 p.flipTime.toNat ++ leBytes 6 p.wfn.toNat ++ leBytes 1 (b2n p.copy) ++ leBytes 1 (b2n p.last) ++
    leBytes 4 p.cycles.toNat ++ leBytes 4 p.lastPseq.toNat ++ leBytes 4 p.period.toNat ++ zeroBytes 4 ++
    p.rows.flatMap fun r => leBytes 4 r.toNat)

/-- FLIP (R182, R186, R188, R199): the first copy received schedules the flip CYCLES − DELAY after its first byte; a tile that
was quiet sends a telemetry record at once, and then resumes its period. -/
def execFlip (b : BridgeId) (p : FlipPkt) (s : State) : Host.Outcome State Fault Refusal :=
  let s1 := s.forward b (flipBytes p)
  match (s1.br b).pos with
  | none => .next s1
  | some pos =>
    let s2 := s1.trackPseq b ((p.lastPseq.toNat + 1) % 4294967296)
    let x := s2.br b
    let n := p.wfn.toNat
    if x.sched.any fun q => q.1 = n then .next s2
    else
      let wait := ((p.cycles.toNat : Int) - sext 32 x.newDelay).toNat
      let keep := decide (x.nextWfn = none) || decide (x.nextWfn = some n)
      .next ((s2.setBr b { x with
        delay := x.newDelay, period := p.period.toNat, nextWfn := some n
        sched := some (n, s.clk * 125 + wait * 16, p.last, (p.rows.getD pos 0).toNat)
        buf := if keep then x.buf else [], rows := if keep then x.rows else []
        readySent := false, quiet := false, telAt := if x.quiet then s.clk else x.telAt }).checkReady b)

/-- SEQ_MARK (R187, R188). -/
def execSeqMark (b : BridgeId) (lastPseq : BitVec 32) (s : State) : Host.Outcome State Fault Refusal :=
  .next ((s.forward b (jtlPkt 4 0xFF 0 (leBytes 4 lastPseq.toNat ++ zeroBytes 4))).trackPseq b ((lastPseq.toNat + 1) % 4294967296))

/-- R178: the tile's descriptor. -/
def descBytes (pos epoch : Nat) (end_ : Bool) (f : TileFacts) : List Byte :=
  jtlPkt 16 pos 0 (leBytes 4 epoch ++ leBytes 1 pos ++ leBytes 1 (b2n end_) ++ leBytes 2 0x0020 ++ leBytes 4 f.bridgeFw.toNat ++
    leBytes 8 f.serial.toNat ++ leBytes 2 f.width.toNat ++ leBytes 2 f.height.toNat ++ leBytes 2 f.pitch.toNat ++
    leBytes 1 f.maxRate.toNat ++ leBytes 1 f.flStrings.toNat ++ zeroBytes 40)

/-- ENUM (R177): with HOP below 32 the tile takes its position, forgets what it held, answers with DESC, and forwards ENUM or
ends the domain; with HOP 32 or more it belongs to none. -/
def execEnum (b : BridgeId) (far : Bool) (p : EnumPkt) (facts : TileFacts) (s : State) : Host.Outcome State Fault Refusal :=
  let s1 := s.rxBridge b far
  let x := s1.br b
  let hop := p.hop.toNat
  let limit := p.limit.toNat
  if hop < 32 then
    let ends := decide (hop + 1 = limit)
    let end_ := decide ((s1.hop (hopKey (.bridge b (!far)))).step ≠ .up)
    let s2 := s1.setBr b { x with
      serial := facts.serial.toNat, width := facts.width.toNat, height := facts.height.toNat
      pos := some hop, upSide := b2n far, epoch := p.epoch.toNat, telPer := p.telPer.toNat
      endDomain := ends || (decide (hop = 31) && decide (limit = 0))
      buf := [], rows := [], sched := none, nextWfn := none, canPredict := false, readySent := false
      nextPseq := none, found := [], telAt := s1.clk + msC p.telPer.toNat }
    let s3 := s2.sendUp b (descBytes hop p.epoch.toNat end_ facts)
    .next (if ends then s3 else s3.emit (.jtlForward (bridgeKey b) (enumPkt (hop + 1) limit p.telPer.toNat p.epoch.toNat)))
  else .next (s1.setBr b { x with pos := none, endDomain := true, sched := none, canPredict := false, buf := [], rows := [] })

/-- R181: DELAY_RESP leaves bridge `b`; each bridge that passes it on adds to RESID the time it waited there, a free value. -/
def State.sendDelayResp (s : State) (b : BridgeId) (pos probeId turn : Nat) : State :=
  let pkt (resid : Nat) : List Byte := jtlPkt 17 pos 0 (leBytes 4 probeId ++ leBytes 4 turn ++ leBytes 4 resid ++ zeroBytes 4)
  ((s.upPath b).foldl (fun (q : State × Nat) k =>
    let d := q.1.draw 4294967296
    let r := (q.2 + d.1) % 4294967296
    (d.2.emit (.jtlUp k (pkt r)), r)) (s.emit (.jtlUp (bridgeKey b) (pkt 0)), 0)).1

/-- DELAY_PROBE (R181): the addressed tile answers. -/
def execDelayProbe (b : BridgeId) (addr : BitVec 8) (probeId turn : BitVec 32) (s : State) : Host.Outcome State Fault Refusal :=
  let s1 := s.forward b (jtlPkt 6 addr.toNat 0 (leBytes 4 probeId.toNat ++ zeroBytes 4))
  if (s1.br b).pos = some addr.toNat then
    .next (s1.sendDelayResp b addr.toNat probeId.toNat turn.toNat)
  else .next s1

/-- DELAY_SET (R182): used from the next FLIP received. -/
def execDelaySet (b : BridgeId) (addr : BitVec 8) (delay : BitVec 32) (s : State) : Host.Outcome State Fault Refusal :=
  let s1 := s.forward b (jtlPkt 7 addr.toNat 0 (leBytes 4 delay.toNat ++ zeroBytes 4))
  if (s1.br b).pos = some addr.toNat then .next (s1.setBr b { s1.br b with newDelay := delay.toNat }) else .next s1

/-! ### The bridge's frontlight (R261 to R264) -/

/-- TC_FL_CONFIG's EN bit of string `k`. -/
def Bridge.flOn (x : Bridge) (k : Nat) : Bool := decide (bits x.flEn k 1 = 1)

/-- A string that has never been commanded: duty 0. -/
def FlString.init : FlString := ⟨0, 0, 0, 0⟩
def Bridge.string (x : Bridge) (k : Nat) : FlString := tabGet FlString.init x.strings k

/-- R262: whether a string's fade still runs. -/
def FlString.fading (f : FlString) (now : Nat) : Bool := decide (now < f.start + msC f.ms)

/-- R262: the cycles of a PWM period. -/
def Bridge.pwmC (x : Bridge) : Nat := max 1 (usC x.flPeriod)

/-- R262: when the last PWM period up to cycle `t` began; the phase of the periods is free. -/
def State.pwmEdge (s : State) (b : BridgeId) (t : Nat) : Nat := t - (t + Config.pwmPhase (bridgeKey b)) % (s.br b).pwmC

/-- R262: the duty of a string at cycle `t`: linear from its value at the fade's start to DUTY over FADE_MS, updated once per PWM
period. Where the line passes between two duties the string holds either of them (a free value; no rounding is stated). -/
def State.dutyAt (s : State) (b : BridgeId) (k t : Nat) : Nat × State :=
  let f := (s.br b).string k
  let gone := s.pwmEdge b t - f.start
  if f.ms = 0 ∨ msC f.ms ≤ gone then (f.target, s)
  else
    let d : Int := ((f.target : Int) - f.from_) * gone
    let v := (f.from_ + d / msC f.ms).toNat
    if d % msC f.ms = 0 then (v, s) else let r := s.draw 2; (v + r.1, r.2)

/-- R262: the duty of a string now. -/
def State.dutyOf (s : State) (b : BridgeId) (k : Nat) : Nat × State := s.dutyAt b k s.clk

/-- R264: whether a string has emitted a pulse of at least 4 µs since `judgeAt`: a fade is linear, so that the first pulse since then or
the last one is the longest. -/
def State.longPulse (s : State) (b : BridgeId) (k : Nat) : Bool × State :=
  let x := s.br b
  let last := s.pwmEdge b s.clk
  if last ≤ x.judgeAt then (false, s)
  else
    let d := s.dutyAt b k (s.pwmEdge b x.judgeAt + x.pwmC)
    let e := d.2.dutyAt b k last
    (x.flOn k && decide (4 * 65536 ≤ max d.1 e.1 * x.flPeriod), e.2)

/-- R264: a string has emitted a judged pulse, at the ISET and SHORT_V in force. -/
def Bridge.judge (x : Bridge) (k : Nat) : Bridge :=
  { x with judged := (k, x.flIset.getD k 0, x.flShortV.getD k 0) :: x.judged.filter fun q => q.1 ≠ k }

/-- R264: remember the strings that have emitted judged pulses by themselves since this was last done: at every flip, which is where
duties, enables and parameters change, and at every record. -/
def State.noteJudged (s : State) (b : BridgeId) : State :=
  let s1 := (List.range 16).foldl (fun st k =>
    let j := st.longPulse b k
    if j.1 then j.2.setBr b ((j.2.br b).judge k) else j.2) s
  s1.setBr b { s1.br b with judgeAt := s1.clk }

/-- R262, R263: a frontlight command takes effect at a flip. -/
def State.flEffect (s : State) (b : BridgeId) (c : Nat × List Byte) : State :=
  let p := c.2
  if c.1 = 17 then
    s.setBr b { s.br b with
      flPeriod := fieldB p 0 2, flEn := fieldB p 2 2
      flIset := (List.range 16).map fun k => fieldB p (8 + 4 * k) 2
      flShortV := (List.range 16).map fun k => fieldB p (10 + 4 * k) 2 }
  else
    let mask := fieldB p 0 2
    ((List.range 16).filter fun k => decide (bits mask k 1 = 1)).foldl (fun st k =>
      if c.1 = 16 then
        let d := st.dutyOf b k
        let x := d.2.br b
        d.2.setBr b { x with strings := tabSet FlString.init x.strings k ⟨d.1, fieldB p 2 2, fieldB p 4 2, st.clk⟩ }
      else
        let x := st.br b
        if x.flOn k then st.setBr b { x.judge k with diagged := if x.diagged.contains k then x.diagged else k :: x.diagged }
        else st) s

/-! ### The flip (R186, R190) -/

/-- R186, R198, R262: a flip that is performed applies the filled buffer, and what commands left for it. -/
def State.performFlip (s : State) (b : BridgeId) (wfn : Nat) (predicted : Bool) : State :=
  let s1 := s.noteJudged b
  let x := s1.br b
  let on := x.driversNext.getD x.drivers
  let s2 := s1.setBr b { x with
    drivers := on, driversNext := none, shown := if on then x.buf else [], buf := [], rows := []
    flipWfn := wfn, lastPredicted := predicted, sched := none, readySent := false, flNext := [] }
  x.flNext.foldl (fun st c => st.flEffect b c) s2

/-- R190: the DROP_REPORT of a flip just performed. -/
def State.dropReport (s : State) (b : BridgeId) (pos wfn : Nat) (missed : Bool) : State :=
  let x := s.br b
  let runs := seqRuns x.found
  let shown := runs.take 32
  (s.setBr b { x with found := [] }).sendUp b (jtlPkt 20 pos 0 (leBytes 6 wfn ++
    leBytes 1 (b2n missed + 2 * b2n (decide (32 < runs.length))) ++ leBytes 1 shown.length ++ leBytes 4 x.high ++ zeroBytes 8 ++
    shown.flatMap fun r => leBytes 4 r.1 ++ leBytes 2 r.2 ++ zeroBytes 2))

/-- TILE_FLIP (R186, R190): the scheduled flip; without a FLIP, the flip that PERIOD predicts, three times; then none until a
FLIP arrives, and from the first flip that is not performed no code is applied. -/
def execTileFlip (b : BridgeId) (s : State) : Host.Outcome State Fault Refusal :=
  let x := s.br b
  match x.pos with
  | none => .next s
  | some pos =>
    match x.sched with
    | some (wfn, due, last, n) =>
      let s1 := (s.advanceTo (cdiv due 125)).performFlip b wfn false
      let s2 := s1.setBr b { s1.br b with
        flipAt := due, predicted := 0, canPredict := !last, quiet := last, nextWfn := if last then none else some (wfn + 1)
        dropped := (s1.br b).dropped + (n - x.rows.length) }
      .next (if x.rows.length < n then s2.dropReport b pos wfn false else s2)
    | none =>
      if x.canPredict then
        let due := x.flipAt + x.period * 16
        let s1 := s.advanceTo (cdiv due 125)
        if x.predicted < 3 then
          let wfn := x.flipWfn + 1
          let s2 := s1.performFlip b wfn true
          .next ((s2.setBr b { s2.br b with
            flipAt := due, predicted := x.predicted + 1, nextWfn := some (wfn + 1) }).dropReport b pos wfn true)
        else .next (s1.setBr b { s1.br b with canPredict := false, nextWfn := none, shown := [], buf := [], rows := [] })
      else if x.shown = [] then .next s
      else
        let s1 := s.advanceTo (cdiv (x.flipAt + x.period * 16) 125)
        .next (s1.setBr b { s1.br b with shown := [], buf := [], rows := [] })

/-! ### Telemetry (R199, R267) -/

/-- R264: the verdict on a pulse: its current and voltage against the ISET and SHORT_V it was emitted at. -/
def verdictOf (iset shortV cur volt : Nat) : Nat := if 2 * cur < iset then 2 else if volt < shortV then 3 else 1

/-- R267: the mean duty of the enabled strings: exact where it is a whole number, else rounded either way. -/
def State.meanDuty (s : State) (b : BridgeId) : Nat × State :=
  let on := (List.range 16).filter (s.br b).flOn
  let q := on.foldl (fun (q : Nat × State) k => let d := q.2.dutyOf b k; (q.1 + d.1, d.2)) (0, s)
  if on = [] then (0, q.2)
  else if q.1 % on.length = 0 then (q.1 / on.length, q.2)
  else let d := q.2.draw 2; (q.1 / on.length + d.1, d.2)

/-- R199, R267: send a record, and start its counts afresh. -/
def State.sendTelemetry (s : State) (b : BridgeId) (m : TelMeas) : State :=
  let s1 := s.noteJudged b
  let duty := s1.meanDuty b
  let s2 := duty.2
  let x := s2.br b
  let fading := (List.range 16).any fun k => (x.string k).fading s2.clk
  let verdict := x.judged.map fun j =>
    let q := m.strings.getD j.1 (0, 0)
    verdictOf j.2.1 j.2.2 q.1 q.2 * 4 ^ j.1
  let flags := b2n m.tempValid + 2 * b2n x.drivers + 4 * b2n x.lastPredicted
  (s2.setBr b { x with cwCorr := 0, cwUncorr := 0, nakSent := 0, dropped := 0, judged := [], diagged := [] }).sendUp b
    (jtlPkt 22 (x.pos.getD 0) 0 (leBytes 6 x.flipWfn ++ leBytes 2 flags ++ leBytes 2 m.panelTemp.toNat ++ leBytes 2 m.bridgeTemp.toNat ++
      leBytes 2 m.vgh.toNat ++ leBytes 2 m.vgl.toNat ++ leBytes 2 m.vcom.toNat ++ zeroBytes 2 ++ leBytes 4 x.cwCorr ++
      leBytes 4 x.cwUncorr ++ leBytes 2 x.nakSent ++ leBytes 2 x.dropped ++ leBytes 2 m.ambient.toNat ++
      leBytes 2 (b2n m.sensor + 2 * b2n fading) ++ leBytes 4 verdict.sum ++ leBytes 2 duty.1 ++ leBytes 2 x.flEn ++
      leBytes 2 ((x.diagged.map fun k => 2 ^ k).sum) ++ zeroBytes 2 ++ zeroBytes 8))

/-- Whether the device holds the tile behind a bridge UP. -/
def State.bridgeUp (s : State) (b : BridgeId) : Bool :=
  match (s.br b).pos with
  | some pos => (s.tileAt (s.drivingPort b) pos).any s.tileUp
  | none => false

/-- TELEMETRY_PERIOD (R199, R186): every TELPER ms, from an UP tile whose reports have not stopped. -/
def execTelemetryPeriod (b : BridgeId) (m : TelMeas) (s : State) : Host.Outcome State Fault Refusal :=
  let x := s.br b
  if s.bridgeUp b && !x.quiet then
    let s1 := (s.advanceTo x.telAt).sendTelemetry b m
    .next (s1.setBr b { s1.br b with telAt := s1.clk + msC x.telPer })
  else .next s

/-! ### Tile commands (R197, R198, R261) -/

/-- R197: the TILE_RSP. -/
def tileRspPkt (pos tag tstatus : Nat) (data : List Byte) : List Byte :=
  jtlPkt 21 pos 0 (leBytes 2 tag ++ leBytes 1 tstatus ++ zeroBytes 5 ++ data)

/-- R197: the response stored for a TAG answered within the last second. -/
def State.storedRsp (s : State) (b : BridgeId) (tag : Nat) : Option (Nat × Nat × Nat × List Byte) :=
  (s.br b).tags.find? fun q => decide (q.1 = tag) && decide (s.clk ≤ q.2.1 + msC 1000)

/-- R176, R197: a TILE_CMD is forwarded; the tile at position `addr` executes it once per TAG, and answers a repeat within 1 s from the
stored response. `f` gives the effect, TSTATUS and DATA. -/
def State.tileCommand (s : State) (b : BridgeId) (addr tag op : Nat) (param : List Byte) (f : State → State × Nat × List Byte) : State :=
  let s0 := s.forward b (tileCmdPkt addr tag op param)
  match (s0.br b).pos with
  | none => s0
  | some pos =>
    if pos ≠ addr then s0
    else match s0.storedRsp b tag with
    | some q => s0.sendUp b (tileRspPkt pos tag q.2.2.1 q.2.2.2)
    | none =>
      let r := f s0
      let x := r.1.br b
      let kept := x.tags.filter fun q => decide (q.1 ≠ tag) && decide (s.clk ≤ q.2.1 + msC 1000)
      (r.1.setBr b { x with tags := (tag, s.clk, r.2.1, r.2.2) :: kept }).sendUp b (tileRspPkt pos tag r.2.1 r.2.2)

/-- TC_NOP (R198). -/
def execTcNop (b : BridgeId) (head : TcHead) (s : State) : Host.Outcome State Fault Refusal :=
  .next (s.tileCommand b head.addr.toNat head.tag.toNat 1 [] fun t => (t, 0, []))

/-- TC_TEL_NOW (R198, R199). -/
def execTcTelNow (b : BridgeId) (head : TcHead) (m : TelMeas) (s : State) : Host.Outcome State Fault Refusal :=
  .next (s.tileCommand b head.addr.toNat head.tag.toNat 2 [] fun t => (t.sendTelemetry b m, 0, []))

/-- TC_PANEL_ON (R198): from the next flip performed. -/
def execTcPanelOn (b : BridgeId) (head : TcHead) (s : State) : Host.Outcome State Fault Refusal :=
  .next (s.tileCommand b head.addr.toNat head.tag.toNat 3 [] fun t => (t.setBr b { t.br b with driversNext := some true }, 0, []))

/-- TC_PANEL_OFF (R198): from the next flip performed. -/
def execTcPanelOff (b : BridgeId) (head : TcHead) (s : State) : Host.Outcome State Fault Refusal :=
  .next (s.tileCommand b head.addr.toNat head.tag.toNat 4 [] fun t => (t.setBr b { t.br b with driversNext := some false }, 0, []))

/-- TC_CLEAR_COUNTERS (R198). -/
def execTcClearCounters (b : BridgeId) (head : TcHead) (s : State) : Host.Outcome State Fault Refusal :=
  .next (s.tileCommand b head.addr.toNat head.tag.toNat 5 [] fun t => (t.setBr b { t.br b with cwCorr := 0, cwUncorr := 0, nakSent := 0, dropped := 0 }, 0, []))

/-- TC_IDENTIFY (R198): PARAM is one byte, the seconds to blink; any other length is BAD_PARAM. -/
def execTcIdentify (b : BridgeId) (head : TcHead) (param : List Byte) (s : State) : Host.Outcome State Fault Refusal :=
  .next (s.tileCommand b head.addr.toNat head.tag.toNat 6 param fun t =>
    match param with
    | [n] => (t.setBr b { t.br b with locator := if n = 0 then 0 else t.clk + msC (n.toNat * 1000) }, 0, [])
    | _ => (t, 2, []))

/-- TC_RESET_BRIDGE (R198, R192): the bridge answers and resets; its hops leave UP, and the TF holds the tile and those beyond
it LOST. -/
def execTcResetBridge (b : BridgeId) (head : TcHead) (s : State) : Host.Outcome State Fault Refusal :=
  let s1 := s.tileCommand b head.addr.toNat head.tag.toNat 7 [] fun t => (t, 0, [])
  match (s.br b).pos with
  | none => .next s1
  | some pos =>
    if pos ≠ head.addr.toNat ∨ (s.storedRsp b head.tag.toNat).isSome then .next s1 else
    let p := s.drivingPort b
    let down (st : State) (far : Bool) : State :=
      let k := hopKey (.bridge b far)
      st.setHop k { st.hop k with step := .detect, since := st.clk, lostCw := [], sync := false }
    let s2 := (down (down s1 false) true).setBr b Bridge.init
    .next ((s2.cutDomain p pos).noteBreak p pos)

/-- R198: a frontlight command waits for the next flip. -/
def State.flQueue (s : State) (b : BridgeId) (op : Nat) (param : List Byte) : State :=
  s.setBr b { s.br b with flNext := (s.br b).flNext ++ [(op, param)] }

/-- TC_FL_SET (R261, R262). -/
def execTcFlSet (b : BridgeId) (head : TcHead) (param : List Byte) (s : State) : Host.Outcome State Fault Refusal :=
  .next (s.tileCommand b head.addr.toNat head.tag.toNat 16 param fun t => if param.length = 8 then (t.flQueue b 16 param, 0, []) else (t, 2, []))

/-- TC_FL_CONFIG (R261): PERIOD from 40 to 1,000 µs. -/
def execTcFlConfig (b : BridgeId) (head : TcHead) (param : List Byte) (s : State) : Host.Outcome State Fault Refusal :=
  .next (s.tileCommand b head.addr.toNat head.tag.toNat 17 param fun t =>
    if param.length = 72 ∧ 40 ≤ fieldB param 0 2 ∧ fieldB param 0 2 ≤ 1000 then (t.flQueue b 17 param, 0, []) else (t, 2, []))

/-- TC_FL_DIAG (R261, R263). -/
def execTcFlDiag (b : BridgeId) (head : TcHead) (param : List Byte) (s : State) : Host.Outcome State Fault Refusal :=
  .next (s.tileCommand b head.addr.toNat head.tag.toNat 18 param fun t => if param.length = 4 then (t.flQueue b 18 param, 0, []) else (t, 2, []))

/-- TC_FL_READ (R261): the configuration in force, then duty and fade target of each string. -/
def execTcFlRead (b : BridgeId) (head : TcHead) (s : State) : Host.Outcome State Fault Refusal :=
  .next (s.tileCommand b head.addr.toNat head.tag.toNat 19 [] fun t =>
    let x := t.br b
    let conf := leBytes 2 x.flPeriod ++ leBytes 2 x.flEn ++ zeroBytes 4 ++
      (List.range 16).flatMap fun k => leBytes 2 (x.flIset.getD k 0) ++ leBytes 2 (x.flShortV.getD k 0)
    let r := (List.range 16).foldl (fun (q : List Byte × State) k =>
      let d := q.2.dutyOf b k
      (q.1 ++ leBytes 2 d.1 ++ leBytes 2 (x.string k).target, d.2)) ([], t)
    (r.2, 0, conf ++ r.1))

/-- TILE_OPCODE_UNKNOWN (R198, R261): UNKNOWN_OP, for every opcode without a meaning. -/
def execTileOpcodeUnknown (b : BridgeId) (head : TcHead) (what : TcOther) (s : State) : Host.Outcome State Fault Refusal :=
  if [1, 2, 3, 4, 5, 6, 7, 16, 17, 18, 19].contains what.opcode.toNat then .next s
  else .next (s.tileCommand b head.addr.toNat head.tag.toNat what.opcode.toNat what.param fun t => (t, 1, []))

end Sys2Proof.Machine
end

