-- ==== Sys2Proof/Machine/Snap.lean ====
section
/-! DEFINITION. Commands that move data (R326): where their bytes lie, film packages (R51, R52), snapshots (R61 to R64). -/

namespace Sys2Proof.Machine

/-! ### Address spaces (R326) -/

/-- R326, R344, R402: whether `len` bytes from `addr` on exist in a space: all of SPACE 0; the window as SPACE 1, but not for a
boot ROM without DRAM. -/
def State.spaceOk (s : State) (space addr len : Nat) : Bool :=
  decide (space = 0) || (!(s.glb.rom && decide (s.glb.safeCause = 3)) && decide (addr + len ≤ s.bar2Size))

/-- R287, R292: whether an access waits for a channel of BAR2. -/
def State.spaceHeld (s : State) (space addr len : Nat) : Bool := decide (space = 1) && decide (0 < len) && s.bar2Held addr len

/-- R326: the bytes of a source, or none where the DMA fails. -/
def State.spaceRead (s : State) (space addr len : Nat) (dma : HostDma) : Option (List Byte) × State :=
  if space = 1 then
    let s1 := s.reachBar2 addr len
    (some (s1.bar2Bytes addr len), s1)
  else match dma with
    | .ok bs => if s.net.pcie.bme then (some bs, s) else (none, s.dmaErr)
    | .failed => (none, s.dmaErr)

/-- R326: bytes go to their destination; whether they did. -/
def State.spaceWrite (s : State) (space addr : Nat) (bs : List Byte) (dma : HostDma) : Bool × State :=
  if bs = [] then (true, s)
  else if space = 1 then (true, (s.reachBar2 addr bs.length).bar2Store addr (bs.map some))
  else if dma = .failed ∨ !s.net.pcie.bme then (false, s.dmaErr)
  else (true, s.emit (.hostWrite addr bs))

/-- R327: start a long-running command that moves `len` bytes, unless its range does not exist or its group is busy. -/
def State.startMove (s : State) (grp : RunGroup) (org : Origin) (tag op : Nat) (p : List Byte) (space addr len : Nat) : State :=
  if s.spaceOk space addr len then s.startRun grp org tag op p else s.errCmd org tag op 2

/-! ### Tiles in use (R52, R62) -/

/-- R52, R62: a pixel of the tile is owned, or it lies in the region of a session that is admitted and not completed, and with
`waits` of one that is DEFERRED. -/
def State.tileBusy (s : State) (i : Nat) (waits : Bool) : Bool :=
  s.tileOwned i || (s.inMap i && s.sch.slots.any fun q => q.2.any fun x =>
    (decide (3 ≤ x.state) && decide (x.state ≤ 6) || (waits && decide (x.state = 1))) && s.regionTouches x.req i)

/-! ### Film packages (R51, R52) -/

/-- The package that slot `n` holds for later commands: one loaded since the last flip, or the one in force. -/
def State.pkgNow (s : State) (n : Nat) : Option Pkg := (tabGet none s.film.pkgPend n).or (s.pkg n)

/-- The slot a tile is bound to for later commands, as slot + 1. -/
def State.bindNow (s : State) (i : Nat) : Nat :=
  if tabGet 0 s.film.bindPend i = 0 then tabGet 0 s.film.bind i else tabGet 0 s.film.bindPend i

/-- R52: a tile bound to package slot `n` is in use. -/
def State.slotBusy (s : State) (n : Nat) : Bool :=
  (List.range 1024).any fun i => decide (s.bindNow i = n + 1) && s.tileBusy i false

/-- R51: the package area of 64 MiB holds a package of `size` bytes in slot `n` beside those of the other slots. -/
def State.pkgFits (s : State) (n size : Nat) : Bool :=
  decide ((((List.range 8).filter (· ≠ n)).map fun k => match s.pkgNow k with
    | some p => p.size
    | none => 0).sum + size ≤ regionSize .packages)

/-- FILM_LOAD (R51, R52, R325 to R327): starts to read the package. -/
def execFilmLoad (src : CmdSource) (s : State) : Host.Outcome State Fault Refusal :=
  .next (s.runCmdOf .film src 32 fun org tag p st =>
    if st.slotBusy (fieldB p 0 1) then st.errCmd org tag 32 10
    else st.startMove .film org tag 32 p (fieldB p 1 1) (fieldB p 8 8) (fieldB p 4 4))

/-- R51, R52, R55, R56, R332: the end of FILM_LOAD: the package lies in CH1 (R271) and is checked whole. With tiles bound to the
slot it takes effect, and the command completes, at the next flip; with none, at once. -/
def State.endFilmLoad (s0 : State) (r : Running) (bs : List Byte) : State :=
  let s := s0.ctrlReach 1
  let n := fieldB r.param 0 1
  if s.slotBusy n then s.endRun r 10 0 []
  else match pkgOf bs with
    | some p =>
      if s.pkgFits n bs.length then
        if (List.range 1024).any fun i => decide (s.bindNow i = n + 1) then
          ({ s with film.pkgPend := tabSet none s.film.pkgPend n (some p), qm.running := s.qm.running.erase r } : State).doneAtFlip
            r.org r.tag 32 bs.length
        else ({ s with film.pkgs := tabSet none s.film.pkgs n (some p) } : State).endRun r 0 bs.length []
      else s.endRun r 14 0 []
    | none => s.endRun r 14 0 []

/-- FILM_BIND (R51, R52, R332): the binding takes effect, and the command completes, at the next flip. -/
def execFilmBind (src : CmdSource) (s : State) : Host.Outcome State Fault Refusal :=
  .next (s.runCmd src 33 fun org tag p st =>
    let n := fieldB p 0 1
    let count := fieldB p 4 2
    let tiles := (List.range count).map (fieldB p 2 2 + ·)
    if (st.pkgNow n).isNone then st.errCmd org tag 33 4
    else if tiles.any fun i => st.tileBusy i false then st.errCmd org tag 33 10
    else ({ st with film.bindPend := tiles.foldl (fun t i => tabSet 0 t i (n + 1)) st.film.bindPend } : State).doneAtFlip org tag 33 count)

/-! ### Snapshot images (R61) -/

/-- Rounded up to a multiple of 64. -/
def up64 (n : Nat) : Nat := cdiv n 64 * 64

/-- R61: the bytes of a tile's data before its padding. -/
def tileBytes (w h : Nat) : Nat := 10 * w * h

/-- R61, R62: the planes of a tile: each PSR with no owner and not active, then the targets. -/
def State.tileImage (s : State) (i : Nat) : List Byte :=
  let xs (f : Nat → Nat → List Byte) : List Byte :=
    (List.range (s.tileH i)).flatMap fun y => (List.range (s.tileW i)).flatMap fun x => f x y
  let body := xs (fun x y => leBytes 8 ((s.psr i x y).release.toWord).toNat) ++ xs (fun x y => leBytes 2 (s.target i x y))
  sliceB body 0 (up64 (tileBytes (s.tileW i) (s.tileH i)))

/-- R61: the tiles of a range that a snapshot lists. -/
def State.rangeTiles (s : State) (first count : Nat) : List Nat := s.mapTiles.filter fun i => decide (first ≤ i) && decide (i < first + count)

/-- R61: the size of an image of tiles. -/
def State.imageSize (s : State) (tiles : List Nat) : Nat :=
  up64 (256 + 32 * tiles.length) + (tiles.map fun i => up64 (tileBytes (s.tileW i) (s.tileH i))).sum

/-- R61: a directory entry. -/
def State.dirEntry (s : State) (i off : Nat) : List Byte :=
  let id : Nat × Nat × Nat := match s.tilePkg i with
    | some p => (b2n p.table, p.lotId, p.stateSpace)
    | none => (0, 0, 0)
  leBytes 2 i ++ leBytes 1 id.1 ++ [0] ++ leBytes 2 (s.tileW i) ++ leBytes 2 (s.tileH i) ++ leBytes 8 id.2.1 ++ leBytes 4 id.2.2 ++
    zeroBytes 4 ++ leBytes 8 off

/-- R61: the directory, the data of the first tile lying at `off`. -/
def State.directory (s : State) (off : Nat) : List Nat → List Byte
  | [] => []
  | i :: l => s.dirEntry i off ++ s.directory (off + up64 (tileBytes (s.tileW i) (s.tileH i))) l

/-- R61: the image of tiles. -/
def State.snapshotImage (s : State) (tiles : List Nat) : List Byte :=
  let head := leBytes 4 0x53534D4C ++ leBytes 2 1 ++ leBytes 2 tiles.length ++ leBytes 8 (s.imageSize tiles) ++
    leBytes 8 (if s.wallValid then s.nowNs else 0) ++ leBytes 8 (s.time.wfn % 2 ^ 48) ++ zeroBytes 224
  let start := up64 (256 + 32 * tiles.length)
  withCrc 32 (sliceB (head ++ s.directory start tiles) 0 start ++ tiles.flatMap s.tileImage)

/-! ### SNAPSHOT_SAVE (R62) -/

/-- SNAPSHOT_SAVE (R61, R62, R325): starts to copy the tiles of the range that are in the tile map. -/
def execSnapshotSave (src : CmdSource) (s : State) : Host.Outcome State Fault Refusal :=
  .next (s.runCmdOf .snapshot src 64 fun org tag p st =>
    let tiles := st.rangeTiles (fieldB p 0 2) (fieldB p 2 2)
    let size := st.imageSize tiles
    if !st.frameLoop then st.errCmd org tag 64 11
    else if tiles = [] then st.errCmd org tag 64 4
    else if tiles.any fun i => st.tileBusy i true then st.errCmd org tag 64 10
    else if fieldB p 16 8 < size then st.errCmd org tag 64 8
    else if st.spaceOk (fieldB p 4 1) (fieldB p 8 8) size then { st.startRun .snapshot org tag 64 p with film.snapTiles := tiles }
    else st.errCmd org tag 64 2)

/-- The end of SNAPSHOT_SAVE: the planes of its tiles have been read (R285, R287). -/
def State.endSnapshotSave (s0 : State) (r : Running) (dma : HostDma) : State :=
  let s := (s0.grantReq (.run .snapshot) bulkChans).touchPlanes
  let tiles := s.film.snapTiles
  let img := s.snapshotImage tiles
  let q := ({ s with film.snapTiles := [] }).spaceWrite (fieldB r.param 4 1) (fieldB r.param 8 8) img dma
  if q.1 then q.2.endRun r 0 tiles.length (leBytes 8 img.length) else q.2.endRun r 7 0 []

/-! ### SNAPSHOT_RESTORE (R63, R64) -/

/-- R61: entry `k` of an image's directory. -/
def dirAt (b : List Byte) (k : Nat) : List Byte := sliceB b (256 + 32 * k) 32

/-- R63: whether an image of `b` is whole: its header and its directory. -/
def imageOk (b : List Byte) : Bool :=
  let n := fieldB b 6 2
  let d (k o m : Nat) : Nat := fieldB (dirAt b k) o m
  decide (256 ≤ b.length) && decide (fieldB b 0 4 = 0x53534D4C) && decide (fieldB b 4 2 = 1) && decide (1 ≤ n) &&
    decide (n ≤ 1024) && decide (fieldB b 8 8 = b.length) && crcOk 32 b && decide (256 + 32 * n ≤ b.length) &&
    rising ((List.range n).map fun k => d k 0 2) &&
    (List.range n).all fun k => decide (d k 2 1 ≤ 1) && decide (d k 24 8 + tileBytes (d k 4 2) (d k 6 2) ≤ b.length)

/-- R63: the tiles that an image lists. -/
def imageTiles (b : List Byte) : List Nat := (List.range (fieldB b 6 2)).map fun k => fieldB (dirAt b k) 0 2

/-- R61: the bytes of an image's header and directory. -/
def headSize (b : List Byte) : Nat := 256 + 32 * min 1024 (fieldB b 6 2)

/-- R287, R292: a SNAPSHOT_RESTORE that is next waits for a channel that its header and directory lie on in the window. -/
def State.headWaits (s : State) (src : CmdSource) : Bool := match s.headCmd src with
  | some c =>
    let addr := fieldB c.param 8 8
    decide (c.opcode = 65) && decide (c.badStatus = none) && s.mayStart c && s.frameLoop && decide (fieldB c.param 1 1 = 1) &&
      s.spaceOk 1 addr (fieldB c.param 16 8) && s.bar2Held addr (headSize (s.bar2Bytes addr 256))
  | none => false

/-- SNAPSHOT_RESTORE (R62, R63): reads the header and directory, which tell from now on which tiles are listed, and goes on to
read the image (assumption 61). -/
def execSnapshotRestore (start : RestoreStart) (s : State) : Host.Outcome State Fault Refusal :=
  if s.headWaits start.src then .next (s.holdReq (.command start.src))
  else .next (s.runCmdOf .snapshot start.src 65 fun org tag p st =>
    let addr := fieldB p 8 8
    if !st.frameLoop then st.errCmd org tag 65 11
    else if !st.spaceOk (fieldB p 1 1) addr (fieldB p 16 8) then st.errCmd org tag 65 2
    else
      let n := headSize (st.bar2Bytes addr 256)
      let q := if fieldB p 1 1 = 1 then (some (st.bar2Bytes addr n), st.grantBar2 (.command start.src) addr n)
        else st.spaceRead 0 addr (fieldB p 16 8) start.head
      match q.1 with
      | none => q.2.errCmd org tag 65 7
      | some b => { q.2.startRun .snapshot org tag 65 p with film.snapTiles := imageTiles (sliceB b 0 (headSize b)) })

/-- R63: whether each entry has the size that the tile map gives its tile. -/
def State.imageFits (s : State) (b : List Byte) : Bool :=
  (List.range (fieldB b 6 2)).all fun k =>
    let e := dirAt b k
    let i := fieldB e 0 2
    decide (i < 1024) && s.inMap i && decide (fieldB e 4 2 = s.tileW i) && decide (fieldB e 6 2 = s.tileH i)

/-- R63: whether a directory entry matches the package bound to its tile. -/
def State.entryMatches (s : State) (e : List Byte) (i : Nat) : Bool := match s.tilePkg i with
  | some p => if p.table then decide (fieldB e 2 1 = 1) && decide (fieldB e 8 8 = p.lotId)
    else decide (fieldB e 2 1 = 0) && decide (fieldB e 16 4 = p.stateSpace)
  | none => false

/-- R64: the AGE that a FULL restore gives a pixel of a segment whose last tick is `t`. -/
def State.restoredAge (s : State) (saveTime a : Nat) (t : Nat) : Nat :=
  if saveTime ≠ 0 ∧ s.wallValid then
    let n := ((s.nowNs - saveTime) * s.time.rate) / 64000000000
    ageCarry 16 a ((t : Int) - n) t
  else 15

/-- R63: what a restore writes to a pixel, from the saved record `q`. -/
def restorePsr (p q : Psr) (full fits : Bool) (age : Nat) : Psr :=
  let p1 := { p with trim := q.trim, defect := q.defect, session := noSession, active := false }
  if !full then p1
  else
    let p2 := { p1 with age := age }
    if fits then { p2 with s0 := q.s0, s1 := q.s1, s2 := q.s2, s3 := q.s3, ledger := q.ledger, unknown := q.unknown }
    else p2.makeUnknown

/-- R63, R64: a pixel of a tile is restored from an image whose planes begin at `off`. -/
def State.restorePixel (s : State) (b : List Byte) (i off w h : Nat) (full fits : Bool) (x y : Nat) : State :=
  let k := y * w + x
  let q := Psr.ofWord (BitVec.ofNat 64 (fieldB b (off + 8 * k) 8))
  let age := s.restoredAge (fieldB b 16 8) q.age (s.segTick i y (x / 64))
  let s1 := s.setPsr i x y (restorePsr (s.psr i x y) q full fits age)
  if full then s1.setTarget i x y (fieldB b (off + 8 * w * h + 2 * k) 2) else s1

/-- R63, R117: one tile is restored. A FULL restore of known states into the whole tile clears its UNKNOWN flag; one that leaves
an unknown pixel sets it. -/
def State.restoreTile (s : State) (b e : List Byte) (full : Bool) : State :=
  let i := fieldB e 0 2
  let w := fieldB e 4 2
  let h := fieldB e 6 2
  let fits := s.entryMatches e i
  let s1 := (List.range h).foldl (fun st y => (List.range w).foldl (fun st x =>
    st.restorePixel b i (fieldB e 24 8) w h full fits x y) st) s
  if full then
    let known := (List.range h).all fun y => (List.range w).all fun x => !(s1.psr i x y).unknown
    s1.modTile i fun t => { t with unknown := !known }
  else s1

/-- R62 to R64: the end of SNAPSHOT_RESTORE, the image having been read whole. -/
def State.endSnapshotRestore (s0 : State) (r : Running) (b : List Byte) : State :=
  let s := { s0.grantReq (.run .snapshot) bulkChans with film.snapTiles := [] }
  if !imageOk b then s.endRun r 15 0 []
  else if !s.imageFits b then s.endRun r 16 0 []
  else if (imageTiles b).any fun i => s.tileBusy i true then s.endRun r 10 0 []
  else
    let full := decide (fieldB r.param 0 1 = 0)
    let n := fieldB b 6 2
    ((List.range n).foldl (fun st k => st.restoreTile b (dirAt b k) full) s.touchPlanes).endRun r 0 n []

end Sys2Proof.Machine
end

