-- ==== Sys2Proof/Machine/Cmds.lean ====
section
/-! DEFINITION. The other commands of R325: configuration, power, frontlight, registers, BAR2, the log, the dump, the odometer, images,
resets and keys; the end of a long-running command (R327), and what a PCIe reset ends (R345, R390). -/

namespace Sys2Proof.Machine

/-! ### Commands that act at once -/

/-- NOP (R325). -/
def execNop (src : CmdSource) (s : State) : Host.Outcome State Fault Refusal :=
  .next (s.runCmd src 0 fun org tag _ st => st.okCmd org tag 0 0 [])

/-- PLACEMENT_WRITE (R150): the shadow entry. -/
def execPlacementWrite (src : CmdSource) (s : State) : Host.Outcome State Fault Refusal :=
  .next (s.runCmd src 48 fun org tag p st =>
    let e := fieldB p 0 2
    ((List.range 16).foldl (fun t w => t.putReg (placeOff e w) (fieldB p (4 + 4 * w) 4)) st).okCmd org tag 48 0 [])

/-- R325: the commit unit that BLOCK and UNIT name. -/
def blockUnit (block unit : Nat) : Nat :=
  if block = 0 then unitWsa else if block = 1 then unitSch else if block = 2 then unitMp else if block = 3 then unitTf unit
  else if block = 4 then unitTime else if block = 5 then unitRail unit else unitRc

/-- CONFIG_COMMIT (R17, R325): RESULT names the flip at which the set becomes live, 0 for SCH. -/
def execConfigCommit (src : CmdSource) (s : State) : Host.Outcome State Fault Refusal :=
  .next (s.runCmd src 49 fun org tag p st =>
    let q := st.commit (blockUnit (fieldB p 0 1) (fieldB p 1 1))
    if q.1 then q.2.okCmd org tag 49 (if fieldB p 0 1 = 1 then 0 else (st.time.wfn + 1) % 2 ^ 32) [] else q.2.errCmd org tag 49 9)

/-- R380, R381: why an entry into PLATEAU is refused. -/
def State.entryRefused (s : State) : Option Nat :=
  if s.pwr.state ≠ .hold ∨ s.grpRuns .film ∨ s.grpRuns .snapshot then some 11
  else s.switchRefused 1

/-- POWER_SET (R380 to R384). -/
def execPowerSet (src : CmdSource) (s : State) : Host.Outcome State Fault Refusal :=
  .next (s.runCmd src 80 fun org tag p st =>
    let want := fieldB p 0 1
    if (st.runOf .powerSet).isSome ∨ st.pwr.transit ≠ .none then st.errCmd org tag 80 1
    else if want = 2 then
      if st.pwr.state = .plateau then match st.exitRefused with
        | some e => (st.countRefused e).errCmd org tag 80 e
        | none => (st.startRun .powerSet org tag 80 p).beginExit
      else st.okCmd org tag 80 st.pwr.state.code []
    else if st.pwr.state = .plateau then st.okCmd org tag 80 4 []
    else match st.entryRefused with
      | some e => (if e = 11 then st else st.countRefused e).errCmd org tag 80 e
      | none => { st.startRun .powerSet org tag 80 p with pwr.transit := .entryFlip, pwr.start := st.clk, pwr.groups := [] })

/-- R268: a parameter block is kept until the next evaluation. -/
def State.keepBlock (s : State) (op : Nat) (p : List Byte) : State := { s with fl.blocks := s.fl.blocks ++ [(op, p)] }

/-- FL_GLOBAL_WRITE (R268). -/
def execFlGlobalWrite (src : CmdSource) (s : State) : Host.Outcome State Fault Refusal :=
  .next (s.runCmd src 96 fun org tag p st => (st.keepBlock 96 p).okCmd org tag 96 0 [])

/-- FL_ZONE_WRITE (R268). -/
def execFlZoneWrite (src : CmdSource) (s : State) : Host.Outcome State Fault Refusal :=
  .next (s.runCmd src 97 fun org tag p st => (st.keepBlock 97 p).okCmd org tag 97 0 [])

/-- FL_TILE_BIND (R268). -/
def execFlTileBind (src : CmdSource) (s : State) : Host.Outcome State Fault Refusal :=
  .next (s.runCmd src 98 fun org tag p st => (st.keepBlock 98 p).okCmd org tag 98 0 [])

/-- R268: the answer of FL_STATUS_READ: marks, the level sent, Ymax, flags and zone of tile `i` (assumption 62). -/
def State.flStatus (s : State) (i : Nat) : List Byte :=
  let f := s.flTile i
  let marks := ((List.range 16).map fun k => tabGet 0 f.marks k % 4 * 4 ^ k).sum
  let derated := decide (s.flYmax i < 65535)
  let diag := f.short.any fun q => q.2.isSome
  leBytes 4 marks ++ leBytes 2 f.y0 ++ leBytes 2 (s.flYmax i) ++ leBytes 2 (b2n derated + 2 * b2n (s.flUnknown i) + 4 * b2n diag) ++
    leBytes 1 f.zone

/-- FL_STATUS_READ (R268, R325). -/
def execFlStatusRead (src : CmdSource) (s : State) : Host.Outcome State Fault Refusal :=
  .next (s.runCmd src 99 fun org tag p st =>
    let i := fieldB p 0 2
    if i < 1024 ∧ st.inMap i then st.okCmd org tag 99 0 (st.flStatus i) else st.errCmd org tag 99 4)

/-- REG_READ (R7, R325): as a PCIe read, with the capture latch of its own source. -/
def execRegRead (src : CmdSource) (s : State) : Host.Outcome State Fault Refusal :=
  .next (s.runCmd src 112 fun org tag p st =>
    let q := st.readReg (.command src) (fieldB p 0 4)
    q.2.okCmd org tag 112 q.1 [])

/-- REG_WRITE (R325): as a PCIe write. One that resets the device cold is not answered (assumption 63). -/
def execRegWrite (src : CmdSource) (s : State) : Host.Outcome State Fault Refusal :=
  .next (s.runCmd src 113 fun org tag p st =>
    let t := st.writeReg (.command src) (fieldB p 0 4) (fieldB p 4 4)
    if t.pwr.state = .boot then t else t.okCmd org tag 113 0 [])

/-- R287, R292: a BAR2 command of opcode `op` that is next waits for a channel: its access is the `n p` bytes from OFFSET on. -/
def State.barWaits (s : State) (src : CmdSource) (op : Nat) (n : List Byte → Nat) : Bool := match s.headCmd src with
  | some c => decide (c.opcode = op) && decide (c.badStatus = none) && s.served op &&
      decide (fieldB c.param 0 8 + n c.param ≤ s.bar2Size) && s.bar2Held (fieldB c.param 0 8) (n c.param)
  | none => false

/-- BAR2_WRITE (R325). -/
def execBar2Write (src : CmdSource) (s : State) : Host.Outcome State Fault Refusal :=
  if s.barWaits src 114 (fun p => p.length - 8) then .next (s.holdReq (.command src))
  else .next (s.runCmd src 114 fun org tag p st =>
    let o := fieldB p 0 8
    let bs := p.drop 8
    if st.bar2Size < o + bs.length then st.errCmd org tag 114 2
    else ((st.grantBar2 (.command src) o bs.length).bar2Store o (bs.map some)).okCmd org tag 114 bs.length [])

/-- BAR2_READ (R325). -/
def execBar2Read (src : CmdSource) (s : State) : Host.Outcome State Fault Refusal :=
  if s.barWaits src 115 (fun p => fieldB p 8 4) then .next (s.holdReq (.command src))
  else .next (s.runCmd src 115 fun org tag p st =>
    let o := fieldB p 0 8
    let n := fieldB p 8 4
    if st.bar2Size < o + n then st.errCmd org tag 115 2
    else
      let s1 := st.grantBar2 (.command src) o n
      s1.okCmd org tag 115 0 (s1.bar2Bytes o n))

/-- DUMP_RELEASE (R407). -/
def execDumpRelease (src : CmdSource) (s : State) : Host.Outcome State Fault Refusal :=
  .next (s.runCmd src 130 fun org tag _ st =>
    if st.glb.dump.isNone then st.errCmd org tag 130 4
    else ({ st with glb.dump := none, glb.summaryDue := false, flash.summary := none }).okCmd org tag 130 0 [])

/-- The rate (0 to 2), BFLAGS and BAR2_LOG2 of the boot configuration in use, or the defaults (R396). -/
def State.cfgFields (s : State) : Nat × Nat × Nat := match s.flash.bootcfg with
  | some (_, b) => ((if fieldB b 12 2 = 6400 then 0 else if fieldB b 12 2 = 7500 then 1 else 2), fieldB b 14 1, fieldB b 15 1)
  | none => (2, 1, 34)

/-- R398: an image's copy in flash verifies, and FW_WRITE is not writing it. -/
def State.copyOk (s : State) (i : Nat) : Bool :=
  let writing := s.qm.running.any fun r => decide (r.grp = .fwWrite) && decide (fieldB r.param 0 1 = i)
  let q := if i = 0 then s.checkImage s.flash.imageA s.flash.checkA else s.checkImage s.flash.imageB s.flash.checkB
  !writing && decide (q.1.reject = 0)

/-- FW_SELECT (R396, R398): PREFER is written, the other fields as they are in use. An image that cannot be read does not verify. -/
def execFwSelect (src : CmdSource) (s : State) : Host.Outcome State Fault Refusal :=
  .next (s.runCmd src 145 fun org tag p st =>
    let i := fieldB p 0 1
    let f := st.cfgFields
    if !st.copyOk i || !st.flash.ok then st.errCmd org tag 145 18
    else (st.saveBootcfg f.1 (f.2.1 % 2) (bits f.2.1 1 4) f.2.2 i true).okCmd org tag 145 0 [])

/-- RESET (R388, R391): completed, and 1 ms later the reset begins. -/
def execReset (src : CmdSource) (s : State) : Host.Outcome State Fault Refusal :=
  .next (s.runCmd src 146 fun org tag p st =>
    let s1 := (st.okCmd org tag 146 0 []).advance (msC 1)
    if fieldB p 0 1 = 0 then s1.enterCold else s1.beginReset 2 0)

/-- NET_KEY_SET (R352). -/
def execNetKeySet (src : CmdSource) (s : State) : Host.Outcome State Fault Refusal :=
  .next (s.runCmd src 160 fun org tag p st => (st.setKey (fieldB p 0 1) (sliceB p 8 32)).okCmd org tag 160 0 [])

/-! ### Commands that copy to their destination (R337, R407, R410) -/

/-- R337, R402: how many log entries are held. -/
def State.logHeld (s : State) : Nat := min s.qm.evSeq (if s.glb.rom && decide (s.glb.safeCause = 3) then 1024 else 4096)

/-- R337: the SEQ, unwrapped, at which a read that asks for `first` starts. -/
def State.logStart (s : State) (first : Nat) : Nat :=
  let back := (s.qm.evSeq + 2 ^ 32 - first) % 2 ^ 32
  if 2 ^ 31 ≤ back then s.qm.evSeq else s.qm.evSeq - min back s.logHeld

/-- R337: the SEQs copied: from FIRST_SEQ or the oldest held on, to the newest at most. -/
def State.logRange (s : State) (first count : Nat) : List Nat :=
  let a := s.logStart first
  (List.range (min count (s.qm.evSeq - a))).map (a + ·)

/-- R337: the 256 bytes of the entry of a SEQ. -/
def State.logBytes (s : State) (q : Nat) : List Byte := match s.qm.evLog.find? fun e => decide (e.1 = q % 4096) with
  | some e => e.2.bytes
  | none => zeroBytes 256

/-- EVENT_LOG_READ (R337). -/
def execEventLogRead (src : CmdSource) (s : State) : Host.Outcome State Fault Refusal :=
  .next (s.runCmdOf .readback src 128 fun org tag p st =>
    st.startMove .readback org tag 128 p (fieldB p 6 1) (fieldB p 8 8) (256 * (st.logRange (fieldB p 0 4) (fieldB p 4 2)).length))

/-- R402, R407: the dump that DUMP_READ finds. -/
def State.heldDump (s : State) : Option Dump := if s.glb.rom && decide (s.glb.safeCause = 3) then none else s.glb.dump

/-- R407: the bytes of the dump area that DUMP_READ asks for and that exist. -/
def dumpSpan (p : List Byte) : Nat × Nat := (fieldB p 0 4, min (fieldB p 4 4) (dumpSize - fieldB p 0 4))

/-- DUMP_READ (R407). -/
def execDumpRead (src : CmdSource) (s : State) : Host.Outcome State Fault Refusal :=
  .next (s.runCmdOf .readback src 129 fun org tag p st =>
    if st.heldDump.isNone then st.errCmd org tag 129 4
    else st.startMove .readback org tag 129 p (fieldB p 8 1) (fieldB p 16 8) (dumpSpan p).2)

/-- R410: the bytes that ODOMETER_READ of `len` bytes copies. -/
def State.odoBytes (s : State) (len : Nat) : Option (List Byte) :=
  if s.flash.ok then s.flash.odoMerged.map fun b => b.take len else none

/-- ODOMETER_READ (R410). -/
def execOdometerRead (src : CmdSource) (s : State) : Host.Outcome State Fault Refusal :=
  .next (s.runCmdOf .readback src 131 fun org tag p st => match st.odoBytes (fieldB p 0 4) with
    | none => st.errCmd org tag 131 19
    | some b => st.startMove .readback org tag 131 p (fieldB p 4 1) (fieldB p 8 8) b.length)

/-- What a readback command copies when it ends; none where it no longer exists, with the status then. -/
def State.readback (s : State) (r : Running) : Except Nat (List Byte) :=
  let p := r.param
  if r.opcode = 128 then .ok ((s.logRange (fieldB p 0 4) (fieldB p 4 2)).flatMap s.logBytes)
  else if r.opcode = 129 then match s.heldDump with
    | some d => .ok (d.bytes (dumpSpan p).1 (dumpSpan p).2)
    | none => .error 4
  else match s.odoBytes (fieldB p 0 4) with
    | some b => .ok b
    | none => .error 19

/-- RESULT and DATA of a readback command. -/
def State.readbackDone (s : State) (r : Running) (n : Nat) : Nat × List Byte :=
  if r.opcode = 128 then
    (n / 256, leBytes 4 (s.qm.evSeq - s.logHeld) ++ leBytes 4 s.evtSeqReg)
  else (n, [])

/-- The end of EVENT_LOG_READ, DUMP_READ or ODOMETER_READ. -/
def State.endReadback (s : State) (r : Running) (space addr : Nat) (dma : HostDma) : State :=
  match s.readback r with
  | .error e => s.endRun r e 0 []
  | .ok bs =>
    let q := s.spaceWrite space addr bs dma
    let d := s.readbackDone r bs.length
    if q.1 then q.2.endRun r 0 d.1 d.2 else q.2.endRun r 7 0 []

/-! ### FW_WRITE (R398) -/

/-- FW_WRITE (R325, R398). -/
def execFwWrite (src : CmdSource) (s : State) : Host.Outcome State Fault Refusal :=
  .next (s.runCmdOf .fwWrite src 144 fun org tag p st =>
    if !st.glb.rom ∧ st.glb.image = fieldB p 0 1 then st.errCmd org tag 144 5
    else st.startMove .fwWrite org tag 144 p (fieldB p 1 1) (fieldB p 8 8) (fieldB p 4 4))

/-- R397, R398: the source image verifies, and it lies whole in the bytes given and in an image area. -/
def State.sourceOk (s : State) (bs : List Byte) : Bool :=
  let m := memOfBytes bs
  decide (4096 + memLe m 16 4 ≤ bs.length) && decide (bs.length ≤ 0x800000) && decide (s.imageReject m = 0)

/-- Set the contents of an image area. -/
def State.setImage (s : State) (i : Nat) (m : Mem) : State :=
  if i = 0 then { s with flash.imageA := some m } else { s with flash.imageB := some m }

/-- R398: the end of FW_WRITE: the source is verified, then erased, programmed and verified in flash; whether the flash succeeds
is a free value. -/
def State.endFwWrite (s : State) (r : Running) (bs : List Byte) : State :=
  let i := fieldB r.param 0 1
  if !s.sourceOk bs then s.endRun r 18 0 []
  else
    let q := s.draw 2
    if s.flash.ok ∧ q.1 = 0 then (q.2.setImage i (memOfBytes bs)).endRun r 0 bs.length []
    else (q.2.setImage i []).endRun r 19 0 []

/-! ### The end of long-running commands (R326, R327, R345, R390) -/

/-- R326: SPACE, ADDR and LENGTH of the source that a command reads, if it reads one. -/
def Running.source (r : Running) : Option (Nat × Nat × Nat) :=
  let f := fieldB r.param
  if r.opcode = 32 then some (f 1 1, f 8 8, f 4 4)
  else if r.opcode = 65 then some (f 1 1, f 8 8, f 16 8)
  else if r.opcode = 144 then some (f 1 1, f 8 8, f 4 4)
  else none

/-- R326: SPACE and ADDR of the destination that a command writes, if it writes one. -/
def Running.target (r : Running) : Option (Nat × Nat) :=
  let f := fieldB r.param
  if r.opcode = 64 then some (f 4 1, f 8 8)
  else if r.opcode = 128 then some (f 6 1, f 8 8)
  else if r.opcode = 129 then some (f 8 1, f 16 8)
  else if r.opcode = 131 then some (f 4 1, f 8 8)
  else none

/-- A command ends without effect, with a status. -/
def State.abortRun (s : State) (r : Running) (status : Nat) : State :=
  (if r.grp = .snapshot then { s with film.snapTiles := [] } else s).endRun r status 0 []

/-- A command that has read its source. -/
def State.endSource (s : State) (r : Running) (bs : List Byte) : State :=
  if r.opcode = 32 then s.endFilmLoad r bs else if r.opcode = 65 then s.endSnapshotRestore r bs else s.endFwWrite r bs

/-- Whether a host's answer has the length that was read. -/
def dmaFits (space len : Nat) : HostDma → Bool
  | .ok bs => decide (space = 1) || decide (bs.length = len)
  | .failed => true

/-- The bytes that a command has to write, as far as BAR2's channels matter. -/
def State.targetLen (s : State) (r : Running) : Nat :=
  if r.opcode = 64 then s.imageSize s.film.snapTiles else match s.readback r with
    | .ok bs => bs.length
    | .error _ => 0

/-- R327, R292: a long-running command finishes, once no channel that it needs holds its requests. -/
def State.finishRun (s : State) (r : Running) (dma : HostDma) : State :=
  match r.source, r.target with
  | some (space, addr, len), _ =>
    if !dmaFits space len dma then s
    else if s.spaceHeld space addr len || (decide (r.opcode = 65) && s.planesHeld) then s.holdReq (.run r.grp)
    else
      let q := (if space = 1 then s.grantReq (.run r.grp) (s.bar2Chans addr len) else s).spaceRead space addr len dma
      match q.1 with
      | some bs => q.2.endSource r bs
      | none => q.2.abortRun r 7
  | none, some (space, addr) =>
    if s.spaceHeld space addr (s.targetLen r) || (decide (r.opcode = 64) && s.planesHeld) then s.holdReq (.run r.grp)
    else if r.opcode = 64 then s.endSnapshotSave r dma
    else (if space = 1 then s.grantReq (.run r.grp) (s.bar2Chans addr (s.targetLen r)) else s).endReadback r space addr dma
  | none, none => s

/-- LONG_RUNNING_COMPLETE (R327): the command of a group that runs ends. POWER_SET ends with its transition (R380). -/
def execLongRunningComplete (grp : RunGroup) (dma : HostDma) (s : State) : Host.Outcome State Fault Refusal :=
  .next (match s.runOf grp with
    | some r => s.finishRun r dma
    | none => s)

/-- DMA_TIMEOUT (R326, R345): a DMA read of host memory that the host does not complete within 50 ms. -/
def execDmaTimeout (grp : RunGroup) (s : State) : Host.Outcome State Fault Refusal :=
  .next (match s.runOf grp with
    | some r => match r.source with
      | some (0, _, _) => s.dmaErr.abortRun r 7
      | _ => s
    | none => s)

/-- Whether a command moves data by DMA. -/
def Running.usesDma (r : Running) : Bool := match r.source, r.target with
  | some (space, _, _), _ => decide (space = 0)
  | none, some (space, _) => decide (space = 0)
  | none, none => false

/-- R390: the host-memory rings are disabled with both indices 0. Entries reserved for fetched commands stay reserved. -/
def Ring.unplug (r : Ring) : Ring := { r with en := false, prod := 0, cons := 0, armed := false, due := none }

/-- PCIE_RESET (R390): the endpoint alone: host-memory rings, the MSI-X table, and the commands whose DMA it interrupts. `link` is the
link as the host trains it next. -/
def execPcieReset (link : PcieLink) (s : State) : Host.Outcome State Fault Refusal :=
  let rings := s.qm.rings.foldl (fun (t : Tab Ring) (q : Nat × Ring) =>
    if q.1 < 2560 then tabSet (Ring.init q.1) t q.1 q.2.unplug else t) s.qm.rings
  let lo := baseQm + 0x14000
  let s1 := { s with
    qm.rings := rings
    qm.pba := []
    regs.direct := tabKeep (fun o => decide (o < lo) || decide (lo + 0x1000 ≤ o)) s.regs.direct
    net.pcie := PcieS.ofLink link }
  .next ((s1.qm.running.filter Running.usesDma).foldl (fun st r => st.dmaErr.abortRun r 7) s1)

end Sys2Proof.Machine
end

