-- ==== Sys2Proof/Machine/Frame.lean ====
section
/-! DEFINITION. The frame loop (R14 to R16, R207): the flip tick and what comes about at it, the guard's beginning, the WSA's hand-off
and the age tick. -/

namespace Sys2Proof.Machine

/-! ### The pending sets at a flip (R16, R17) -/

/-- R251: the set of rail group `g` becomes live; its running slots slew to their new set points. -/
def State.railLive (s : State) (g : Nat) : State :=
  if (s.pendSet (unitRail g)).isSome then (List.range 12).foldl (fun st i => st.slewSlot g i) (s.pendLive (unitRail g)) else s

/-- R194, R203: the set of port `p` becomes live; a pair that is looped, or no longer looped, is enumerated afresh: tiles in slots
that belong to no chain of it any more are lost as not found. -/
def State.portLive (s : State) (p : Nat) : State :=
  if (s.pendSet (unitTf p)).isSome then
    let s1 := s.pendLive (unitTf p)
    if p % 2 = 0 ∧ s.loopOn p ≠ s1.loopOn p then
      let gone := ((List.range 64).map fun k => p * 32 + k).filter fun i =>
        decide ((s1.tile i).port = p + 1) && decide (i / 32 = if s1.loopOn p then p + 1 else p)
      let s2 := gone.foldl (fun st i => (st.loseTile i 1).modTile i fun t => { t with epoch := 0 }) s1
      let clear (x : Port) : Port :=
        { x with loopClosed := false, loopBroken := false, moveTo := none, brk := 0, chainLen := 0, enumRun := none }
      if s2.loopOn p then s2.enumerate p
      else (((s2.modPort p clear).modPort (p + 1) clear).startEnum p 0 0).startEnum (p + 1) 0 0
    else s1
  else s

/-- R16: at the flip every pending set becomes live, those of TIME, THM and SCH apart, which have their own instants. -/
def State.setsLive (s : State) : State :=
  let s1 := ((s.pendLive unitWsa).mpLive).netLive
  let s2 := (List.range 8).foldl State.railLive (s1.pendLive unitRc)
  (List.range 32).foldl State.portLive s2

/-! ### Packages and unknown pixels at a flip (R52, R58, R85) -/

/-- Tiles whose package changes at this flip: bound anew, or bound to a slot loaded anew. -/
def State.rebinds (s : State) : List Nat := (List.range 1024).filter fun i =>
  decide (tabGet 0 s.film.bindPend i ≠ 0) ||
    (match s.bindNow i with
      | 0 => false
      | n + 1 => (tabGet none s.film.pkgPend n).isSome)

/-- R52: a tile whose package changed: another kind or STATE_SPACE_ID than the tile had makes every pixel unknown. -/
def State.rebindTile (s : State) (i : Nat) : State :=
  match s.tilePkg i with
  | some p =>
    let old := tabGet none s.film.kept i
    let s1 := { s with film.kept := tabSet none s.film.kept i (some p.identity) }
    match old with
    | some k =>
      if k = p.identity then s1
      else if s1.planesHeld then { s1.flagUnknown i with film.heldUnknown := s1.film.heldUnknown ++ [(i, false)] }
      else s1.touchPlanes.tileUnknown i false
    | none => s1
  | none => s

/-- R16, R51, R52: packages loaded and tiles bound since the last flip take effect. -/
def State.pkgFlip (s : State) : State :=
  let tiles := s.rebinds
  let s1 := { s with
    film.pkgs := s.film.pkgPend.foldl (fun t q => tabSet none t q.1 q.2) s.film.pkgs
    film.bind := s.film.bindPend.foldl (fun t q => tabSet 0 t q.1 q.2) s.film.bind
    film.pkgPend := [], film.bindPend := [], film.rebound := (s.film.rebound ++ tiles).eraseDups
    wsa.clusters := s.modClusters fun c => { c with code := c.code.filter fun e => (tabGet none s.film.pkgPend (e.1 - 1)).isNone } }
  tiles.foldl State.rebindTile s1

/-- R58: the pixels of lost tiles and of groups whose rails were removed become unknown. The writes of their records are requests to the
planes (R287): while those are held (R292) they wait, the tiles being flagged at once. -/
def State.unknownFlip (s : State) : State :=
  let l := s.film.toUnknown
  let s1 := { s with film.toUnknown := [] }
  if l = [] then s1
  else if s.planesHeld then l.foldl (fun st q => st.flagIfActive q.1 q.2) { s1 with film.heldUnknown := s.film.heldUnknown ++ l }
  else l.foldl (fun st q => st.tileUnknown q.1 q.2) s1.touchPlanes

/-! ### Panel temperatures and bands (R83, R85) -/

/-- R83 step 1: the tile's own good reading, at most MAXAGE seconds old. -/
def State.ownTemp (s : State) (i : Nat) : Option Int :=
  let t := s.tile i
  if t.tempValid ∧ s.clk ≤ t.tempAt + s.liveF (baseWsa + 8) 0 6 * secC then some t.temp else none

/-- R180: whether the rectangles of two tiles touch along an edge or at a corner without overlapping. -/
def State.tilesTouch (s : State) (i j : Nat) : Bool :=
  let meet (a w b v : Nat) : Bool := decide (a ≤ b + v) && decide (b ≤ a + w)
  let lap (a w b v : Nat) : Bool := decide (a < b + v) && decide (b < a + w)
  let x (f : Nat → Nat → Nat → Nat → Bool) : Bool := f (s.tileX i) (s.tileW i) (s.tileX j) (s.tileW j)
  let y (f : Nat → Nat → Nat → Nat → Bool) : Bool := f (s.tileY i) (s.tileH i) (s.tileY j) (s.tileH j)
  decide (i ≠ j) && x meet && y meet && !(x lap && y lap)

/-- R83: the panel temperature of a tile and its source. -/
def State.panelTemp (s : State) (tiles : List Nat) (i : Nat) : Int × Nat :=
  match s.ownTemp i with
  | some t => (t, 0)
  | none => match (tiles.filter (s.tilesTouch i)).filterMap s.ownTemp with
    | [] => (sext 8 (s.liveF (baseWsa + 8) 8 8) * 16, 2)
    | l => (lowerMedian l, 1)

/-- R83, R85: the temperature and the band of a tile for the compute frame that begins. -/
def State.fixTemp (s : State) (tiles : List Nat) (i : Nat) : TTemp :=
  let old := s.tileTemp i
  let t := s.panelTemp tiles i
  let band := match s.tilePkg i with
    | some p =>
      if !p.table then 0
      else if s.film.rebound.contains i ∨ decide (old.source = 0) ≠ decide (t.2 = 0) then p.freshBand t.1
      else p.nextBand old.band t.1
    | none => 0
  ⟨t.1, band, t.2⟩

/-- R83: the temperatures of the tile map, for which the coefficients in COEF are interpolated anew in place. A tile bound before it is in
the map is bound for R85 when its first temperature is fixed. -/
def State.tempFlip (s : State) : State :=
  let tiles := s.mapTiles
  { s with
    wsa.temps := tiles.foldl (fun t i => tabSet TTemp.init t i (s.fixTemp tiles i)) s.wsa.temps
    film.rebound := s.film.rebound.filter fun i => !tiles.contains i }

/-! ### Throttling, withheld levels, sessions (R93, R106, R241) -/

/-- R93: the pause cycles in every 1,024 of the synthesis window, at throttle step `k` and a guard of `g` %. -/
def pauseCycles (k g : Nat) : Nat := 1024 * (100 * k - 16 * g) / (16 * (100 - g))

/-- R93: the step in force is held for the frame. -/
def State.throttleFlip (s : State) : State := { s with wsa.step := s.thm.step, wsa.pause := pauseCycles s.thm.step s.guardPct }

/-- R226, R241: the code that a level role drives. -/
def roleCodes (role : Nat) : List Nat :=
  if role = 3 then [3] else if role = 4 then [2] else if role = 5 then [1] else if role = 6 then [5] else if role = 7 then [6]
  else if role = 8 then [7] else []

/-- R241: the code levels withheld in a group: those of its slots in RETRY. -/
def State.withheldIn (s : State) (g : Nat) : List Nat :=
  (s.enSlots g).flatMap fun i => if (s.slot g i).state = .retry then roleCodes (s.slotRole g i) else []

/-- R241: withholding starts or ends with the compute frame; each frame of it is counted. -/
def State.withholdFlip (s : State) : State :=
  (List.range 8).foldl (fun st g =>
    let w := st.withheldIn g
    let s1 := if w = (st.group g).withheld then st else (st.modGroup g fun x => { x with withheld := w }).railShow g
    if w = [] then s1 else s1.count (baseRail g + 0x4C)) s

/-- R106: a BOOKED session prepares from flip S − 1, and runs from flip S; one whose handover waits for DRAM that trains (R292) prepares
until the handover has been made (assumption 169). A STREAM whose C is not after its S does not start (R125, assumption 167). -/
def State.sessFlip (s : State) : State :=
  s.sessions.foldl (fun st q =>
    let x := q.2
    let n := st.time.wfn
    if x.state = 3 ∧ x.endsUnstarted then st
    else if x.state = 3 ∧ x.s ≤ n then st.modSess q.1 fun y => { y with state := 5 }
    else if x.state = 3 ∧ x.s ≤ n + 1 then st.modSess q.1 fun y => { y with state := 4 }
    else if x.state = 4 ∧ x.s ≤ n ∧ !(st.planesHeld && decide ((st.wsess q.1).phase = 0)) then
      st.modSess q.1 fun y => { y with state := 5 }
    else st) s

/-! ### Shutdowns that fall on a flip (R373, R382, R391) -/

/-- R373 step 4, R382 step 3, R391 step 2: the rails shut down at the flip that their sequence names. -/
def State.railFlip (s : State) : State :=
  let n := s.time.wfn
  let s1 := match s.pwr.transit with
    | .entryRails k => if k ≤ n then s.plateauRails else s
    | _ => s
  let due := (s1.thm.shutdown.any fun q => decide (q.2 + 2 ≤ n)) || (s1.glb.entry.any fun e => decide (e.frame + 2 ≤ n))
  if due then s1.shutAll else s1

/-! ### The flip tick (R15, R207) -/

/-- The WSA and the SCH begin their frame: nothing has been driven, counted or handed off in it. -/
def State.beginFrame (s : State) : State :=
  { s with
    wsa.inGuard := false, wsa.handed := false, wsa.charge := [], wsa.sessQ := [], wsa.drove := [], wsa.est := []
    sch.guardDone := false }

/-- R142: sources received over two paths forget what is past the merge window. -/
def State.pathsFlip (s : State) : State :=
  (List.range 16).foldl (fun st n => if srcPaired st.live n then st.sweepSeen n else st) s

/-- What comes about at a flip once its frame number stands: sets, sessions, renders, temperatures, unknown pixels, the tile link and
the rails. -/
def State.atFlip (s : State) : State :=
  let s1 := (s.setsLive).beginFrame.sessFlip.pathsFlip
  let s2 := if s1.frameLoop && !s1.wsa.stopped then s1.startRenders else s1
  let s3 := (s2.throttleFlip.pkgFlip.flipDone).unknownFlip
  let s4 := if s3.wsa.gated then s3 else s3.tempFlip
  ((if s4.frameLoop then s4.withholdFlip else s4).tfFlip).railFlip

/-- R207: one flip tick. -/
def State.flip (s : State) : State :=
  let s1 := (s.endRenders).timeFlip
  ({ s1 with glb.odo.frames := s1.glb.odo.frames + 1 }).atFlip

/-- FLIP_TICK (R207): the counter reaches T(N). Without REFCLK nothing is clocked (R431). -/
def execFlipTick (s : State) : Host.Outcome State Fault Refusal := if s.glb.refclkStopped then .next s else .next s.flip

/-- TIME_STEP (R214): the flip tick at which a pending step is taken, where one may be. -/
def execTimeStep (s : State) : Host.Outcome State Fault Refusal :=
  if s.stepDue && !s.glb.refclkStopped then .next s.flip else .next s

/-! ### The age tick (R35, R36, R126) -/

/-- AGE_TICK (R35): a tick falls at each WFN that is a multiple of 64; the sweep and the report of R126 begin afresh with it, but not in
PLATEAU (R37). The sweep that works off what an exit from PLATEAU left, before the next tick, is no new sweep: for a second entry
before that tick the sweep last begun is still that of the last tick taken here (DESIGN CHOICE, assumption 131). -/
def execAgeTick (s : State) : Host.Outcome State Fault Refusal :=
  let t := s.time.wfn / 64
  if s.time.wfn % 64 = 0 ∧ t ≠ s.film.tick ∧ !s.glb.refclkStopped then
    let s1 := { s with film.tick := t, sch.ageAcc := [], sch.ageSkip := [] }
    .next (if s.frameLoop ∧ !s.wsa.gated then { s1 with film.tickSweep := t } else s1)
  else .next s

/-! ### The guard (R14, R15, R88) -/

/-- R14: when the guard of the frame in progress begins, in ns: GUARD % of its period before the next flip. -/
def State.guardAt (s : State) : Nat :=
  let n := s.time.wfn
  s.flipTime (n + 1) - s.frameLen n * s.guardPct / 100

/-- R382 step 2: the entry into PLATEAU goes on with the guard in which LAST = 1 is sent. -/
def State.entryStep (s : State) : State :=
  if s.pwr.transit = .entryFlip then { s with pwr.transit := .entryRails (s.time.wfn + 2) } else s

/-- R201, R202: in SAFE, where the SCH has nothing to do in a guard, the words of the status window that each guard updates. -/
def State.showInSafe (s : State) : State := if s.pwr.state = .safe then s.showTiles else s

/-- GUARD_BEGIN (R14): the WSA stops, tiles that owe a report are LOST, an entry into PLATEAU takes its step 2, and the DMC catches up. -/
def execGuardBegin (s : State) : Host.Outcome State Fault Refusal :=
  if s.wsa.inGuard ∨ s.pwr.state = .boot ∨ s.glb.refclkStopped then .next s
  else
    .next (s.advanceWall s.guardAt).wsaGuard.tfGuard.entryStep.dmcGuard.showInSafe

/-- WSA_GUARD_HANDOFF (R15, R88, R89): once in a guard: each group's prediction goes to the RC, the counts to the SCH. -/
def execWsaGuardHandoff (s : State) : Host.Outcome State Fault Refusal :=
  if s.frameLoop && s.wsa.inGuard && !s.wsa.handed && !s.glb.refclkStopped then
    let s1 := s.latchCharge
    .next ((List.range 8).foldl State.takePrediction { s1 with wsa.handed := true })
  else .next s

end Sys2Proof.Machine
end

