-- ==== Sys2Proof/Machine/Dispatch.lean ====
section
/-! DEFINITION. The meaning of every command, by its constructor. -/

namespace Sys2Proof.Machine

/-- The effect of a command on everything but the queue of waiting commands. -/
def exec (i : Instr) (s : State) : Host.Outcome State Fault Refusal :=
  match i with
  | .flipTick => Sys2Proof.Machine.execFlipTick s
  | .ageTick => Sys2Proof.Machine.execAgeTick s
  | .guardBegin => Sys2Proof.Machine.execGuardBegin s
  | .wsaGuardHandoff => Sys2Proof.Machine.execWsaGuardHandoff s
  | .schGuardProcess => Sys2Proof.Machine.execSchGuardProcess s
  | .bundleTake cluster => Sys2Proof.Machine.execBundleTake cluster s
  | .pixelEvaluate cluster tile col row => Sys2Proof.Machine.execPixelEvaluate cluster tile col row s
  | .droppedRowFixup cluster tile row seg => Sys2Proof.Machine.execDroppedRowFixup cluster tile row seg s
  | .ageSweepSegment tile row seg => Sys2Proof.Machine.execAgeSweepSegment tile row seg s
  | .driveRowSend port => Sys2Proof.Machine.execDriveRowSend port s
  | .flipSend port => Sys2Proof.Machine.execFlipSend port s
  | .flipCopySend port => Sys2Proof.Machine.execFlipCopySend port s
  | .seqMarkTimer port => Sys2Proof.Machine.execSeqMarkTimer port s
  | .rowNak port pos first count => Sys2Proof.Machine.execRowNak port pos first count s
  | .frameReady port pos wfn => Sys2Proof.Machine.execFrameReady port pos wfn s
  | .dropReport port report => Sys2Proof.Machine.execDropReport port report s
  | .desc port d => Sys2Proof.Machine.execDesc port d s
  | .delayResp port pos probeId turn resid tTx tRx => Sys2Proof.Machine.execDelayResp port pos probeId turn resid tTx tRx s
  | .tileRsp port pos tag tstatus data dma => Sys2Proof.Machine.execTileRsp port pos tag tstatus data dma s
  | .telemetry port t => Sys2Proof.Machine.execTelemetry port t s
  | .hopDown port pos upstream => Sys2Proof.Machine.execHopDown port pos upstream s
  | .linkState side rxOk => Sys2Proof.Machine.execLinkState side rxOk s
  | .enumLoopArrival port hop epoch => Sys2Proof.Machine.execEnumLoopArrival port hop epoch s
  | .packetTypeDiscard at_ => Sys2Proof.Machine.execPacketTypeDiscard at_ s
  | .fecCodewordLost at_ => Sys2Proof.Machine.execFecCodewordLost at_ s
  | .enumWaitExpire port => Sys2Proof.Machine.execEnumWaitExpire port s
  | .delayProbePeriod tile => Sys2Proof.Machine.execDelayProbePeriod tile s
  | .degradedExit port => Sys2Proof.Machine.execDegradedExit port s
  | .tileCmdFetch tile host => Sys2Proof.Machine.execTileCmdFetch tile host s
  | .tileCmdTimeout tile tag => Sys2Proof.Machine.execTileCmdTimeout tile tag s
  | .hopSignalDetected side => Sys2Proof.Machine.execHopSignalDetected side s
  | .hopBlockLock side => Sys2Proof.Machine.execHopBlockLock side s
  | .hopFrameLock side => Sys2Proof.Machine.execHopFrameLock side s
  | .hopStepTimeout side => Sys2Proof.Machine.execHopStepTimeout side s
  | .hopLeavesUp side => Sys2Proof.Machine.execHopLeavesUp side s
  | .driveRow b p => Sys2Proof.Machine.execDriveRow b p s
  | .flip b p => Sys2Proof.Machine.execFlip b p s
  | .seqMark b lastPseq => Sys2Proof.Machine.execSeqMark b lastPseq s
  | .enum b far p facts => Sys2Proof.Machine.execEnum b far p facts s
  | .delayProbe b addr probeId turn => Sys2Proof.Machine.execDelayProbe b addr probeId turn s
  | .delaySet b addr delay => Sys2Proof.Machine.execDelaySet b addr delay s
  | .tileFlip b => Sys2Proof.Machine.execTileFlip b s
  | .telemetryPeriod b m => Sys2Proof.Machine.execTelemetryPeriod b m s
  | .tcNop b head => Sys2Proof.Machine.execTcNop b head s
  | .tcTelNow b head m => Sys2Proof.Machine.execTcTelNow b head m s
  | .tcPanelOn b head => Sys2Proof.Machine.execTcPanelOn b head s
  | .tcPanelOff b head => Sys2Proof.Machine.execTcPanelOff b head s
  | .tcClearCounters b head => Sys2Proof.Machine.execTcClearCounters b head s
  | .tcIdentify b head param => Sys2Proof.Machine.execTcIdentify b head param s
  | .tcResetBridge b head => Sys2Proof.Machine.execTcResetBridge b head s
  | .tcFlSet b head param => Sys2Proof.Machine.execTcFlSet b head param s
  | .tcFlConfig b head param => Sys2Proof.Machine.execTcFlConfig b head param s
  | .tcFlDiag b head param => Sys2Proof.Machine.execTcFlDiag b head param s
  | .tcFlRead b head => Sys2Proof.Machine.execTcFlRead b head s
  | .tileOpcodeUnknown b head what => Sys2Proof.Machine.execTileOpcodeUnknown b head what s
  | .railPwmPeriod g slots v amps pgood => Sys2Proof.Machine.execRailPwmPeriod g slots v amps pgood s
  | .depDelayExpire g slot => Sys2Proof.Machine.execDepDelayExpire g slot s
  | .rampEnd g slot => Sys2Proof.Machine.execRampEnd g slot s
  | .qualifyDone g slot => Sys2Proof.Machine.execQualifyDone g slot s
  | .railTimeout g slot => Sys2Proof.Machine.execRailTimeout g slot s
  | .retryOffExpire g slot => Sys2Proof.Machine.execRetryOffExpire g slot s
  | .retriesClear g slot => Sys2Proof.Machine.execRetriesClear g slot s
  | .externalSlotOffTimer g slot => Sys2Proof.Machine.execExternalSlotOffTimer g slot s
  | .offtmoExpire g slot => Sys2Proof.Machine.execOfftmoExpire g slot s
  | .ffLoad g => Sys2Proof.Machine.execFfLoad g s
  | .faultNRelease => Sys2Proof.Machine.execFaultNRelease s
  | .faultNReleaseSample low => Sys2Proof.Machine.execFaultNReleaseSample low s
  | .faultNEvent since => Sys2Proof.Machine.execFaultNEvent since s
  | .faultNStuck => Sys2Proof.Machine.execFaultNStuck s
  | .faultNRearm => Sys2Proof.Machine.execFaultNRearm s
  | .minoffExpire g => Sys2Proof.Machine.execMinoffExpire g s
  | .heldUpStart g => Sys2Proof.Machine.execHeldUpStart g s
  | .vinLow u => Sys2Proof.Machine.execVinLow u s
  | .vinReturn u => Sys2Proof.Machine.execVinReturn u s
  | .vinCollapse u => Sys2Proof.Machine.execVinCollapse u s
  | .railStatusUpdate => Sys2Proof.Machine.execRailStatusUpdate s
  | .thmZoneSample zs raw isOpen isShort => Sys2Proof.Machine.execThmZoneSample zs raw isOpen isShort s
  | .thermalSafeEntry => Sys2Proof.Machine.execThermalSafeEntry s
  | .thmTick => Sys2Proof.Machine.execThmTick s
  | .plateauEntryComplete => Sys2Proof.Machine.execPlateauEntryComplete s
  | .plateauExitComplete => Sys2Proof.Machine.execPlateauExitComplete s
  | .refreshDue c sub rank burst => Sys2Proof.Machine.execRefreshDue c sub rank burst s
  | .refreshPullin c sub rank => Sys2Proof.Machine.execRefreshPullin c sub rank s
  | .mr4Poll c rate => Sys2Proof.Machine.execMr4Poll c rate s
  | .rankPowerDown c rank => Sys2Proof.Machine.execRankPowerDown c rank s
  | .selfRefreshReentry c => Sys2Proof.Machine.execSelfRefreshReentry c s
  | .trackingStep c sub => Sys2Proof.Machine.execTrackingStep c sub s
  | .setPointSwitch stall => Sys2Proof.Machine.execSetPointSwitch stall s
  | .dmcTrainStart value => Sys2Proof.Machine.execDmcTrainStart value s
  | .trainingDone failed => Sys2Proof.Machine.execTrainingDone failed s
  | .inlineEccError c addr double => Sys2Proof.Machine.execInlineEccError c addr double s
  | .bar2Access off acc => Sys2Proof.Machine.execBar2Access off acc s
  | .valeAliasAccess who via off op => Sys2Proof.Machine.execValeAliasAccess who via off op s
  | .valeSetWrite who off size mask => Sys2Proof.Machine.execValeSetWrite who off size mask s
  | .valeClearWrite who off size mask => Sys2Proof.Machine.execValeClearWrite who off size mask s
  | .valeOwnWrite path bank write => Sys2Proof.Machine.execValeOwnWrite path bank write s
  | .valeHandoverDone bank => Sys2Proof.Machine.execValeHandoverDone bank s
  | .valeRetEnWrite value => Sys2Proof.Machine.execValeRetEnWrite value s
  | .valeRetentionEnter bank => Sys2Proof.Machine.execValeRetentionEnter bank s
  | .btWindowStart => Sys2Proof.Machine.execBtWindowStart s
  | .btWindowDone fails => Sys2Proof.Machine.execBtWindowDone fails s
  | .statusWindowWrite who off value cycle => Sys2Proof.Machine.execStatusWindowWrite who off value cycle s
  | .heartbeat => Sys2Proof.Machine.execHeartbeat s
  | .ptpSync m => Sys2Proof.Machine.execPtpSync m s
  | .ptpAnnounce m => Sys2Proof.Machine.execPtpAnnounce m s
  | .ptpDelayResp m => Sys2Proof.Machine.execPtpDelayResp m s
  | .ptpDelayReqSend txStamp => Sys2Proof.Machine.execPtpDelayReqSend txStamp s
  | .announceReceiptTimeout => Sys2Proof.Machine.execAnnounceReceiptTimeout s
  | .syncTimeout => Sys2Proof.Machine.execSyncTimeout s
  | .holdoverExpire => Sys2Proof.Machine.execHoldoverExpire s
  | .timeStep => Sys2Proof.Machine.execTimeStep s
  | .wallSyncMarker m => Sys2Proof.Machine.execWallSyncMarker m s
  | .markerMissHoldover => Sys2Proof.Machine.execMarkerMissHoldover s
  | .rtpPacket p => Sys2Proof.Machine.execRtpPacket p s
  | .renderComplete slot => Sys2Proof.Machine.execRenderComplete slot s
  | .tileFill tile => Sys2Proof.Machine.execTileFill tile s
  | .tileFillDone tile => Sys2Proof.Machine.execTileFillDone tile s
  | .arpRequest port vid mac ip target => Sys2Proof.Machine.execArpRequest port vid mac ip target s
  | .icmpEcho port vid mac ip dst payload => Sys2Proof.Machine.execIcmpEcho port vid mac ip dst payload s
  | .igmpQuery port vid version group => Sys2Proof.Machine.execIgmpQuery port vid version group s
  | .ethFrameDiscard port vid => Sys2Proof.Machine.execEthFrameDiscard port vid s
  | .commandDatagram d => Sys2Proof.Machine.execCommandDatagram d s
  | .completionDatagramSend peer => Sys2Proof.Machine.execCompletionDatagramSend peer s
  | .pmbusPoll n poll => Sys2Proof.Machine.execPmbusPoll n poll s
  | .smbSetPointer index => Sys2Proof.Machine.execSmbSetPointer index s
  | .smbBlockRead => Sys2Proof.Machine.execSmbBlockRead s
  | .smbReadId => Sys2Proof.Machine.execSmbReadId s
  | .pcieReset link => Sys2Proof.Machine.execPcieReset link s
  | .dmaTimeout grp => Sys2Proof.Machine.execDmaTimeout grp s
  | .flEvaluate => Sys2Proof.Machine.execFlEvaluate s
  | .flAmbientEvaluate zone => Sys2Proof.Machine.execFlAmbientEvaluate zone s
  | .flSegmentSend tile => Sys2Proof.Machine.execFlSegmentSend tile s
  | .flDiagTimer tile => Sys2Proof.Machine.execFlDiagTimer tile s
  | .qmDoorbell path ring value => Sys2Proof.Machine.execQmDoorbell path ring value s
  | .commandFetch src host => Sys2Proof.Machine.execCommandFetch src host s
  | .msixCoalesceExpire ring => Sys2Proof.Machine.execMsixCoalesceExpire ring s
  | .overflowQueueDrain dst => Sys2Proof.Machine.execOverflowQueueDrain dst s
  | .longRunningComplete grp dma => Sys2Proof.Machine.execLongRunningComplete grp dma s
  | .mailboxDoorbell m value => Sys2Proof.Machine.execMailboxDoorbell m value s
  | .mailboxControl m value => Sys2Proof.Machine.execMailboxControl m value s
  | .nop src => Sys2Proof.Machine.execNop src s
  | .sessionOpen src => Sys2Proof.Machine.execSessionOpen src s
  | .sessionCancel src => Sys2Proof.Machine.execSessionCancel src s
  | .sessionClose src => Sys2Proof.Machine.execSessionClose src s
  | .filmLoad src => Sys2Proof.Machine.execFilmLoad src s
  | .filmBind src => Sys2Proof.Machine.execFilmBind src s
  | .placementWrite src => Sys2Proof.Machine.execPlacementWrite src s
  | .configCommit src => Sys2Proof.Machine.execConfigCommit src s
  | .snapshotSave src => Sys2Proof.Machine.execSnapshotSave src s
  | .snapshotRestore start => Sys2Proof.Machine.execSnapshotRestore start s
  | .powerSet src => Sys2Proof.Machine.execPowerSet src s
  | .flGlobalWrite src => Sys2Proof.Machine.execFlGlobalWrite src s
  | .flZoneWrite src => Sys2Proof.Machine.execFlZoneWrite src s
  | .flTileBind src => Sys2Proof.Machine.execFlTileBind src s
  | .flStatusRead src => Sys2Proof.Machine.execFlStatusRead src s
  | .regRead src => Sys2Proof.Machine.execRegRead src s
  | .regWrite src => Sys2Proof.Machine.execRegWrite src s
  | .bar2Write src => Sys2Proof.Machine.execBar2Write src s
  | .bar2Read src => Sys2Proof.Machine.execBar2Read src s
  | .eventLogRead src => Sys2Proof.Machine.execEventLogRead src s
  | .dumpRead src => Sys2Proof.Machine.execDumpRead src s
  | .dumpRelease src => Sys2Proof.Machine.execDumpRelease src s
  | .odometerRead src => Sys2Proof.Machine.execOdometerRead src s
  | .fwWrite src => Sys2Proof.Machine.execFwWrite src s
  | .fwSelect src => Sys2Proof.Machine.execFwSelect src s
  | .reset src => Sys2Proof.Machine.execReset src s
  | .netKeySet src => Sys2Proof.Machine.execNetKeySet src s
  | .wsaCommit value => Sys2Proof.Machine.execWsaCommit value s
  | .schCommit value => Sys2Proof.Machine.execSchCommit value s
  | .mpCommit value => Sys2Proof.Machine.execMpCommit value s
  | .tfPcommit port value => Sys2Proof.Machine.execTfPcommit port value s
  | .timeCommit value => Sys2Proof.Machine.execTimeCommit value s
  | .rgCommit g value => Sys2Proof.Machine.execRgCommit g value s
  | .rcCommit value => Sys2Proof.Machine.execRcCommit value s
  | .netCommit value => Sys2Proof.Machine.execNetCommit value s
  | .thmCommit value => Sys2Proof.Machine.execThmCommit value s
  | .tfPctrlEnable port enable => Sys2Proof.Machine.execTfPctrlEnable port enable s
  | .tfPctrlEnum port => Sys2Proof.Machine.execTfPctrlEnum port s
  | .tfPctrlForget port => Sys2Proof.Machine.execTfPctrlForget port s
  | .tfTslotAccept port slot => Sys2Proof.Machine.execTfTslotAccept port slot s
  | .rgCtrlEnable g enable => Sys2Proof.Machine.execRgCtrlEnable g enable s
  | .rgCtrlUp g => Sys2Proof.Machine.execRgCtrlUp g s
  | .rgCtrlDown g => Sys2Proof.Machine.execRgCtrlDown g s
  | .timeStepNow => Sys2Proof.Machine.execTimeStepNow s
  | .glbRstCtrlWarm value => Sys2Proof.Machine.execGlbRstCtrlWarm value s
  | .glbRstCtrlCold value => Sys2Proof.Machine.execGlbRstCtrlCold value s
  | .glbWdogKick path value => Sys2Proof.Machine.execGlbWdogKick path value s
  | .watchdogExpire => Sys2Proof.Machine.execWatchdogExpire s
  | .diagOdoWriteNow => Sys2Proof.Machine.execDiagOdoWriteNow s
  | .diagBootcfgSave flashOk => Sys2Proof.Machine.execDiagBootcfgSave flashOk s
  | .diagSecverRaise value => Sys2Proof.Machine.execDiagSecverRaise value s
  | .qmRingCfgWrite path ring word value => Sys2Proof.Machine.execQmRingCfgWrite path ring word value s
  | .qmEvtWrite path value => Sys2Proof.Machine.execQmEvtWrite path value s
  | .wsaCntClr value => Sys2Proof.Machine.execWsaCntClr value s
  | .schCntClr value => Sys2Proof.Machine.execSchCntClr value s
  | .mpCntClr value => Sys2Proof.Machine.execMpCntClr value s
  | .tfPcntClr port value => Sys2Proof.Machine.execTfPcntClr port value s
  | .timeCntClr value => Sys2Proof.Machine.execTimeCntClr value s
  | .rgCntClr g value => Sys2Proof.Machine.execRgCntClr g value s
  | .rcCntClr value => Sys2Proof.Machine.execRcCntClr value s
  | .dmcCntClr c value => Sys2Proof.Machine.execDmcCntClr c value s
  | .dmcGcntClr value => Sys2Proof.Machine.execDmcGcntClr value s
  | .valeCntClr value => Sys2Proof.Machine.execValeCntClr value s
  | .qmCntClr path value => Sys2Proof.Machine.execQmCntClr path value s
  | .netCntClr value => Sys2Proof.Machine.execNetCntClr value s
  | .thmCntClr value => Sys2Proof.Machine.execThmCntClr value s
  | .registerWrite path off size write => Sys2Proof.Machine.execRegisterWrite path off size write s
  | .powerOn lcbCkSel smbAddr => Sys2Proof.Machine.execPowerOn lcbCkSel smbAddr s
  | .porstNLow lcbCkSel smbAddr => Sys2Proof.Machine.execPorstNLow lcbCkSel smbAddr s
  | .rstNLow dramKept => Sys2Proof.Machine.execRstNLow dramKept s
  | .refclkStop => Sys2Proof.Machine.execRefclkStop s
  | .fwException core code => Sys2Proof.Machine.execFwException core code s
  | .parityError block => Sys2Proof.Machine.execParityError block s
  | .warmResetDrvTimeout => Sys2Proof.Machine.execWarmResetDrvTimeout s
  | .resetSelfRefresh => Sys2Proof.Machine.execResetSelfRefresh s
  | .resetHoldExpire => Sys2Proof.Machine.execResetHoldExpire s
  | .bootReady facts => Sys2Proof.Machine.execBootReady facts s
  | .strikesClear => Sys2Proof.Machine.execStrikesClear s
  | .fatalCaptureDone cores fw => Sys2Proof.Machine.execFatalCaptureDone cores fw s
  | .dumpSummaryWrite flashOk => Sys2Proof.Machine.execDumpSummaryWrite flashOk s
  | .odometerPeriodic => Sys2Proof.Machine.execOdometerPeriodic s
  | .odometerRecordWrite flashOk => Sys2Proof.Machine.execOdometerRecordWrite flashOk s
  | .odometerAreaErase flashOk => Sys2Proof.Machine.execOdometerAreaErase flashOk s
  | .registerRead path off size => Sys2Proof.Machine.execRegisterRead path off size s
  | .packetSyncLost at_ why => Sys2Proof.Machine.execPacketSyncLost at_ why s
  | .pcrcFail at_ => Sys2Proof.Machine.execPcrcFail at_ s
  | .arpReply port vid mac ip target => Sys2Proof.Machine.execArpReply port vid mac ip target s
  | .msixVectorUnmask vector => Sys2Proof.Machine.execMsixVectorUnmask vector s
  | .jtagTapOperation op => Sys2Proof.Machine.execJtagTapOperation op s

end Sys2Proof.Machine
end

