-- ==== Sys2Proof/Safety.lean ====
section
/-! DEFINITION. What a safe run is, what every step keeps, and the words that the statements use. -/

namespace Sys2Proof.Machine

/-- `Runs n s t`: `n` steps from `s` answer next states only, the last one `t`. -/
def Runs : Nat → State → State → Prop
  | 0, s, t => s = t
  | n + 1, s, t => ∃ u, step s = .next u ∧ Runs n u t

/-- Every command that waits in the queue can occur. -/
def State.queueWf (s : State) : Bool := s.pending.all Instr.wf

/-- The bits of a stored register that no write changes. -/
def fixedMask (off : Nat) : Word := ~~~(BitVec.ofNat 32 (rwMask off))

/-- R5: in a stored set every bit outside a register's writable bits stands at its reset value. -/
def reservedOk (t : Tab Word) : Prop := ∀ e ∈ t, e.2 &&& fixedMask e.1 = BitVec.ofNat 32 (resetVal e.1) &&& fixedMask e.1

/-- R5, R16: so it is in the registers as written, and in every shadow, live and pending set. -/
def RegFile.reservedOk (r : RegFile) : Prop :=
  Machine.reservedOk r.direct ∧ (∀ u ∈ r.shadow, Machine.reservedOk u.2) ∧ (∀ u ∈ r.live, Machine.reservedOk u.2) ∧
    ∀ u ∈ r.pend, ∀ t, u.2 = some t → Machine.reservedOk t

/-- The invariant: DRAM and Vale memory are in canonical form, reserved register bits stand at their reset values, and the
least security version in the fuses fits DIAG_SECVER.MIN (R398). -/
def State.Inv (s : State) : Prop :=
  memWf s.dmc.bulk ∧ memWf s.vale.mem ∧ s.regs.reservedOk ∧ s.otp.minSecver ≤ 63

/-! ### Frames -/

/-- The parts of the state that a frame statement speaks of. The queue is no part of a frame (step owns it), nor is the position in the free
values (assumption 1). -/
inductive StatePart where
  | written  -- the registers as written: those in force at once, and the shadow sets
  | inForce  -- the live and pending sets
  | regs  -- every register, counters and REJECTED bits included
  | clk  -- the clock
  | time  -- the TIME block
  | glb  -- the GLB block and the odometer
  | otp  -- the fuses
  | dram  -- the contents of DRAM
  | dmc  -- the DRAM controller
  | valeMem  -- the contents of Vale memory
  | vale  -- Vale memory and the status window
  | qm  -- the queue manager
  | net  -- the network and the mailboxes
  | thm  -- the thermal unit
  | pwr  -- the power state
  | flash  -- the flash
  | rc  -- the rail controller
  | fl  -- the frontlight engine
  | ports  -- the ports
  | tiles  -- the tile slots
  | hops  -- the hops
  | bridges  -- the tile bridges
  | film  -- film packages, pixel records and targets
  | wsa  -- waveform synthesis
  | sch  -- the session scheduler
  | mp  -- the sources and renders
  | out  -- what the device has sent
deriving DecidableEq, Repr

/-- A part of the state is the same in two states. -/
def StatePart.same (s t : State) : StatePart → Prop
  | .written => t.regs.direct = s.regs.direct ∧ t.regs.shadow = s.regs.shadow
  | .inForce => t.regs.live = s.regs.live ∧ t.regs.pend = s.regs.pend
  | .regs => t.regs = s.regs
  | .clk => t.clk = s.clk
  | .time => t.time = s.time
  | .glb => t.glb = s.glb
  | .otp => t.otp = s.otp
  | .dram => t.dmc.bulk = s.dmc.bulk
  | .dmc => t.dmc = s.dmc
  | .valeMem => t.vale.mem = s.vale.mem
  | .vale => t.vale = s.vale
  | .qm => t.qm = s.qm
  | .net => t.net = s.net
  | .thm => t.thm = s.thm
  | .pwr => t.pwr = s.pwr
  | .flash => t.flash = s.flash
  | .rc => t.rc = s.rc
  | .fl => t.fl = s.fl
  | .ports => t.ports = s.ports
  | .tiles => t.tiles = s.tiles
  | .hops => t.hops = s.hops
  | .bridges => t.bridges = s.bridges
  | .film => t.film = s.film
  | .wsa => t.wsa = s.wsa
  | .sch => t.sch = s.sch
  | .mp => t.mp = s.mp
  | .out => t.out = s.out

/-- The parts of the state that a command can change: every other part stands as it was. -/
def touches : Instr → List StatePart
  | .flipTick | .timeStep =>
    [.inForce, .regs, .clk, .time, .glb, .dmc, .vale, .qm, .net, .thm, .pwr, .rc, .ports, .tiles, .film, .wsa, .sch, .mp, .out]
  | .ageTick => [.film, .sch]
  | .guardBegin => [.regs, .clk, .time, .glb, .dmc, .vale, .qm, .pwr, .ports, .tiles, .film, .wsa, .sch, .out]
  | .wsaGuardHandoff => [.regs, .glb, .qm, .rc, .wsa, .out]
  | .schGuardProcess => [.regs, .glb, .dmc, .vale, .qm, .net, .pwr, .rc, .ports, .tiles, .film, .wsa, .sch, .out]
  | .bundleTake _ => [.wsa]
  | .pixelEvaluate _ _ _ _ | .droppedRowFixup _ _ _ _ => [.regs, .glb, .dmc, .ports, .tiles, .film, .wsa, .sch]
  | .ageSweepSegment _ _ _ => [.regs, .dmc, .film, .sch]
  | .driveRowSend _ => [.regs, .clk, .time, .glb, .ports, .out]
  | .flipSend _ | .delayProbePeriod _ => [.ports, .tiles, .out]
  | .flipCopySend _ | .seqMarkTimer _ => [.clk, .time, .glb, .ports, .out]
  | .rowNak _ _ _ _ => [.regs, .glb, .qm, .ports, .hops, .bridges, .sch, .out]
  | .frameReady _ _ _ => [.regs, .ports, .tiles, .hops, .bridges]
  | .dropReport _ _ => [.regs, .ports, .tiles, .hops, .bridges, .wsa]
  | .desc _ _ | .hopDown _ _ _ | .fecCodewordLost _ | .tcResetBridge _ _ =>
    [.regs, .glb, .qm, .ports, .tiles, .hops, .bridges, .film, .sch, .out]
  | .delayResp _ _ _ _ _ _ _ => [.regs, .glb, .qm, .fl, .ports, .tiles, .hops, .bridges, .sch, .out]
  | .tileRsp _ _ _ _ _ _ | .telemetry _ _ => [.regs, .glb, .qm, .fl, .ports, .tiles, .hops, .bridges, .out]
  | .linkState _ _ => [.regs, .ports, .hops, .bridges, .out]
  | .enumLoopArrival _ _ _ => [.regs, .ports, .hops, .bridges]
  | .packetTypeDiscard _ | .hopBlockLock _ => [.hops]
  | .enumWaitExpire _ => [.regs, .clk, .time, .glb, .qm, .ports, .tiles, .film, .sch, .out]
  | .degradedExit _ => [.ports, .sch]
  | .tileCmdFetch _ _ => [.regs, .glb, .qm, .fl, .ports, .tiles, .out]
  | .tileCmdTimeout _ _ => [.regs, .clk, .time, .glb, .qm, .fl, .ports, .tiles, .out]
  | .hopSignalDetected _ => [.ports, .hops]
  | .hopFrameLock _ => [.ports, .hops, .out]
  | .hopStepTimeout _ => [.clk, .time, .glb, .ports, .hops]
  | .hopLeavesUp _ | .tfPctrlEnable _ _ => [.regs, .glb, .qm, .ports, .tiles, .hops, .film, .sch, .out]
  | .driveRow _ _ | .flip _ _ | .seqMark _ _ | .enum _ _ _ _ | .delayProbe _ _ _ _ | .delaySet _ _ _ | .tcNop _ _
  | .tcPanelOn _ _ | .tcPanelOff _ _ | .tcClearCounters _ _ | .tcIdentify _ _ _ | .tcFlSet _ _ _ | .tcFlConfig _ _ _
  | .tcFlDiag _ _ _ | .tcFlRead _ _ | .tileOpcodeUnknown _ _ _ => [.regs, .hops, .bridges, .out]
  | .tileFlip _ | .telemetryPeriod _ _ => [.regs, .clk, .time, .glb, .qm, .rc, .bridges, .out]
  | .tcTelNow _ _ _ => [.regs, .glb, .qm, .rc, .hops, .bridges, .out]
  | .railPwmPeriod _ _ _ _ _ | .railTimeout _ _ =>
    [.regs, .clk, .time, .glb, .vale, .qm, .pwr, .rc, .ports, .tiles, .film, .wsa, .sch, .mp, .out]
  | .depDelayExpire _ _ | .rampEnd _ _ | .faultNRelease | .warmResetDrvTimeout => [.clk, .time, .glb, .vale, .rc]
  | .qualifyDone _ _ | .externalSlotOffTimer _ _ | .offtmoExpire _ _ | .faultNRearm | .minoffExpire _ =>
    [.regs, .clk, .time, .glb, .vale, .rc]
  | .retryOffExpire _ _ | .retriesClear _ _ | .ffLoad _ => [.clk, .time, .glb, .rc]
  | .faultNReleaseSample _ => [.regs, .clk, .time, .glb, .vale, .qm, .rc, .out]
  | .faultNEvent _ => [.regs, .clk, .time, .glb, .vale, .rc, .film, .sch]
  | .faultNStuck => [.regs, .clk, .time, .glb, .qm, .rc, .out]
  | .heldUpStart _ | .rgCtrlUp _ => [.regs, .vale, .rc]
  | .vinLow _ | .vinCollapse _ => [.regs, .glb, .vale, .qm, .rc, .film, .sch, .out]
  | .vinReturn _ => [.regs, .glb, .vale, .qm, .rc, .out]
  | .railStatusUpdate => [.vale]
  | .thmZoneSample _ _ _ _ => [.regs, .clk, .time, .glb, .vale, .qm, .net, .thm, .pwr, .ports, .tiles, .wsa, .mp, .out]
  | .thermalSafeEntry => [.regs, .glb, .vale, .qm, .pwr, .rc, .wsa, .out]
  | .thmTick => [.inForce, .regs, .clk, .time, .glb, .qm, .thm, .out]
  | .plateauEntryComplete => [.regs, .glb, .dmc, .vale, .qm, .net, .pwr, .rc, .film, .wsa, .mp, .out]
  | .plateauExitComplete => [.regs, .glb, .vale, .qm, .net, .pwr, .out]
  | .refreshDue _ _ _ _ | .refreshPullin _ _ _ | .setPointSwitch _ => [.regs, .dmc]
  | .mr4Poll _ _ => [.regs, .glb, .dmc, .qm, .out]
  | .rankPowerDown _ _ | .selfRefreshReentry _ | .trackingStep _ _ => [.regs, .clk, .time, .glb, .dmc]
  | .dmcTrainStart _ => [.written, .regs, .dmc, .sch]
  | .trainingDone _ => [.regs, .glb, .dram, .dmc, .qm, .tiles, .film, .mp, .out]
  | .inlineEccError _ _ _ => [.regs, .glb, .dmc, .qm, .pwr, .ports, .tiles, .wsa, .mp, .out]
  | .bar2Access _ _ => [.regs, .dram, .dmc, .out]
  | .valeAliasAccess _ _ _ _ | .valeSetWrite _ _ _ _ | .valeClearWrite _ _ _ _ | .valeOwnWrite _ _ _ | .registerRead _ _ _ =>
    [.regs, .clk, .time, .glb, .valeMem, .vale, .out]
  | .valeHandoverDone _ => [.regs, .clk, .time, .glb, .valeMem, .vale]
  | .valeRetEnWrite _ => [.written, .regs, .vale]
  | .valeRetentionEnter _ | .btWindowStart => [.clk, .time, .glb, .vale]
  | .btWindowDone _ => [.regs, .clk, .time, .glb, .valeMem, .vale, .qm, .out]
  | .statusWindowWrite _ _ _ _ | .commandDatagram _ | .completionDatagramSend _ | .commandFetch _ _ | .overflowQueueDrain _
  | .mailboxDoorbell _ _ | .mailboxControl _ _ | .nop _ | .filmLoad _ | .flStatusRead _ | .regRead _ | .eventLogRead _
  | .dumpRead _ | .odometerRead _ | .fwWrite _ => [.regs, .glb, .vale, .qm, .net, .out]
  | .heartbeat | .glbWdogKick _ _ | .diagOdoWriteNow | .refclkStop => [.glb]
  | .ptpSync _ => [.regs, .time, .glb, .vale, .qm, .net, .sch, .out]
  | .ptpAnnounce _ | .ptpDelayResp _ => [.time, .net]
  | .ptpDelayReqSend _ => [.time, .out]
  | .announceReceiptTimeout | .syncTimeout => [.regs, .clk, .time, .glb]
  | .holdoverExpire => [.regs, .clk, .time, .glb, .vale, .qm, .net, .sch, .out]
  | .wallSyncMarker _ => [.regs, .time, .glb, .vale, .qm, .net, .thm, .pwr, .tiles, .wsa, .sch, .mp, .out]
  | .markerMissHoldover => [.regs, .time]
  | .rtpPacket _ => [.regs, .dmc, .mp]
  | .renderComplete _ => [.regs, .dmc, .film, .mp]
  | .tileFill _ => [.regs, .dmc, .tiles, .film]
  | .tileFillDone _ => [.regs, .dmc, .fl, .ports, .tiles, .film, .sch, .out]
  | .arpRequest _ _ _ _ _ | .icmpEcho _ _ _ _ _ _ | .igmpQuery _ _ _ _ => [.regs, .out]
  | .ethFrameDiscard _ _ | .mpCntClr _ | .tfPcntClr _ _ | .rgCntClr _ _ | .rcCntClr _ | .dmcCntClr _ _ | .dmcGcntClr _
  | .qmCntClr _ _ => [.regs]
  | .pmbusPoll _ _ => [.regs, .net]
  | .smbSetPointer _ => [.net]
  | .smbBlockRead => [.net, .out]
  | .smbReadId => [.out]
  | .pcieReset _ => [.written, .regs, .glb, .vale, .qm, .net, .film, .out]
  | .dmaTimeout _ | .filmBind _ | .snapshotSave _ => [.regs, .glb, .vale, .qm, .net, .film, .out]
  | .flEvaluate | .flAmbientEvaluate _ => [.fl]
  | .flSegmentSend _ | .flDiagTimer _ => [.clk, .time, .glb, .fl, .ports, .tiles, .out]
  | .qmDoorbell _ _ _ => [.regs, .glb, .qm, .out]
  | .msixCoalesceExpire _ => [.regs, .clk, .time, .glb, .qm, .out]
  | .longRunningComplete _ _ => [.regs, .glb, .dram, .dmc, .vale, .qm, .net, .flash, .tiles, .film, .out]
  | .sessionOpen _ => [.regs, .glb, .dmc, .vale, .qm, .net, .pwr, .rc, .wsa, .sch, .out]
  | .sessionCancel _ => [.regs, .glb, .vale, .qm, .net, .sch, .out]
  | .sessionClose _ => [.regs, .glb, .vale, .qm, .net, .wsa, .sch, .out]
  | .placementWrite _ => [.written, .regs, .glb, .vale, .qm, .net, .out]
  | .configCommit _ => [.inForce, .regs, .time, .glb, .vale, .qm, .net, .out]
  | .snapshotRestore _ => [.regs, .glb, .dmc, .vale, .qm, .net, .film, .out]
  | .powerSet _ => [.regs, .glb, .dmc, .vale, .qm, .net, .pwr, .rc, .wsa, .out]
  | .flGlobalWrite _ | .flZoneWrite _ | .flTileBind _ => [.regs, .glb, .vale, .qm, .net, .fl, .out]
  | .regWrite _ | .registerWrite _ _ _ _ =>
    [.written, .inForce, .regs, .clk, .time, .glb, .otp, .dram, .dmc, .valeMem, .vale, .qm, .net, .thm, .pwr, .flash, .rc, .fl,
      .ports, .tiles, .hops, .film, .wsa, .sch, .mp, .out]
  | .bar2Write _ => [.regs, .glb, .dram, .dmc, .vale, .qm, .net, .out]
  | .bar2Read _ => [.regs, .glb, .dmc, .vale, .qm, .net, .out]
  | .dumpRelease _ | .fwSelect _ | .netKeySet _ => [.regs, .glb, .vale, .qm, .net, .flash, .out]
  | .reset _ =>
    [.written, .inForce, .regs, .clk, .time, .glb, .dram, .dmc, .valeMem, .vale, .qm, .net, .thm, .pwr, .flash, .rc, .fl, .ports,
      .tiles, .hops, .film, .wsa, .sch, .mp, .out]
  | .wsaCommit _ | .schCommit _ | .mpCommit _ | .tfPcommit _ _ | .timeCommit _ | .rgCommit _ _ | .rcCommit _ | .netCommit _
  | .thmCommit _ => [.inForce, .regs, .time]
  | .tfPctrlEnum _ => [.ports, .out]
  | .tfPctrlForget _ => [.tiles]
  | .tfTslotAccept _ _ => [.fl, .ports, .tiles, .sch, .out]
  | .rgCtrlEnable _ _ => [.vale, .rc]
  | .rgCtrlDown _ => [.regs, .glb, .vale, .rc, .film, .sch]
  | .timeStepNow => [.time]
  | .glbRstCtrlWarm _ | .glbRstCtrlCold _ =>
    [.written, .inForce, .regs, .time, .glb, .dram, .dmc, .valeMem, .vale, .qm, .net, .thm, .pwr, .flash, .rc, .fl, .ports, .tiles,
      .hops, .film, .wsa, .sch, .mp, .out]
  | .watchdogExpire => [.clk, .time, .glb, .pwr, .ports, .tiles, .wsa, .mp, .out]
  | .diagBootcfgSave _ | .dumpSummaryWrite _ | .odometerAreaErase _ => [.glb, .flash]
  | .diagSecverRaise _ => [.otp]
  | .qmRingCfgWrite _ _ _ _ => [.regs, .qm]
  | .qmEvtWrite _ _ => [.written, .regs]
  | .wsaCntClr _ => [.regs, .wsa]
  | .schCntClr _ | .timeCntClr _ | .thmCntClr _ => [.written, .inForce, .regs, .time]
  | .valeCntClr _ => [.regs, .vale]
  | .netCntClr _ => [.written, .inForce, .regs, .time, .net]
  | .powerOn _ _ =>
    [.written, .inForce, .regs, .time, .glb, .dram, .dmc, .valeMem, .vale, .qm, .net, .thm, .pwr, .flash, .rc, .fl, .ports, .tiles,
      .hops, .film, .wsa, .sch, .mp]
  | .porstNLow _ _ | .rstNLow _ | .resetHoldExpire =>
    [.written, .inForce, .regs, .clk, .time, .glb, .dram, .dmc, .valeMem, .vale, .qm, .net, .thm, .pwr, .flash, .rc, .fl, .ports,
      .tiles, .hops, .film, .wsa, .sch, .mp]
  | .fwException _ _ | .parityError _ => [.glb, .pwr, .ports, .tiles, .wsa, .mp, .out]
  | .resetSelfRefresh => [.regs, .clk, .glb, .dmc, .rc]
  | .bootReady _ => [.written, .regs, .clk, .time, .glb, .dmc, .vale, .qm, .net, .pwr, .flash, .rc, .tiles, .film, .wsa, .out]
  | .strikesClear | .odometerPeriodic => [.clk, .time, .glb]
  | .fatalCaptureDone _ _ => [.regs, .glb, .vale, .qm, .out]
  | .odometerRecordWrite _ => [.clk, .time, .glb, .flash]
  | .packetSyncLost _ _ | .pcrcFail _ => [.regs, .hops]
  | .arpReply _ _ _ _ _ => [.regs, .net, .out]
  | .msixVectorUnmask _ => [.written, .regs, .qm, .out]
  | .jtagTapOperation _ => [.glb, .out]

/-- From `s` to `t`, a command has changed nothing outside the parts that it touches. -/
def FrameOf (c : Instr) (s t : State) : Prop := ∀ p : StatePart, p ∉ touches c → p.same s t

end Sys2Proof.Machine
end

