-- ==== Sys2Proof/Certificates/Slice0/Obligations.lean ====
section
/-! DEFINITION. The statements for the provers. Each docstring says what the statement claims; where a clause rests on a choice of the
model and not on a rule of spec/, it says so and names the log entry. -/

open Sys2Proof Sys2Proof.Machine

/-- Every command, in every state, answers a next state: no state and no operand turns a command away with a fault or a refusal.
That a command outside the condition of its rule answers a next state at all, the state as it was, is the model's choice (assumption
67, DESIGN CHOICE; assumption 12, DEDUCED). This says of no command what it does: the statements below do. -/
def Obligations.EveryCommandAnswers : Prop :=
  ∀ (c : Instr) (s : State), ∃ t, exec c s = .next t

/-- R4, R20, R358: a register access of another size than 32 bits, one that is not naturally aligned, or one beyond the map of 64
MiB: a write changes nothing; a read returns 0 in every byte and changes no part of the state. The Vale aliases, from 0x0100_0000 to
0x03FF_FFFF, follow rules of their own. -/
def Obligations.OtherAccessesAreDiscarded : Prop :=
  ∀ (path : Path) (off : BitVec 32) (n : Nat) (s : State), off.toNat < 0x1000000 ∨ 0x4000000 ≤ off.toNat →
    n ≠ 4 ∨ off.toNat % 4 ≠ 0 ∨ 0x4000000 ≤ off.toNat →
    (∀ (v : Word) (other : Option Word), exec (.registerWrite path off n ⟨v, other⟩) s = .next s) ∧
    ∃ t, exec (.registerRead path off n) s = .next t ∧ t.out = .readData path (List.replicate n 0) :: s.out ∧
      ∀ p : StatePart, p ≠ .out → p.same s t

/-- A step takes the command at the front of the queue and runs it on the state whose queue is the rest. -/
def Obligations.StepRunsTheFrontCommand : Prop :=
  ∀ (c : Instr) (rest : List Instr) (s : State), s.pending = c :: rest → step s = exec c { s with pending := rest }

/-- On an empty queue a step is one cycle of CLK_FAB (the model's choice, assumption 6): the clock moves by one; of the TIME block
the wall time moves, by the 1.25 ns of a cycle and by what the servo's rate adds (R205; how its part of a cycle falls is free,
assumption 3); of the GLB block the odometer's times move, of the device on, in its power state, at its temperature, and at throttle
step 4 (R408); and nothing else changes. -/
def Obligations.EmptyQueueTicks : Prop :=
  ∀ s : State, s.pending = [] → ∃ t, step s = .next t ∧ t.clk = s.clk + 1 ∧ t.pending = [] ∧
    t.time = { s.time with
      wall := (((s.time.wall : Int) + 5368709120 + epsDrift 1 s.time.eps s.freeVal) % ((2 ^ 96 : Nat) : Int)).toNat } ∧
    t.glb = { s.glb with odo := { s.glb.odo with
      onC := s.glb.odo.onC + 1
      stateC := tabMod 0 s.glb.odo.stateC s.pwr.state.code (· + 1)
      tempHist := tabMod 0 s.glb.odo.tempHist (tempBin s.hottestTemp) (· + 1)
      step4 := s.glb.odo.step4 + if s.thm.step = 4 then 1 else 0 } } ∧
    ∀ p : StatePart, p ∉ [.clk, .time, .glb] → p.same s t

/-- No command changes the queue of commands. -/
def Obligations.CommandsLeaveTheQueue : Prop :=
  ∀ (c : Instr) (s t : State), exec c s = .next t → t.pending = s.pending

/-- The frame of every command: of the 27 parts of the state (the registers as written, in force and as a whole, the clock, each
block, the contents of DRAM and of Vale memory, the flash, the fuses, the tiles, the bridges, the outputs) it changes only those
that `touches` lists for it. So all of DRAM and of Vale memory, byte for byte, stands under every command but the few that store
there. -/
def Obligations.EveryCommandKeepsItsFrame : Prop :=
  ∀ (c : Instr) (s t : State), exec c s = .next t → FrameOf c s t

/-- Every step keeps the invariant: the memories behind DRAM and Vale stay in canonical form, every bit outside a register's
writable bits stands at its reset value in the registers as written and in every shadow, live and pending set, and the least
security version in the fuses fits its field. -/
def Obligations.EveryStepKeepsTheInvariant : Prop :=
  ∀ s t : State, s.Inv → step s = .next t → t.Inv

/-- The state after reset meets the invariant. -/
def Obligations.ResetMeetsTheInvariant : Prop := State.reset.Inv

/-- No step lowers the least security version in the fuses. -/
def Obligations.LeastSecurityVersionNeverFalls : Prop :=
  ∀ s t : State, s.Inv → step s = .next t → s.otp.minSecver ≤ t.otp.minSecver

/-- R298: an access through a Vale alias, which the alias takes, to a bank that belongs to another owner is denied: a read returns 0
(to a requestor outside the WSA and the TF, whose data the model shows), a write changes no byte of Vale memory, the denial is
counted in VALE_CNT_DENIED and sets VALE_STAT.DENIED. -/
def Obligations.ValeDeniesOtherOwners : Prop :=
  ∀ (who : ValeReq) (via : ValeAlias) (off : BitVec 24) (acc : MemAcc) (s : State),
    s.reached = true → aliasTakes who via off.toNat acc = true → (s.bank (off.toNat / 0x40000)).owner ≠ reqOwner who →
    ∃ t, exec (.valeAliasAccess who via off ⟨acc, []⟩) s = .next t ∧ t.vale.denied = true ∧
      t.cnt (baseVale + 0x300) = (s.cnt (baseVale + 0x300) + 1) % 2 ^ 32 ∧ t.vale.mem = s.vale.mem ∧ t.vale.banks = s.vale.banks ∧
      (∀ n, acc = .read n → t.out = ((reqPath who).toList.map fun p => Out.readData p (List.replicate n 0)) ++ s.out) ∧
      ∀ bs, acc = .write bs → t.out = s.out

/-- R299 to R301, on a bank with no test window open: an access by a requestor of the bank's owner, with no handover pending. A read
returns the bytes stored there and changes none; a write through the plain alias stores its enabled bytes; through the set alias the
word becomes word | mask, through the clear alias word & ~mask; every byte outside the access reads as before. A requestor of the
WSA or the TF only takes the bank: what it writes stands in other fields (the model's choice, assumption 28). Two control cores that
write the same bytes in one cycle are granted in ascending number: the higher one's bytes stand. -/
def Obligations.ValeAccessesOfTheOwner : Prop :=
  ∀ (who : ValeReq) (off : BitVec 24) (s : State), s.reached = true → s.valeOwned who (off.toNat / 0x40000) = true →
    (s.vale.btActive = false ∨ s.vale.btBank ≠ off.toNat / 0x40000) →
    (∀ n, aliasTakes who .normal off.toNat (.read n) = true →
      ∃ t, exec (.valeAliasAccess who .normal off ⟨.read n, []⟩) s = .next t ∧ t.vale.mem = s.vale.mem ∧
        t.out = ((reqPath who).toList.map fun p => Out.readData p (memBytes s.vale.mem off.toNat n)) ++ s.out) ∧
    (∀ bs : List Byte, aliasTakes who .normal off.toNat (.write (bs.map some)) = true →
      ∃ t, exec (.valeAliasAccess who .normal off ⟨.write (bs.map some), []⟩) s = .next t ∧ t.out = s.out ∧
        ((reqPath who).isSome = true → ∀ a, memGet t.vale.mem a =
          if off.toNat ≤ a ∧ a < off.toNat + bs.length then bs.getD (a - off.toNat) 0 else memGet s.vale.mem a) ∧
        ((reqPath who).isSome = false → t.vale.mem = s.vale.mem)) ∧
    ((reqPath who).isSome = true → ∀ mask : Word, off.toNat % 4 = 0 →
      (∃ t, exec (.valeSetWrite who off 4 mask) s = .next t ∧
        (∀ a, a < off.toNat ∨ off.toNat + 4 ≤ a → memGet t.vale.mem a = memGet s.vale.mem a) ∧
        memLe t.vale.mem off.toNat 4 = memLe s.vale.mem off.toNat 4 ||| mask.toNat) ∧
      ∃ t, exec (.valeClearWrite who off 4 mask) s = .next t ∧
        (∀ a, a < off.toNat ∨ off.toNat + 4 ≤ a → memGet t.vale.mem a = memGet s.vale.mem a) ∧
        memLe t.vale.mem off.toNat 4 = memLe s.vale.mem off.toNat 4 &&& (0xFFFFFFFF ^^^ mask.toNat)) ∧
    ∀ (i j : Fin 8) (x y : Bool) (bs cs : List Byte), i < j → reqOwner who = 1 → bs.length = cs.length → off.toNat % 64 + bs.length ≤ 64 →
      (∃ t, exec (.valeAliasAccess (.core i x) .normal off ⟨.write (bs.map some), [⟨.core j y, .normal, off, .write (cs.map some)⟩]⟩) s = .next t ∧
        ∀ a, memGet t.vale.mem a = if off.toNat ≤ a ∧ a < off.toNat + cs.length then cs.getD (a - off.toNat) 0 else memGet s.vale.mem a) ∧
      ∃ t, exec (.valeAliasAccess (.core j y) .normal off ⟨.write (cs.map some), [⟨.core i x, .normal, off, .write (bs.map some)⟩]⟩) s = .next t ∧
        ∀ a, memGet t.vale.mem a = if off.toNat ≤ a ∧ a < off.toNat + cs.length then cs.getD (a - off.toNat) 0 else memGet s.vale.mem a

/-- R324: an entry written to a ring of 2^k entries at index x carries PHASE = ((x >> k) & 1) XOR 1 in bit 0 of its byte 5, is
written whole at the address of index x, and moves PROD by one modulo 65,536; so in the first pass PHASE is 1. (Host memory is
reached: bus mastering on. That the bits of byte 5 beside PHASE are written 0 is R322.) -/
def Obligations.RingEntriesCarryPhase : Prop :=
  (∀ k x : Nat, phaseBit k x = (x >>> k &&& 1) ^^^ 1) ∧
  (∀ k x : Nat, x < 2 ^ k → phaseBit k x = 1) ∧
  ∀ (s : State) (n : Nat) (e : List Byte), s.net.pcie.bme = true → (s.ring n).irqEn = false →
    (s.ringWrite n e).out =
      .hostWrite ((s.ring n).base.toNat + (s.ring n).prod % 2 ^ (s.ring n).log2 * ringEntry n)
        (e.set 5 (BitVec.ofNat 8 ((s.ring n).prod >>> (s.ring n).log2 &&& 1 ^^^ 1))) :: s.out ∧
    ((s.ringWrite n e).ring n).prod = ((s.ring n).prod + 1) % 65536 ∧ ((s.ringWrite n e).ring n).cons = (s.ring n).cons

/-- R316: a ring holds (PROD − CONS) mod 65,536 entries: with PROD moved on by j ≤ 65,535 from CONS it holds j, whichever CONS it
began at, wraps included. -/
def Obligations.RingHoldsProdMinusCons : Prop :=
  ∀ (r : Ring) (j : Nat), r.cons < 65536 → j < 65536 → r.prod = idxAdd r.cons j →
    r.held = j ∧ (r.held = 0 ↔ r.prod = r.cons) ∧ (j + 1 < 65536 → { r with prod := idxAdd r.prod 1 }.held = j + 1)

/-- R272, R273: a bulk address b maps to channel 2 + (g mod 10) and channel address ((g / 10) << 12) | (b & 0xfff), g its 4 KiB
granule, and no two bulk addresses to one place; a channel address selects subchannel, bank group, bank and slice by its bits, the
rank by the rank's size and the row within it, and no two addresses of a channel one byte. -/
def Obligations.BulkAddressesMapToChannels : Prop :=
  (∀ b, bulkMap b = (2 + b >>> 12 % 10, (b >>> 12 / 10) <<< 12 ||| b &&& 0xFFF)) ∧ (∀ b c, bulkMap b = bulkMap c → b = c) ∧
  ∀ r c a : Nat, 0 < r → r % 65536 = 0 →
    (chanLoc r c a).subchannel = a >>> 8 &&& 1 ∧ (chanLoc r c a).group = a >>> 9 &&& 3 ∧ (chanLoc r c a).bank = a >>> 11 &&& 3 ∧
    (chanLoc r c a).slice = a >>> 13 &&& 7 ∧ (chanLoc r c a).rank = a / r ∧ (chanLoc r c a).row = a % r / 65536 ∧
    ∀ b, chanLoc r c a = chanLoc r c b → a = b

/-- R48: one frame at code c changes the ledger by +W1, +W2, +W3 for codes 1 to 3, by −W1, −W2, −W3 for codes 5 to 7, and not at all
for codes 0 and 4; a table-mode package has the defaults 1, 2 and 3. -/
def Obligations.LedgerChangePerCode : Prop :=
  ∀ p : Pkg, p.delta 0 = 0 ∧ p.delta 4 = 0 ∧
    (∀ c, 1 ≤ c → c ≤ 3 → p.delta c = p.weight c ∧ p.delta (c + 4) = -(p.weight c : Int) ∧ p.delta c + p.delta (c + 4) = 0) ∧
    (p.table = true → p.delta 1 = 1 ∧ p.delta 2 = 2 ∧ p.delta 3 = 3)

/-- R49: no code that the film model calls admissible takes a ledger outside −2,047 to +2,047, the range of R29, and code 0 always
stays inside it. -/
def Obligations.AdmissibleCodesKeepTheLedger : Prop :=
  ∀ (p : Pkg) (l : Int) (c : Nat), -2047 ≤ l → l ≤ 2047 →
    p.admissible l 0 = true ∧ (p.admissible l c = true ↔ -2047 ≤ l + p.delta c ∧ l + p.delta c ≤ 2047)

/-- R44: the appearance distance D² = (WL·ΔL² + WA·Δa² + WB·Δb²) >> 6 is symmetric, is 0 between an appearance and itself, and with
the weight 64 along one axis alone is the square of the difference. -/
def Obligations.AppearanceDistance : Prop :=
  ∀ (p : Pkg) (a q : Lab),
    p.dist2 a q = (p.u 42 1 * (a.1 - q.1).natAbs ^ 2 + p.u 43 1 * (a.2.1 - q.2.1).natAbs ^ 2 + p.u 44 1 * (a.2.2 - q.2.2).natAbs ^ 2) >>> 6 ∧
    p.dist2 a q = p.dist2 q a ∧ p.dist2 a a = 0 ∧
    (p.u 42 1 = 64 → a.2 = q.2 → p.dist2 a q = (a.1 - q.1).natAbs ^ 2)

/-- R256: the daylight curve of a zone, whose six points have strictly rising LUX: LEVEL_0 up to LUX_0, LEVEL_5 from LUX_5 on, and
between LUX_k and LUX_(k+1) the level on the straight line, truncated toward zero. -/
def Obligations.DaylightCurve : Prop :=
  ∀ (pts : List (Nat × Nat)) (a : Nat), pts.length = 6 →
    (∀ i j, i < j → j < 6 → (pts.getD i (0, 0)).1 < (pts.getD j (0, 0)).1) →
    (a ≤ (pts.getD 0 (0, 0)).1 → daylightLevel pts a = (pts.getD 0 (0, 0)).2) ∧
    ((pts.getD 5 (0, 0)).1 ≤ a → daylightLevel pts a = (pts.getD 5 (0, 0)).2) ∧
    ∀ k, k < 5 → (pts.getD k (0, 0)).1 ≤ a → a < (pts.getD (k + 1) (0, 0)).1 →
      (daylightLevel pts a : Int) = (pts.getD k (0, 0)).2 +
        Int.tdiv (((pts.getD (k + 1) (0, 0)).2 - (pts.getD k (0, 0)).2 : Int) * ((a : Int) - (pts.getD k (0, 0)).1))
          ((pts.getD (k + 1) (0, 0)).1 - (pts.getD k (0, 0)).1 : Int)

/-- R207: flip N falls at T(N) = A_T + floor((N − A_N) × 10^9 ÷ f): flips come in order, never nearer than floor(10^9 ÷ f) ns nor
farther apart than one ns more, and f frames take exactly one second. -/
def Obligations.FlipTimes : Prop :=
  ∀ at_ an f n : Nat, 0 < f → an ≤ n →
    flipTimeAt at_ an f an = at_ ∧
    flipTimeAt at_ an f n + 1000000000 / f ≤ flipTimeAt at_ an f (n + 1) ∧
    flipTimeAt at_ an f (n + 1) ≤ flipTimeAt at_ an f n + 1000000000 / f + 1 ∧
    flipTimeAt at_ an f (n + f) = flipTimeAt at_ an f n + 1000000000

/-- R205, R207: advancing to a wall time stops in the first CLK_FAB cycle whose counter has reached it when the counter's rate is
exact (ε = 0): the counter is then at or past the time, and one cycle earlier it was not. -/
def Obligations.AdvanceWallStopsAtTheCycle : Prop :=
  ∀ (s : State) (t : Nat), s.time.eps = 0 → s.time.wall < t * 2 ^ 32 → t * 2 ^ 32 + 5368709120 < 2 ^ 96 →
    t * 2 ^ 32 ≤ (s.advanceWall t).time.wall ∧ (s.advanceWall t).time.wall < t * 2 ^ 32 + 5368709120 ∧
      (s.advanceWall t).clk = s.clk + s.cyclesTo t

/-- R173, the bring-up of a hop side: signal takes an enabled side from DETECT to ADAPT (a port then shows BRINGUP), block lock to
FRAME, frame lock to HANDSHAKE, a LINK_STATE with RX_OK = 1 to UP, and any LINK_STATE puts a receiver with frame lock in packet sync
(R172); the limit of a step takes it back to DETECT with one failure more (a port then shows DOWN), and a side that leaves UP
returns to DETECT, its packet sync lost. No other hop side changes. -/
def Obligations.HopBringUp : Prop :=
  ∀ (side : HopSide) (s : State),
    (s.inStep side .detect = true → s.hopEnabled side = true →
      ∃ t, exec (.hopSignalDetected side) s = .next t ∧ (t.hop (hopKey side)).step = .adapt ∧ (t.hop (hopKey side)).since = s.clk ∧
        (∀ p, side = .port p → (t.port p.val).state = .bringup) ∧ ∀ k, k ≠ hopKey side → t.hop k = s.hop k) ∧
    (s.inStep side .adapt = true →
      ∃ t, exec (.hopBlockLock side) s = .next t ∧ (t.hop (hopKey side)).step = .frame ∧ (t.hop (hopKey side)).since = s.clk ∧
        t.ports = s.ports ∧ ∀ k, k ≠ hopKey side → t.hop k = s.hop k) ∧
    (s.inStep side .frame = true →
      ∃ t, exec (.hopFrameLock side) s = .next t ∧ (t.hop (hopKey side)).step = .handshake ∧ (t.hop (hopKey side)).since = s.clk ∧
        (∃ o, t.out = o :: s.out) ∧ ∀ k, k ≠ hopKey side → t.hop k = s.hop k) ∧
    (s.inStep side .handshake = true →
      ∃ t, exec (.linkState side true) s = .next t ∧ (t.hop (hopKey side)).step = .up ∧ (t.hop (hopKey side)).sync = true ∧
        ∀ k, k ≠ hopKey side → t.hop k = s.hop k) ∧
    (s.inStep side .up = true →
      ∀ ok, ∃ t, exec (.linkState side ok) s = .next t ∧ (t.hop (hopKey side)).step = .up ∧ (t.hop (hopKey side)).sync = true ∧
        ∀ k, k ≠ hopKey side → t.hop k = s.hop k) ∧
    (∀ n, (s.hop (hopKey side)).step.limit = some n →
      ∃ t, exec (.hopStepTimeout side) s = .next t ∧ (t.hop (hopKey side)).step = .detect ∧
        (t.hop (hopKey side)).fails = (s.hop (hopKey side)).fails + 1 ∧ (∀ p, side = .port p → (t.port p.val).state = .down) ∧
        ∀ k, k ≠ hopKey side → t.hop k = s.hop k) ∧
    (s.inStep side .up = true →
      ∃ t, exec (.hopLeavesUp side) s = .next t ∧ (t.hop (hopKey side)).step = .detect ∧ (t.hop (hopKey side)).sync = false ∧ ∀ k, k ≠ hopKey side → t.hop k = s.hop k)

/-- R171 to R175, what a receiver makes of bad input: a lost codeword counts at a port and ends packet sync, and one that makes 16
within the last 1 ms on a side that is UP takes it out of UP, an earlier one leaves it where it was (R173); a header whose HCRC
fails counts and ends packet sync; a packet whose PCRC fails, or whose TYPE is not known, is discarded, and its header, which was
good, puts the receiver in packet sync. A bridge passes a codeword lost at its upstream side on as lost, unless it ends the domain.
A bridge's receiver counts in no register of the device. -/
def Obligations.ReceiverErrors : Prop :=
  ∀ (a : Receiver) (s : State),
    let h := s.hop (hopKey (recvSide a))
    let leaves := decide (h.step = .up) && decide (15 ≤ (h.lostCw.filter fun x => decide (s.clk < x + msC 1)).length)
    (∃ t, exec (.fecCodewordLost a) s = .next t ∧ (t.hop (hopKey (recvSide a))).sync = false ∧
      (t.hop (hopKey (recvSide a))).step = (if leaves then .detect else h.step) ∧
      (leaves = false → (t.hop (hopKey (recvSide a))).lostCw = s.clk :: h.lostCw.filter fun x => decide (s.clk < x + msC 1)) ∧
      ∀ p, a = .port p → t.cnt (tfOff p.val 0x44) = (s.cnt (tfOff p.val 0x44) + 1) % 2 ^ 32) ∧
    (∀ b far, a = .bridge b far → s.upstreamSide b far = true → leaves = false →
      ∃ t, exec (.fecCodewordLost a) s = .next t ∧ (t.bridge (bridgeKey b)).cwUncorr = ((s.bridge (bridgeKey b)).cwUncorr + 1) % 2 ^ 32 ∧
        t.out = if (s.bridge (bridgeKey b)).endDomain then s.out else .jtlLost (bridgeKey b) :: s.out) ∧
    ((s.hop (hopKey (recvSide a))).sync = true →
      ∃ t, exec (.packetSyncLost a .hcrc) s = .next t ∧ (t.hop (hopKey (recvSide a))).sync = false ∧
        (∀ p, a = .port p → t.cnt (tfOff p.val 0x48) = (s.cnt (tfOff p.val 0x48) + 1) % 2 ^ 32) ∧
        ∀ b far, a = .bridge b far → t.regs = s.regs) ∧
    (∃ t, exec (.pcrcFail a) s = .next t ∧ (t.hop (hopKey (recvSide a))).discards = (s.hop (hopKey (recvSide a))).discards + 1 ∧
      (t.hop (hopKey (recvSide a))).sync = true ∧ (∀ p, a = .port p → t.cnt (tfOff p.val 0x4C) = (s.cnt (tfOff p.val 0x4C) + 1) % 2 ^ 32) ∧
      ∀ b far, a = .bridge b far → t.regs = s.regs) ∧
    ∃ t, exec (.packetTypeDiscard a) s = .next t ∧
      (t.hop (hopKey (recvSide a))).discards = (s.hop (hopKey (recvSide a))).discards + 1 ∧ (t.hop (hopKey (recvSide a))).sync = true ∧
      t.regs = s.regs ∧
      ∀ k, k ≠ hopKey (recvSide a) → t.hop k = s.hop k

/-- What the tile frame engine sends (R181, R184, R185, R187): the oldest released row under the next PSEQ, dropped where the port's
first hop is not UP; FLIP in the guard once no released row is left, its copy at least 4 µs later; SEQ_MARK at least 2 µs after the
last row, naming the last PSEQ sent; one DELAY_PROBE, but to a tile whose 16 probes of the enumeration are still out none (the
model's choice, assumption 149). -/
def Obligations.TileEngineSends : Prop :=
  ∀ (p : Fin 32) (s : State), s.glb.refclkStopped = false →
    (∀ r rest, (s.port p.val).released = r :: rest → s.frameLoop = true → s.wsa.stopped = false → s.portHopUp p.val = true →
      ∃ t, exec (.driveRowSend p) s = .next t ∧ (t.port p.val).released = rest ∧
        (t.port p.val).nextPseq = ((s.port p.val).nextPseq + 1) % 2 ^ 32 ∧
        t.out = .jtlDown p.val (driveRowPkt (s.tile r.tile).pos (s.port p.val).nextPseq (s.port p.val).nextPseq false r) :: s.out ∧
        t.cnt (tfOff p.val 0x50) = (s.cnt (tfOff p.val 0x50) + 1) % 2 ^ 32 ∧
        (s.port p.val).fitClk (32768 - (28 + 24 * r.codes.length)) ≤ t.clk) ∧
    (∀ r rest, (s.port p.val).released = r :: rest → s.frameLoop = true → s.wsa.stopped = false → s.portHopUp p.val = false →
      ∃ t, exec (.driveRowSend p) s = .next t ∧ (t.port p.val).released = rest ∧ t.out = s.out ∧
        (t.port p.val).nextPseq = (s.port p.val).nextPseq) ∧
    (s.frameLoop = true → s.wsa.inGuard = true → s.wsa.stopped = false → s.portFlips p.val = true → (s.port p.val).released = [] →
      (s.port p.val).flipAt = none → s.pwr.transit = .none →
      ∃ t, exec (.flipSend p) s = .next t ∧ t.out = .jtlDown p.val (s.flipPkt p.val false false) :: s.out ∧
        (t.port p.val).flipAt = some s.clk ∧ (t.port p.val).flipCopied = false) ∧
    (∀ x, (s.port p.val).flipAt = some x → (s.port p.val).flipCopied = false → s.portHopUp p.val = true →
      ∃ t, exec (.flipCopySend p) s = .next t ∧ (t.port p.val).flipCopied = true ∧ x + usC 4 ≤ t.clk ∧
        ∃ b, t.out = .jtlDown p.val b :: s.out) ∧
    (s.portHopUp p.val = true → (s.port p.val).nextPseq ≠ (s.port p.val).mark → s.frameLoop = true →
      ∃ t, exec (.seqMarkTimer p) s = .next t ∧ (t.port p.val).mark = (s.port p.val).nextPseq ∧ (s.port p.val).lastRow + usC 2 ≤ t.clk ∧
        t.out = .jtlDown p.val (jtlPkt 4 0xFF 0 (leBytes 4 (s.port p.val).lastPseq ++ zeroBytes 4)) :: s.out) ∧
    ∀ i : Fin 1024, s.tfActive = true → s.tileUp i.val = true →
      ((s.tile i.val).batch = false →
        ∃ t, exec (.delayProbePeriod i) s = .next t ∧ (t.tile i.val).probes = 1 ∧
          t.out = .jtlDown (s.tile i.val).port (jtlPkt 6 (s.tile i.val).pos 0
            (leBytes 4 ((s.port (s.tile i.val).port).probeId % 2 ^ 32) ++ zeroBytes 4)) :: s.out) ∧
      ((s.tile i.val).batch = true → exec (.delayProbePeriod i) s = .next s)

/-- R197, R335: a tile command is fetched while fewer than four are outstanding and the TILE_TEL ring has an entry for its answer:
CONS moves past the packet, and a well-formed command to an UP tile goes down the line as TILE_CMD; its TILE_RSP takes it off the
tile; at CMDTMO the first try is sent once more, though not in the guard; a second one, one to a tile that is no longer UP, and
after the stop of a thermal shutdown any (the model's choice, assumption 150) completes with a timeout, which counts on the tile's
port. -/
def Obligations.TileCommands : Prop :=
  (∀ (i : Fin 1024) (b : List Byte) (s : State), s.tfActive = true → s.wsa.inGuard = false → s.qm.fetching = true →
    (s.ring (512 + i.val)).en = true → (s.ring (1536 + i.val)).en = true → 0 < (s.ring (1536 + i.val)).free →
    (s.tile i.val).cmds.length < 4 → s.net.pcie.bme = true → b.length = 64 * (1 + fieldB b 4 1) →
    1 + fieldB b 4 1 ≤ (s.ring (512 + i.val)).held → tilePktOk b = true → fieldB b 0 2 ≠ 16 → fieldB b 0 2 ≠ 18 → s.tileUp i.val = true →
    ∃ t, exec (.tileCmdFetch i (.ok b)) s = .next t ∧ (t.ring (512 + i.val)).cons = idxAdd (s.ring (512 + i.val)).cons (1 + fieldB b 4 1) ∧
      (t.ring (1536 + i.val)).reserved = (s.ring (1536 + i.val)).reserved + 1 ∧ (t.tile i.val).cmds.length = (s.tile i.val).cmds.length + 1 ∧
      t.out = .jtlDown (s.tile i.val).port
        (tileCmdPkt (s.tile i.val).pos (fieldB b 2 2) (fieldB b 0 2) (sliceB b 16 (fieldB b 6 2))) :: s.out) ∧
  (∀ (p : Fin 32) (pos : BitVec 8) (tag : BitVec 16) (st : BitVec 8) (data : List Byte) (dma : HostDma) (i : Nat) (c : TileCmd) (s : State),
    s.tileAt p.val pos.toNat = some i → s.cmdOf i tag.toNat = some c → c.engine = false →
    ∃ t, exec (.tileRsp p pos tag st data dma) s = .next t ∧ (t.tile i).cmds = (s.tile i).cmds.erase c ∧
      ((s.ring (1536 + i)).en = false → (t.ring (1536 + i)).reserved = (s.ring (1536 + i)).reserved - 1)) ∧
  ∀ (i : Fin 1024) (tag : BitVec 16) (c : TileCmd) (s : State), s.cmdOf i.val tag.toNat = some c →
    (c.tries = 1 → s.tileUp i.val = true → s.wsa.stopped = false → s.wsa.inGuard = true → exec (.tileCmdTimeout i tag) s = .next s) ∧
    (c.tries = 1 → s.tileUp i.val = true → s.wsa.stopped = false → s.wsa.inGuard = false →
      ∃ t, exec (.tileCmdTimeout i tag) s = .next t ∧ c.at_ + msC (s.liveF (tfOff (s.drivePort i.val) 4) 16 7) ≤ t.clk ∧
        t.out = .jtlDown (s.tile i.val).port (tileCmdPkt (s.tile i.val).pos c.tag c.opcode c.param) :: s.out) ∧
    (c.tries ≠ 1 ∨ s.tileUp i.val = false ∨ s.wsa.stopped = true → c.engine = false →
      ∃ t, exec (.tileCmdTimeout i tag) s = .next t ∧ (t.tile i.val).cmds = (s.tile i.val).cmds.erase c ∧
        t.cnt (tfOff (s.drivePort i.val) 0x74) = (s.cnt (tfOff (s.drivePort i.val) 0x74) + 1) % 2 ^ 32)

/-- What the tile frame engine makes of what comes up the line: ROW_NAK of a row still held, or still in the journal with room for
one more entry, sends it again, though not after a thermal shutdown's stop (R373); FRAME_READY and DROP_REPORT settle the tile's
report, a missed flip counts; DESC with the current EPOCH binds a slot to the tile's SERIAL; a DELAY_RESP within 24 µs gives a
sample, and the sixteenth of the batch after an enumeration a DELAY; TELEMETRY with a good temperature is kept; HOP_DOWN loses the
tiles beyond the hop. Each also counts the codewords that the port's receiver corrected in it, a free number (R178, R181, R182, R189
to R192, R199). -/
def Obligations.TileEngineReceives : Prop :=
  ∀ (p : Fin 32) (pos : BitVec 8) (s : State),
    (∀ (q : BitVec 32) (r : SentRow), ((s.port p.val).sent.find? fun r => r.pseqs.contains q.toNat) = some r →
      r.held = true ∨ (s.inJournal r = true ∧ (s.port p.val).held < 64) → s.wsa.stopped = false →
      pos.toNat ≤ r.pos → (s.port p.val).named.contains q.toNat = false → s.time.wfn < r.row.frame →
      ∃ t, exec (.rowNak p pos q 1) s = .next t ∧ t.cnt (tfOff p.val 0x58) = (s.cnt (tfOff p.val 0x58) + 1) % 2 ^ 32 ∧
        t.cnt (tfOff p.val 0x54) = (s.cnt (tfOff p.val 0x54) + 1) % 2 ^ 32 ∧
        t.out = .jtlDown p.val (driveRowPkt r.pos (s.port p.val).nextPseq r.orig true r.row) :: s.out) ∧
    (∀ i n, s.tileAt p.val pos.toNat = some i →
      ∃ t, exec (.frameReady p pos n) s = .next t ∧ (t.tile i).ready = some n.toNat ∧ ∀ o, o ≠ tfOff p.val 0x40 → t.cnt o = s.cnt o) ∧
    (∀ i (r : DropReport), r.pos = pos → r.missed = true → s.tileAt p.val pos.toNat = some i →
      ∃ t, exec (.dropReport p r) s = .next t ∧ (t.tile i).ready = some r.wfn.toNat ∧
        t.cnt (tfOff p.val 0x68) = (s.cnt (tfOff p.val 0x68) + 1) % 2 ^ 32) ∧
    (∀ (d : DescPkt) run i, (s.port p.val).enumRun = some run → run.epoch = d.epoch.toNat → d.pos.toNat < 32 →
      s.slotFor p.val d.serial.toNat d.pos.toNat = some i →
      ∃ t, exec (.desc p d) s = .next t ∧ (t.tile i).serial = d.serial.toNat ∧ (t.tile i).bound = true ∧
        (t.tile i).maxRate = d.maxRate.toNat ∧
        ∃ r2, (t.port p.val).enumRun = some r2 ∧ r2.last = s.clk ∧ (d.pos.toNat, i) ∈ r2.found) ∧
    (∀ i (id turn resid : BitVec 32) (tTx tRx : Nat) q, s.tileAt p.val pos.toNat = some i → (s.tile i).probe = some q →
      (id.toNat + 4294967296 - q.1) % 4294967296 < q.2 → (tTx + turn.toNat + resid.toNat ≤ tRx) →
      tRx ≤ tTx + turn.toNat + resid.toNat + 150000 → (s.tile i).batch = true →
      (2 ≤ (s.tile i).probes →
        ∃ t, exec (.delayResp p pos id turn resid tTx tRx) s = .next t ∧ (t.tile i).probes = (s.tile i).probes - 1 ∧
          (t.tile i).rtt = tRx - tTx - turn.toNat - resid.toNat ∧ (t.tile i).samples.length = min ((s.tile i).samples.length + 1) 16) ∧
      ((s.tile i).probes = 1 →
        ∃ t, exec (.delayResp p pos id turn resid tTx tRx) s = .next t ∧ (t.tile i).delaySent = true)) ∧
    (∀ i (m : Telem), m.pos = pos → m.tempValid = true → -640 ≤ sext 16 m.panelTemp.toNat → sext 16 m.panelTemp.toNat ≤ 1600 →
      s.tileAt p.val pos.toNat = some i →
      ∃ t, exec (.telemetry p m) s = .next t ∧ (t.tile i).temp = sext 16 m.panelTemp.toNat ∧ (t.tile i).tempValid = true ∧
        (t.tile i).tempAt = s.clk ∧ (t.tile i).panelOn = m.panelOn) ∧
    ∀ up : Bool, ∃ t, exec (.hopDown p pos up) s = .next t ∧ t.cnt (tfOff p.val 0x6C) = (s.cnt (tfOff p.val 0x6C) + 1) % 2 ^ 32 ∧
      ∀ i, i ∈ s.domain p.val → (if up then pos.toNat else pos.toNat + 1) ≤ (s.tile i).pos →
        (t.tile i).epoch = 0 ∧ ((s.tile i).state = 1 ∨ (s.tile i).state = 2 → (t.tile i).state = 3 ∧ (t.tile i).cause = 7)

/-- Enumeration and a port's controls (R168, R173, R177, R194, R196): ENABLE; ENUM gives the chain the next EPOCH; 2 ms after the
last DESC the enumeration is closed; an ENUM that arrives at port 2k + 1 in the first pass closes the loop; DEGRADED ends after
DEGHOLD × 1,024 frames; FORGET clears the bindings of the port's slots; ACCEPT takes a tile that waits for it. -/
def Obligations.PortControls : Prop :=
  ∀ (p : Fin 32) (s : State),
    (∀ run, (s.port p.val).enumRun = some run → run.phase ≠ 1 →
      ∃ t, exec (.enumWaitExpire p) s = .next t ∧ (t.port p.val).enumRun = none ∧ (t.port p.val).state = (s.port p.val).upState ∧
        run.last + msC 2 ≤ t.clk) ∧
    (∀ run (hop : BitVec 8) (ep : BitVec 32), (s.port (p.val / 2 * 2)).enumRun = some run → s.loopOn p.val = true → p.val % 2 = 1 →
      run.phase = 1 → run.epoch = ep.toNat → hop.toNat ≤ 32 →
      ∃ t, exec (.enumLoopArrival p hop ep) s = .next t ∧ (t.port (p.val / 2 * 2)).loopClosed = true ∧ t.tiles = s.tiles) ∧
    ((s.port p.val).deg = true → s.liveF (tfOff p.val 4) 24 8 * 1024 ≤ (s.port p.val).degFrames →
      ∃ t, exec (.degradedExit p) s = .next t ∧ (t.port p.val).deg = false ∧ p.val ∉ t.sch.halved ∧
        ((s.port p.val).state = .degraded → (t.port p.val).state = .up)) ∧
    (s.reached = true →
      (∃ t, exec (.tfPctrlEnable p true) s = .next t ∧ (t.port p.val).enable = true ∧ t.tiles = s.tiles) ∧
      (∃ t, exec (.tfPctrlEnable p false) s = .next t ∧ (t.port p.val).enable = false ∧ (t.port p.val).state = .off ∧
        (t.hop p.val).step = .detect) ∧
      (s.loopOn p.val = false → s.portHopUp p.val = true →
        ∃ t, exec (.tfPctrlEnum p) s = .next t ∧ (t.port p.val).epoch = ((s.port p.val).epoch + 1) % 2 ^ 32 ∧
          (t.port p.val).state = .enum ∧ (t.port p.val).enumRun.isSome = true ∧ t.tiles = s.tiles ∧
          t.out = .jtlDown p.val
            (enumPkt 0 0 (s.liveF (tfOff p.val 4) 8 7 * 100) (((s.port p.val).epoch + 1) % 2 ^ 32)) :: s.out) ∧
      ((∀ k, k < 32 → s.tileUp (p.val * 32 + k) = false) →
        ∃ t, exec (.tfPctrlForget p) s = .next t ∧
          ∀ k, k < 32 → (t.tile (p.val * 32 + k)).bound = false ∧ (t.tile (p.val * 32 + k)).serial = 0) ∧
      ∀ k : Fin 32, (s.tile (p.val * 32 + k.val)).awaits ≠ 0 →
        ∃ t, exec (.tfTslotAccept p k) s = .next t ∧ (t.tile (p.val * 32 + k.val)).awaits = 0)

/-- What a tile bridge makes of the stream (R176, R177, R181, R182, R186 to R188): a DRIVE_ROW addressed to it for its coming flip
is stored, one addressed to another tile is not; the first copy of a FLIP schedules the flip CYCLES − DELAY after its arrival;
SEQ_MARK moves the next expected PSEQ; ENUM with HOP below 32 gives the tile its position, is answered with DESC, which the bridges
above pass on, and goes on with HOP + 1 unless LIMIT ends the domain here; one with HOP 32 or more takes the position; a DELAY_PROBE
of another tile only goes on, one of its own is also answered, with RESID 0 at this tile; DELAY_SET changes the delay used from the
next FLIP on only. -/
def Obligations.BridgeStream : Prop :=
  ∀ (b : BridgeId) (s : State),
    (∀ (q : DriveRowPkt) pos n, (s.br b).pos = some pos → (s.br b).nextWfn = some n → n % 65536 = q.frame.toNat →
      (q.addr.toNat = pos →
        ∃ t, exec (.driveRow b q) s = .next t ∧ q.orig.toNat ∈ (t.br b).rows ∧
          (t.br b).buf = putCodes (s.br b).buf (q.row.toNat * 256 + q.segFirst.toNat) q.codes) ∧
      (q.addr.toNat ≠ pos →
        ∃ t, exec (.driveRow b q) s = .next t ∧ (t.br b).rows = (s.br b).rows ∧ (t.br b).buf = (s.br b).buf)) ∧
    (∀ (q : DriveRowPkt) pos n, (s.br b).pos = some pos → (s.br b).nextWfn = some n → n % 65536 ≠ q.frame.toNat →
        ∃ t, exec (.driveRow b q) s = .next t ∧ (t.br b).rows = (s.br b).rows ∧ (t.br b).buf = (s.br b).buf) ∧
    (∀ (q : FlipPkt) pos, (s.br b).pos = some pos → (∀ x, (s.br b).sched = some x → x.1 ≠ q.wfn.toNat) →
      ∃ t, exec (.flip b q) s = .next t ∧ (t.br b).nextWfn = some q.wfn.toNat ∧ (t.br b).period = q.period.toNat ∧
        (t.br b).delay = (s.br b).newDelay ∧ (t.br b).sched = some (q.wfn.toNat,
          s.clk * 125 + ((q.cycles.toNat : Int) - sext 32 (s.br b).newDelay).toNat * 16, q.last, (q.rows.getD pos 0).toNat)) ∧
    (∀ (last : BitVec 32) pos e, (s.br b).pos = some pos → (s.br b).nextPseq = some e →
      ((last.toNat + 1) % 4294967296 + 4294967296 - e) % 4294967296 < 2147483648 →
      ∃ t, exec (.seqMark b last) s = .next t ∧ (t.br b).nextPseq = some ((last.toNat + 1) % 4294967296)) ∧
    (∀ (far : Bool) (q : EnumPkt) (f : TileFacts), q.hop.toNat < 32 →
      ∃ t, exec (.enum b far q f) s = .next t ∧ (t.br b).pos = some q.hop.toNat ∧ (t.br b).epoch = q.epoch.toNat ∧
        (t.br b).upSide = b2n far ∧ (t.br b).buf = [] ∧
        ∃ (e : Bool) (ks : List Nat), ks.getLast? = some (bridgeKey b) ∧
          t.out = (if q.hop.toNat + 1 = q.limit.toNat then [] else
            [.jtlForward (bridgeKey b) (enumPkt (q.hop.toNat + 1) q.limit.toNat q.telPer.toNat q.epoch.toNat)]) ++
          ks.map (fun k => .jtlUp k (descBytes q.hop.toNat q.epoch.toNat e f)) ++ s.out) ∧
    (∀ (far : Bool) (q : EnumPkt) (f : TileFacts), 32 ≤ q.hop.toNat →
      ∃ t, exec (.enum b far q f) s = .next t ∧ (t.br b).pos = none ∧ t.out = s.out) ∧
    (∀ (addr : BitVec 8) (id turn : BitVec 32) fwd,
      fwd = s.forward b (jtlPkt 6 addr.toNat 0 (leBytes 4 id.toNat ++ zeroBytes 4)) →
      ((s.br b).pos = some addr.toNat →
        ∃ t above, exec (.delayProbe b addr id turn) s = .next t ∧ above.length = (s.upPath b).length ∧
          t.out = above ++ .jtlUp (bridgeKey b)
            (jtlPkt 17 addr.toNat 0 (leBytes 4 id.toNat ++ leBytes 4 turn.toNat ++ leBytes 4 0 ++ zeroBytes 4)) :: fwd.out) ∧
      ((s.br b).pos ≠ some addr.toNat → exec (.delayProbe b addr id turn) s = .next fwd)) ∧
    ∀ (addr : BitVec 8) (d : BitVec 32), (s.br b).pos = some addr.toNat →
      ∃ t, exec (.delaySet b addr d) s = .next t ∧ (t.br b).newDelay = d.toNat ∧ (t.br b).delay = (s.br b).delay

/-- R186: at its scheduled flip a tile applies the codes it has buffered (none while its drivers are off) and empties the buffer;
without a FLIP it performs the flip that PERIOD predicts, at most three times, and from the first flip that is not performed on it
applies no code. R199: an UP tile that is not quiet sends its telemetry record every TELPER ms. -/
def Obligations.TileFlips : Prop :=
  ∀ (b : BridgeId) (s : State),
    (∀ pos wfn due last n, (s.br b).pos = some pos → (s.br b).sched = some (wfn, due, last, n) →
      ∃ t, exec (.tileFlip b) s = .next t ∧ (t.br b).flipWfn = wfn ∧ (t.br b).sched = none ∧ (t.br b).buf = [] ∧
        (t.br b).predicted = 0 ∧ (t.br b).drivers = (s.br b).driversNext.getD (s.br b).drivers ∧
        (t.br b).shown = (if (s.br b).driversNext.getD (s.br b).drivers then (s.br b).buf else []) ∧ cdiv due 125 ≤ t.clk) ∧
    (∀ pos, (s.br b).pos = some pos → (s.br b).sched = none → (s.br b).canPredict = true →
      ((s.br b).predicted < 3 →
        ∃ t, exec (.tileFlip b) s = .next t ∧ (t.br b).flipWfn = (s.br b).flipWfn + 1 ∧ (t.br b).predicted = (s.br b).predicted + 1 ∧
          (t.br b).lastPredicted = true) ∧
      (3 ≤ (s.br b).predicted →
        ∃ t, exec (.tileFlip b) s = .next t ∧ (t.br b).canPredict = false ∧ (t.br b).flipWfn = (s.br b).flipWfn ∧
          (t.br b).shown = [])) ∧
    (∀ pos, (s.br b).pos = some pos → (s.br b).sched = none → (s.br b).canPredict = false →
      ∃ t, exec (.tileFlip b) s = .next t ∧ (t.br b).shown = [] ∧ (t.br b).flipWfn = (s.br b).flipWfn) ∧
    ∀ m : TelMeas, s.bridgeUp b = true → (s.br b).quiet = false →
      ∃ t o, exec (.telemetryPeriod b m) s = .next t ∧ (t.br b).telAt = t.clk + msC (s.br b).telPer ∧ (s.br b).telAt ≤ t.clk ∧
        t.out = (s.sendUp b o).out ∧ (t.br b).cwCorr = 0 ∧ (t.br b).cwUncorr = 0 ∧ (t.br b).nakSent = 0 ∧ (t.br b).dropped = 0

/-- R176, R197, R198, R261: a TILE_CMD is forwarded; the tile at its position, if it has not answered this TAG within the last
second, does what the command says and answers TILE_RSP with its TSTATUS: 0 when done, 2 for a wrong PARAM, 1 for an opcode without
a meaning. Of every one of these commands: a TAG answered within the second is answered again as before, and nothing is done; at
another tile the command does nothing but go on. -/
def Obligations.TileCommandEffects : Prop :=
  ∀ (b : BridgeId) (addr : BitVec 8) (tag : BitVec 16) (s : State),
    ((s.br b).pos = some addr.toNat → s.storedRsp b tag.toNat = none →
      let fwd (op : Nat) (p : List Byte) : State := s.forward b (tileCmdPkt addr.toNat tag.toNat op p)
      let rsp (st : Nat) (d : List Byte) : List Byte := tileRspPkt addr.toNat tag.toNat st d
      (∃ t, exec (.tcNop b ⟨addr, tag⟩) s = .next t ∧ t.out = ((fwd 1 []).sendUp b (rsp 0 [])).out) ∧
      (∀ m : TelMeas, ∃ t o, exec (.tcTelNow b ⟨addr, tag⟩ m) s = .next t ∧
          t.out = (((fwd 2 []).sendUp b o).sendUp b (rsp 0 [])).out) ∧
      (∃ t, exec (.tcPanelOn b ⟨addr, tag⟩) s = .next t ∧ (t.br b).driversNext = some true ∧ (t.br b).drivers = (s.br b).drivers ∧
        t.out = ((fwd 3 []).sendUp b (rsp 0 [])).out) ∧
      (∃ t, exec (.tcPanelOff b ⟨addr, tag⟩) s = .next t ∧ (t.br b).driversNext = some false ∧ (t.br b).drivers = (s.br b).drivers ∧
        t.out = ((fwd 4 []).sendUp b (rsp 0 [])).out) ∧
      (∃ t, exec (.tcClearCounters b ⟨addr, tag⟩) s = .next t ∧ (t.br b).cwCorr = 0 ∧ (t.br b).cwUncorr = 0 ∧ (t.br b).nakSent = 0 ∧
        (t.br b).dropped = 0 ∧ t.out = ((fwd 5 []).sendUp b (rsp 0 [])).out) ∧
      (∀ n : Byte, ∃ t, exec (.tcIdentify b ⟨addr, tag⟩ [n]) s = .next t ∧
        (t.br b).locator = (if n = 0 then 0 else s.clk + msC (n.toNat * 1000)) ∧ t.out = ((fwd 6 [n]).sendUp b (rsp 0 [])).out) ∧
      (∀ p : List Byte, p.length ≠ 1 →
        ∃ t, exec (.tcIdentify b ⟨addr, tag⟩ p) s = .next t ∧ t.out = ((fwd 6 p).sendUp b (rsp 2 [])).out) ∧
      (∃ t l, exec (.tcResetBridge b ⟨addr, tag⟩) s = .next t ∧ t.br b = Bridge.init ∧
        t.out = l ++ ((fwd 7 []).sendUp b (rsp 0 [])).out ∧
        (t.hop (hopKey (.bridge b false))).step = .detect ∧ (t.hop (hopKey (.bridge b true))).step = .detect) ∧
      (∀ p : List Byte, p.length = 8 →
        ∃ t, exec (.tcFlSet b ⟨addr, tag⟩ p) s = .next t ∧ (t.br b).flNext = (s.br b).flNext ++ [(16, p)] ∧
          t.out = ((fwd 16 p).sendUp b (rsp 0 [])).out) ∧
      (∀ p : List Byte, p.length = 72 → 40 ≤ fieldB p 0 2 → fieldB p 0 2 ≤ 1000 →
        ∃ t, exec (.tcFlConfig b ⟨addr, tag⟩ p) s = .next t ∧ (t.br b).flNext = (s.br b).flNext ++ [(17, p)] ∧
          t.out = ((fwd 17 p).sendUp b (rsp 0 [])).out) ∧
      (∀ p : List Byte, p.length = 4 →
        ∃ t, exec (.tcFlDiag b ⟨addr, tag⟩ p) s = .next t ∧ (t.br b).flNext = (s.br b).flNext ++ [(18, p)] ∧
          t.out = ((fwd 18 p).sendUp b (rsp 0 [])).out) ∧
      (∀ p : List Byte,
        (p.length ≠ 8 → ∃ t, exec (.tcFlSet b ⟨addr, tag⟩ p) s = .next t ∧ t.out = ((fwd 16 p).sendUp b (rsp 2 [])).out) ∧
        (p.length ≠ 72 ∨ fieldB p 0 2 < 40 ∨ 1000 < fieldB p 0 2 →
          ∃ t, exec (.tcFlConfig b ⟨addr, tag⟩ p) s = .next t ∧ t.out = ((fwd 17 p).sendUp b (rsp 2 [])).out) ∧
        (p.length ≠ 4 → ∃ t, exec (.tcFlDiag b ⟨addr, tag⟩ p) s = .next t ∧ t.out = ((fwd 18 p).sendUp b (rsp 2 [])).out)) ∧
      (∃ t d, exec (.tcFlRead b ⟨addr, tag⟩) s = .next t ∧
        t.out = ((fwd 19 []).sendUp b (rsp 0 (leBytes 2 (s.br b).flPeriod ++ leBytes 2 (s.br b).flEn ++ d))).out) ∧
      ∀ (op : BitVec 16) (p : List Byte), op.toNat ∉ [1, 2, 3, 4, 5, 6, 7, 16, 17, 18, 19] →
        ∃ t, exec (.tileOpcodeUnknown b ⟨addr, tag⟩ ⟨op, p⟩) s = .next t ∧
          t.out = ((fwd op.toNat p).sendUp b (rsp 1 [])).out) ∧
    ∀ (m : TelMeas) (op : BitVec 16) (p : List Byte), op.toNat ∉ [1, 2, 3, 4, 5, 6, 7, 16, 17, 18, 19] →
      ∀ c ∈ [((1, []), Instr.tcNop b ⟨addr, tag⟩), ((2, []), .tcTelNow b ⟨addr, tag⟩ m), ((3, []), .tcPanelOn b ⟨addr, tag⟩),
          ((4, []), .tcPanelOff b ⟨addr, tag⟩), ((5, []), .tcClearCounters b ⟨addr, tag⟩), ((6, p), .tcIdentify b ⟨addr, tag⟩ p),
          ((7, []), .tcResetBridge b ⟨addr, tag⟩), ((16, p), .tcFlSet b ⟨addr, tag⟩ p), ((17, p), .tcFlConfig b ⟨addr, tag⟩ p),
          ((18, p), .tcFlDiag b ⟨addr, tag⟩ p), ((19, []), .tcFlRead b ⟨addr, tag⟩),
          ((op.toNat, p), .tileOpcodeUnknown b ⟨addr, tag⟩ ⟨op, p⟩)],
        (∀ q, (s.br b).pos = some addr.toNat → s.storedRsp b tag.toNat = some q →
          exec c.2 s = .next ((s.forward b (tileCmdPkt addr.toNat tag.toNat c.1.1 c.1.2)).sendUp b
            (tileRspPkt addr.toNat tag.toNat q.2.2.1 q.2.2.2))) ∧
        ((s.br b).pos ≠ some addr.toNat → exec c.2 s = .next (s.forward b (tileCmdPkt addr.toNat tag.toNat c.1.1 c.1.2)))

/-- The timers of a rail slot (R234, R235, R240, R424): DELAY after the slots of its MASK are GOOD a waiting slot starts (an
internal one ramps to SETPT, an external one qualifies), but while BOOT, SAFE or a reset holds every DRV low none does; RAMP later
it qualifies, QUAL in window later it is GOOD; TIMEOUT counts and, with RETRY_RAIL, gives a retry with DRV low for 1 ms; 1 s of GOOD
clears the retries; a slot in DISCHARGE is OFF at OFFTMO, or after 1 ms where no voltage is sensed. -/
def Obligations.RailSlotTimers : Prop :=
  ∀ (g : Fin 8) (k : Fin 12) (s : State),
    (∀ x, s.depsSince g.val k.val = some x → (s.slot g.val k.val).state = .waitDep →
      ∃ t, exec (.depDelayExpire g k) s = .next t ∧ x + usC (s.rf g.val k.val 4 16 16) ≤ t.clk ∧
        (s.drvHeld = true → t.slot g.val k.val = s.slot g.val k.val) ∧ (s.drvHeld = false → (t.slot g.val k.val).drv = true) ∧
        (s.drvHeld = false → s.slotExt g.val k.val = false → (t.slot g.val k.val).state = .ramp ∧ (t.slot g.val k.val).rampTo = s.setpt g.val k.val) ∧
        (s.drvHeld = false → s.slotExt g.val k.val = true → (t.slot g.val k.val).state = .qualify)) ∧
    ((s.slot g.val k.val).state = .ramp →
      ∃ t, exec (.rampEnd g k) s = .next t ∧ (t.slot g.val k.val).state = .qualify ∧
        (s.slot g.val k.val).rampAt + (s.slot g.val k.val).rampDur ≤ t.clk) ∧
    ((s.slot g.val k.val).state = .qualify → (s.slot g.val k.val).wasOut = false →
      ∃ t, exec (.qualifyDone g k) s = .next t ∧ (t.slot g.val k.val).state = .good ∧ (t.slot g.val k.val).goodSince = t.clk ∧
        (s.slot g.val k.val).mark + usC (s.rf g.val k.val 0x18 16 16) ≤ t.clk) ∧
    ((s.slot g.val k.val).state = .ramp → s.reaction g.val k.val = 1 →
      ∃ t, exec (.railTimeout g k) s = .next t ∧ (t.slot g.val k.val).state = .retry ∧ (t.slot g.val k.val).drv = false ∧
        (t.slot g.val k.val).retries = (s.slot g.val k.val).retries + 1 ∧
        (s.slot g.val k.val).left + usC (s.rf g.val k.val 0x1C 0 16 * 10) ≤ t.clk ∧
        t.cnt (slotCnt g.val k.val 0x15C) = (s.cnt (slotCnt g.val k.val 0x15C) + 1) % 2 ^ 32) ∧
    ((s.slot g.val k.val).state = .retry → (s.slot g.val k.val).phase = .offTime →
      ∃ t, exec (.retryOffExpire g k) s = .next t ∧ (t.slot g.val k.val).state = .retry ∧ (s.slot g.val k.val).mark + msC 1 ≤ t.clk ∧
        (s.drvHeld = true → t.slot g.val k.val = s.slot g.val k.val) ∧
        (s.drvHeld = false → (t.slot g.val k.val).drv = true ∧ (t.slot g.val k.val).phase ≠ .offTime)) ∧
    ((s.slot g.val k.val).state = .good →
      ∃ t, exec (.retriesClear g k) s = .next t ∧ (t.slot g.val k.val).retries = 0 ∧ (t.slot g.val k.val).state = .good ∧
        (s.slot g.val k.val).goodSince + msC 1000 ≤ t.clk) ∧
    ((s.slot g.val k.val).state = .discharge →
      (s.sensed g.val k.val = false →
        ∃ t, exec (.externalSlotOffTimer g k) s = .next t ∧ (t.slot g.val k.val).state = .off ∧ (t.slot g.val k.val).drv = false ∧
          (s.slot g.val k.val).mark + msC 1 ≤ t.clk) ∧
      ((s.slot g.val k.val).stopRamp = false →
        ∃ t, exec (.offtmoExpire g k) s = .next t ∧ (t.slot g.val k.val).state = .off ∧ (t.slot g.val k.val).drv = false ∧
          (s.slot g.val k.val).mark + usC (s.rf g.val k.val 0x1C 16 16 * 10) ≤ t.clk ∧
          t.cnt (slotCnt g.val k.val 0x164) = (s.cnt (slotCnt g.val k.val 0x164) + 1) % 2 ^ 32))

/-- R227, R230, R426: a ball's voltage u gives the nearest code to u × 4,095 ÷ 1.2 V from 0 to 4,095 (halfway between two codes the
upper one, the model's choice, assumption 166); a sample of an enabled slot that is OFF is recorded (its voltage exact where VFS ×
code ÷ 4,095 is a whole number) and judged by no filter; the samples come PWMDIV cycles of CLK_PER apart. -/
def Obligations.RailSampleRecorded : Prop :=
  (∀ u : BitVec 32, adcCode u ≤ 4095 ∧ (sext 32 u.toNat ≤ 0 → adcCode u = 0) ∧ (1200000 ≤ sext 32 u.toNat → adcCode u = 4095) ∧
    (0 ≤ sext 32 u.toNat → sext 32 u.toNat ≤ 1200000 →
      -600000 ≤ (adcCode u : Int) * 1200000 - sext 32 u.toNat * 4095 ∧ (adcCode u : Int) * 1200000 - sext 32 u.toNat * 4095 ≤ 600000)) ∧
  ∀ (g : Fin 8) (k : Fin 12) (v i : BitVec 32) (pg : Bool) (s : State), s.slotEn g.val k.val = true → (s.slot g.val k.val).state = .off →
    (s.slot g.val k.val).drv = false → 0 < s.rf g.val k.val 0 24 8 → 0 < s.rf g.val k.val 0 16 8 →
    ∃ t, exec (.railPwmPeriod g [k] [v] [i] [pg]) s = .next t ∧ (t.slot g.val k.val).state = .off ∧ (t.slot g.val k.val).sampleAt = t.clk ∧
      (s.slot g.val k.val).sampleAt + 4 * s.rf g.val k.val 0x24 16 12 ≤ t.clk ∧ (t.slot g.val k.val).pgood = pg ∧
      (t.slot g.val k.val).ovfRun = 0 ∧ (t.slot g.val k.val).uvfRun = 0 ∧
      (s.sensed g.val k.val = true → s.vfs g.val k.val * adcCode v % 4095 = 0 →
        (t.slot g.val k.val).v = s.vfs g.val k.val * adcCode v / 4095)

/-- R230: one period of the control loop: the duty stays from 0 to DMAX; the on-time counts whole PWM steps and carries the rest, so
that over periods no part of duty × PWMDIV is lost; the integrator stays within ±2^27, holds at DMAX while the error is above 0 and
at duty 0 while it is below 0, and elsewhere moves by KI × the error. -/
def Obligations.ControlLoopBounds : Prop :=
  ∀ (g k v : Nat) (sp : Int) (x : Slot) (s : State),
    (s.loopStep g k v sp x).duty ≤ s.rf g k 0x24 0 12 ∧ (s.loopStep g k v sp x).carry < 4096 ∧
    (s.loopStep g k v sp x).high * 4096 + (s.loopStep g k v sp x).carry =
      (s.loopStep g k v sp x).duty * s.rf g k 0x24 16 12 + x.carry ∧
    (-134217728 ≤ x.integ → x.integ ≤ 134217727 →
      -134217728 ≤ (s.loopStep g k v sp x).integ ∧ (s.loopStep g k v sp x).integ ≤ 134217727) ∧
    let target := (sp.natAbs * 4095 + (s.vfs g k).natAbs / 2) / max 1 (s.vfs g k).natAbs
    (x.duty = s.rf g k 0x24 0 12 → v < target → (s.loopStep g k v sp x).integ = x.integ) ∧
    (x.duty = 0 → target < v → (s.loopStep g k v sp x).integ = x.integ) ∧
    (0 < x.duty → x.duty < s.rf g k 0x24 0 12 → (s.loopStep g k v sp x).integ =
      clampInt (-134217728) 134217727 (x.integ + (s.rf g k 0x20 16 16 : Int) * ((target : Int) - v)))

/-- R237: a DOWN write is refused while a tile of the group has an owned pixel, or a pixel in the region of a session that is
BOOKED, PREPARING, RUNNING or CLOSING (states 3 to 6): REQ_REFUSED is set, and the group's state and slots stand. -/
def Obligations.DownRefusedWhileInUse : Prop :=
  ∀ (g : Fin 8) (i : Nat) (s : State), s.reached = true → i < 1024 → s.inMap i = true → s.tileRg i = g.val →
    (s.tileOwned i = true ∨ ∃ n x, (n, some x) ∈ s.sch.slots ∧ 3 ≤ x.state ∧ x.state ≤ 6 ∧ s.regionTouches x.req i = true) →
    ∃ t, exec (.rgCtrlDown g) s = .next t ∧ (t.group g.val).reqRefused = true ∧ (t.group g.val).state = (s.group g.val).state ∧
      (t.group g.val).slots = (s.group g.val).slots ∧ ∀ k, k ≠ g.val → t.group k = s.group k

/-- A rail group's controls and timers (R231, R233 to R236, R246, R250, R402, R424): ENABLE, which in SAFE leaves a group DISABLED;
UP refused while DISABLED or STOPPING, else held until the group may start, so too while a reset or the power state holds DRV low;
DOWN takes a group out of UP; a held UP starts at MINOFF or once the last condition holds; feed-forward that waits is loaded into
the loops of the slots whose DRV is high, and 0 into the others, and no other slot changes; the status window shows the input supply
and FAULT_N. -/
def Obligations.RailGroupControls : Prop :=
  ∀ (g : Fin 8) (s : State),
    (s.reached = true →
      ((s.group g.val).state = .disabled →
        (s.pwr.state ≠ .safe →
          ∃ t, exec (.rgCtrlEnable g true) s = .next t ∧ (t.group g.val).state = .off ∧ (t.group g.val).enable = true) ∧
        (s.pwr.state = .safe → exec (.rgCtrlEnable g true) s = .next s) ∧
        ∃ t, exec (.rgCtrlUp g) s = .next t ∧ (t.group g.val).reqRefused = true ∧ (t.group g.val).state = .disabled) ∧
      ((s.group g.val).state = .stopping →
        ∃ t, exec (.rgCtrlUp g) s = .next t ∧ (t.group g.val).reqRefused = true ∧ (t.group g.val).state = .stopping) ∧
      ((s.group g.val).state = .tripped →
        ∃ t, exec (.rgCtrlEnable g false) s = .next t ∧ (t.group g.val).state = .disabled ∧ (t.group g.val).enable = false) ∧
      ((s.group g.val).state = .off → s.fnHigh = true → s.rc.vinLow = false → s.railsBarred = false →
        ∃ t, exec (.rgCtrlUp g) s = .next t ∧ ((t.group g.val).state = .starting ∨ (t.group g.val).state = .up) ∧
          (t.group g.val).upPending = false) ∧
      ((s.group g.val).state = .off → s.rc.vinLow = true ∨ s.railsBarred = true →
        ∃ t, exec (.rgCtrlUp g) s = .next t ∧ (t.group g.val).state = .off ∧ (t.group g.val).upPending = true) ∧
      ((s.group g.val).state = .up → s.groupBusy g.val = false →
        ∃ t, exec (.rgCtrlDown g) s = .next t ∧ (t.group g.val).upPending = false ∧
          ((t.group g.val).state = .stopping ∨ (t.group g.val).state = .off ∨ (t.group g.val).state = .tripped))) ∧
    ((s.group g.val).state = .tripped → (s.group g.val).upPending = true → s.fnHigh = true → s.rc.vinLow = false →
      s.railsBarred = false →
      (∃ t, exec (.minoffExpire g) s = .next t ∧ ((t.group g.val).state = .starting ∨ (t.group g.val).state = .up) ∧
        (s.group g.val).tripAt + msC (s.liveF (baseRail g.val + 0x14) 0 10) ≤ t.clk) ∧
      ((s.group g.val).tripAt + msC (s.liveF (baseRail g.val + 0x14) 0 10) ≤ s.clk →
        ∃ t, exec (.heldUpStart g) s = .next t ∧ ((t.group g.val).state = .starting ∨ (t.group g.val).state = .up) ∧
          (t.group g.val).upPending = false)) ∧
    ((∃ k, k < 12 ∧ (s.slot g.val k).ffNext.isSome = true) →
      ∃ t, exec (.ffLoad g) s = .next t ∧ ∀ k, k < 12 →
        (∀ f, (s.slot g.val k).ffNext = some f →
          t.slot g.val k = { s.slot g.val k with ff := if (s.slot g.val k).drv then f else 0, ffNext := none }) ∧
        ((s.slot g.val k).ffNext = none → t.slot g.val k = s.slot g.val k)) ∧
    ∃ t, exec .railStatusUpdate s = .next t ∧ t.rc = s.rc ∧ t.swinGet 0x180 =
      s.rc.vin % 65536 + b2n s.rc.vinLow * 65536 + b2n s.rc.collapsed * 131072 + b2n (!s.rc.fnLine) * 262144

/-- FAULT_N (R244 to R246): the device releases the line HOLD after it drove it, once every group that caused it is TRIPPED; the
sample 5 µs later tells whether another holds it low; 2 µs of low are one event, which shuts down every running group that listens;
1 s of low is STUCK; and once the line has been high for REARM every group that an UP write left waiting starts whose other
conditions hold. -/
def Obligations.FaultNLine : Prop :=
  ∀ s : State,
    (s.rc.fnDriving = true → (∀ g, g < 8 → (s.group g).fnCause = true → (s.group g).state = .tripped) →
      ∃ t, exec .faultNRelease s = .next t ∧ t.rc.fnDriving = false ∧ t.rc.fnLine = true ∧ t.rc.fnReleased = some t.clk ∧
        s.rc.fnDriveStart + usC (s.liveF 0x30E0C 0 16 * 10) ≤ t.clk ∧ ∀ g, g < 8 → (t.group g).fnCause = false) ∧
    (∀ x, s.rc.fnReleased = some x →
      (∃ t, exec (.faultNReleaseSample true) s = .next t ∧ t.rc.fnExternal = true ∧ t.rc.fnLine = false ∧ t.rc.fnReleased = none ∧
        x + usC 5 ≤ t.clk) ∧
      ∃ t, exec (.faultNReleaseSample false) s = .next t ∧ t.rc.fnExternal = s.rc.fnExternal ∧ t.rc.fnLine = s.rc.fnLine ∧
        t.rc.fnReleased = none) ∧
    (∀ since, s.rc.fnLine = true ∨ s.rc.fnEvent = false →
      ∃ t, exec (.faultNEvent since) s = .next t ∧ t.rc.fnLine = false ∧ t.cnt 0x30E4C = (s.cnt 0x30E4C + 1) % 2 ^ 32 ∧
        since + usC 2 ≤ t.clk ∧
        ∀ g, g < 8 → s.liveB (baseRail g + 4) 1 = true → (t.group g).state ≠ .up ∧ (t.group g).state ≠ .starting) ∧
    (s.rc.fnLine = false → s.rc.fnStuckLow ≠ some s.rc.fnLowAt →
      ∃ t, exec .faultNStuck s = .next t ∧ t.rc.fnStuck = true ∧ s.rc.fnLowAt + msC 1000 ≤ t.clk) ∧
    (s.rc.fnDriving = false →
      ∃ t, exec .faultNRearm s = .next t ∧ t.rc.fnLine = true ∧
        (s.rc.fnLine = true → s.rc.fnSince + usC (s.liveF 0x30E0C 16 16 * 10) ≤ t.clk) ∧
        (s.rc.fnLine = true ∨ usC (s.liveF 0x30E0C 16 16 * 10) ≤ s.clk → s.rc.vinLow = false → s.railsBarred = false →
          ∀ g, g < 8 → (s.group g).upPending = true →
            (s.group g).state = .off ∨ ((s.group g).state = .tripped ∧
              (s.group g).tripAt + msC (s.liveF (baseRail g + 0x14) 0 10) ≤ s.clk) →
            ((t.group g).state = .starting ∨ (t.group g).state = .up) ∧ (t.group g).upPending = false))

/-- The input supply (R247 to R249, R426): with the code of VIN_MON's ball standing for a share of FS, below LOW the supply is low,
is counted, and every running group shuts down; at OK or above it has returned; with the ball's own voltage below COLL every DRV
goes low at once and the odometer's next record is that of the collapse. VIN shows the converted value (exact where code × FS ÷
4,095 is a whole number). With FS = 0 nothing is measured. -/
def Obligations.InputSupply : Prop :=
  ∀ (u : BitVec 32) (s : State),
    (s.vinFs ≠ 0 → adcCode u * s.vinFs < s.vinLowTh * 4095 → s.rc.vinLow = false →
      ∃ t, exec (.vinLow u) s = .next t ∧ t.rc.vinLow = true ∧ (adcCode u * s.vinFs % 4095 = 0 → t.rc.vin = adcCode u * s.vinFs / 4095) ∧
        t.cnt 0x30E40 = (s.cnt 0x30E40 + 1) % 2 ^ 32 ∧ ∀ g, g < 8 → (t.group g).state ≠ .up ∧ (t.group g).state ≠ .starting) ∧
    (s.vinFs ≠ 0 → s.vinOk * 4095 ≤ adcCode u * s.vinFs → s.rc.vinLow = true ∨ s.rc.collapsed = true →
      ∃ t, exec (.vinReturn u) s = .next t ∧ t.rc.vinLow = false ∧ t.rc.collapsed = false ∧
        (adcCode u * s.vinFs % 4095 = 0 → t.rc.vin = adcCode u * s.vinFs / 4095)) ∧
    (s.vinFs ≠ 0 →
      (sext 32 u.toNat * (s.vinFs : Int) < ((s.vinColl * 1200000 : Nat) : Int) →
        ∃ t, exec (.vinCollapse u) s = .next t ∧ t.rc.collapsed = true ∧ t.glb.odoDue.head? = some 3 ∧
          t.cnt 0x30E44 = (s.cnt 0x30E44 + 1) % 2 ^ 32 ∧
          ∀ g k, g < 8 → k < 12 → (t.slot g k).drv = false ∧ (t.slot g k).state = .off) ∧
      (((s.vinColl * 1200000 : Nat) : Int) ≤ sext 32 u.toNat * (s.vinFs : Int) → exec (.vinCollapse u) s = .next s)) ∧
    (s.vinFs = 0 → exec (.vinLow u) s = .next s ∧ exec (.vinReturn u) s = .next s ∧ exec (.vinCollapse u) s = .next s)

/-- R371: a temperature flag that is clear sets with the third consecutive sample at or above its level, not before; one that is set
clears with the third consecutive sample below the level less the hysteresis, not before; and a sample between the two bounds begins
the count again. The SHUTDOWN flag of a zone, once set, no sample clears. -/
def Obligations.FlagsNeedThreeSamples : Prop :=
  (∀ (zs : List (Fin 8)) (raw : List (BitVec 16)) (os hs : List Bool) (s t : State),
    exec (.thmZoneSample zs raw os hs) s = .next t → ∀ z, z < 8 → (s.zone z).shut = true → (t.zone z).shut = true) ∧
  ∀ level hyst run : Int, 0 ≤ hyst →
    (∀ a b c : Int, run ≤ 0 → level * 16 ≤ a → level * 16 ≤ b → level * 16 ≤ c →
      let x := flagStep false run a level hyst
      let y := flagStep x.1 x.2 b level hyst
      x.1 = false ∧ y.1 = false ∧ (flagStep y.1 y.2 c level hyst).1 = true) ∧
    (∀ a b c : Int, 0 ≤ run → a < (level - hyst) * 16 → b < (level - hyst) * 16 → c < (level - hyst) * 16 →
      let x := flagStep true run a level hyst
      let y := flagStep x.1 x.2 b level hyst
      x.1 = true ∧ y.1 = true ∧ (flagStep y.1 y.2 c level hyst).1 = false) ∧
    ∀ (f : Bool) (a : Int), (level - hyst) * 16 ≤ a → a < level * 16 → flagStep f run a level hyst = (f, 0)

/-- The thermal monitor (R370, R372, R373, R386): a sample that is neither open nor short nor out of range, and that differs from
the last one, is the zone's temperature and steps its WARN and HOT flags and, while it is clear, its SHUTDOWN flag; where that one
sets, and no shutdown runs yet, the shutdown starts in the present frame: renders and a power transition are abandoned, the drive
stops and the odometer owes a record; every 10 ms the throttle step falls by one while no zone is hot, and rises by one, to at most
4, while a hot zone is at or above THROTTLE; with every group off two frames after a shutdown the device is in SAFE with every group
DISABLED, unless a reset has taken the shutdown over (R393). -/
def Obligations.ThermalMonitor : Prop :=
  (∀ (z : Fin 8) (raw : BitVec 16) (s : State), (s.zone z.val).fkind = 0 → -640 ≤ sext 16 raw.toNat → sext 16 raw.toNat ≤ 2400 →
    (s.zone z.val).raw ≠ sext 16 raw.toNat →
    ∃ t, exec (.thmZoneSample [z] [raw] [false] [false]) s = .next t ∧ (t.zone z.val).temp = sext 16 raw.toNat ∧ (t.zone z.val).known = true ∧
      (t.zone z.val).sampleAt = t.clk ∧ (s.zone z.val).sampleAt + ratePeriod (s.zone z.val).rate ≤ t.clk ∧
      (t.zone z.val).warn = (flagStep (s.zone z.val).warn (s.zone z.val).warnRun (sext 16 raw.toNat) s.thmWarn s.thmHyst).1 ∧
      (t.zone z.val).hot = (flagStep (s.zone z.val).hot (s.zone z.val).hotRun (sext 16 raw.toNat) s.thmThrottle s.thmHyst).1 ∧
      (t.zone z.val).shut = ((s.zone z.val).shut ||
        (flagStep (s.zone z.val).shut (s.zone z.val).shutRun (sext 16 raw.toNat) s.thmShutdown s.thmHyst).1) ∧
      ((s.zone z.val).shut = false → (t.zone z.val).shut = true → s.pwr.state ≠ .boot → s.pwr.state ≠ .safe → s.thm.shutdown = none →
        t.thm.shutdown = some (z.val, s.time.wfn) ∧ t.wsa.stopped = true ∧ t.mp.renders = [] ∧ t.pwr.transit = .none ∧
        4 ∈ t.glb.odoDue) ∧
      (t.zone z.val).openRun = 0 ∧ (t.zone z.val).shortRun = 0 ∧ ∀ k, k ≠ z.val → t.zone k = s.zone k) ∧
  (∀ s : State, s.pendSet unitThm = none →
    ((∀ z, z < 8 → (s.zone z).hot = false) →
      ∃ t, exec .thmTick s = .next t ∧ t.thm.step = s.thm.step - 1 ∧ t.thm.tickAt = t.clk ∧ s.thm.tickAt + msC 10 ≤ t.clk) ∧
    ((∃ z, z < 8 ∧ (s.zone z).hot = true ∧ s.thmThrottle * 16 ≤ (s.zone z).temp) →
      ∃ t, exec .thmTick s = .next t ∧ t.thm.step = (if s.thm.step < 4 then s.thm.step + 1 else s.thm.step))) ∧
  ∀ (s : State) (z n : Nat), s.thm.shutdown = some (z, n) → n + 2 ≤ s.time.wfn → s.railsOff = true → s.pwr.state ≠ .safe →
    (s.glb.entry = none →
      ∃ t, exec .thermalSafeEntry s = .next t ∧ t.pwr.state = .safe ∧ t.wsa.gated = true ∧ t.glb.safeCause = 1 ∧
        ∀ g, g < 8 → (t.group g).state = .disabled ∧ (t.group g).enable = false) ∧
    (∀ e, s.glb.entry = some e → exec .thermalSafeEntry s = .next s)

/-- R37, R95, R286, R288, R304, R382, R383: with every group off an entry gates the WSA, whose clusters hold nothing, puts the bulk
channels in self-refresh and the function banks in retention, and asks for the switch to FSP-L; where that is refused the entry ends
and its exit begins (the model's choice, assumption 136); once it has been made the state is PLATEAU (that it waits for the switch:
assumption 27), and one more plateau is counted; in the first guard after its groups are UP or TRIPPED an exit ends in RUN where a
session slot is BOOKED to RETAINED, and in HOLD otherwise. -/
def Obligations.PlateauTransitions : Prop :=
  ∀ s : State,
    (s.pwr.transit = .entryOff → s.railsOff = true → s.switchRefused 1 = none →
      ∃ t, exec .plateauEntryComplete s = .next t ∧ t.pwr.transit = .entryDram ∧ t.wsa.gated = true ∧
        t.wsa.clusters = [] ∧ t.wsa.sess = [] ∧ t.dmc.bulkSr = true ∧ t.dmc.switching = some 1 ∧
        (∀ c, c ∈ bulkChans → (t.chan c).state ≠ .active) ∧ (∀ k, k < 53 → (t.bank k).ret = true) ∧
        t.film.psr = s.film.psr ∧ t.vale.mem = s.vale.mem) ∧
    (∀ e, s.pwr.transit = .entryOff → s.railsOff = true → s.switchRefused 1 = some e → (s.chan 0).fsp ≠ 1 →
      ∃ t, exec .plateauEntryComplete s = .next t ∧ t.pwr.transit = .exitRails ∧ t.wsa.gated = false) ∧
    (s.pwr.transit = .entryDram → s.dmc.switching = none →
      ∃ t, exec .plateauEntryComplete s = .next t ∧ t.pwr.state = .plateau ∧ t.pwr.transit = .none ∧
        t.pwr.plateaus = s.pwr.plateaus + 1) ∧
    (s.pwr.transit = .exitRails → s.dmc.switching = none → s.wsa.inGuard = true → s.exitRailsDone = true →
      ∃ t, exec .plateauExitComplete s = .next t ∧ t.pwr.transit = .none ∧
        t.pwr.state = if s.sch.slots.any fun q => q.2.any fun x => decide (3 ≤ x.state) then .run else .hold)

/-- The DRAM controller's timers (R280 to R287, R289, R291): a refresh unit due in an RT burst is postponed and counted, and at 8
the burst is broken for one; outside a burst, and on CH0 and CH1, no debt grows; a pull-in lowers the debt; MR4 tells the rate; an
idle rank of CH2 to CH11 that is owed no refresh powers down; a woken channel re-enters self-refresh; tracking runs at once on CH0
and CH1 and waits for the guard elsewhere; a set-point switch takes CH0 and CH1 together, after which, at FSP-H, CH2 to CH11 leave
self-refresh. -/
def Obligations.DramTimers : Prop :=
  ∀ (c : Fin 12) (sub rank : Fin 2) (s : State),
    ((s.chan c.val).state = .active →
      (s.rankKeys.contains (2 * sub.val + rank.val) = true →
        (2 ≤ c.val → (s.chan c.val).debtOf (2 * sub.val + rank.val) < 7 →
          ∃ t, exec (.refreshDue c sub rank true) s = .next t ∧
            (t.chan c.val).debtOf (2 * sub.val + rank.val) = (s.chan c.val).debtOf (2 * sub.val + rank.val) + 1 ∧
            t.cnt (baseDmc c.val + 0x40) = (s.cnt (baseDmc c.val + 0x40) + 1) % 2 ^ 32) ∧
        (2 ≤ c.val → 7 ≤ (s.chan c.val).debtOf (2 * sub.val + rank.val) →
          ∃ t, exec (.refreshDue c sub rank true) s = .next t ∧ (t.chan c.val).debtOf (2 * sub.val + rank.val) = 7 ∧
            t.cnt (baseDmc c.val + 0x44) = (s.cnt (baseDmc c.val + 0x44) + 1) % 2 ^ 32) ∧
        (c.val < 2 →
          ∃ t, exec (.refreshDue c sub rank true) s = .next t ∧
            (t.chan c.val).debtOf (2 * sub.val + rank.val) = (s.chan c.val).debtOf (2 * sub.val + rank.val)) ∧
        (∃ t, exec (.refreshDue c sub rank false) s = .next t ∧ (t.chan c.val).debt = (s.chan c.val).debt ∧ t.regs = s.regs) ∧
        (-(s.pullin c.val) < (s.chan c.val).debtOf (2 * sub.val + rank.val) →
          ∃ t, exec (.refreshPullin c sub rank) s = .next t ∧
            (t.chan c.val).debtOf (2 * sub.val + rank.val) = (s.chan c.val).debtOf (2 * sub.val + rank.val) - 1 ∧
            t.cnt (baseDmc c.val + 0x4C) = (s.cnt (baseDmc c.val + 0x4C) + 1) % 2 ^ 32)) ∧
      (∀ r : Fin 5, ∃ t, exec (.mr4Poll c r) s = .next t ∧ (t.chan c.val).refRate = r.val ∧
        t.cnt (baseDmc c.val + 0x6C) = if 3 < r.val then (s.cnt (baseDmc c.val + 0x6C) + 1) % 2 ^ 32 else s.cnt (baseDmc c.val + 0x6C)) ∧
      (2 ≤ c.val → (s.chan c.val).pd0 = false → (s.chan c.val).debtOf 0 ≤ 0 → (s.chan c.val).debtOf 2 ≤ 0 →
        ∃ t, exec (.rankPowerDown c 0) s = .next t ∧
          tabGet 0 (s.chan c.val).lastReq 0 + 8 * bits (s.dmcVal (baseDmc c.val + 0xC)) 0 12 ≤ t.clk ∧ (t.chan c.val).pd0 = true ∧ (t.chan c.val).pd1 = (s.chan c.val).pd1 ∧
          t.cnt (baseDmc c.val + 0x50) = (s.cnt (baseDmc c.val + 0x50) + 1) % 2 ^ 32) ∧
      ((s.chan c.val).awake = true → s.dmc.bulkSr = true →
        ∃ t, exec (.selfRefreshReentry c) s = .next t ∧ (t.chan c.val).state = .selfRefresh ∧ (t.chan c.val).awake = false) ∧
      (c.val < 2 →
        ∃ t, exec (.trackingStep c sub) s = .next t ∧ (t.chan c.val).trkAt = t.clk ∧
          tabGet 0 (s.chan c.val).trkBase sub.val + msC (bits (s.dmcVal (baseDmc c.val + 0x10)) 0 10) ≤ t.clk ∧
          t.cnt (baseDmc c.val + 0x58) = (s.cnt (baseDmc c.val + 0x58) + 1) % 2 ^ 32) ∧
      (2 ≤ c.val → sub.val ∉ (s.chan c.val).trkDue →
        ∃ t, exec (.trackingStep c sub) s = .next t ∧ (t.chan c.val).trkDue = (s.chan c.val).trkDue ++ [sub.val] ∧ t.regs = s.regs)) ∧
    ∀ (f : Nat) (stall : BitVec 16), s.dmc.switching = some f → stall.toNat ≤ 1500 →
      ∃ t, exec (.setPointSwitch stall) s = .next t ∧ t.dmc.switching = none ∧ t.dmc.lastStall = stall.toNat ∧ (t.chan 0).fsp = f ∧
        (t.chan 1).fsp = f ∧ (f ≠ 0 → ∀ k, 2 ≤ k → t.chan k = s.chan k) ∧
        (f = 0 → t.dmc.bulkSr = false ∧ ∀ k, k ∈ bulkChans → (s.chan k).state = .selfRefresh → (t.chan k).state = .active) ∧ t.cnt 0xD0840 = (s.cnt 0xD0840 + 1) % 2 ^ 32

/-- R292, R277: START with an idle MASK of bulk channels trains those that have not FAILED, and is refused in PLATEAU; at the end
those that did not fail are ACTIVE again and the others FAILED; a single ECC error in a region with ECC counts, a double one in P0
starts a warm reset; without ECC nothing happens. -/
def Obligations.TrainingAndEcc : Prop :=
  ∀ s : State,
    (s.reached = true → s.pwr.state = .plateau →
      ∃ t, exec (.dmcTrainStart 0x1FFC) s = .next t ∧ t.dmc.trainRefused = true ∧ t.dmc.chans = s.dmc.chans ∧ t.dmc.train = s.dmc.train) ∧
    (s.reached = true → s.pwr.state ≠ .plateau → s.dmc.train = none → s.snapshotRuns = false → s.sessionsRun = false →
      ∃ t, exec (.dmcTrainStart 0x1FFC) s = .next t ∧ (∀ c, c ∈ bulkChans → (t.chan c).state = if (s.chan c).state = .failed then .failed else .training) ∧ t.chan 0 = s.chan 0 ∧
        t.chan 1 = s.chan 1 ∧ t.dmc.train.isSome = true) ∧
    (∀ (mask : List Nat) (at_ : Nat) (failed : List (Fin 12)), s.dmc.train = some (mask, at_) →
      ∃ t, exec (.trainingDone failed) s = .next t ∧ t.dmc.train = none ∧
        ∀ c ∈ mask, (t.chan c).state = if failed.any (fun f => decide (f.val = c)) then .failed else .active) ∧
    ∀ (c : Fin 12) (a : BitVec 64),
      (s.eccOn (s.eccRegion c.val a.toNat) = false → ∀ d, exec (.inlineEccError c a d) s = .next s) ∧
      (s.eccOn (s.eccRegion c.val a.toNat) = true →
        (∃ t, exec (.inlineEccError c a false) s = .next t ∧ t.cnt (baseDmc c.val + 0x60) = (s.cnt (baseDmc c.val + 0x60) + 1) % 2 ^ 32 ∧
          t.glb.odo.dramCe = s.glb.odo.dramCe + 1) ∧
        (∃ t, exec (.inlineEccError c a true) s = .next t ∧ t.cnt (baseDmc c.val + 0x64) = (s.cnt (baseDmc c.val + 0x64) + 1) % 2 ^ 32 ∧
          (s.eccRegion c.val a.toNat = 0 → t.glb.entry.isSome = true ∧ t.glb.ready = (s.glb.ready && s.glb.entry.isSome))))

/-- R344: an access inside the BAR2 window, with its channels up, is served: a read returns the bytes of the bulk space from
BAR2_BASE on and changes no byte; a write stores its bytes there, and every byte outside it reads as before. Outside the window
nothing answers. (What a byte that nothing has written reads as is the model's choice, assumption 5; nothing here rests on it.) -/
def Obligations.Bar2Accesses : Prop :=
  ∀ (off : BitVec 36) (s : State),
    (∀ acc : MemAcc, s.bar2Size < off.toNat + MemAcc.len acc → exec (.bar2Access off acc) s = .next s) ∧
    (∀ acc : MemAcc, off.toNat + MemAcc.len acc ≤ s.bar2Size →
      (∀ c, c ∈ s.bar2Chans off.toNat (MemAcc.len acc) → (s.chan c).state = .active ∨ (s.chan c).state = .selfRefresh) →
      (∀ n, acc = .read n → ∃ t, exec (.bar2Access off acc) s = .next t ∧ t.dmc.bulk = s.dmc.bulk ∧
        t.out = .readData .pcie (memBytes s.dmc.bulk (s.dmc.bar2Blk * 32768 + off.toNat) n) :: s.out) ∧
      (∀ bs : List Byte, acc = .write (bs.map some) → ∃ t, exec (.bar2Access off acc) s = .next t ∧ t.out = s.out ∧
        ∀ a, memGet t.dmc.bulk a =
          if s.dmc.bar2Blk * 32768 + off.toNat ≤ a ∧ a < s.dmc.bar2Blk * 32768 + off.toNat + bs.length
          then bs.getD (a - (s.dmc.bar2Blk * 32768 + off.toNat)) 0 else memGet s.dmc.bulk a))

/-- Vale ownership and retention (R302, R303): a write of VALE_OWN of a free bank by its owner's path (PCIe for HOST, the LCB for
SUPERVISOR, firmware for CC), or by any of them where it has no owner, opens a handover; a write by another path, of a function
bank, to the WSA or the TF as the new owner, or with a handover pending is refused and changes no bank, and one with an OWNER above
5 is discarded; of two writes of one cycle the LCB's goes first; the handover ends with the new owner live, the bank filled with 0
where CLEAR asked for it and else untouched, and no byte of another bank changed; a bank whose RET_EN bit is set may sleep IDLE µs
after its last access, and clearing the bit wakes it. -/
def Obligations.ValeOwnership : Prop :=
  ∀ (k : Fin 64) (s : State),
    (∀ (path : Path) (v : Word), s.reached = true → v.toNat % 8 ≤ 5 →
      (k.val < 53 ∨ 4 ≤ v.toNat % 8 ∨ (s.bank k.val).pending.isSome = true ∨
          ((s.bank k.val).owner ≠ 0 ∧ (s.bank k.val).owner ≠ pathOwner path) →
        ∃ t, exec (.valeOwnWrite path k ⟨v, none⟩) s = .next t ∧ t.vale.refused = true ∧ t.vale.banks = s.vale.banks ∧
          t.vale.mem = s.vale.mem) ∧
      (53 ≤ k.val → v.toNat % 8 ≤ 3 → (s.bank k.val).pending = none →
          (s.bank k.val).owner = 0 ∨ (s.bank k.val).owner = pathOwner path →
        ∃ t, exec (.valeOwnWrite path k ⟨v, none⟩) s = .next t ∧ (t.bank k.val).pending = some (v.toNat % 8, decide (v.toNat / 8 % 2 = 1)) ∧
          (t.bank k.val).owner = (s.bank k.val).owner ∧ (t.bank k.val).ret = false ∧
          (s.vale.waiting = [] → t.vale.mem = s.vale.mem))) ∧
    (∀ v : Word, s.reached = true → 53 ≤ k.val → v.toNat % 8 ≤ 3 → (s.bank k.val).pending = none →
      ∀ w : Word, (s.bank k.val).owner = 0 → w.toNat % 8 ≤ 3 →
        ∃ t, exec (.valeOwnWrite .pcie k ⟨v, some w⟩) s = .next t ∧ t.vale.refused = true ∧
          (t.bank k.val).pending = some (w.toNat % 8, decide (w.toNat / 8 % 2 = 1))) ∧
    (∀ (path : Path) (v : Word), 6 ≤ v.toNat % 8 → exec (.valeOwnWrite path k ⟨v, none⟩) s = .next s) ∧
    pathOwner .pcie = 2 ∧ pathOwner .lcb = 3 ∧ pathOwner .firmware = 1 ∧
    (∀ new clear, (s.bank k.val).pending = some (new, clear) →
      ∃ t, exec (.valeHandoverDone k) s = .next t ∧ (t.bank k.val).owner = new ∧ (t.bank k.val).pending = none ∧
        t.cnt (baseVale + 0x31C) = (s.cnt (baseVale + 0x31C) + 1) % 2 ^ 32 ∧
        (∀ a, memGet t.vale.mem a = if clear = true ∧ k.val * 0x40000 ≤ a ∧ a < (k.val + 1) * 0x40000 then 0 else memGet s.vale.mem a) ∧
        (clear = true → s.clk + 4096 ≤ t.clk)) ∧
    (s.reached = true → ∀ v : Word, ∃ t, exec (.valeRetEnWrite v) s = .next t ∧ t.vale.mem = s.vale.mem ∧
      ∀ j, j < 11 → (t.bank (53 + j)).ret = (if bits v.toNat j 1 = 0 then false else (s.bank (53 + j)).ret)) ∧
    (53 ≤ k.val → valeDirect s 0x104 (k.val - 53) 1 = 1 → s.retains k.val = false → (s.bank k.val).pending = none →
      s.vale.btActive = false →
      ∃ t, exec (.valeRetentionEnter k) s = .next t ∧ (t.bank k.val).ret = true ∧
        (s.bank k.val).last + usC (valeDirect s 0x108 0 16) ≤ t.clk ∧ t.vale.mem = s.vale.mem)

/-- R305 to R308: the background test opens a window of a bank that can be tested, GAP × 64 cycles after the last one, and ends it
96 cycles later: the next window of that bank is the next one modulo 512, each failing line is recorded and counted, and no byte of
Vale memory changes. An access of the owner to a line of the open window waits for its end; one from an interrupt aborts it. -/
def Obligations.ValeBackgroundTest : Prop :=
  ∀ s : State,
    (valeDirect s 0x110 0 1 = 1 → s.vale.btActive = false → (∃ k, k < 64 ∧ s.testable k = true) →
      ∃ t, exec .btWindowStart s = .next t ∧ t.vale.btActive = true ∧ t.testable t.vale.btBank = true ∧ t.vale.btBank < 64 ∧
        t.vale.btWin = tabGet 0 s.vale.nextWin t.vale.btBank ∧ t.vale.btStart = t.clk ∧
        s.vale.btStart + valeDirect s 0x110 16 12 * 64 ≤ t.clk ∧ t.vale.mem = s.vale.mem) ∧
    (s.vale.btActive = true →
      (∃ t, exec (.btWindowDone []) s = .next t ∧ t.vale.btActive = false ∧ s.vale.btStart + 96 ≤ t.clk ∧
        tabGet 0 t.vale.nextWin s.vale.btBank = (s.vale.btWin + 1) % 512 ∧ t.vale.waiting = [] ∧
        t.cnt (baseVale + 0x308) = (s.cnt (baseVale + 0x308) + 1) % 2 ^ 32 ∧ (s.vale.waiting = [] → t.vale.mem = s.vale.mem)) ∧
      ∀ (fails : List (Fin 8)) (l : Fin 8),
        ∃ t, exec (.btWindowDone (fails ++ [l])) s = .next t ∧ t.vale.btActive = false ∧ (t.bank s.vale.btBank).fail = true ∧
          t.vale.failBank = s.vale.btBank ∧ t.vale.failLine = s.vale.btWin * 8 + l.val ∧
          t.cnt (baseVale + 0x314) = (s.cnt (baseVale + 0x314) + fails.length + 1) % 2 ^ 32 ∧
          (s.vale.waiting = [] → t.vale.mem = s.vale.mem)) ∧
    ∀ (off : BitVec 24) (acc : MemAcc) (n : Fin 8) (x : Bool → ValeAccess), (∀ b, x b = ⟨.core n b, .normal, off, acc⟩) →
      s.inWindow (x true) = true → aliasTakes (.core n true) .normal off.toNat acc = true →
      s.valeOwned (.core n true) s.vale.btBank = true → s.retains s.vale.btBank = false →
      (valeDirect s 0x110 1 1 = 0 →
        ∃ t, exec (.valeAliasAccess (.core n false) .normal off ⟨acc, []⟩) s = .next t ∧ t.vale.btActive = true ∧ t.out = s.out ∧
          t.vale.mem = s.vale.mem ∧ t.vale.waiting = s.vale.waiting ++ [(x false, s.clk)]) ∧
      ∃ t, exec (.valeAliasAccess (.core n true) .normal off ⟨acc, []⟩) s = .next t ∧ t.vale.btActive = false ∧ t.vale.waiting = [] ∧
        t.cnt (baseVale + 0x30C) = (s.cnt (baseVale + 0x30C) + 1) % 2 ^ 32

/-- R309 to R311, R359, R360: a write of a status window word that its writer may write is stored (of the device's own words below
0x8000 those that are assigned and mirror nothing; the mailboxes' entry words for the LCB), and of a word that no chapter assigns
nothing is; PCIe and the LCB below 0x8000 are refused with RO_WRITE; an access at an offset that is no multiple of 4 has no effect
(R4, R358); requestors of port I are served in their order; of two writes of one word in one cycle the internal port's is stored and
the collision is recorded. HEARTBEAT counts from READY on. -/
def Obligations.StatusWindowWrites : Prop :=
  ∀ (off : BitVec 16) (v : Word) (s : State),
    (off.toNat % 4 ≠ 0 → ∀ who, exec (.statusWindowWrite who off v ⟨.none, []⟩) s = .next s) ∧
    (∀ who, who ∈ [WinWriter.sch, .tf, .rc, .thm, .glb] → off.toNat < 0x8000 → off.toNat % 4 = 0 →
      (s.mirror (off.toNat / 4) = none → winAssigned (off.toNat / 4 * 4) = true →
        ∃ t, exec (.statusWindowWrite who off v ⟨.none, []⟩) s = .next t ∧ t.swinGet (off.toNat / 4) = v.toNat ∧
          ∀ w, w ≠ off.toNat / 4 → t.swinGet w = s.swinGet w) ∧
      (winAssigned (off.toNat / 4 * 4) = false → exec (.statusWindowWrite who off v ⟨.none, []⟩) s = .next s)) ∧
    (s.ccHeld = false → 0x8000 ≤ off.toNat → off.toNat % 4 = 0 → mbAssigned off.toNat = true → 0x40 ≤ off.toNat % 0x800 →
      (∃ t, exec (.statusWindowWrite .lcb off v ⟨.none, []⟩) s = .next t ∧ t.swinGet (off.toNat / 4) = v.toNat ∧
        ∀ w, w ≠ off.toNat / 4 → t.swinGet w = s.swinGet w) ∧
      ∀ v2 : Word, ∃ t, exec (.statusWindowWrite .lcb off v ⟨.write .firmware v2, []⟩) s = .next t ∧
        t.swinGet (off.toNat / 4) = v2.toNat ∧
        t.vale.collide = true ∧ t.vale.lastWord = off.toNat / 4 ∧ t.vale.collisions = min (s.vale.collisions + 1) 65535) ∧
    (∀ (off2 : BitVec 16) (v2 : Word), ∃ t u, exec (.statusWindowWrite .sch off2 v2 ⟨.none, []⟩) s = .next t ∧
      exec (.statusWindowWrite .tf off v ⟨.none, []⟩) t = .next u ∧
      exec (.statusWindowWrite .tf off v ⟨.none, [⟨.sch, off2, some v2⟩]⟩) s = .next u) ∧
    (off.toNat % 4 = 0 →
      ∃ t, exec (.statusWindowWrite .pcie off v ⟨.none, []⟩) s = .next t ∧ t.vale.roWrite = true ∧ t.vale.swin = s.vale.swin) ∧
    (s.ccHeld = false → off.toNat < 0x8000 → off.toNat % 4 = 0 →
      ∃ t, exec (.statusWindowWrite .lcb off v ⟨.none, []⟩) s = .next t ∧ t.vale.roWrite = true ∧ t.vale.swin = s.vale.swin) ∧
    (s.glb.ready = true → ∃ t, exec .heartbeat s = .next t ∧ t.glb.heartbeat = s.glb.heartbeat + 1) ∧
    (s.glb.ready = false → exec .heartbeat s = .next s)

/-- Mailboxes and SMBus (R361, R362, R364): a doorbell with indices in range moves PROD and CONS, one with a PROD out of range is
refused with IDX_ERR; EN from 0 to 1 from READY on opens the mailbox with all indices 0; the SMBus pointer is set, a block read
returns the eight words from it on and moves it by eight modulo 16,384, and the identity reads 0x7240. -/
def Obligations.MailboxesAndSmbus : Prop :=
  (∀ (m : Fin 16) (v : Word) (s : State), s.ccHeld = false →
    ((s.mbox m.val).live = true → ((s.mbox m.val).cplProd + 65536 - v.toNat / 65536) % 65536 ≤
        ((s.mbox m.val).cplProd + 65536 - (s.mbox m.val).cplCons) % 65536 →
      ((v.toNat % 65536 + 65536 - (s.mbox m.val).cmdCons) % 65536 ≤ 8 → (v.toNat % 65536 + 65536 - (s.mbox m.val).cmdProd) % 65536 ≤ 8 →
        ∃ t, exec (.mailboxDoorbell m v) s = .next t ∧ (t.mbox m.val).cmdProd = v.toNat % 65536 ∧
          (t.mbox m.val).cplCons = v.toNat / 65536 ∧ (t.mbox m.val).idxErr = (s.mbox m.val).idxErr) ∧
      (8 < (v.toNat % 65536 + 65536 - (s.mbox m.val).cmdCons) % 65536 →
        ∃ t, exec (.mailboxDoorbell m v) s = .next t ∧ (t.mbox m.val).cmdProd = (s.mbox m.val).cmdProd ∧ (t.mbox m.val).idxErr = true)) ∧
    ((s.mbox m.val).en = false → s.glb.ready = true → v.toNat % 2 = 1 →
      ∃ t, exec (.mailboxControl m v) s = .next t ∧ (t.mbox m.val).live = true ∧ (t.mbox m.val).en = true ∧
        (t.mbox m.val).cmdProd = 0 ∧ (t.mbox m.val).cplCons = 0) ∧
    (v.toNat % 2 = 0 → ∃ t, exec (.mailboxControl m v) s = .next t ∧ (t.mbox m.val).en = false)) ∧
  ∀ s : State,
    (∀ i : BitVec 16, i.toNat < 16384 → ∃ t, exec (.smbSetPointer i) s = .next t ∧ t.net.smbPtr = i.toNat ∧ t.out = s.out) ∧
    (∃ t, exec .smbBlockRead s = .next t ∧ t.net.smbPtr = (s.net.smbPtr + 8) % 16384 ∧
      t.out = .smbus ((List.range 8).flatMap fun j => leBytes 4 (s.portRead false ((s.net.smbPtr + j) % 16384))) :: s.out) ∧
    ∃ t, exec .smbReadId s = .next t ∧ t.out = .smbus [0x40, 0x72] :: s.out ∧ t.net.smbPtr = s.net.smbPtr

/-- R350: only a datagram that is well formed, from an enabled and keyed peer, whose HMAC-SHA-256 tag verifies under that peer's key
and whose SEQ is greater than the last one accepted changes any peer's state; every other one leaves the peers, and the packets
placed on NET rings, as they were. -/
def Obligations.OnlyAuthenticDatagramsAccepted : Prop :=
  ∀ (d : Datagram) (s t : State), exec (.commandDatagram d) s = .next t →
    (t.net.peers ≠ s.net.peers ∨ t.qm.netRing ≠ s.qm.netRing) →
    ∃ key, (s.peer (fieldB d.payload 5 1 % 256)).key = some key ∧
      hmac key (d.payload.take (16 + 64 * fieldB d.payload 7 1)) = d.payload.drop (16 + 64 * fieldB d.payload 7 1) ∧
      (s.peer (fieldB d.payload 5 1 % 256)).last < fieldB d.payload 8 8 ∧ s.datagramShaped d = true ∧
      s.datagramFrom d (fieldB d.payload 5 1 % 256) = true

/-- What an Ethernet port answers (R347, R365), in frames with the port's own 802.1Q tag where VLAN_EN is 1: an ARP request for its
own address and an ICMP echo to it are answered, an ARP reply is learnt, an IGMP query of version 2 or 3 is answered with the groups
it asks for, a frame that is discarded counts in NET_CNT_RXDROP; a PMBus poll of an enabled regulator is kept, and a failed one
counts and at the third in a row makes the reading STALE. -/
def Obligations.PortAnswers : Prop :=
  (∀ (q : Fin 16) (vid : Option (BitVec 12)) (mac : BitVec 48) (ip target : BitVec 32) (s : State),
    (s.frameTaken q.val vid = true → target.toNat = s.portIp q.val →
      (∃ t, exec (.arpRequest q vid mac ip target) s = .next t ∧ t.out = .arp q.val (s.frameTag q.val) true mac.toNat ip.toNat target.toNat :: s.out) ∧
      (∀ p : List Byte,
        (frameFits vid p.length = true →
          ∃ t, exec (.icmpEcho q vid mac ip target p) s = .next t ∧ t.out = .icmpReply q.val (s.frameTag q.val) mac.toNat ip.toNat p :: s.out) ∧
        (frameFits vid p.length = false →
          ∃ t, exec (.icmpEcho q vid mac ip target p) s = .next t ∧ t.out = s.out ∧
            t.cnt (baseNet + 0xF18) = (s.cnt (baseNet + 0xF18) + 1) % 2 ^ 32)) ∧
      ∃ t, exec (.arpReply q vid mac ip target) s = .next t ∧ tabGet none t.net.arp (arpKey q.val ip.toNat) = some mac.toNat ∧
        ∀ w ∈ t.net.arpWait, ¬(w.1 = q.val ∧ w.2.1 = ip.toNat)) ∧
    (s.frameTaken q.val vid = true → s.groupsOn q.val ≠ [] → ∀ v : Fin 4, 2 ≤ v.val →
      ∃ t, exec (.igmpQuery q vid v 0) s = .next t ∧
        t.out = .igmpReport q.val (s.frameTag q.val) (s.groupsOn q.val).eraseDups :: s.out) ∧
    (netPortOn s.live q.val = true →
      ∃ t, exec (.ethFrameDiscard q vid) s = .next t ∧ t.cnt (baseNet + 0xF18) = (s.cnt (baseNet + 0xF18) + 1) % 2 ^ 32 ∧ t.out = s.out)) ∧
  (∀ (d : Datagram) (s : State), frameFits d.vid d.payload.length = true → s.frameTaken d.port.val d.vid = true → d.dstIp.toNat = s.portIp d.port.val →
    s.glb.rom = false → s.datagramShaped d = false →
    ∃ t, exec (.commandDatagram d) s = .next t ∧ t.cnt (baseNet + 0xF04) = (s.cnt (baseNet + 0xF04) + 1) % 2 ^ 32 ∧ t.net = s.net) ∧
  ∀ (n : Fin 8) (s : State), bits (s.live (baseNet + 0x600 + n.val * 16)) 7 1 = 1 →
    (∀ mode vout iout temp pout status, ∃ t, exec (.pmbusPoll n (.words mode vout iout temp pout status)) s = .next t ∧
      (tabGet Pmb.init t.net.pmb n.val).vout = vout.toNat ∧ (tabGet Pmb.init t.net.pmb n.val).stale = false ∧
      (tabGet Pmb.init t.net.pmb n.val).fails = 0) ∧
    ∃ t, exec (.pmbusPoll n .nack) s = .next t ∧ (tabGet Pmb.init t.net.pmb n.val).fails = (tabGet Pmb.init s.net.pmb n.val).fails + 1 ∧
      t.cnt (baseNet + 0xF1C) = (s.cnt (baseNet + 0xF1C) + 1) % 2 ^ 32 ∧
      (2 ≤ (tabGet Pmb.init s.net.pmb n.val).fails → (tabGet Pmb.init t.net.pmb n.val).stale = true)

/-- R350, R351: a datagram that is accepted places its packets, in their order, behind those of the peer's NET ring and no other,
moves its PROD by their number, its SEQ and its return address, and counts; then the ring is fetched from (R320, R333). The entries
of a peer's completion ring leave, at most 32 in one datagram under the device's own SEQ and the peer's key, for the return address,
from the port and by the next hop it takes (where that is known: else it is asked for first, and the datagram waits); CONS moves
past them, they leave the ring, and the peer's commands are fetched again. -/
def Obligations.Datagrams : Prop :=
  (∀ (d : Datagram) (key : List Byte) (s : State), s.frameTaken d.port.val d.vid = true →
    d.dstIp.toNat = s.portIp d.port.val → s.glb.rom = false → s.datagramShaped d = true →
    s.datagramFrom d (fieldB d.payload 5 1 % 256) = true → (s.peer (fieldB d.payload 5 1 % 256)).key = some key →
    hmac key (d.payload.take (16 + 64 * fieldB d.payload 7 1)) = d.payload.drop (16 + 64 * fieldB d.payload 7 1) →
    (s.peer (fieldB d.payload 5 1 % 256)).last < fieldB d.payload 8 8 →
    let j : Fin 256 := Fin.ofNat 256 (fieldB d.payload 5 1)
    let n := fieldB d.payload 7 1
    (s.ring (2560 + 2 * j.val)).held + n ≤ (s.ring (2560 + 2 * j.val)).size →
    ∃ u : State, exec (.commandDatagram d) s = .next (u.fetchNets j 256) ∧
      tabGet [] u.qm.netRing j.val = tabGet [] s.qm.netRing j.val ++ splitEntries (d.payload.drop 16) n ∧
      (∀ k, k ≠ j.val → tabGet [] u.qm.netRing k = tabGet [] s.qm.netRing k) ∧
      (u.ring (2560 + 2 * j.val)).prod = idxAdd (s.ring (2560 + 2 * j.val)).prod n ∧
      (u.ring (2560 + 2 * j.val)).cons = (s.ring (2560 + 2 * j.val)).cons ∧
      (u.peer j.val).last = fieldB d.payload 8 8 ∧ (u.peer j.val).retPort = d.port.val ∧
      (u.peer j.val).retIp = d.srcIp.toNat ∧ (u.peer j.val).retUdp = d.srcPort.toNat ∧
      u.cnt (baseNet + 0xF00) = (s.cnt (baseNet + 0xF00) + 1) % 2 ^ 32 ∧ u.out = s.out) ∧
  ∀ (j : Fin 256) (key : List Byte) (s : State), (s.peer j.val).key = some key → tabGet [] s.qm.netOut j.val ≠ [] →
    let p := s.peer j.val
    let es := (tabGet [] s.qm.netOut j.val).take 32
    ∃ u : State, exec (.completionDatagramSend j) s = .next (u.refetch (.peer j)) ∧ (u.peer j.val).devSeq = p.devSeq + 1 ∧
      (u.ring (2561 + 2 * j.val)).cons = idxAdd (s.ring (2561 + 2 * j.val)).cons es.length ∧
      tabGet [] u.qm.netOut j.val = (tabGet [] s.qm.netOut j.val).drop 32 ∧ u.qm.netRing = s.qm.netRing ∧
      (∀ hop, s.nextHop p.retPort p.retIp = some hop →
        (∀ mac, tabGet none s.net.arp (arpKey p.retPort hop) = some mac →
          u.out = .udp p.retPort (s.frameTag p.retPort) mac p.retIp p.retUdp (datagram key j.val 1 es.length p.devSeq es.flatten) :: s.out ∧
          u.cnt (baseNet + 0xF14) = (s.cnt (baseNet + 0xF14) + 1) % 2 ^ 32) ∧
        (tabGet none s.net.arp (arpKey p.retPort hop) = none →
          u.out = .arp p.retPort (s.frameTag p.retPort) false 0 (s.portIp p.retPort) hop :: s.out ∧
          u.net.arpWait = s.net.arpWait ++
            [(p.retPort, hop, p.retIp, p.retUdp, datagram key j.val 1 es.length p.devSeq es.flatten)])) ∧
      (s.nextHop p.retPort p.retIp = none → u.out = s.out)

/-- R206, R211 to R214, R218: the servo. An offset within the bound keeps LOCKED, the third above it in a row gives ACQUIRING with
wall time still valid, the 16th within the lock bound gives LOCKED, and one above 1 µs gives STEP_PENDING; the source lost gives
HOLDOVER, and MAXSEC seconds of it, or of it and of an ACQUIRING that keeps wall time valid after it (assumption 153), LOST; the
messages the block sends and takes move the fields named here; a marker that is refused only counts. The units of |offset| are 2^-16
ns for PTP and 2^-32 ns for a marker. That the correction by TIME_PTP_ASYM is subtracted is the model's choice (assumption 154). -/
def Obligations.WallTimeCommands : Prop :=
  (∀ (m : PtpSync) (s : State), s.ptpPort m.port.val = true → m.domain.toNat = s.ptpDomain →
    s.time.master = some m.source.toNat → -7 ≤ m.logInterval → m.logInterval ≤ 0 →
    let d : Int := (m.rxStamp : Int) * 16384 - (m.origin : Int)
    let o : Int := d - s.time.mpd - sext 16 (s.liveF (baseTime + 0x54) 0 16) * 65536
    ∃ t, exec (.ptpSync m) s = .next t ∧ t.time.syncDiff = some d ∧ t.time.lastSync = s.clk ∧
      (s.time.state = .locked → o.natAbs ≤ 500 * 65536 → t.time.state = .locked ∧ t.time.bad = 0 ∧ t.time.offset = o * 65536) ∧
      (s.time.state = .locked → 500 * 65536 < o.natAbs → s.time.bad = 2 →
        t.time.state = .acquiring ∧ t.time.acqValid = true ∧ t.time.holdStart = s.clk) ∧
      (s.time.state = .acquiring → s.time.good = 15 → o.natAbs ≤ 50 * 65536 → t.time.state = .locked) ∧
      (s.time.state = .acquiring ∨ s.time.state = .holdover ∨ s.time.state = .lost → 1000 * 65536 < o.natAbs → t.time.state = .stepPending)) ∧
  (∀ (m : PtpAnnounce) (s : State), s.ptpPort m.port.val = true → m.domain.toNat = s.ptpDomain →
    m.stepsRemoved.toNat < 255 →
    ∃ t f, exec (.ptpAnnounce m) s = .next t ∧ t.time.foreign.head? = some f ∧ f.source = m.source.toNat ∧ f.port = m.port.val ∧
      f.grandmaster = m.grandmaster.toNat ∧ f.heard.head? = some s.clk ∧ t.time.state = s.time.state) ∧
  (∀ (stamp src : Nat) (s : State), s.time.master = some src → s.timeSrc = 1 →
    ∃ t p, exec (.ptpDelayReqSend stamp) s = .next t ∧ t.time.delaySeq = (s.time.delaySeq + 1) % 65536 ∧
      t.time.delayT3 = some (stamp * 16384) ∧ t.out = .delayReq p (s.frameTag p) t.time.delaySeq :: s.out) ∧
  (∀ (m : PtpDelayResp) (d : Int) (t3 : Nat) (s : State), s.ptpPort m.port.val = true →
    m.domain.toNat = s.ptpDomain → s.time.syncDiff = some d → s.time.delayT3 = some t3 → s.time.master = some m.source.toNat →
    m.seqId.toNat = s.time.delaySeq →
    ∃ t, exec (.ptpDelayResp m) s = .next t ∧ t.time.mpd = Int.fdiv (d + ((m.rxTime : Int) - (t3 : Int))) 2 ∧ t.time.delayT3 = none) ∧
  (∀ (src : Nat) (f : Foreign) (s : State), s.timeSrc = 1 → s.time.master = some src → s.time.state = .locked →
    (s.time.foreign.find? (fun g => g.source = src) = some f →
      ∃ t, exec .announceReceiptTimeout s = .next t ∧ t.time.state = .holdover ∧ t.time.holdStart = t.clk ∧
        (∀ g ∈ t.time.foreign, g.source ≠ src) ∧ f.heard.headD 0 + 3 * logC f.logInterval ≤ t.clk ∧
        t.cnt (baseTime + 0x8C) = (s.cnt (baseTime + 0x8C) + 1) % 2 ^ 32) ∧
    ∃ t, exec .syncTimeout s = .next t ∧ t.time.state = .holdover ∧ t.time.holdStart = t.clk ∧
      s.time.lastSync + 8 * logC s.time.syncLog ≤ t.clk ∧ t.cnt (baseTime + 0x84) = (s.cnt (baseTime + 0x84) + 1) % 2 ^ 32) ∧
  ∀ (m : Marker) (s : State),
    (s.time.state = .holdover ∨ (s.time.state = .acquiring ∧ s.time.acqValid = true) →
      ∃ t, exec .holdoverExpire s = .next t ∧ t.time.state = .lost ∧
        s.time.holdStart + s.liveF (baseTime + 0x40) 0 12 * 800000000 ≤ t.clk) ∧
    (s.reached = true → s.time.state = .stepPending → ∃ t, exec .timeStepNow s = .next t ∧ t.time.stepNow = true ∧
      t.time.state = .stepPending) ∧
    (s.timeSrc = 2 → s.time.state = .locked → 3 ≤ s.time.wsMiss →
      ∃ t, exec .markerMissHoldover s = .next t ∧ t.time.state = .holdover ∧ t.time.holdStart = t.clk) ∧
    (s.timeSrc = 2 →
      (s.markerOk m = false → ∃ t, exec (.wallSyncMarker m) s = .next t ∧ t.time = s.time ∧
        t.cnt (baseTime + 0x90) = (s.cnt (baseTime + 0x90) + 1) % 2 ^ 32) ∧
      (s.markerOk m = true → s.time.state = .locked →
        ((m.edge : Int) - ((s.liveF (baseTime + 0x70) 16 16 * 1073741824 : Nat) : Int) -
          ((fieldB m.msg 0 8 * 4294967296 : Nat) : Int)).natAbs ≤ 100 * 4294967296 →
        ∃ t, exec (.wallSyncMarker m) s = .next t ∧ t.time.state = .locked ∧ t.time.bad = 0 ∧ t.time.wsMiss = 0 ∧
          t.time.wfn = fieldB m.msg 8 6 ∧ t.time.anchorN = fieldB m.msg 8 6 ∧ t.time.anchorT = fieldB m.msg 0 8 ∧
          t.time.leaderValid = decide (bits (fieldB m.msg 15 1) 0 1 = 1)))

/-- R14, R15, R35, R207, R214: the events of a frame. The flip tick begins the next frame number; a step that is due is taken; the
age tick's number is WFN ÷ 64; the guard begins once, hands over once, and the SCH processes it once, after which the device is in
RUN while a session runs and in HOLD otherwise. (That the guard comes about in every power state but BOOT, PLATEAU and SAFE among
them: assumption 90, DEDUCED; that the age sweep begins afresh in HOLD and RUN only: assumption 91, DEDUCED.) -/
def Obligations.FrameEvents : Prop :=
  ∀ s : State, s.glb.refclkStopped = false →
    (s.time.state ≠ .stepPending →
      ∃ t, exec .flipTick s = .next t ∧ t.time.wfn = (s.time.wfn + 1) % 2 ^ 48 ∧ s.clk ≤ t.clk) ∧
    (s.stepDue = true → ∃ t, exec .timeStep s = .next t ∧ t.time.stepNow = false ∧ t.time.state ≠ .stepPending) ∧
    (s.time.wfn % 64 = 0 → s.time.wfn / 64 ≠ s.film.tick →
      ∃ t, exec .ageTick s = .next t ∧ t.film.tick = s.time.wfn / 64 ∧ t.sch.ageAcc = [] ∧ t.sch.ageSkip = [] ∧
        (s.frameLoop = true → s.wsa.gated = false → t.film.tickSweep = s.time.wfn / 64)) ∧
    (s.wsa.inGuard = false → s.pwr.state ≠ .boot →
      ∃ t, exec .guardBegin s = .next t ∧ t.wsa.inGuard = true ∧ t.wsa.acc = [] ∧ t.time.wfn = s.time.wfn ∧
        (s.pwr.transit = .entryFlip → t.pwr.transit = .entryRails (s.time.wfn + 2))) ∧
    (s.frameLoop = true → s.wsa.inGuard = true → s.wsa.handed = false →
      ∃ t, exec .wsaGuardHandoff s = .next t ∧ t.wsa.handed = true ∧ t.wsa.qpred = s.latchCharge.wsa.qpred) ∧
    (s.wsa.inGuard = true → s.sch.guardDone = false → (s.frameLoop = true ∧ s.wsa.handed = true ∨ s.pwr.state = .plateau) →
      ∃ t, exec .schGuardProcess s = .next t ∧ t.sch.guardDone = true ∧ t.wsa.cnt = [] ∧
        (t.frameLoop = true → t.pwr.state = if t.sessionsRun then .run else .hold))

/-- R36, R62, R72, R77, R91, R94, R140, R164, R184, R292, R348, R439: the work inside a frame. A cluster takes the front bundle of
its own group; a pixel in hand is evaluated, and one not in hand, of a pending row or with no room for its row in the queue is not;
a dropped row is fixed up from its held entry, which leaves: each pixel of the entry gets the record that R91 makes of its present
one and its held one, and is then computed anew, and no target changes; the sweep brings a segment it visits to the present tick,
but not on a tile that waits for a snapshot or a fill, and waits itself while the planes are held; a render ends with the rows of
its region written, or cleared, as its session still stands (a late one whose slot another session has taken writes nothing:
assumption 160); a fill begins with the RETAINED pixels of its tile released, and ends with the tile's pixels all at the cold value;
a packet of a source is heard, and one of no source is dropped. -/
def Obligations.FrameWork : Prop :=
  (∀ (c : Fin 48) (own : Nat) (g : PGroup) (b : Bundle) (r : List Bundle) (s : State), s.synthRuns = true →
    (s.cluster c.val).bundle = none → (s.cluster c.val).switched = false → (s.cluster c.val).group = some own →
    s.wsa.groups.find? (fun h => h.slot = own) = some g → g.queue = b :: r →
    ∃ t, exec (.bundleTake c) s = .next t ∧ (t.cluster c.val).bundle = some b) ∧
  (∀ (c : Fin 48) (i : Fin 1024) (x : Fin 16384) (y : Fin 65536) (p : Pkg) (s : State), s.tilePkg i.val = some p →
    (s.synthRuns = true → ((s.cluster c.val).segs i.val y.val).contains (x.val / 64) = true → x.val < s.tileW i.val →
      s.pixDone c.val i.val x.val y.val = false → s.rowPending i.val y.val = false → s.rowStalled i.val = false →
      exec (.pixelEvaluate c i x y) s =
        .next ((s.computePixel c.val i.val x.val y.val p).touchPixel (pixKey i.val x.val y.val))) ∧
    (s.synthRuns = false ∨ s.pixDone c.val i.val x.val y.val = true ∨ s.rowPending i.val y.val = true ∨ s.rowStalled i.val = true →
      exec (.pixelEvaluate c i x y) s = .next s)) ∧
  (∀ (c : Fin 48) (i : Fin 1024) (y : Fin 65536) (g : Fin 256) (p : Pkg) (r : SentRow) (s : State), s.tilePkg i.val = some p →
    s.wsa.fixup.find? (fun q => q.row.covers i.val y.val g.val) = some r → s.synthRuns = true →
    ((s.cluster c.val).segs i.val y.val).contains g.val = true →
    (s.rowStalled i.val = false →
      let fixed := r.row.pre.foldl (fun st h => st.fixPixel i.val y.val (s.laneCtx i.val p) h) s
      let freed := ({ fixed with wsa.fixup := s.wsa.fixup.erase r }.freeHeld r).count (baseWsa + 0x110)
      ∃ t, exec (.droppedRowFixup c i y g) s = .next t ∧
        t = (r.row.pre.foldl (fun st h =>
          if ((st.cluster c.val).segs i.val y.val).contains (h.1 / 64) && !st.pixDone c.val i.val h.1 y.val
          then st.computePixel c.val i.val h.1 y.val p else st) freed).touchPixel (pixKey i.val (g.val * 64) y.val) ∧
        t.wsa.fixup = s.wsa.fixup.erase r ∧ t.film.target = s.film.target ∧
        ∀ (u : State) (h : Nat × DWord), (u.fixPixel i.val y.val (s.laneCtx i.val p) h).film.psr =
          (u.setPsr i.val h.1 y.val ((s.laneCtx i.val p).fixed (u.psr i.val h.1 y.val) (Psr.ofWord h.2))).film.psr) ∧
    (s.rowStalled i.val = true → exec (.droppedRowFixup c i y g) s = .next s)) ∧
  (∀ (i : Fin 1024) (y : Fin 65536) (g : Fin 256) (s : State), s.frameLoop = true → s.wsa.gated = false → s.wsa.inGuard = false →
    s.glb.refclkStopped = false → s.inMap i.val = true → s.actBit i.val y.val g.val = false → y.val < s.tileH i.val →
    g.val < segsPerRow (s.tileW i.val) →
    (s.film.snapTiles.contains i.val = true ∨ (s.tile i.val).fill = 2 →
      ∃ t, exec (.ageSweepSegment i y g) s = .next t ∧ i.val ∈ t.sch.ageSkip ∧ t.film = s.film) ∧
    (s.film.snapTiles.contains i.val = false → (s.tile i.val).fill ≠ 2 →
      (s.planesHeld = false →
        ∃ t, exec (.ageSweepSegment i y g) s = .next t ∧ t.film.tick = s.film.tick ∧
          t = ((s.grantReq (.sweep (segKey i.val y.val g.val)) (s.psrChans (pixKey i.val (g.val * 64) y.val))).tickSegment
            i.val y.val g.val).touchPixel (pixKey i.val (g.val * 64) y.val) ∧
          t.segTick i.val y.val g.val = s.film.tick ∧ t.sch.ageSkip = s.sch.ageSkip) ∧
      (s.planesHeld = true → ∃ t, exec (.ageSweepSegment i y g) s = .next t ∧ t.film = s.film ∧
        t = s.holdReq (.sweep (segKey i.val y.val g.val))))) ∧
  (∀ (n : Fin 1023) (r : Render) (s : State), s.mp.renders.find? (fun q => q.slot = n.val) = some r →
    (s.planesHeld = false →
      let u : State := { s.touchPlanes with mp.renders := s.mp.renders.erase r }
      ∃ t, exec (.renderComplete n) s = .next t ∧ t.mp.renders = s.mp.renders.erase r ∧
        (∀ x, s.sess r.slot = some x → x.order = r.order →
          t.film = if r.req.plain then (u.renderClear r).film else (u.renderRows r).film) ∧
        ((∀ x, s.sess r.slot = some x → x.order ≠ r.order) → t.film = s.film)) ∧
    (s.planesHeld = true → exec (.renderComplete n) s = .next s)) ∧
  (∀ (i : Fin 1024) (s : State),
    ((s.tile i.val).fill = 1 → (s.tile i.val).awaits ≠ 8 → s.fillBlocked i.val = false → s.film.snapTiles.contains i.val = false →
      s.planesHeld = false → ∃ t, exec (.tileFill i) s = .next t ∧ (t.tile i.val).fill = 2 ∧
        t.film = (s.mapPsrs i.val fun _ _ v => v.release).film) ∧
    ((s.tile i.val).fill = 2 → s.planesHeld = false →
      ∃ t, exec (.tileFillDone i) s = .next t ∧ (t.tile i.val).fill = 0 ∧ (t.tile i.val).unknown = true ∧
        (t.tile i.val).width = (s.tile i.val).newWidth ∧ (t.tile i.val).height = (s.tile i.val).newHeight ∧
        (∀ e ∈ t.film.psr, inTile i.val e.1 = false) ∧ ∀ e ∈ t.film.target, inTile i.val e.1 = false)) ∧
  ∀ (p : RtpPkt) (s : State), frameFits p.vid (rtpSize p) = true → netPortOn s.live p.port.val = true →
    (s.frameTaken p.port.val p.vid = true → s.frameLoop = true → ∀ n : Fin 16, s.rxTakes n.val p = true →
      ∃ t, exec (.rtpPacket p) s = .next t ∧ (t.src n.val).lastPkt = some s.clk) ∧
    ((∀ n : Fin 16, s.rxTakes n.val p = false) →
      ∃ t, exec (.rtpPacket p) s = .next t ∧ t.mp = s.mp ∧ t.cnt (baseNet + 0xF18) = (s.cnt (baseNet + 0xF18) + 1) % 2 ^ 32)

/-- R320, R325: the commands that act at once. A command at the head of its source, that may start and is well formed, in a state
that serves its opcode, leaves the fetched commands and has the effect named here on what is left; its completion is posted, and the
commands behind it are looked at. An access to the BAR2 window waits while a channel of it trains or has FAILED. (The model's
choices: that a SESSION_CLOSE after the SCH's work in a guard acts at once, assumption 126, DESIGN CHOICE; that RESET acts 1 ms
after its completion, assumption 87; that FW_SELECT of an area that cannot be read is IMAGE_REJECT, assumption 86.) -/
def Obligations.ImmediateCommands : Prop :=
  ∀ (src : CmdSource) (c : Cmd) (s : State), s.headCmd src = some c → s.mayStart c = true → c.badStatus = none →
    (s.takeCmd c).served c.opcode = true →
    let u := s.takeCmd c
    let p := c.param
    (c.opcode = 0 → exec (.nop src) s = .next ((u.okCmd c.org c.tag 0 0 []).settle src)) ∧
    (c.opcode = 16 → s.opensWait = false → s.opensBefore src = [] → ∀ n, u.openRefused (reqOf p) = none → u.freeSlot = some n →
      exec (.sessionOpen src) s = .next (((({ u with sch.arrivals := u.sch.arrivals + 1 } : State).setSess n
        (some (newSess (reqOf p) c.src c.dst c.tag (u.sch.arrivals + 1)))).answer n true).settle src)) ∧
    (c.opcode = 16 → s.opensWait = true → exec (.sessionOpen src) s = .next s) ∧
    (c.opcode = 17 → ∀ x, u.ownSess src (fieldB p 0 2) = some x →
      (x.state ≤ 3 → exec (.sessionCancel src) s =
        .next (((u.okCmd c.org c.tag 17 x.state []).cancelNow (fieldB p 0 2) x).settle src)) ∧
      (4 ≤ x.state → x.state ≤ 5 → exec (.sessionCancel src) s =
        .next (((u.okCmd c.org c.tag 17 x.state []).modSess (fieldB p 0 2) fun y => { y with cancel := true }).settle src))) ∧
    (c.opcode = 18 → ∀ x, u.ownSess src (fieldB p 0 2) = some x → x.openStream = true → x.closeReq = false → x.live = true →
      (s.sch.guardDone = false → exec (.sessionClose src) s = .next (((u.closeSess (fieldB p 0 2) x).1.okCmd c.org c.tag 18
        ((u.closeSess (fieldB p 0 2) x).2 % 2 ^ 32) []).settle src)) ∧
      (s.sch.guardDone = true → ∃ (v : State) (y : Sess), exec (.sessionClose src) s =
        .next ((v.okCmd c.org c.tag 18 ((u.closeSess (fieldB p 0 2) x).2 % 2 ^ 32) []).settle src) ∧
        v.sess (fieldB p 0 2) = some y ∧ y.closed = true ∧ y.closeReq = true)) ∧
    (c.opcode = 33 → (u.pkgNow (fieldB p 0 1)).isSome = true →
      (∀ i, fieldB p 2 2 ≤ i → i < fieldB p 2 2 + fieldB p 4 2 → u.tileBusy i false = false) →
      ∃ v t : State, exec (.filmBind src) s = .next t ∧ t = ((v.doneAtFlip c.org c.tag 33 (fieldB p 4 2)).settle src) ∧
        (∀ i, fieldB p 2 2 ≤ i → i < fieldB p 2 2 + fieldB p 4 2 → tabGet 0 v.film.bindPend i = fieldB p 0 1 + 1) ∧
        (∀ i, i < fieldB p 2 2 ∨ fieldB p 2 2 + fieldB p 4 2 ≤ i → tabGet 0 v.film.bindPend i = tabGet 0 u.film.bindPend i) ∧
        v.qm = u.qm) ∧
    (c.opcode = 48 → exec (.placementWrite src) s = .next ((((List.range 16).foldl (fun t w =>
      t.putReg (placeOff (fieldB p 0 2) w) (fieldB p (4 + 4 * w) 4)) u).okCmd c.org c.tag 48 0 []).settle src)) ∧
    (c.opcode = 49 → (u.commit (blockUnit (fieldB p 0 1) (fieldB p 1 1))).1 = true → fieldB p 0 1 ≠ 1 →
      exec (.configCommit src) s = .next (((u.commit (blockUnit (fieldB p 0 1) (fieldB p 1 1))).2.okCmd c.org c.tag 49
        ((s.time.wfn + 1) % 2 ^ 32) []).settle src)) ∧
    (c.opcode = 49 → (u.commit (blockUnit (fieldB p 0 1) (fieldB p 1 1))).1 = true → fieldB p 0 1 = 1 →
      exec (.configCommit src) s =
        .next (((u.commit (blockUnit (fieldB p 0 1) (fieldB p 1 1))).2.okCmd c.org c.tag 49 0 []).settle src)) ∧
    (c.opcode = 96 → ∃ v : State, exec (.flGlobalWrite src) s = .next ((v.okCmd c.org c.tag 96 0 []).settle src) ∧
      v.fl.blocks = s.fl.blocks ++ [(96, p)] ∧ v.qm = u.qm) ∧
    (c.opcode = 97 → ∃ v : State, exec (.flZoneWrite src) s = .next ((v.okCmd c.org c.tag 97 0 []).settle src) ∧
      v.fl.blocks = s.fl.blocks ++ [(97, p)] ∧ v.qm = u.qm) ∧
    (c.opcode = 98 → ∃ v : State, exec (.flTileBind src) s = .next ((v.okCmd c.org c.tag 98 0 []).settle src) ∧
      v.fl.blocks = s.fl.blocks ++ [(98, p)] ∧ v.qm = u.qm) ∧
    (c.opcode = 99 → fieldB p 0 2 < 1024 → s.inMap (fieldB p 0 2) = true →
      exec (.flStatusRead src) s = .next ((u.okCmd c.org c.tag 99 0 (s.flStatus (fieldB p 0 2))).settle src)) ∧
    (c.opcode = 112 → exec (.regRead src) s = .next (((u.readReg (.command src) (fieldB p 0 4)).2.okCmd c.org c.tag 112
      (u.readReg (.command src) (fieldB p 0 4)).1 []).settle src)) ∧
    (c.opcode = 113 → (u.writeReg (.command src) (fieldB p 0 4) (fieldB p 4 4)).pwr.state ≠ .boot →
      exec (.regWrite src) s = .next (((u.writeReg (.command src) (fieldB p 0 4) (fieldB p 4 4)).okCmd c.org c.tag 113 0 []).settle src)) ∧
    (c.opcode = 114 → fieldB p 0 8 + (p.length - 8) ≤ s.bar2Size → s.bar2Held (fieldB p 0 8) (p.length - 8) = false →
      exec (.bar2Write src) s = .next ((((u.grantBar2 (.command src) (fieldB p 0 8) (p.length - 8)).bar2Store (fieldB p 0 8)
        ((p.drop 8).map some)).okCmd c.org c.tag 114 (p.length - 8) []).settle src)) ∧
    (c.opcode = 115 → fieldB p 0 8 + fieldB p 8 4 ≤ s.bar2Size → s.bar2Held (fieldB p 0 8) (fieldB p 8 4) = false →
      let v := u.grantBar2 (.command src) (fieldB p 0 8) (fieldB p 8 4)
      exec (.bar2Read src) s = .next ((v.okCmd c.org c.tag 115 0 (v.bar2Bytes (fieldB p 0 8) (fieldB p 8 4))).settle src)) ∧
    (c.opcode = 114 → fieldB p 0 8 + (p.length - 8) ≤ s.bar2Size → s.bar2Held (fieldB p 0 8) (p.length - 8) = true →
      exec (.bar2Write src) s = .next (s.holdReq (.command src))) ∧
    (c.opcode = 115 → fieldB p 0 8 + fieldB p 8 4 ≤ s.bar2Size → s.bar2Held (fieldB p 0 8) (fieldB p 8 4) = true →
      exec (.bar2Read src) s = .next (s.holdReq (.command src))) ∧
    (c.opcode = 130 → s.glb.dump.isSome = true → ∃ v : State, exec (.dumpRelease src) s = .next ((v.okCmd c.org c.tag 130 0 []).settle src) ∧
      v.glb.dump = none ∧ v.flash.summary = none ∧ v.glb.summaryDue = false ∧ v.qm = u.qm) ∧
    (c.opcode = 145 → u.copyOk (fieldB p 0 1) = true → s.flash.ok = true →
      ∃ v : State, exec (.fwSelect src) s = .next ((v.okCmd c.org c.tag 145 0 []).settle src) ∧ v.glb.cfgGen = s.glb.cfgGen + 1 ∧
        v.qm = u.qm ∧ (v.flash.bootcfg0 ≠ s.flash.bootcfg0 → v.flash.bootcfg1 = s.flash.bootcfg1)) ∧
    (c.opcode = 145 → u.copyOk (fieldB p 0 1) = false ∨ s.flash.ok = false →
      exec (.fwSelect src) s = .next ((u.errCmd c.org c.tag 145 18).settle src)) ∧
    (c.opcode = 146 → fieldB p 0 1 = 0 → exec (.reset src) s =
      .next ((((u.okCmd c.org c.tag 146 0 []).advance (msC 1)).enterCold).settle src)) ∧
    (c.opcode = 146 → fieldB p 0 1 ≠ 0 → exec (.reset src) s =
      .next ((((u.okCmd c.org c.tag 146 0 []).advance (msC 1)).beginReset 2 0).settle src)) ∧
    (c.opcode = 160 → ∃ v : State, exec (.netKeySet src) s = .next ((v.okCmd c.org c.tag 160 0 []).settle src) ∧
      (v.peer (fieldB p 0 1)).key = (if allZero (sliceB p 8 32) then none else some (sliceB p 8 32)) ∧
      (v.peer (fieldB p 0 1)).last = 0 ∧ (v.peer (fieldB p 0 1)).devSeq = 1 ∧
      (∀ j, j ≠ fieldB p 0 1 → v.peer j = s.peer j) ∧ v.qm = u.qm)

/-- R326, R327: the commands that run for longer. Each starts a run of its group, if none runs, from its place at the head of its
source; it takes no completion until the run ends: with its DMA done, or with status 7 after 50 ms without it. SNAPSHOT_RESTORE
reads the header and directory as it starts, which name the tiles it holds from then on (the model's choice, assumption 61,
DEDUCED); one whose head lies on a channel that trains waits. That the timeout ends only what reads host memory is assumption 82,
DEDUCED. An exit from PLATEAU whose switch R288 refuses is answered with that status. -/
def Obligations.LongRunningCommands : Prop :=
  (∀ (src : CmdSource) (c : Cmd) (s : State), s.headCmd src = some c → s.mayStart c = true → c.badStatus = none →
    (s.takeCmd c).served c.opcode = true →
    let u := s.takeCmd c
    let p := c.param
    let ran (grp : RunGroup) : State := { u with qm.running := s.qm.running ++ [Running.mk grp c.org c.tag c.opcode p] }
    (c.opcode = 32 → u.slotBusy (fieldB p 0 1) = false → u.spaceOk (fieldB p 1 1) (fieldB p 8 8) (fieldB p 4 4) = true →
      u.grpRuns .film = false → exec (.filmLoad src) s = .next ((ran .film).settle src)) ∧
    (c.opcode = 64 → s.frameLoop = true → u.rangeTiles (fieldB p 0 2) (fieldB p 2 2) ≠ [] →
      (∀ i ∈ u.rangeTiles (fieldB p 0 2) (fieldB p 2 2), u.tileBusy i true = false) →
      u.imageSize (u.rangeTiles (fieldB p 0 2) (fieldB p 2 2)) ≤ fieldB p 16 8 →
      u.spaceOk (fieldB p 4 1) (fieldB p 8 8) (u.imageSize (u.rangeTiles (fieldB p 0 2) (fieldB p 2 2))) = true →
      u.grpRuns .snapshot = false →
      ∃ v : State, exec (.snapshotSave src) s = .next (v.settle src) ∧ v.qm = (ran .snapshot).qm ∧
        v.film.snapTiles = u.rangeTiles (fieldB p 0 2) (fieldB p 2 2)) ∧
    (c.opcode = 65 → s.frameLoop = true → u.grpRuns .snapshot = false →
      (fieldB p 1 1 = 0 →
        (∀ bs : List Byte, s.net.pcie.bme = true → exec (.snapshotRestore ⟨src, .ok bs⟩) s =
          .next (({ ran .snapshot with film.snapTiles := imageTiles (sliceB bs 0 (headSize bs)) } : State).settle src)) ∧
        exec (.snapshotRestore ⟨src, .failed⟩) s = .next ((u.dmaErr.errCmd c.org c.tag 65 7).settle src)) ∧
      (fieldB p 1 1 = 1 → u.spaceOk 1 (fieldB p 8 8) (fieldB p 16 8) = true → ∀ head : HostDma,
        let n := headSize (s.bar2Bytes (fieldB p 8 8) 256)
        (s.bar2Held (fieldB p 8 8) n = false →
          ∃ v : State, exec (.snapshotRestore ⟨src, head⟩) s = .next (v.settle src) ∧ v.qm = (ran .snapshot).qm ∧
            v.film.snapTiles = imageTiles (sliceB (s.bar2Bytes (fieldB p 8 8) n) 0 (headSize (s.bar2Bytes (fieldB p 8 8) n)))) ∧
        (s.bar2Held (fieldB p 8 8) n = true → exec (.snapshotRestore ⟨src, head⟩) s = .next (s.holdReq (.command src))))) ∧
    (c.opcode = 80 → u.grpRuns .powerSet = false → s.pwr.transit = .none →
      (fieldB p 0 1 = 2 → s.pwr.state = .plateau →
        (u.exitRefused = none → exec (.powerSet src) s = .next (((ran .powerSet).beginExit).settle src)) ∧
        ∀ e, u.exitRefused = some e → exec (.powerSet src) s = .next (((u.countRefused e).errCmd c.org c.tag 80 e).settle src)) ∧
      (fieldB p 0 1 ≠ 2 → s.pwr.state = .hold → u.entryRefused = none →
        ∃ v : State, exec (.powerSet src) s = .next (v.settle src) ∧ v.qm = (ran .powerSet).qm ∧ v.pwr.transit = .entryFlip ∧
          v.pwr.start = s.clk ∧ v.pwr.state = .hold)) ∧
    (c.opcode = 128 → u.spaceOk (fieldB p 6 1) (fieldB p 8 8) (256 * (u.logRange (fieldB p 0 4) (fieldB p 4 2)).length) = true →
      u.grpRuns .readback = false → exec (.eventLogRead src) s = .next ((ran .readback).settle src)) ∧
    (c.opcode = 129 → u.heldDump.isSome = true → u.spaceOk (fieldB p 8 1) (fieldB p 16 8) (dumpSpan p).2 = true →
      u.grpRuns .readback = false → exec (.dumpRead src) s = .next ((ran .readback).settle src)) ∧
    (c.opcode = 131 → ∀ b, u.odoBytes (fieldB p 0 4) = some b → u.spaceOk (fieldB p 4 1) (fieldB p 8 8) b.length = true →
      u.grpRuns .readback = false → exec (.odometerRead src) s = .next ((ran .readback).settle src)) ∧
    (c.opcode = 144 → (s.glb.rom = true ∨ s.glb.image ≠ fieldB p 0 1) →
      u.spaceOk (fieldB p 1 1) (fieldB p 8 8) (fieldB p 4 4) = true → u.grpRuns .fwWrite = false →
      exec (.fwWrite src) s = .next ((ran .fwWrite).settle src))) ∧
  ∀ (grp : RunGroup) (r : Running) (addr len : Nat) (s : State), s.runOf grp = some r → r.source = some (0, addr, len) →
    (∀ (dma : HostDma) (bs : List Byte), (r.opcode = 65 → s.planesHeld = false) → dmaFits 0 len dma = true →
      (s.spaceRead 0 addr len dma).1 = some bs →
      exec (.longRunningComplete grp dma) s = .next ((s.spaceRead 0 addr len dma).2.endSource r bs)) ∧
    exec (.dmaTimeout grp) s = .next (s.dmaErr.abortRun r 7)

/-- R317, R318, R320, R333, R334, R339, R340, R342, R390: rings, doorbells, the fetch, the overflow queue and interrupts. An enabled
submission ring takes a producer index that its doorbell shows; the fetch takes a packet where the host's DMA gives it, and a failed
DMA counts; an entry in the overflow queue goes where there is room; a ring that is due interrupts and is no longer armed; a masked
vector's pending interrupt is sent when it is unmasked; a PCIe reset empties the host rings. Of a ring that is enabled a descriptor
write that R317 forbids changes nothing but CFG_ERR, the bits of CFG beside those of the field written among them, and QM_EVT.EN
stays 0 where the ring named is disabled (the model's choices, assumption 47, DEDUCED); the turn passes to the next SUBMIT ring with
each fetch, done or failed (assumption 143); a PCIe reset comes with the link as the host trains it next (assumption 88, DEDUCED).
-/
def Obligations.QueueManager : Prop :=
  ∀ s : State, s.reached = true →
    (∀ (path : Path) (n : Fin 4096) (v : Word), path ≠ .lcb → n.val < 256 → (s.ring n.val).en = true →
      (s.ring n.val).dbOk n.val (v.toNat % 65536) = true →
      ∃ t, exec (.qmDoorbell path n v) s = .next t ∧ (t.ring n.val).prod = v.toNat % 65536 ∧ (t.ring n.val).cons = (s.ring n.val).cons ∧
        ∀ k, k ≠ n.val → t.ring k = s.ring k) ∧
    (∀ (path : Path) (n : Fin 4096) (w : Fin 3) (v : Word), path ≠ .lcb → n.val < 2560 →
      (w.val = 2 → exec (.qmRingCfgWrite path n w v) s = .next (s.writeRingCfg n.val v.toNat)) ∧
      (w.val < 2 → exec (.qmRingCfgWrite path n w v) s = .next (s.writeRingBase path n.val (decide (w.val = 1)) v.toNat)) ∧
      let r := s.ring n.val
      let log2 := bits v.toNat 0 4
      let err : State := s.setRing n.val { r with cfgErr := true }
      let fits := decide (r.base.toNat % 4096 = 0) && decide (4 ≤ log2) && decide (log2 ≤ 12) &&
        (decide (256 ≤ n.val) || (s.ring (256 + bits v.toNat 24 8)).en)
      (w.val < 2 → r.en = true → exec (.qmRingCfgWrite path n w v) s = .next err) ∧
      (w.val = 2 → r.en = true → log2 ≠ r.log2 ∨ bits v.toNat 8 8 ≠ r.vec ∨ bits v.toNat 24 8 ≠ r.pair →
        exec (.qmRingCfgWrite path n w v) s = .next err) ∧
      (w.val = 2 → r.en = true → bits v.toNat 4 1 = 0 → s.mayDisable n.val = false → exec (.qmRingCfgWrite path n w v) s = .next err) ∧
      (w.val = 2 → r.en = true → log2 = r.log2 → bits v.toNat 8 8 = r.vec → bits v.toNat 24 8 = r.pair → bits v.toNat 4 1 = 0 →
        s.mayDisable n.val = true →
        ∃ t, exec (.qmRingCfgWrite path n w v) s = .next t ∧ (t.ring n.val).en = false ∧ (t.ring n.val).base = r.base ∧
          ∀ k, k ≠ n.val → t.ring k = s.ring k) ∧
      (w.val = 2 → r.en = false → bits v.toNat 4 1 = 1 →
        (fits = false → exec (.qmRingCfgWrite path n w v) s = .next err) ∧
        (fits = true → ∃ t, exec (.qmRingCfgWrite path n w v) s = .next t ∧ (t.ring n.val).en = true ∧ (t.ring n.val).prod = 0 ∧
          (t.ring n.val).cons = 0 ∧ (t.ring n.val).log2 = log2 ∧ (t.ring n.val).vec = bits v.toNat 8 8 ∧
          (t.ring n.val).pair = bits v.toNat 24 8 ∧ (t.ring n.val).base = r.base ∧ ∀ k, k ≠ n.val → t.ring k = s.ring k))) ∧
    (∀ (path : Path) (v : Word), path ≠ .lcb →
      ∃ t, exec (.qmEvtWrite path v) s = .next t ∧
        ((s.ring (256 + bits v.toNat 0 8)).en = true → t = s.putReg (baseQm + 0x18000) v.toNat) ∧
        ((s.ring (256 + bits v.toNat 0 8)).en = false → bits v.toNat 8 1 = 1 → t = s.putReg (baseQm + 0x18000) (v.toNat - 256))) ∧
    (∀ n : Fin 256, let u : State := { s with qm.turn := (n.val + 1) % 256 }
      (s.turnRing = some n.val →
        (∀ bytes : List Byte, s.net.pcie.bme = true → 1 + fieldB bytes 4 1 ≤ (s.ring n.val).held →
          bytes.length = 64 * (1 + fieldB bytes 4 1) →
          exec (.commandFetch (.submit n) (.ok bytes)) s = .next
            ((u.setRing n.val { s.ring n.val with cons := idxAdd (s.ring n.val).cons (1 + fieldB bytes 4 1) }).accept (.submit n) bytes)) ∧
        exec (.commandFetch (.submit n) .failed) s = .next ((u.dmaErr).log 240 n.val 1 (s.ring n.val).cons) ∧
        (s.net.pcie.bme = false → ∀ bytes : List Byte,
          exec (.commandFetch (.submit n) (.ok bytes)) s = .next ((u.dmaErr).log 240 n.val 1 (s.ring n.val).cons))) ∧
      (s.turnRing ≠ some n.val → ∀ host : HostDma, exec (.commandFetch (.submit n) host) s = .next s)) ∧
    (∀ n m : Fin 256, s.turnRing = some n.val → 0 < (s.ring m.val).held → s.mayFetch (.submit m) = true →
      (n.val + 256 - s.qm.turn % 256) % 256 ≤ (m.val + 256 - s.qm.turn % 256) % 256) ∧
    (∀ (d : CplDst) (e : CplDst × List Byte), s.qm.ovq = [e] → e.1 = d → s.dstOpen d = true → 0 < s.dstFree d →
      ∃ u : State, exec (.overflowQueueDrain d) s = .next (u.dstWrite d e.2) ∧ u.qm.ovq = []) ∧
    (∀ (n : Fin 4096) (x : Nat), (s.ring n.val).due = some x →
      ∃ t, exec (.msixCoalesceExpire n) s = .next t ∧ (t.ring n.val).due = none ∧ (t.ring n.val).armed = false ∧ x ≤ t.clk) ∧
    (∀ v : Fin 256, v.val ∈ s.qm.pba → ∃ u : State, exec (.msixVectorUnmask v) s = .next (u.sendMsix v.val) ∧ v.val ∉ u.qm.pba) ∧
    ∀ link : PcieLink, s.qm.running.filter Running.usesDma = [] →
      ∃ t, exec (.pcieReset link) s = .next t ∧ t.qm.pba = [] ∧ t.net.pcie = PcieS.ofLink link ∧
        ∀ n, n < 2560 → (t.ring n).en = false

/-- R254, R257, R259, R260, R265, R268: the frontlight engine. An evaluation takes the blocks accepted since the last one and leads
every zone to its level; a daylight zone follows the curve once it differs by AHYST; a tile's next segment is sent when the last one
is done, its time reckoned from then; the diagnostic timer sends TC_FL_DIAG when a string's period has passed. -/
def Obligations.FrontlightEngine : Prop :=
  ∀ s : State,
    (s.flActive = true →
      ∃ t, exec .flEvaluate s = .next t ∧ t.fl.blocks = [] ∧
        ∀ z w, z < 16 → (t.flZone z).want = some w → (t.flZone z).target = w.1) ∧
    (∀ (z : Fin 16) (a : Nat), s.flActive = true → s.ambientOf z.val = some a → (s.flZone z.val).mode = 3 →
      let p := daylightLevel (s.flZone z.val).daylight a
      ((s.flZone z.val).ahyst ≤ max p (s.flZone z.val).target - min p (s.flZone z.val).target →
        ∃ t, exec (.flAmbientEvaluate z) s = .next t ∧ (t.flZone z.val).target = p ∧ (t.flZone z.val).fade = (s.flZone z.val).afadeMs ∧
          ∀ k, k ≠ z.val → t.flZone k = s.flZone k) ∧
      (max p (s.flZone z.val).target - min p (s.flZone z.val).target < (s.flZone z.val).ahyst →
        exec (.flAmbientEvaluate z) s = .next s)) ∧
    ∀ i : Fin 1024, s.flMaySend i.val = true → (s.flTile i.val).out = .none → (s.tile i.val).cmds.length < 4 →
      (∀ g r, (s.flTile i.val).resume = [] → (s.flTile i.val).offOwed = [] → (s.flTile i.val).segs = g :: r →
        ∃ t, exec (.flSegmentSend i) s = .next t ∧ (t.flTile i.val).segs = r ∧ (t.flTile i.val).p0 = g.p ∧
          (t.flTile i.val).out = .set ∧ (t.flTile i.val).segAt = t.clk + msC g.ms ∧ (s.flTile i.val).segAt ≤ t.clk ∧
          (t.tile i.val).cmds.length = (s.tile i.val).cmds.length + 1) ∧
      ∀ x, ((List.range 16).filterMap (s.diagDue i.val)).min? = some x →
        ∃ t, exec (.flDiagTimer i) s = .next t ∧ (t.flTile i.val).out = .diag ∧ x ≤ t.clk ∧
          (t.tile i.val).cmds.length = (s.tile i.val).cmds.length + 1

/-- R17: the commits. A write of 1 to COMMIT, with the shadow set in order and none pending, copies the shadow set into the pending
set, leaves the live one and clears REJECTED; with a set pending, or a shadow set that fails its check, it is refused: REJECTED is
1, and the pending and the live set stand. The SCH has no pending set: its shadow set is live at once. -/
def Obligations.Commits : Prop :=
  ∀ (v : Word) (s : State), s.reached = true → bits v.toNat 0 1 = 1 →
    let rule (i : Instr) (u : Nat) (ok : Bool) : Prop :=
      (s.pendSet u = none → ok = true →
        ∃ t, exec i s = .next t ∧ t.pendSet u = some (s.shadowSet u) ∧ t.liveSet u = s.liveSet u ∧ t.regs.shadow = s.regs.shadow ∧
          t.isRejected u = false ∧ ∀ w, w ≠ u → t.pendSet w = s.pendSet w) ∧
      ((s.pendSet u).isSome = true ∨ ok = false →
        ∃ t, exec i s = .next t ∧ t.isRejected u = true ∧ t.regs.pend = s.regs.pend ∧ t.regs.live = s.regs.live ∧
          t.regs.shadow = s.regs.shadow)
    rule (.wsaCommit v) unitWsa s.wsaSetOk ∧ rule (.mpCommit v) unitMp s.mpSetOk ∧ rule (.timeCommit v) unitTime s.timeSetOk ∧
    rule (.netCommit v) unitNet s.netSetOk ∧ rule (.thmCommit v) unitThm s.thmSetOk ∧ rule (.rcCommit v) unitRc s.rcSetOk ∧
    (∀ g : Fin 8, rule (.rgCommit g v) (unitRail g.val) (s.railSetOk g.val)) ∧
    (∀ p : Fin 32, rule (.tfPcommit p v) (unitTf p.val) (s.tfSetOk p.val)) ∧
    (s.pendSet unitSch = none → s.schSetOk = true →
      ∃ t, exec (.schCommit v) s = .next t ∧ t.liveSet unitSch = s.shadowSet unitSch ∧ t.regs.shadow = s.regs.shadow ∧
        t.isRejected unitSch = false ∧ ∀ w, w ≠ unitSch → t.liveSet w = s.liveSet w) ∧
    (s.schSetOk = false → ∃ t, exec (.schCommit v) s = .next t ∧ t.isRejected unitSch = true ∧ t.regs.live = s.regs.live)

/-- R4, R7, R8 and the counter rules: a write of 1 to CNT_CLR clears the block's counters and no others; a register is read and
written as an aligned 32-bit word, another size reads 0 and is discarded; a read of _LO captures its pair, and a later read of _HI
answers from that capture; a write of _LO changes no register; of two writes of one cycle to a register the LCB's acts first and
PCIe's stands, but the bits that a write of 1 clears act once, as the union of both. (Beyond the map: O2.) -/
def Obligations.RegisterAccesses : Prop :=
  (∀ (v : Word) (s : State), s.reached = true → bits v.toNat 0 1 = 1 →
    let clears (i : Instr) (lo hi : Nat) : Prop :=
      ∃ t, exec i s = .next t ∧ (∀ o, lo ≤ o → o < hi → t.cnt o = 0) ∧ (∀ o, o < lo ∨ hi ≤ o → t.cnt o = s.cnt o) ∧ t.out = s.out
    clears (.wsaCntClr v) (baseWsa + 0x110) (baseWsa + 0x130) ∧ clears (.schCntClr v) (baseSch + 0xF00) (baseSch + 0xF20) ∧
    (∀ p : Fin 32, clears (.tfPcntClr p v) (baseTf p.val + 0x40) (baseTf p.val + 0x80)) ∧
    clears (.timeCntClr v) (baseTime + 0x80) (baseTime + 0x98) ∧ clears (.rcCntClr v) 0x30E40 0x30E50 ∧
    (∀ c : Fin 12, clears (.dmcCntClr c v) (baseDmc c.val + 0x40) (baseDmc c.val + 0x70)) ∧
    clears (.dmcGcntClr v) 0xD0840 0xD0850 ∧ clears (.valeCntClr v) (baseVale + 0x300) (baseVale + 0x320) ∧
    (∀ path, path ≠ .lcb → clears (.qmCntClr path v) (baseQm + 0x18100) (baseQm + 0x18120)) ∧
    clears (.netCntClr v) (baseNet + 0xF00) (baseNet + 0xF20) ∧ clears (.thmCntClr v) (baseThm + 0xF00) (baseThm + 0xF14) ∧
    (∃ t, exec (.mpCntClr v) s = .next t ∧ (∀ o, baseMp + 0xF00 ≤ o → o < baseMp + 0xF0C → t.cnt o = 0) ∧
      (∀ (n : Fin 16) (o : Nat), baseMp + 0x1020 + n.val * 0x40 ≤ o → o < baseMp + 0x1038 + n.val * 0x40 → t.cnt o = 0) ∧
      ∀ o, o < baseMp ∨ baseTf 0 ≤ o → t.cnt o = s.cnt o) ∧
    ∀ g : Fin 8, ∃ t, exec (.rgCntClr g v) s = .next t ∧
      (∀ o, baseRail g.val + 0x40 ≤ o → o < baseRail g.val + 0x50 → t.cnt o = 0) ∧
      (∀ (k : Fin 12) (o : Nat), slotOff g.val k.val 0x40 ≤ o → o < slotOff g.val k.val 0x68 → t.cnt o = 0) ∧
      ∀ o, o < baseRail g.val ∨ baseRail (g.val + 1) ≤ o → t.cnt o = s.cnt o) ∧
  ∀ (path : Path) (off : BitVec 32) (s : State), off.toNat < 0x4000000 →
    (∀ size v,
      (off.toNat < 0x1000000 → size = 4 → off.toNat % 4 = 0 →
        exec (.registerWrite path off size ⟨v, none⟩) s = .next (s.writeReg path off.toNat v.toNat)) ∧
      (off.toNat < 0x1000000 → size ≠ 4 ∨ off.toNat % 4 ≠ 0 → ∀ other, exec (.registerWrite path off size ⟨v, other⟩) s = .next s) ∧
      (∀ w : Word, off.toNat < 0x1000000 → off.toNat % 4 = 0 →
        (let one := w.toNat &&& oneBits off.toNat
        exec (.registerWrite .pcie off 4 ⟨v, some w⟩) s =
          .next ((s.writeReg .lcb off.toNat (w.toNat - one)).writeReg .pcie off.toNat (v.toNat ||| one))) ∧
        exec (.registerWrite .lcb off 4 ⟨w, some v⟩) s = exec (.registerWrite .pcie off 4 ⟨v, some w⟩) s) ∧
      (0x1000000 ≤ off.toNat → ∀ other, exec (.registerWrite path off size ⟨v, other⟩) s = .next (s.valeAccess (pathReq path)
        (aliasOf off.toNat).1 (aliasOf off.toNat).2 (.write ((leBytes size v.toNat).map some))))) ∧
    (∀ size,
      (off.toNat < 0x1000000 → size ≠ 4 ∨ off.toNat % 4 ≠ 0 →
        exec (.registerRead path off size) s = .next (s.emit (.readData path (zeroBytes size)))) ∧
      (0x1000000 ≤ off.toNat → exec (.registerRead path off size) s =
        .next (s.valeAccess (pathReq path) (aliasOf off.toNat).1 (aliasOf off.toNat).2 (.read size)))) ∧
    (off.toNat < 0x1000000 → 0x10000 ≤ off.toNat → off.toNat % 4 = 0 → s.reaches path off.toNat = true →
      (pairLo off.toNat = none →
        exec (.registerRead path off 4) s = .next (s.emit (.readData path (leBytes 4 (s.peek off.toNat))))) ∧
      (pairLo off.toNat = some off.toNat →
        ∃ t, exec (.registerRead path off 4) s = .next t ∧ tabGet none t.regs.cap (pathKey path) =
          some (off.toNat, BitVec.ofNat 64 (s.peek off.toNat + s.peek (off.toNat + 4) * 4294967296)) ∧
        t.out = .readData path (leBytes 4 ((s.peek off.toNat + s.peek (off.toNat + 4) * 4294967296) % 4294967296)) :: s.out) ∧
      (∀ lo x, pairLo off.toNat = some lo → lo ≠ off.toNat → tabGet none s.regs.cap (pathKey path) = some (lo, x) →
        exec (.registerRead path off 4) s = .next (s.emit (.readData path (leBytes 4 (x.toNat / 4294967296))))) ∧
      (∀ v : Word, pairLo off.toNat = some off.toNat → off.toNat < baseQm ∨ 0x70000 ≤ off.toNat →
        ∃ t, exec (.registerWrite path off 4 ⟨v, none⟩) s = .next t ∧
          tabGet none t.regs.wl (pathKey path) = some (off.toNat, BitVec.ofNat 32 v.toNat) ∧ t.regs.shadow = s.regs.shadow ∧
          t.regs.direct = s.regs.direct ∧ t.regs.live = s.regs.live))

/-- R388 to R394, R398 to R402, R424, R425: resets and boots. A cold reset returns to its reset value every part of the state but
the flash (a firmware image whose programming it cuts short no longer verifies, R398), the network keys it holds, the fuses, the
tile bridges, the straps and the clock. A warm one keeps beside those the records and targets of the film with their tick, the DRAM
window, the event log, the dump and the wall time with ε, the anchor, the rate, a pending change of it and the frame number.
GLB_RST_CTRL takes its key, and COLD acts at once (the model's choice, assumption 105, DEDUCED). A warm reset stops the drive, then
kills the DRV balls that are still high at 100 ms, then puts the DRAM in self-refresh, and boots 1 ms later. RST_N and PORST_N reset
at once and hold the reset for 1 ms (assumption 163, DEDUCED), PORST_N with every output at the level of R425; RST_N without kept
DRAM clears what COLD clears and reports KIND 1 with the cause of the first trigger (assumption 109, DEDUCED). The boot ends in HOLD
or SAFE, with the straps sampled in a cold one. -/
def Obligations.ResetsAndBoots : Prop :=
  ∀ s : State,
    let reset (t : State) : Prop := t.wsa = State.reset.wsa ∧ t.sch = State.reset.sch ∧ t.mp = State.reset.mp ∧ t.fl = State.reset.fl ∧
      t.rc = State.reset.rc ∧ t.pwr = State.reset.pwr ∧ t.regs = State.reset.regs ∧ t.ports = State.reset.ports ∧
      t.vale.mem = State.reset.vale.mem ∧ t.vale.swin = State.reset.vale.swin ∧ t.qm.rings = State.reset.qm.rings ∧
      t.qm.fetched = State.reset.qm.fetched ∧ t.qm.running = State.reset.qm.running ∧ t.net.mbox = State.reset.net.mbox ∧
      (t.flash = s.flash ∨ ∃ r, s.runOf .fwWrite = some r ∧
        t.flash = if fieldB r.param 0 1 = 0 then { s.flash with imageA := some [] } else { s.flash with imageB := some [] }) ∧
      t.otp = s.otp ∧ t.bridges = s.bridges ∧ t.net.peers = s.flash.peers ∧ t.pending = s.pending ∧
      t.out = s.out
    let cold (t : State) : Prop := reset t ∧ t.film = State.reset.film ∧ t.time = State.reset.time ∧ t.dmc = State.reset.dmc ∧
      t.vale = State.reset.vale ∧ t.qm = State.reset.qm ∧ t.tiles = State.reset.tiles ∧ t.glb.dump = none ∧ t.glb.warms = 0 ∧
      t.glb.strikes = 0
    let warm (t : State) (wall : Nat) : Prop := reset t ∧ t.film.psr = s.film.psr ∧ t.film.target = s.film.target ∧
      t.film.tick = s.film.tick ∧ t.film.tickSweep = s.film.tickSweep ∧ t.dmc.bulk = s.dmc.bulk ∧ t.qm.evLog = s.qm.evLog ∧
      t.qm.evSeq = s.qm.evSeq ∧ t.time = { State.reset.time with
        wall := wall, eps := s.time.eps, epsHist := s.time.epsHist, anchorT := s.time.anchorT, anchorN := s.time.anchorN
        past := s.time.past, rate := s.time.rate, wfn := s.time.wfn, chg := s.time.chg } ∧
      (∀ k, k < 64 → (t.bank k).fail = (s.bank k).fail) ∧ t.vale.failBank = s.vale.failBank ∧ t.vale.failLine = s.vale.failLine ∧
      t.glb.warms = min 65535 (s.glb.warms + 1)
    (∀ (ck : Bool) (adr : BitVec 2),
      (∃ t, exec (.powerOn ck adr) s = .next t ∧ cold t ∧ t.glb.rstKind = 0 ∧ t.glb.rstCause = 0 ∧ t.glb.entry = none ∧
        t.glb.lcbCkSel = ck ∧ t.glb.smbStrap = adr.toNat ∧ t.glb.tap = 1 ∧ t.clk = s.clk) ∧
      ∃ t e, exec (.porstNLow ck adr) s = .next t ∧ cold t ∧ t.glb.rstKind = 0 ∧ t.glb.rstCause = 0 ∧ t.clk = s.clk + usC 1 ∧
        t.glb.entry = some e ∧ e.stage = 5 ∧ e.clk = s.clk + usC 1 ∧ t.glb.lcbCkSel = ck ∧ t.glb.smbStrap = adr.toNat ∧
        (∀ g i, t.pinOut (.drv g i) = .low) ∧ t.pinOut .readyOut = .low ∧ t.pinOut .lcbWaitN = .high ∧ t.pinOut .wallSyncOut = .low ∧
        t.pinOut .lcbClk = .highZ ∧ t.pinOut .other = .highZ) ∧
    ((∀ e, s.glb.entry = some e → e.stage ≠ 5) →
      let cause := (s.glb.entry.map ResetEntry.cause).getD 3
      (∃ t e, exec (.rstNLow true) s = .next t ∧ warm t (s.advance (usC 1)).time.wall ∧ t.glb.rstKind = 1 ∧ t.glb.rstCause = cause ∧
        t.glb.entry = some e ∧ e.stage = 5 ∧ e.clk = s.clk + usC 1 ∧ (s.glb.capture = none → t.glb.dump = s.glb.dump) ∧
        (∀ c, s.glb.capture = some c → ∃ d, t.glb.dump = some d ∧ d.cause = c.cause ∧ d.partialCap = true) ∧
        ∀ g i, t.pinOut (.drv g i) = .low) ∧
      ∃ t e, exec (.rstNLow false) s = .next t ∧ cold t ∧ t.glb.rstKind = 1 ∧ t.glb.rstCause = cause ∧
        t.glb.entry = some e ∧ e.stage = 5) ∧
    (∀ e, s.glb.entry = some e → e.stage = 5 → ∀ kept : Bool,
      ∃ t, exec (.rstNLow kept) s = .next t ∧ t.glb.entry = some { e with clk := s.clk + usC 1 } ∧ t.film = s.film ∧ t.pwr = s.pwr) ∧
    (∀ v : Word,
      (bits v.toNat 8 8 ≠ 0xA5 → exec (.glbRstCtrlWarm v) s = .next s ∧ exec (.glbRstCtrlCold v) s = .next s) ∧
      (bits v.toNat 8 8 = 0xA5 → bits v.toNat 1 1 = 1 →
        ∃ t, exec (.glbRstCtrlCold v) s = .next t ∧ cold t ∧ t.glb.rstKind = 0 ∧ t.glb.rstCause = 1 ∧ t.glb.entry = none ∧
          t.clk = s.clk) ∧
      (bits v.toNat 8 8 = 0xA5 → bits v.toNat 1 1 = 0 → bits v.toNat 0 1 = 1 → s.glb.entry = none → s.glb.capture = none →
        ∃ t e, exec (.glbRstCtrlWarm v) s = .next t ∧ t.glb.entry = some e ∧ e.cause = 2 ∧ e.stage = 1 ∧ e.clk = s.clk ∧
          t.glb.ready = false ∧ t.wsa.stopped = true ∧ 2 ∈ t.glb.odoDue)) ∧
    (∀ e, s.glb.entry = some e →
      (e.stage = 1 →
        ∃ t, exec .warmResetDrvTimeout s = .next t ∧ t.glb.entry = some { e with stage := 3 } ∧ e.clk + msC 100 ≤ t.clk ∧
          ∀ g k, g < 8 → k < 12 → (t.slot g k).drv = false) ∧
      (e.stage = 3 ∨ (e.stage = 1 ∧ (e.cause = 8 ∨ e.frame + 2 ≤ s.time.wfn) ∧ s.groupsDown = true) → s.glb.capture = none →
        ∃ t, exec .resetSelfRefresh s = .next t ∧ t.glb.entry = some { e with stage := 4, clk := s.clk } ∧
          ∀ c, c < 12 → (t.chan c).state ≠ .active) ∧
      (e.stage = 4 →
        ∃ t, exec .resetHoldExpire s = .next t ∧ warm t (s.advanceTo (e.clk + msC 1)).time.wall ∧ t.glb.rstKind = 1 ∧
          t.glb.rstCause = e.cause ∧ t.glb.entry = none ∧ t.glb.dump = s.glb.dump ∧ e.clk + msC 1 ≤ t.clk) ∧
      (e.stage = 5 →
        ∃ t, exec .resetHoldExpire s = .next t ∧ t.glb.entry = none ∧ t.glb.porst = false ∧ t.film = s.film ∧ t.pwr = s.pwr ∧
          t.flash = s.flash ∧ t.glb.bootStart = t.clk ∧ e.clk + msC 1 ≤ t.clk ∧
          t.pinOut .lcbClk = if s.glb.lcbCkSel then .driven else .highZ)) ∧
    (∃ t, exec .refclkStop s = .next t ∧ t.glb.refclkStopped = true ∧ t.clk = s.clk ∧ t.film = s.film) ∧
    (s.pwr.state = .hold ∨ s.pwr.state = .run ∨ s.pwr.state = .plateau →
      ∃ t, exec .strikesClear s = .next t ∧ t.glb.strikes = 0 ∧ s.glb.stable + 600 * secC ≤ t.clk) ∧
    ∀ f : BootFacts, s.pwr.state = .boot → s.glb.ready = false → s.glb.entry = none →
      ∃ t, exec (.bootReady f) s = .next t ∧ t.glb.ready = true ∧ t.glb.readyOut = true ∧
        (t.pwr.state = if t.glb.safeCause = 0 then .hold else .safe) ∧ s.glb.bootStart + f.micros.toNat * 800 ≤ t.clk ∧
        (f.failH ≠ [] → t.glb.safeCause = 3 ∧ t.glb.rom = true) ∧
        (s.glb.bootKind = .cold → t.glb.lcbCkSel = f.lcbCkSel ∧ t.glb.smbStrap = f.smbAddr.toNat) ∧
        (s.glb.bootKind ≠ .cold → t.glb.lcbCkSel = s.glb.lcbCkSel ∧ t.glb.smbStrap = s.glb.smbStrap)

/-- R396, R398, R403 to R412: what the device records of itself. A fatal error captures and begins a warm reset; the watchdog is
kicked by firmware alone; the capture ends in a dump, and the summary is written after READY; odometer records are written to the
next slot, and one that fails is tried again; the areas are erased behind them, an erase that fails being tried once more and then
counted, and still due (that it stays due is the model's choice, assumption 110, DEDUCED); the boot configuration and the security
version are written as asked; the test access port answers by its instruction. -/
def Obligations.FatalErrorsAndRecords : Prop :=
  ∀ s : State,
    (s.glb.entry = none → s.glb.capture = none → s.glb.dump = none →
      (∀ core code, ∃ t c e, exec (.fwException core code) s = .next t ∧ t.glb.capture = some c ∧ c.cause = 4 ∧
        c.arg = core.val + code.toNat * 4294967296 ∧ t.glb.entry = some e ∧ e.cause = 4 ∧ e.stage = 1) ∧
      (∀ block, parityBase block.toNat = true → ∃ t c e, exec (.parityError block) s = .next t ∧ t.glb.capture = some c ∧
        c.cause = 7 ∧ c.arg = block.toNat ∧ t.glb.entry = some e ∧ e.cause = 7) ∧
      (s.glb.ready = true → s.glb.wdogLogged = false →
        ∃ t c, exec .watchdogExpire s = .next t ∧ t.glb.capture = some c ∧ c.cause = 5 ∧ t.glb.wdogLogged = true ∧
          s.glb.wdogLast + msC (100 * bits (s.shadow 0x10020) 0 10) ≤ t.clk ∧
          (t.glb.entry = none ↔ bits (s.shadow 0x10020) 10 1 ≠ 0))) ∧
    (∀ (path : Path) (v : Word),
      (path = .firmware → bits v.toNat 0 1 = 1 →
        ∃ t, exec (.glbWdogKick path v) s = .next t ∧ t.glb.wdogLast = s.clk ∧ t.glb.wdogLogged = false) ∧
      (path ≠ .firmware → exec (.glbWdogKick path v) s = .next s)) ∧
    (∀ c cores fw, s.glb.capture = some c →
      ∃ t d, exec (.fatalCaptureDone cores fw) s = .next t ∧ t.glb.capture = none ∧ t.glb.dump = some d ∧ d.cause = c.cause ∧
        d.arg = c.arg ∧ d.cores = inRegion 0x1000 0x8000 cores ∧ d.flashed = false) ∧
    (∀ d, s.glb.dump = some d → s.glb.summaryDue = true → s.glb.ready = true → s.glb.rom = false →
      (∃ t e, exec (.dumpSummaryWrite true) s = .next t ∧ t.glb.dump = some e ∧ e.flashed = true ∧ e.cause = d.cause ∧
        t.flash.summary = some e ∧ t.glb.summaryDue = false) ∧
      exec (.dumpSummaryWrite false) s = .next s) ∧
    (s.pwr.state = .run →
      ∃ t, exec .odometerPeriodic s = .next t ∧ t.glb.runMark = s.glb.runMark + 600 * secC ∧ 0 ∈ t.glb.odoDue) ∧
    (∀ r, s.odoNextReason = some r → s.glb.odoSlot < 256 →
      (∃ t b, exec (.odometerRecordWrite true) s = .next t ∧ t.glb.odoGen = s.glb.odoGen + 1 ∧
        t.glb.odoDue = s.glb.odoDue.erase r ∧ t.glb.odoRetry = false ∧
        tabGet none t.flash.odo (s.glb.odoArea * 256 + s.glb.odoSlot) = some b) ∧
      (s.glb.odoRetry = false →
        ∃ t, exec (.odometerRecordWrite false) s = .next t ∧ t.glb.odoRetry = true ∧ t.glb.odoDue = s.glb.odoDue ∧
          t.glb.odoGen = s.glb.odoGen)) ∧
    (s.glb.odoErase = true →
      (∃ t, exec (.odometerAreaErase true) s = .next t ∧ t.glb.odoErase = false ∧ t.glb.odoEraseRetry = false ∧
        ∀ k, k / 256 ≠ s.glb.odoArea → tabGet none t.flash.odo k = none) ∧
      ∃ t, exec (.odometerAreaErase false) s = .next t ∧ t.glb.odoErase = true ∧ t.flash = s.flash ∧
        t.glb.odoEraseRetry = !s.glb.odoEraseRetry ∧
        t.glb.odoErrs = if s.glb.odoEraseRetry then (s.glb.odoErrs + 1) % 65536 else s.glb.odoErrs) ∧
    (s.reached = true →
      (∃ t, exec .diagOdoWriteNow s = .next t ∧ 7 ∈ t.glb.odoDue) ∧
      (∃ t, exec (.diagBootcfgSave true) s = .next t ∧ t.glb.cfgGen = s.glb.cfgGen + 1 ∧ t.glb.cfgErr = s.glb.cfgErr) ∧
      (∃ t, exec (.diagBootcfgSave false) s = .next t ∧ t.glb.cfgErr = true ∧ t.flash = s.flash) ∧
      ∀ v : Word,
        (bits v.toNat 24 6 ≤ s.glb.secver →
          ∃ t, exec (.diagSecverRaise v) s = .next t ∧ t.otp.minSecver = max s.otp.minSecver (bits v.toNat 24 6)) ∧
        (s.glb.secver < bits v.toNat 24 6 → exec (.diagSecverRaise v) s = .next s)) ∧
    (∀ code : Fin 6, ∃ t, exec (.jtagTapOperation (.loadIr code)) s = .next t ∧ t.glb.tap = code.val) ∧
    (∃ t, exec (.jtagTapOperation .tapReset) s = .next t ∧ t.glb.tap = 1) ∧
    ∀ tdi : List Bool,
      (s.glb.tap = 1 → exec (.jtagTapOperation (.shiftDr tdi)) s =
        .next (s.emit (.jtagTdo ((bitsOf s.idcode 32 ++ tdi).take tdi.length)))) ∧
      (s.glb.tap = 0 → exec (.jtagTapOperation (.shiftDr tdi)) s = .next (s.emit (.jtagTdo ((false :: tdi).take tdi.length)))) ∧
      (s.glb.tap = 2 ∨ s.glb.tap = 3 → ∃ t b, exec (.jtagTapOperation (.shiftDr tdi)) s = .next t ∧ t.out = .jtagTdo b :: s.out ∧
        b.length = tdi.length ∧ t.glb.bsr = tdi)
end

