-- ==== Sys2Proof/Laws/Tab.lean ====
section
/-! SUPPORT. The sparse tables and stores: what a read answers after a write, and that every operation keeps the canonical form. -/

namespace Sys2Proof.Machine

/-! ### The canonical form -/

/-- The bound before the keys of a table. -/
theorem tabOk_cons {α : Type} [DecidableEq α] {d : Nat → α} {b : Option Nat} {i : Nat} {v : α} {t : Tab α} :
    tabOk d b ((i, v) :: t) = true ↔ (∀ x, b = some x → x < i) ∧ v ≠ d i ∧ tabOk d (some i) t = true := by
  cases b <;> simp [tabOk, and_assoc]

/-- A lower bound may be lowered. -/
theorem tabOk_weaken {α : Type} [DecidableEq α] {d : Nat → α} {k : Nat} {c : Option Nat} {t : Tab α} (h : tabOk d (some k) t = true)
    (hb : ∀ x, c = some x → x ≤ k) : tabOk d c t = true := by
  cases t with
  | nil => cases c <;> rfl
  | cons e t =>
    obtain ⟨i, v⟩ := e
    rw [tabOk_cons] at h ⊢
    exact ⟨fun x hx => Nat.lt_of_le_of_lt (hb x hx) (h.1 k rfl), h.2⟩

theorem tabOk_put {α : Type} [DecidableEq α] {d : Nat → α} {b : Option Nat} {k : Nat} {v : α} {t : Tab α} (h : tabOk d b t = true)
    (hb : ∀ x, b = some x → x < k) (hv : v ≠ d k) : tabOk d b (tabPut k v t) = true := by
  induction t generalizing b with
  | nil => exact tabOk_cons.2 ⟨hb, hv, by cases b <;> rfl⟩
  | cons e t ih =>
    obtain ⟨i, w⟩ := e
    rw [tabOk_cons] at h
    simp only [tabPut]
    split
    · next hlt => exact tabOk_cons.2 ⟨hb, hv, tabOk_cons.2 ⟨fun x hx => by cases hx; exact hlt, h.2⟩⟩
    · split
      · next he => subst he; exact tabOk_cons.2 ⟨hb, hv, h.2.2⟩
      · next h1 h2 =>
        exact tabOk_cons.2 ⟨h.1, h.2.1, ih h.2.2 fun x hx => by cases hx; omega⟩

theorem tabOk_del {α : Type} [DecidableEq α] {d : Nat → α} {b : Option Nat} {k : Nat} {t : Tab α} (h : tabOk d b t = true) :
    tabOk d b (tabDel t k) = true := by
  induction t generalizing b with
  | nil => exact h
  | cons a t ih =>
    obtain ⟨i, w⟩ := a
    rw [tabOk_cons] at h
    simp only [tabDel]
    split
    · exact tabOk_weaken (ih h.2.2) (fun x hx => Nat.le_of_lt (h.1 x hx))
    · exact tabOk_cons.2 ⟨h.1, h.2.1, ih h.2.2⟩

theorem tabOk_set {α : Type} [DecidableEq α] {d : Nat → α} {k : Nat} {v : α} {t : Tab α} (h : tabOk d none t = true) :
    tabOk d none (tabSet (d k) t k v) = true := by
  unfold tabSet
  split
  · exact tabOk_del h
  · next hv => exact tabOk_put h (fun x hx => by cases hx) hv

theorem tabOk_filter {α : Type} [DecidableEq α] {d : Nat → α} {b : Option Nat} {p : Nat × α → Bool} {t : Tab α}
    (h : tabOk d b t = true) : tabOk d b (t.filter p) = true := by
  induction t generalizing b with
  | nil => exact h
  | cons e t ih =>
    obtain ⟨i, w⟩ := e
    have h' := tabOk_cons.1 h
    simp only [List.filter_cons]
    split
    · exact tabOk_cons.2 ⟨h'.1, h'.2.1, ih h'.2.2⟩
    · exact ih (tabOk_weaken h'.2.2 fun x hx => Nat.le_of_lt (h'.1 x hx))

theorem memWf_set {m : Mem} {a : Nat} {b : Byte} (h : memWf m = true) : memWf (memSet m a b) = true :=
  tabOk_set (d := fun _ => (0 : Byte)) h

theorem memWf_store {m : Mem} {a : Nat} {bs : List Byte} (h : memWf m = true) : memWf (memStore m a bs) = true := by
  induction bs generalizing m a with
  | nil => exact h
  | cons b bs ih => exact ih (memWf_set h)

theorem memWf_erase {m : Mem} {lo hi : Nat} (h : memWf m = true) : memWf (memErase m lo hi) = true := tabOk_filter h

theorem memWf_storeEnabled {m : Mem} {a : Nat} {bs : List (Option Byte)} (h : memWf m = true) : memWf (storeEnabled m a bs) = true := by
  induction bs generalizing m a with
  | nil => exact h
  | cons b bs ih =>
    cases b with
    | none => exact ih h
    | some b => exact ih (memWf_set h)

/-! ### What a read answers -/

theorem tabGet_del {α : Type} {d : α} {k j : Nat} {t : Tab α} :
    tabGet d (tabDel t k) j = if j = k then d else tabGet d t j := by
  induction t with
  | nil => simp [tabDel, tabGet]
  | cons a t ih =>
    obtain ⟨i, w⟩ := a
    simp only [tabDel]
    split
    · next hk =>
      subst hk
      rw [ih]
      split
      · rfl
      · next hj => simp only [tabGet, if_neg hj]
    · next hk =>
      simp only [tabGet]
      rw [ih]
      by_cases h1 : j = i
      · subst h1; rw [if_pos rfl, if_neg (fun h => hk h.symm), if_pos rfl]
      · rw [if_neg h1, if_neg h1]

theorem tabGet_put {α : Type} {d : α} {k j : Nat} {v : α} {t : Tab α} :
    tabGet d (tabPut k v t) j = if j = k then v else tabGet d t j := by
  induction t with
  | nil => rfl
  | cons a t ih =>
    obtain ⟨i, w⟩ := a
    simp only [tabPut]
    split
    · rfl
    · split
      · next hk =>
        subst hk
        simp only [tabGet]
        by_cases h1 : j = k
        · rw [if_pos h1, if_pos h1]
        · rw [if_neg h1, if_neg h1, if_neg h1]
      · next h1 h2 =>
        simp only [tabGet]
        rw [ih]
        by_cases h3 : j = i
        · subst h3; rw [if_pos rfl, if_neg (fun h => h2 h.symm), if_pos rfl]
        · rw [if_neg h3, if_neg h3]

/-- Read after write, at the key written and at every other key. -/
theorem tabGet_set {α : Type} [DecidableEq α] {d : α} {k j : Nat} {v : α} {t : Tab α} :
    tabGet d (tabSet d t k v) j = if j = k then v else tabGet d t j := by
  unfold tabSet
  split
  · next hv => rw [tabGet_del, hv]
  · exact tabGet_put

@[simp] theorem tabGet_set_same {α : Type} [DecidableEq α] {d : α} {k : Nat} {v : α} {t : Tab α} :
    tabGet d (tabSet d t k v) k = v := by rw [tabGet_set, if_pos rfl]

theorem tabGet_set_other {α : Type} [DecidableEq α] {d e : α} {k j : Nat} {v : α} {t : Tab α} (h : j ≠ k) :
    tabGet e (tabSet d t k v) j = tabGet e t j := by
  unfold tabSet
  split
  · rw [tabGet_del, if_neg h]
  · rw [tabGet_put, if_neg h]

theorem tabGet_keep {α : Type} {d : α} {p : Nat → Bool} {k : Nat} {t : Tab α} :
    tabGet d (tabKeep p t) k = if p k then tabGet d t k else d := by
  induction t with
  | nil => simp [tabKeep, tabGet]
  | cons a t ih =>
    obtain ⟨i, w⟩ := a
    simp only [tabKeep] at ih
    by_cases hp : p i
    · simp only [tabKeep, List.filter_cons, hp, if_true, tabGet]
      rw [ih]
      by_cases h1 : k = i
      · subst h1; simp [hp]
      · simp [h1]
    · simp only [tabKeep, List.filter_cons, hp, if_false, tabGet, Bool.false_eq_true]
      rw [ih]
      by_cases h1 : k = i
      · subst h1; simp [hp]
      · simp [h1]

theorem memGet_set {m : Mem} {a x : Nat} {b : Byte} :
    memGet (memSet m a b) x = if x = a then b else memGet m x := tabGet_set

/-- Bytes stored from `a` on: the bytes read back there, and every other byte stands. -/
theorem memGet_store {m : Mem} {a x : Nat} {bs : List Byte} :
    memGet (memStore m a bs) x = if a ≤ x ∧ x < a + bs.length then bs.getD (x - a) 0 else memGet m x := by
  induction bs generalizing m a with
  | nil => rw [if_neg (by simp only [List.length_nil]; omega)]; rfl
  | cons b bs ih =>
    rw [memStore, ih, memGet_set]
    simp only [List.length_cons]
    by_cases h1 : x = a
    · subst h1
      rw [if_neg (by omega), if_pos rfl, if_pos (by omega), Nat.sub_self]
      rfl
    · by_cases h2 : a ≤ x ∧ x < a + (bs.length + 1)
      · rw [if_pos (by omega), if_pos h2, show x - a = (x - (a + 1)) + 1 by omega]
        rfl
      · rw [if_neg (by omega), if_neg h1, if_neg h2]

/-- Bytes dropped read as what nothing has written reads. -/
theorem memGet_erase {m : Mem} {lo hi x : Nat} :
    memGet (memErase m lo hi) x = if lo ≤ x ∧ x < hi then 0 else memGet m x := by
  have h := tabGet_keep (d := (0 : Byte)) (p := fun a => decide (a < lo) || decide (hi ≤ a)) (k := x) (t := m)
  simp only [tabKeep] at h
  unfold memGet memErase
  rw [h]
  by_cases h1 : lo ≤ x ∧ x < hi
  · rw [if_neg (by simp; omega), if_pos h1]
  · rw [if_pos (by simp; omega), if_neg h1]

/-! ### What a table holds -/

theorem mem_tabDel {α : Type} {t : Tab α} {k : Nat} {e : Nat × α} (h : e ∈ tabDel t k) : e ∈ t := by
  induction t with
  | nil => simp [tabDel] at h
  | cons a t ih =>
    obtain ⟨i, w⟩ := a
    simp only [tabDel] at h
    split at h
    · exact List.mem_cons_of_mem _ (ih h)
    · rcases List.mem_cons.1 h with h | h
      · exact h ▸ List.mem_cons_self
      · exact List.mem_cons_of_mem _ (ih h)

theorem mem_tabPut {α : Type} {t : Tab α} {k : Nat} {v : α} {e : Nat × α} (h : e ∈ tabPut k v t) : e ∈ t ∨ e = (k, v) := by
  induction t with
  | nil => exact .inr (by simpa [tabPut] using h)
  | cons a t ih =>
    obtain ⟨i, w⟩ := a
    simp only [tabPut] at h
    split at h
    · rcases List.mem_cons.1 h with h' | h'
      · exact .inr h'
      · exact .inl h'
    · split at h
      · rcases List.mem_cons.1 h with h' | h'
        · exact .inr h'
        · exact .inl (List.mem_cons_of_mem _ h')
      · rcases List.mem_cons.1 h with h' | h'
        · exact .inl (h' ▸ List.mem_cons_self)
        · exact (ih h').imp (List.mem_cons_of_mem _) id

theorem mem_tabSet {α : Type} [DecidableEq α] {d : α} {t : Tab α} {k : Nat} {v : α} {e : Nat × α} (h : e ∈ tabSet d t k v) :
    e ∈ t ∨ e = (k, v) := by
  unfold tabSet at h
  split at h
  · exact .inl (mem_tabDel h)
  · exact mem_tabPut h

theorem tabGet_mem {α : Type} {d : α} {t : Tab α} {k : Nat} : tabGet d t k = d ∨ (k, tabGet d t k) ∈ t := by
  induction t with
  | nil => exact .inl rfl
  | cons a t ih =>
    obtain ⟨i, w⟩ := a
    simp only [tabGet]
    split
    · next h => subst h; exact .inr List.mem_cons_self
    · exact ih.imp id (List.mem_cons_of_mem _)

end Sys2Proof.Machine
end

