-- ==== Sys2Proof/Laws/KeepBase.lean ====
section
/-! SUPPORT. What every operation and every command keep: Safety.lean's invariant, the queue, the fuses' least security version, and the
parts of the state that a command does not touch. The files Keep*.lean hold one lemma per operation that answers a state, named after it
with `_ok`, and one per command; each names the parts that it must be free to change. -/

namespace Sys2Proof.Machine

/-- What a keep lemma is about: the queue, a least security version not to fall below, a state to compare with, and the parts of the state
that stand as they are there; with `inv`, the invariant as well. -/
structure KeepCtx where
  queue : List Instr
  inv : Bool
  minSec : Nat
  start : State
  frozen : StatePart → Bool

/-- What holds of stored sets of registers (R5). -/
def setsOk (d : Tab Word) (sh lv : Tab (Tab Word)) (pd : Tab (Option (Tab Word))) : Prop :=
  reservedOk d ∧ (∀ u ∈ sh, reservedOk u.2) ∧ (∀ u ∈ lv, reservedOk u.2) ∧ ∀ u ∈ pd, ∀ t, u.2 = some t → reservedOk t

/-- `Ok` over the parts of a state that it speaks of. -/
def OkF (kc : KeepCtx) (p : List Instr) (o : OtpS) (d : Tab Word) (sh : Tab (Tab Word)) (lv : Tab (Tab Word)) (pd : Tab (Option (Tab Word))) (rg : RegFile) (ck : Nat) (ti : TimeS) (gl : GlbS) (b : Mem) (dm : DmcS) (v : Mem) (va : ValeS) (qm : QmS) (ne : NetS) (th : ThmS) (pw : PwrS) (fs : FlashS) (rc : RcS) (fl : FlS) (po : Tab Port) (tl : Tab TileSlot) (ho : Tab Hop) (br : Tab Bridge) (fi : FilmS) (ws : WsaS) (sc : SchS) (mp : MpS) (ou : List Out) : Prop :=
  (p = kc.queue ∧ (kc.inv = true → kc.minSec ≤ o.minSecver ∧ memWf b ∧ memWf v ∧ setsOk d sh lv pd ∧ o.minSecver ≤ 63)) ∧
    (kc.frozen .written = true → d = kc.start.regs.direct ∧ sh = kc.start.regs.shadow) ∧
    (kc.frozen .inForce = true → lv = kc.start.regs.live ∧ pd = kc.start.regs.pend) ∧
    (kc.frozen .regs = true → rg = kc.start.regs) ∧
    (kc.frozen .clk = true → ck = kc.start.clk) ∧
    (kc.frozen .time = true → ti = kc.start.time) ∧
    (kc.frozen .glb = true → gl = kc.start.glb) ∧
    (kc.frozen .otp = true → o = kc.start.otp) ∧
    (kc.frozen .dram = true → b = kc.start.dmc.bulk) ∧
    (kc.frozen .dmc = true → dm = kc.start.dmc) ∧
    (kc.frozen .valeMem = true → v = kc.start.vale.mem) ∧
    (kc.frozen .vale = true → va = kc.start.vale) ∧
    (kc.frozen .qm = true → qm = kc.start.qm) ∧
    (kc.frozen .net = true → ne = kc.start.net) ∧
    (kc.frozen .thm = true → th = kc.start.thm) ∧
    (kc.frozen .pwr = true → pw = kc.start.pwr) ∧
    (kc.frozen .flash = true → fs = kc.start.flash) ∧
    (kc.frozen .rc = true → rc = kc.start.rc) ∧
    (kc.frozen .fl = true → fl = kc.start.fl) ∧
    (kc.frozen .ports = true → po = kc.start.ports) ∧
    (kc.frozen .tiles = true → tl = kc.start.tiles) ∧
    (kc.frozen .hops = true → ho = kc.start.hops) ∧
    (kc.frozen .bridges = true → br = kc.start.bridges) ∧
    (kc.frozen .film = true → fi = kc.start.film) ∧
    (kc.frozen .wsa = true → ws = kc.start.wsa) ∧
    (kc.frozen .sch = true → sc = kc.start.sch) ∧
    (kc.frozen .mp = true → mp = kc.start.mp) ∧
    (kc.frozen .out = true → ou = kc.start.out)

/-- The invariant holds, the queue is the context's, the least security version is at least its own, and the frozen parts stand. -/
def Ok (kc : KeepCtx) (s : State) : Prop :=
  OkF kc s.pending s.otp s.regs.direct s.regs.shadow s.regs.live s.regs.pend s.regs s.clk s.time s.glb s.dmc.bulk s.dmc s.vale.mem s.vale s.qm s.net s.thm s.pwr s.flash s.rc s.fl s.ports s.tiles s.hops s.bridges s.film s.wsa s.sch s.mp s.out

/-- A command that answers a next state answers one that is `Ok`. -/
def OkO (kc : KeepCtx) : Host.Outcome State Fault Refusal → Prop
  | .next t => Ok kc t
  | _ => True

theorem okO_next {kc : KeepCtx} {t : State} (h : Ok kc t) : OkO kc (.next t) := h

theorem okO_fault {kc : KeepCtx} {r : Fault} : OkO kc (.fault r) := trivial

variable {kc : KeepCtx}

theorem okF {t : State} (h : Ok kc t) :
    OkF kc t.pending t.otp t.regs.direct t.regs.shadow t.regs.live t.regs.pend t.regs t.clk t.time t.glb t.dmc.bulk t.dmc t.vale.mem t.vale t.qm t.net t.thm t.pwr t.flash t.rc t.fl t.ports t.tiles t.hops t.bridges t.film t.wsa t.sch t.mp t.out := h

theorem frozenOff {b : Bool} {q : Prop} (h : b = false) : b = true → q := fun h1 => absurd (h.symm.trans h1) Bool.false_ne_true

theorem okF_regs {p : List Instr} {o : OtpS} {d : Tab Word} {sh : Tab (Tab Word)} {lv : Tab (Tab Word)} {pd : Tab (Option (Tab Word))} {rg : RegFile} {ck : Nat} {ti : TimeS} {gl : GlbS} {b : Mem} {dm : DmcS} {v : Mem} {va : ValeS} {qm : QmS} {ne : NetS} {th : ThmS} {pw : PwrS} {fs : FlashS} {rc : RcS} {fl : FlS} {po : Tab Port} {tl : Tab TileSlot} {ho : Tab Hop} {br : Tab Bridge} {fi : FilmS} {ws : WsaS} {sc : SchS} {mp : MpS} {ou : List Out} {rg' : RegFile} (h : OkF kc p o d sh lv pd rg ck ti gl b dm v va qm ne th pw fs rc fl po tl ho br fi ws sc mp ou) (h0 : kc.frozen .regs = false := by first | with_reducible assumption | rfl) :
    OkF kc p o d sh lv pd rg' ck ti gl b dm v va qm ne th pw fs rc fl po tl ho br fi ws sc mp ou := by
  obtain ⟨⟨a1, ai⟩, f0, f1, f2, f3, f4, f5, f6, f7, f8, f9, f10, f11, f12, f13, f14, f15, f16, f17, f18, f19, f20, f21, f22, f23, f24, f25, f26⟩ := h
  exact ⟨⟨a1, ai⟩, f0, f1, frozenOff h0, f3, f4, f5, f6, f7, f8, f9, f10, f11, f12, f13, f14, f15, f16, f17, f18, f19, f20, f21, f22, f23, f24, f25, f26⟩

theorem okF_clk {p : List Instr} {o : OtpS} {d : Tab Word} {sh : Tab (Tab Word)} {lv : Tab (Tab Word)} {pd : Tab (Option (Tab Word))} {rg : RegFile} {ck : Nat} {ti : TimeS} {gl : GlbS} {b : Mem} {dm : DmcS} {v : Mem} {va : ValeS} {qm : QmS} {ne : NetS} {th : ThmS} {pw : PwrS} {fs : FlashS} {rc : RcS} {fl : FlS} {po : Tab Port} {tl : Tab TileSlot} {ho : Tab Hop} {br : Tab Bridge} {fi : FilmS} {ws : WsaS} {sc : SchS} {mp : MpS} {ou : List Out} {ck' : Nat} (h : OkF kc p o d sh lv pd rg ck ti gl b dm v va qm ne th pw fs rc fl po tl ho br fi ws sc mp ou) (h0 : kc.frozen .clk = false := by first | with_reducible assumption | rfl) :
    OkF kc p o d sh lv pd rg ck' ti gl b dm v va qm ne th pw fs rc fl po tl ho br fi ws sc mp ou := by
  obtain ⟨⟨a1, ai⟩, f0, f1, f2, f3, f4, f5, f6, f7, f8, f9, f10, f11, f12, f13, f14, f15, f16, f17, f18, f19, f20, f21, f22, f23, f24, f25, f26⟩ := h
  exact ⟨⟨a1, ai⟩, f0, f1, f2, frozenOff h0, f4, f5, f6, f7, f8, f9, f10, f11, f12, f13, f14, f15, f16, f17, f18, f19, f20, f21, f22, f23, f24, f25, f26⟩

theorem okF_time {p : List Instr} {o : OtpS} {d : Tab Word} {sh : Tab (Tab Word)} {lv : Tab (Tab Word)} {pd : Tab (Option (Tab Word))} {rg : RegFile} {ck : Nat} {ti : TimeS} {gl : GlbS} {b : Mem} {dm : DmcS} {v : Mem} {va : ValeS} {qm : QmS} {ne : NetS} {th : ThmS} {pw : PwrS} {fs : FlashS} {rc : RcS} {fl : FlS} {po : Tab Port} {tl : Tab TileSlot} {ho : Tab Hop} {br : Tab Bridge} {fi : FilmS} {ws : WsaS} {sc : SchS} {mp : MpS} {ou : List Out} {ti' : TimeS} (h : OkF kc p o d sh lv pd rg ck ti gl b dm v va qm ne th pw fs rc fl po tl ho br fi ws sc mp ou) (h0 : kc.frozen .time = false := by first | with_reducible assumption | rfl) :
    OkF kc p o d sh lv pd rg ck ti' gl b dm v va qm ne th pw fs rc fl po tl ho br fi ws sc mp ou := by
  obtain ⟨⟨a1, ai⟩, f0, f1, f2, f3, f4, f5, f6, f7, f8, f9, f10, f11, f12, f13, f14, f15, f16, f17, f18, f19, f20, f21, f22, f23, f24, f25, f26⟩ := h
  exact ⟨⟨a1, ai⟩, f0, f1, f2, f3, frozenOff h0, f5, f6, f7, f8, f9, f10, f11, f12, f13, f14, f15, f16, f17, f18, f19, f20, f21, f22, f23, f24, f25, f26⟩

theorem okF_glb {p : List Instr} {o : OtpS} {d : Tab Word} {sh : Tab (Tab Word)} {lv : Tab (Tab Word)} {pd : Tab (Option (Tab Word))} {rg : RegFile} {ck : Nat} {ti : TimeS} {gl : GlbS} {b : Mem} {dm : DmcS} {v : Mem} {va : ValeS} {qm : QmS} {ne : NetS} {th : ThmS} {pw : PwrS} {fs : FlashS} {rc : RcS} {fl : FlS} {po : Tab Port} {tl : Tab TileSlot} {ho : Tab Hop} {br : Tab Bridge} {fi : FilmS} {ws : WsaS} {sc : SchS} {mp : MpS} {ou : List Out} {gl' : GlbS} (h : OkF kc p o d sh lv pd rg ck ti gl b dm v va qm ne th pw fs rc fl po tl ho br fi ws sc mp ou) (h0 : kc.frozen .glb = false := by first | with_reducible assumption | rfl) :
    OkF kc p o d sh lv pd rg ck ti gl' b dm v va qm ne th pw fs rc fl po tl ho br fi ws sc mp ou := by
  obtain ⟨⟨a1, ai⟩, f0, f1, f2, f3, f4, f5, f6, f7, f8, f9, f10, f11, f12, f13, f14, f15, f16, f17, f18, f19, f20, f21, f22, f23, f24, f25, f26⟩ := h
  exact ⟨⟨a1, ai⟩, f0, f1, f2, f3, f4, frozenOff h0, f6, f7, f8, f9, f10, f11, f12, f13, f14, f15, f16, f17, f18, f19, f20, f21, f22, f23, f24, f25, f26⟩

theorem okF_dmc {p : List Instr} {o : OtpS} {d : Tab Word} {sh : Tab (Tab Word)} {lv : Tab (Tab Word)} {pd : Tab (Option (Tab Word))} {rg : RegFile} {ck : Nat} {ti : TimeS} {gl : GlbS} {b : Mem} {dm : DmcS} {v : Mem} {va : ValeS} {qm : QmS} {ne : NetS} {th : ThmS} {pw : PwrS} {fs : FlashS} {rc : RcS} {fl : FlS} {po : Tab Port} {tl : Tab TileSlot} {ho : Tab Hop} {br : Tab Bridge} {fi : FilmS} {ws : WsaS} {sc : SchS} {mp : MpS} {ou : List Out} {dm' : DmcS} (h : OkF kc p o d sh lv pd rg ck ti gl b dm v va qm ne th pw fs rc fl po tl ho br fi ws sc mp ou) (h0 : kc.frozen .dmc = false := by first | with_reducible assumption | rfl) :
    OkF kc p o d sh lv pd rg ck ti gl b dm' v va qm ne th pw fs rc fl po tl ho br fi ws sc mp ou := by
  obtain ⟨⟨a1, ai⟩, f0, f1, f2, f3, f4, f5, f6, f7, f8, f9, f10, f11, f12, f13, f14, f15, f16, f17, f18, f19, f20, f21, f22, f23, f24, f25, f26⟩ := h
  exact ⟨⟨a1, ai⟩, f0, f1, f2, f3, f4, f5, f6, f7, frozenOff h0, f9, f10, f11, f12, f13, f14, f15, f16, f17, f18, f19, f20, f21, f22, f23, f24, f25, f26⟩

theorem okF_vale {p : List Instr} {o : OtpS} {d : Tab Word} {sh : Tab (Tab Word)} {lv : Tab (Tab Word)} {pd : Tab (Option (Tab Word))} {rg : RegFile} {ck : Nat} {ti : TimeS} {gl : GlbS} {b : Mem} {dm : DmcS} {v : Mem} {va : ValeS} {qm : QmS} {ne : NetS} {th : ThmS} {pw : PwrS} {fs : FlashS} {rc : RcS} {fl : FlS} {po : Tab Port} {tl : Tab TileSlot} {ho : Tab Hop} {br : Tab Bridge} {fi : FilmS} {ws : WsaS} {sc : SchS} {mp : MpS} {ou : List Out} {va' : ValeS} (h : OkF kc p o d sh lv pd rg ck ti gl b dm v va qm ne th pw fs rc fl po tl ho br fi ws sc mp ou) (h0 : kc.frozen .vale = false := by first | with_reducible assumption | rfl) :
    OkF kc p o d sh lv pd rg ck ti gl b dm v va' qm ne th pw fs rc fl po tl ho br fi ws sc mp ou := by
  obtain ⟨⟨a1, ai⟩, f0, f1, f2, f3, f4, f5, f6, f7, f8, f9, f10, f11, f12, f13, f14, f15, f16, f17, f18, f19, f20, f21, f22, f23, f24, f25, f26⟩ := h
  exact ⟨⟨a1, ai⟩, f0, f1, f2, f3, f4, f5, f6, f7, f8, f9, frozenOff h0, f11, f12, f13, f14, f15, f16, f17, f18, f19, f20, f21, f22, f23, f24, f25, f26⟩

theorem okF_qm {p : List Instr} {o : OtpS} {d : Tab Word} {sh : Tab (Tab Word)} {lv : Tab (Tab Word)} {pd : Tab (Option (Tab Word))} {rg : RegFile} {ck : Nat} {ti : TimeS} {gl : GlbS} {b : Mem} {dm : DmcS} {v : Mem} {va : ValeS} {qm : QmS} {ne : NetS} {th : ThmS} {pw : PwrS} {fs : FlashS} {rc : RcS} {fl : FlS} {po : Tab Port} {tl : Tab TileSlot} {ho : Tab Hop} {br : Tab Bridge} {fi : FilmS} {ws : WsaS} {sc : SchS} {mp : MpS} {ou : List Out} {qm' : QmS} (h : OkF kc p o d sh lv pd rg ck ti gl b dm v va qm ne th pw fs rc fl po tl ho br fi ws sc mp ou) (h0 : kc.frozen .qm = false := by first | with_reducible assumption | rfl) :
    OkF kc p o d sh lv pd rg ck ti gl b dm v va qm' ne th pw fs rc fl po tl ho br fi ws sc mp ou := by
  obtain ⟨⟨a1, ai⟩, f0, f1, f2, f3, f4, f5, f6, f7, f8, f9, f10, f11, f12, f13, f14, f15, f16, f17, f18, f19, f20, f21, f22, f23, f24, f25, f26⟩ := h
  exact ⟨⟨a1, ai⟩, f0, f1, f2, f3, f4, f5, f6, f7, f8, f9, f10, frozenOff h0, f12, f13, f14, f15, f16, f17, f18, f19, f20, f21, f22, f23, f24, f25, f26⟩

theorem okF_net {p : List Instr} {o : OtpS} {d : Tab Word} {sh : Tab (Tab Word)} {lv : Tab (Tab Word)} {pd : Tab (Option (Tab Word))} {rg : RegFile} {ck : Nat} {ti : TimeS} {gl : GlbS} {b : Mem} {dm : DmcS} {v : Mem} {va : ValeS} {qm : QmS} {ne : NetS} {th : ThmS} {pw : PwrS} {fs : FlashS} {rc : RcS} {fl : FlS} {po : Tab Port} {tl : Tab TileSlot} {ho : Tab Hop} {br : Tab Bridge} {fi : FilmS} {ws : WsaS} {sc : SchS} {mp : MpS} {ou : List Out} {ne' : NetS} (h : OkF kc p o d sh lv pd rg ck ti gl b dm v va qm ne th pw fs rc fl po tl ho br fi ws sc mp ou) (h0 : kc.frozen .net = false := by first | with_reducible assumption | rfl) :
    OkF kc p o d sh lv pd rg ck ti gl b dm v va qm ne' th pw fs rc fl po tl ho br fi ws sc mp ou := by
  obtain ⟨⟨a1, ai⟩, f0, f1, f2, f3, f4, f5, f6, f7, f8, f9, f10, f11, f12, f13, f14, f15, f16, f17, f18, f19, f20, f21, f22, f23, f24, f25, f26⟩ := h
  exact ⟨⟨a1, ai⟩, f0, f1, f2, f3, f4, f5, f6, f7, f8, f9, f10, f11, frozenOff h0, f13, f14, f15, f16, f17, f18, f19, f20, f21, f22, f23, f24, f25, f26⟩

theorem okF_thm {p : List Instr} {o : OtpS} {d : Tab Word} {sh : Tab (Tab Word)} {lv : Tab (Tab Word)} {pd : Tab (Option (Tab Word))} {rg : RegFile} {ck : Nat} {ti : TimeS} {gl : GlbS} {b : Mem} {dm : DmcS} {v : Mem} {va : ValeS} {qm : QmS} {ne : NetS} {th : ThmS} {pw : PwrS} {fs : FlashS} {rc : RcS} {fl : FlS} {po : Tab Port} {tl : Tab TileSlot} {ho : Tab Hop} {br : Tab Bridge} {fi : FilmS} {ws : WsaS} {sc : SchS} {mp : MpS} {ou : List Out} {th' : ThmS} (h : OkF kc p o d sh lv pd rg ck ti gl b dm v va qm ne th pw fs rc fl po tl ho br fi ws sc mp ou) (h0 : kc.frozen .thm = false := by first | with_reducible assumption | rfl) :
    OkF kc p o d sh lv pd rg ck ti gl b dm v va qm ne th' pw fs rc fl po tl ho br fi ws sc mp ou := by
  obtain ⟨⟨a1, ai⟩, f0, f1, f2, f3, f4, f5, f6, f7, f8, f9, f10, f11, f12, f13, f14, f15, f16, f17, f18, f19, f20, f21, f22, f23, f24, f25, f26⟩ := h
  exact ⟨⟨a1, ai⟩, f0, f1, f2, f3, f4, f5, f6, f7, f8, f9, f10, f11, f12, frozenOff h0, f14, f15, f16, f17, f18, f19, f20, f21, f22, f23, f24, f25, f26⟩

theorem okF_pwr {p : List Instr} {o : OtpS} {d : Tab Word} {sh : Tab (Tab Word)} {lv : Tab (Tab Word)} {pd : Tab (Option (Tab Word))} {rg : RegFile} {ck : Nat} {ti : TimeS} {gl : GlbS} {b : Mem} {dm : DmcS} {v : Mem} {va : ValeS} {qm : QmS} {ne : NetS} {th : ThmS} {pw : PwrS} {fs : FlashS} {rc : RcS} {fl : FlS} {po : Tab Port} {tl : Tab TileSlot} {ho : Tab Hop} {br : Tab Bridge} {fi : FilmS} {ws : WsaS} {sc : SchS} {mp : MpS} {ou : List Out} {pw' : PwrS} (h : OkF kc p o d sh lv pd rg ck ti gl b dm v va qm ne th pw fs rc fl po tl ho br fi ws sc mp ou) (h0 : kc.frozen .pwr = false := by first | with_reducible assumption | rfl) :
    OkF kc p o d sh lv pd rg ck ti gl b dm v va qm ne th pw' fs rc fl po tl ho br fi ws sc mp ou := by
  obtain ⟨⟨a1, ai⟩, f0, f1, f2, f3, f4, f5, f6, f7, f8, f9, f10, f11, f12, f13, f14, f15, f16, f17, f18, f19, f20, f21, f22, f23, f24, f25, f26⟩ := h
  exact ⟨⟨a1, ai⟩, f0, f1, f2, f3, f4, f5, f6, f7, f8, f9, f10, f11, f12, f13, frozenOff h0, f15, f16, f17, f18, f19, f20, f21, f22, f23, f24, f25, f26⟩

theorem okF_flash {p : List Instr} {o : OtpS} {d : Tab Word} {sh : Tab (Tab Word)} {lv : Tab (Tab Word)} {pd : Tab (Option (Tab Word))} {rg : RegFile} {ck : Nat} {ti : TimeS} {gl : GlbS} {b : Mem} {dm : DmcS} {v : Mem} {va : ValeS} {qm : QmS} {ne : NetS} {th : ThmS} {pw : PwrS} {fs : FlashS} {rc : RcS} {fl : FlS} {po : Tab Port} {tl : Tab TileSlot} {ho : Tab Hop} {br : Tab Bridge} {fi : FilmS} {ws : WsaS} {sc : SchS} {mp : MpS} {ou : List Out} {fs' : FlashS} (h : OkF kc p o d sh lv pd rg ck ti gl b dm v va qm ne th pw fs rc fl po tl ho br fi ws sc mp ou) (h0 : kc.frozen .flash = false := by first | with_reducible assumption | rfl) :
    OkF kc p o d sh lv pd rg ck ti gl b dm v va qm ne th pw fs' rc fl po tl ho br fi ws sc mp ou := by
  obtain ⟨⟨a1, ai⟩, f0, f1, f2, f3, f4, f5, f6, f7, f8, f9, f10, f11, f12, f13, f14, f15, f16, f17, f18, f19, f20, f21, f22, f23, f24, f25, f26⟩ := h
  exact ⟨⟨a1, ai⟩, f0, f1, f2, f3, f4, f5, f6, f7, f8, f9, f10, f11, f12, f13, f14, frozenOff h0, f16, f17, f18, f19, f20, f21, f22, f23, f24, f25, f26⟩

theorem okF_rc {p : List Instr} {o : OtpS} {d : Tab Word} {sh : Tab (Tab Word)} {lv : Tab (Tab Word)} {pd : Tab (Option (Tab Word))} {rg : RegFile} {ck : Nat} {ti : TimeS} {gl : GlbS} {b : Mem} {dm : DmcS} {v : Mem} {va : ValeS} {qm : QmS} {ne : NetS} {th : ThmS} {pw : PwrS} {fs : FlashS} {rc : RcS} {fl : FlS} {po : Tab Port} {tl : Tab TileSlot} {ho : Tab Hop} {br : Tab Bridge} {fi : FilmS} {ws : WsaS} {sc : SchS} {mp : MpS} {ou : List Out} {rc' : RcS} (h : OkF kc p o d sh lv pd rg ck ti gl b dm v va qm ne th pw fs rc fl po tl ho br fi ws sc mp ou) (h0 : kc.frozen .rc = false := by first | with_reducible assumption | rfl) :
    OkF kc p o d sh lv pd rg ck ti gl b dm v va qm ne th pw fs rc' fl po tl ho br fi ws sc mp ou := by
  obtain ⟨⟨a1, ai⟩, f0, f1, f2, f3, f4, f5, f6, f7, f8, f9, f10, f11, f12, f13, f14, f15, f16, f17, f18, f19, f20, f21, f22, f23, f24, f25, f26⟩ := h
  exact ⟨⟨a1, ai⟩, f0, f1, f2, f3, f4, f5, f6, f7, f8, f9, f10, f11, f12, f13, f14, f15, frozenOff h0, f17, f18, f19, f20, f21, f22, f23, f24, f25, f26⟩

theorem okF_fl {p : List Instr} {o : OtpS} {d : Tab Word} {sh : Tab (Tab Word)} {lv : Tab (Tab Word)} {pd : Tab (Option (Tab Word))} {rg : RegFile} {ck : Nat} {ti : TimeS} {gl : GlbS} {b : Mem} {dm : DmcS} {v : Mem} {va : ValeS} {qm : QmS} {ne : NetS} {th : ThmS} {pw : PwrS} {fs : FlashS} {rc : RcS} {fl : FlS} {po : Tab Port} {tl : Tab TileSlot} {ho : Tab Hop} {br : Tab Bridge} {fi : FilmS} {ws : WsaS} {sc : SchS} {mp : MpS} {ou : List Out} {fl' : FlS} (h : OkF kc p o d sh lv pd rg ck ti gl b dm v va qm ne th pw fs rc fl po tl ho br fi ws sc mp ou) (h0 : kc.frozen .fl = false := by first | with_reducible assumption | rfl) :
    OkF kc p o d sh lv pd rg ck ti gl b dm v va qm ne th pw fs rc fl' po tl ho br fi ws sc mp ou := by
  obtain ⟨⟨a1, ai⟩, f0, f1, f2, f3, f4, f5, f6, f7, f8, f9, f10, f11, f12, f13, f14, f15, f16, f17, f18, f19, f20, f21, f22, f23, f24, f25, f26⟩ := h
  exact ⟨⟨a1, ai⟩, f0, f1, f2, f3, f4, f5, f6, f7, f8, f9, f10, f11, f12, f13, f14, f15, f16, frozenOff h0, f18, f19, f20, f21, f22, f23, f24, f25, f26⟩

theorem okF_ports {p : List Instr} {o : OtpS} {d : Tab Word} {sh : Tab (Tab Word)} {lv : Tab (Tab Word)} {pd : Tab (Option (Tab Word))} {rg : RegFile} {ck : Nat} {ti : TimeS} {gl : GlbS} {b : Mem} {dm : DmcS} {v : Mem} {va : ValeS} {qm : QmS} {ne : NetS} {th : ThmS} {pw : PwrS} {fs : FlashS} {rc : RcS} {fl : FlS} {po : Tab Port} {tl : Tab TileSlot} {ho : Tab Hop} {br : Tab Bridge} {fi : FilmS} {ws : WsaS} {sc : SchS} {mp : MpS} {ou : List Out} {po' : Tab Port} (h : OkF kc p o d sh lv pd rg ck ti gl b dm v va qm ne th pw fs rc fl po tl ho br fi ws sc mp ou) (h0 : kc.frozen .ports = false := by first | with_reducible assumption | rfl) :
    OkF kc p o d sh lv pd rg ck ti gl b dm v va qm ne th pw fs rc fl po' tl ho br fi ws sc mp ou := by
  obtain ⟨⟨a1, ai⟩, f0, f1, f2, f3, f4, f5, f6, f7, f8, f9, f10, f11, f12, f13, f14, f15, f16, f17, f18, f19, f20, f21, f22, f23, f24, f25, f26⟩ := h
  exact ⟨⟨a1, ai⟩, f0, f1, f2, f3, f4, f5, f6, f7, f8, f9, f10, f11, f12, f13, f14, f15, f16, f17, frozenOff h0, f19, f20, f21, f22, f23, f24, f25, f26⟩

theorem okF_tiles {p : List Instr} {o : OtpS} {d : Tab Word} {sh : Tab (Tab Word)} {lv : Tab (Tab Word)} {pd : Tab (Option (Tab Word))} {rg : RegFile} {ck : Nat} {ti : TimeS} {gl : GlbS} {b : Mem} {dm : DmcS} {v : Mem} {va : ValeS} {qm : QmS} {ne : NetS} {th : ThmS} {pw : PwrS} {fs : FlashS} {rc : RcS} {fl : FlS} {po : Tab Port} {tl : Tab TileSlot} {ho : Tab Hop} {br : Tab Bridge} {fi : FilmS} {ws : WsaS} {sc : SchS} {mp : MpS} {ou : List Out} {tl' : Tab TileSlot} (h : OkF kc p o d sh lv pd rg ck ti gl b dm v va qm ne th pw fs rc fl po tl ho br fi ws sc mp ou) (h0 : kc.frozen .tiles = false := by first | with_reducible assumption | rfl) :
    OkF kc p o d sh lv pd rg ck ti gl b dm v va qm ne th pw fs rc fl po tl' ho br fi ws sc mp ou := by
  obtain ⟨⟨a1, ai⟩, f0, f1, f2, f3, f4, f5, f6, f7, f8, f9, f10, f11, f12, f13, f14, f15, f16, f17, f18, f19, f20, f21, f22, f23, f24, f25, f26⟩ := h
  exact ⟨⟨a1, ai⟩, f0, f1, f2, f3, f4, f5, f6, f7, f8, f9, f10, f11, f12, f13, f14, f15, f16, f17, f18, frozenOff h0, f20, f21, f22, f23, f24, f25, f26⟩

theorem okF_hops {p : List Instr} {o : OtpS} {d : Tab Word} {sh : Tab (Tab Word)} {lv : Tab (Tab Word)} {pd : Tab (Option (Tab Word))} {rg : RegFile} {ck : Nat} {ti : TimeS} {gl : GlbS} {b : Mem} {dm : DmcS} {v : Mem} {va : ValeS} {qm : QmS} {ne : NetS} {th : ThmS} {pw : PwrS} {fs : FlashS} {rc : RcS} {fl : FlS} {po : Tab Port} {tl : Tab TileSlot} {ho : Tab Hop} {br : Tab Bridge} {fi : FilmS} {ws : WsaS} {sc : SchS} {mp : MpS} {ou : List Out} {ho' : Tab Hop} (h : OkF kc p o d sh lv pd rg ck ti gl b dm v va qm ne th pw fs rc fl po tl ho br fi ws sc mp ou) (h0 : kc.frozen .hops = false := by first | with_reducible assumption | rfl) :
    OkF kc p o d sh lv pd rg ck ti gl b dm v va qm ne th pw fs rc fl po tl ho' br fi ws sc mp ou := by
  obtain ⟨⟨a1, ai⟩, f0, f1, f2, f3, f4, f5, f6, f7, f8, f9, f10, f11, f12, f13, f14, f15, f16, f17, f18, f19, f20, f21, f22, f23, f24, f25, f26⟩ := h
  exact ⟨⟨a1, ai⟩, f0, f1, f2, f3, f4, f5, f6, f7, f8, f9, f10, f11, f12, f13, f14, f15, f16, f17, f18, f19, frozenOff h0, f21, f22, f23, f24, f25, f26⟩

theorem okF_bridges {p : List Instr} {o : OtpS} {d : Tab Word} {sh : Tab (Tab Word)} {lv : Tab (Tab Word)} {pd : Tab (Option (Tab Word))} {rg : RegFile} {ck : Nat} {ti : TimeS} {gl : GlbS} {b : Mem} {dm : DmcS} {v : Mem} {va : ValeS} {qm : QmS} {ne : NetS} {th : ThmS} {pw : PwrS} {fs : FlashS} {rc : RcS} {fl : FlS} {po : Tab Port} {tl : Tab TileSlot} {ho : Tab Hop} {br : Tab Bridge} {fi : FilmS} {ws : WsaS} {sc : SchS} {mp : MpS} {ou : List Out} {br' : Tab Bridge} (h : OkF kc p o d sh lv pd rg ck ti gl b dm v va qm ne th pw fs rc fl po tl ho br fi ws sc mp ou) (h0 : kc.frozen .bridges = false := by first | with_reducible assumption | rfl) :
    OkF kc p o d sh lv pd rg ck ti gl b dm v va qm ne th pw fs rc fl po tl ho br' fi ws sc mp ou := by
  obtain ⟨⟨a1, ai⟩, f0, f1, f2, f3, f4, f5, f6, f7, f8, f9, f10, f11, f12, f13, f14, f15, f16, f17, f18, f19, f20, f21, f22, f23, f24, f25, f26⟩ := h
  exact ⟨⟨a1, ai⟩, f0, f1, f2, f3, f4, f5, f6, f7, f8, f9, f10, f11, f12, f13, f14, f15, f16, f17, f18, f19, f20, frozenOff h0, f22, f23, f24, f25, f26⟩

theorem okF_film {p : List Instr} {o : OtpS} {d : Tab Word} {sh : Tab (Tab Word)} {lv : Tab (Tab Word)} {pd : Tab (Option (Tab Word))} {rg : RegFile} {ck : Nat} {ti : TimeS} {gl : GlbS} {b : Mem} {dm : DmcS} {v : Mem} {va : ValeS} {qm : QmS} {ne : NetS} {th : ThmS} {pw : PwrS} {fs : FlashS} {rc : RcS} {fl : FlS} {po : Tab Port} {tl : Tab TileSlot} {ho : Tab Hop} {br : Tab Bridge} {fi : FilmS} {ws : WsaS} {sc : SchS} {mp : MpS} {ou : List Out} {fi' : FilmS} (h : OkF kc p o d sh lv pd rg ck ti gl b dm v va qm ne th pw fs rc fl po tl ho br fi ws sc mp ou) (h0 : kc.frozen .film = false := by first | with_reducible assumption | rfl) :
    OkF kc p o d sh lv pd rg ck ti gl b dm v va qm ne th pw fs rc fl po tl ho br fi' ws sc mp ou := by
  obtain ⟨⟨a1, ai⟩, f0, f1, f2, f3, f4, f5, f6, f7, f8, f9, f10, f11, f12, f13, f14, f15, f16, f17, f18, f19, f20, f21, f22, f23, f24, f25, f26⟩ := h
  exact ⟨⟨a1, ai⟩, f0, f1, f2, f3, f4, f5, f6, f7, f8, f9, f10, f11, f12, f13, f14, f15, f16, f17, f18, f19, f20, f21, frozenOff h0, f23, f24, f25, f26⟩

theorem okF_wsa {p : List Instr} {o : OtpS} {d : Tab Word} {sh : Tab (Tab Word)} {lv : Tab (Tab Word)} {pd : Tab (Option (Tab Word))} {rg : RegFile} {ck : Nat} {ti : TimeS} {gl : GlbS} {b : Mem} {dm : DmcS} {v : Mem} {va : ValeS} {qm : QmS} {ne : NetS} {th : ThmS} {pw : PwrS} {fs : FlashS} {rc : RcS} {fl : FlS} {po : Tab Port} {tl : Tab TileSlot} {ho : Tab Hop} {br : Tab Bridge} {fi : FilmS} {ws : WsaS} {sc : SchS} {mp : MpS} {ou : List Out} {ws' : WsaS} (h : OkF kc p o d sh lv pd rg ck ti gl b dm v va qm ne th pw fs rc fl po tl ho br fi ws sc mp ou) (h0 : kc.frozen .wsa = false := by first | with_reducible assumption | rfl) :
    OkF kc p o d sh lv pd rg ck ti gl b dm v va qm ne th pw fs rc fl po tl ho br fi ws' sc mp ou := by
  obtain ⟨⟨a1, ai⟩, f0, f1, f2, f3, f4, f5, f6, f7, f8, f9, f10, f11, f12, f13, f14, f15, f16, f17, f18, f19, f20, f21, f22, f23, f24, f25, f26⟩ := h
  exact ⟨⟨a1, ai⟩, f0, f1, f2, f3, f4, f5, f6, f7, f8, f9, f10, f11, f12, f13, f14, f15, f16, f17, f18, f19, f20, f21, f22, frozenOff h0, f24, f25, f26⟩

theorem okF_sch {p : List Instr} {o : OtpS} {d : Tab Word} {sh : Tab (Tab Word)} {lv : Tab (Tab Word)} {pd : Tab (Option (Tab Word))} {rg : RegFile} {ck : Nat} {ti : TimeS} {gl : GlbS} {b : Mem} {dm : DmcS} {v : Mem} {va : ValeS} {qm : QmS} {ne : NetS} {th : ThmS} {pw : PwrS} {fs : FlashS} {rc : RcS} {fl : FlS} {po : Tab Port} {tl : Tab TileSlot} {ho : Tab Hop} {br : Tab Bridge} {fi : FilmS} {ws : WsaS} {sc : SchS} {mp : MpS} {ou : List Out} {sc' : SchS} (h : OkF kc p o d sh lv pd rg ck ti gl b dm v va qm ne th pw fs rc fl po tl ho br fi ws sc mp ou) (h0 : kc.frozen .sch = false := by first | with_reducible assumption | rfl) :
    OkF kc p o d sh lv pd rg ck ti gl b dm v va qm ne th pw fs rc fl po tl ho br fi ws sc' mp ou := by
  obtain ⟨⟨a1, ai⟩, f0, f1, f2, f3, f4, f5, f6, f7, f8, f9, f10, f11, f12, f13, f14, f15, f16, f17, f18, f19, f20, f21, f22, f23, f24, f25, f26⟩ := h
  exact ⟨⟨a1, ai⟩, f0, f1, f2, f3, f4, f5, f6, f7, f8, f9, f10, f11, f12, f13, f14, f15, f16, f17, f18, f19, f20, f21, f22, f23, frozenOff h0, f25, f26⟩

theorem okF_mp {p : List Instr} {o : OtpS} {d : Tab Word} {sh : Tab (Tab Word)} {lv : Tab (Tab Word)} {pd : Tab (Option (Tab Word))} {rg : RegFile} {ck : Nat} {ti : TimeS} {gl : GlbS} {b : Mem} {dm : DmcS} {v : Mem} {va : ValeS} {qm : QmS} {ne : NetS} {th : ThmS} {pw : PwrS} {fs : FlashS} {rc : RcS} {fl : FlS} {po : Tab Port} {tl : Tab TileSlot} {ho : Tab Hop} {br : Tab Bridge} {fi : FilmS} {ws : WsaS} {sc : SchS} {mp : MpS} {ou : List Out} {mp' : MpS} (h : OkF kc p o d sh lv pd rg ck ti gl b dm v va qm ne th pw fs rc fl po tl ho br fi ws sc mp ou) (h0 : kc.frozen .mp = false := by first | with_reducible assumption | rfl) :
    OkF kc p o d sh lv pd rg ck ti gl b dm v va qm ne th pw fs rc fl po tl ho br fi ws sc mp' ou := by
  obtain ⟨⟨a1, ai⟩, f0, f1, f2, f3, f4, f5, f6, f7, f8, f9, f10, f11, f12, f13, f14, f15, f16, f17, f18, f19, f20, f21, f22, f23, f24, f25, f26⟩ := h
  exact ⟨⟨a1, ai⟩, f0, f1, f2, f3, f4, f5, f6, f7, f8, f9, f10, f11, f12, f13, f14, f15, f16, f17, f18, f19, f20, f21, f22, f23, f24, frozenOff h0, f26⟩

theorem okF_out {p : List Instr} {o : OtpS} {d : Tab Word} {sh : Tab (Tab Word)} {lv : Tab (Tab Word)} {pd : Tab (Option (Tab Word))} {rg : RegFile} {ck : Nat} {ti : TimeS} {gl : GlbS} {b : Mem} {dm : DmcS} {v : Mem} {va : ValeS} {qm : QmS} {ne : NetS} {th : ThmS} {pw : PwrS} {fs : FlashS} {rc : RcS} {fl : FlS} {po : Tab Port} {tl : Tab TileSlot} {ho : Tab Hop} {br : Tab Bridge} {fi : FilmS} {ws : WsaS} {sc : SchS} {mp : MpS} {ou : List Out} {ou' : List Out} (h : OkF kc p o d sh lv pd rg ck ti gl b dm v va qm ne th pw fs rc fl po tl ho br fi ws sc mp ou) (h0 : kc.frozen .out = false := by first | with_reducible assumption | rfl) :
    OkF kc p o d sh lv pd rg ck ti gl b dm v va qm ne th pw fs rc fl po tl ho br fi ws sc mp ou' := by
  obtain ⟨⟨a1, ai⟩, f0, f1, f2, f3, f4, f5, f6, f7, f8, f9, f10, f11, f12, f13, f14, f15, f16, f17, f18, f19, f20, f21, f22, f23, f24, f25, f26⟩ := h
  exact ⟨⟨a1, ai⟩, f0, f1, f2, f3, f4, f5, f6, f7, f8, f9, f10, f11, f12, f13, f14, f15, f16, f17, f18, f19, f20, f21, f22, f23, f24, f25, frozenOff h0⟩

theorem okF_written {p : List Instr} {o : OtpS} {d : Tab Word} {sh : Tab (Tab Word)} {lv : Tab (Tab Word)} {pd : Tab (Option (Tab Word))} {rg : RegFile} {ck : Nat} {ti : TimeS} {gl : GlbS} {b : Mem} {dm : DmcS} {v : Mem} {va : ValeS} {qm : QmS} {ne : NetS} {th : ThmS} {pw : PwrS} {fs : FlashS} {rc : RcS} {fl : FlS} {po : Tab Port} {tl : Tab TileSlot} {ho : Tab Hop} {br : Tab Bridge} {fi : FilmS} {ws : WsaS} {sc : SchS} {mp : MpS} {ou : List Out} {d' : Tab Word} {sh' : Tab (Tab Word)} {rg' : RegFile} (h : OkF kc p o d sh lv pd rg ck ti gl b dm v va qm ne th pw fs rc fl po tl ho br fi ws sc mp ou) (hs : kc.inv = true → setsOk d' sh' lv pd) (h0 : kc.frozen .written = false := by first | with_reducible assumption | rfl) (h1 : kc.frozen .regs = false := by first | with_reducible assumption | rfl) :
    OkF kc p o d' sh' lv pd rg' ck ti gl b dm v va qm ne th pw fs rc fl po tl ho br fi ws sc mp ou := by
  obtain ⟨⟨a1, ai⟩, f0, f1, f2, f3, f4, f5, f6, f7, f8, f9, f10, f11, f12, f13, f14, f15, f16, f17, f18, f19, f20, f21, f22, f23, f24, f25, f26⟩ := h
  exact ⟨⟨a1, fun i => ⟨(ai i).1, (ai i).2.1, (ai i).2.2.1, hs i, (ai i).2.2.2.2⟩⟩, frozenOff h0, f1, frozenOff h1, f3, f4, f5, f6, f7, f8, f9, f10, f11, f12, f13, f14, f15, f16, f17, f18, f19, f20, f21, f22, f23, f24, f25, f26⟩

theorem okF_inForce {p : List Instr} {o : OtpS} {d : Tab Word} {sh : Tab (Tab Word)} {lv : Tab (Tab Word)} {pd : Tab (Option (Tab Word))} {rg : RegFile} {ck : Nat} {ti : TimeS} {gl : GlbS} {b : Mem} {dm : DmcS} {v : Mem} {va : ValeS} {qm : QmS} {ne : NetS} {th : ThmS} {pw : PwrS} {fs : FlashS} {rc : RcS} {fl : FlS} {po : Tab Port} {tl : Tab TileSlot} {ho : Tab Hop} {br : Tab Bridge} {fi : FilmS} {ws : WsaS} {sc : SchS} {mp : MpS} {ou : List Out} {lv' : Tab (Tab Word)} {pd' : Tab (Option (Tab Word))} {rg' : RegFile} (h : OkF kc p o d sh lv pd rg ck ti gl b dm v va qm ne th pw fs rc fl po tl ho br fi ws sc mp ou) (hs : kc.inv = true → setsOk d sh lv' pd') (h0 : kc.frozen .inForce = false := by first | with_reducible assumption | rfl) (h1 : kc.frozen .regs = false := by first | with_reducible assumption | rfl) :
    OkF kc p o d sh lv' pd' rg' ck ti gl b dm v va qm ne th pw fs rc fl po tl ho br fi ws sc mp ou := by
  obtain ⟨⟨a1, ai⟩, f0, f1, f2, f3, f4, f5, f6, f7, f8, f9, f10, f11, f12, f13, f14, f15, f16, f17, f18, f19, f20, f21, f22, f23, f24, f25, f26⟩ := h
  exact ⟨⟨a1, fun i => ⟨(ai i).1, (ai i).2.1, (ai i).2.2.1, hs i, (ai i).2.2.2.2⟩⟩, f0, frozenOff h0, frozenOff h1, f3, f4, f5, f6, f7, f8, f9, f10, f11, f12, f13, f14, f15, f16, f17, f18, f19, f20, f21, f22, f23, f24, f25, f26⟩

theorem okF_dram {p : List Instr} {o : OtpS} {d : Tab Word} {sh : Tab (Tab Word)} {lv : Tab (Tab Word)} {pd : Tab (Option (Tab Word))} {rg : RegFile} {ck : Nat} {ti : TimeS} {gl : GlbS} {b : Mem} {dm : DmcS} {v : Mem} {va : ValeS} {qm : QmS} {ne : NetS} {th : ThmS} {pw : PwrS} {fs : FlashS} {rc : RcS} {fl : FlS} {po : Tab Port} {tl : Tab TileSlot} {ho : Tab Hop} {br : Tab Bridge} {fi : FilmS} {ws : WsaS} {sc : SchS} {mp : MpS} {ou : List Out} {b' : Mem} {dm' : DmcS} (h : OkF kc p o d sh lv pd rg ck ti gl b dm v va qm ne th pw fs rc fl po tl ho br fi ws sc mp ou) (hs : kc.inv = true → memWf b' = true) (h0 : kc.frozen .dram = false := by first | with_reducible assumption | rfl) (h1 : kc.frozen .dmc = false := by first | with_reducible assumption | rfl) :
    OkF kc p o d sh lv pd rg ck ti gl b' dm' v va qm ne th pw fs rc fl po tl ho br fi ws sc mp ou := by
  obtain ⟨⟨a1, ai⟩, f0, f1, f2, f3, f4, f5, f6, f7, f8, f9, f10, f11, f12, f13, f14, f15, f16, f17, f18, f19, f20, f21, f22, f23, f24, f25, f26⟩ := h
  exact ⟨⟨a1, fun i => ⟨(ai i).1, hs i, (ai i).2.2⟩⟩, f0, f1, f2, f3, f4, f5, f6, frozenOff h0, frozenOff h1, f9, f10, f11, f12, f13, f14, f15, f16, f17, f18, f19, f20, f21, f22, f23, f24, f25, f26⟩

theorem okF_valeMem {p : List Instr} {o : OtpS} {d : Tab Word} {sh : Tab (Tab Word)} {lv : Tab (Tab Word)} {pd : Tab (Option (Tab Word))} {rg : RegFile} {ck : Nat} {ti : TimeS} {gl : GlbS} {b : Mem} {dm : DmcS} {v : Mem} {va : ValeS} {qm : QmS} {ne : NetS} {th : ThmS} {pw : PwrS} {fs : FlashS} {rc : RcS} {fl : FlS} {po : Tab Port} {tl : Tab TileSlot} {ho : Tab Hop} {br : Tab Bridge} {fi : FilmS} {ws : WsaS} {sc : SchS} {mp : MpS} {ou : List Out} {v' : Mem} {va' : ValeS} (h : OkF kc p o d sh lv pd rg ck ti gl b dm v va qm ne th pw fs rc fl po tl ho br fi ws sc mp ou) (hs : kc.inv = true → memWf v' = true) (h0 : kc.frozen .valeMem = false := by first | with_reducible assumption | rfl) (h1 : kc.frozen .vale = false := by first | with_reducible assumption | rfl) :
    OkF kc p o d sh lv pd rg ck ti gl b dm v' va' qm ne th pw fs rc fl po tl ho br fi ws sc mp ou := by
  obtain ⟨⟨a1, ai⟩, f0, f1, f2, f3, f4, f5, f6, f7, f8, f9, f10, f11, f12, f13, f14, f15, f16, f17, f18, f19, f20, f21, f22, f23, f24, f25, f26⟩ := h
  exact ⟨⟨a1, fun i => ⟨(ai i).1, (ai i).2.1, hs i, (ai i).2.2.2⟩⟩, f0, f1, f2, f3, f4, f5, f6, f7, f8, frozenOff h0, frozenOff h1, f11, f12, f13, f14, f15, f16, f17, f18, f19, f20, f21, f22, f23, f24, f25, f26⟩

theorem okF_otp {p : List Instr} {o : OtpS} {d : Tab Word} {sh : Tab (Tab Word)} {lv : Tab (Tab Word)} {pd : Tab (Option (Tab Word))} {rg : RegFile} {ck : Nat} {ti : TimeS} {gl : GlbS} {b : Mem} {dm : DmcS} {v : Mem} {va : ValeS} {qm : QmS} {ne : NetS} {th : ThmS} {pw : PwrS} {fs : FlashS} {rc : RcS} {fl : FlS} {po : Tab Port} {tl : Tab TileSlot} {ho : Tab Hop} {br : Tab Bridge} {fi : FilmS} {ws : WsaS} {sc : SchS} {mp : MpS} {ou : List Out} {o' : OtpS} (h : OkF kc p o d sh lv pd rg ck ti gl b dm v va qm ne th pw fs rc fl po tl ho br fi ws sc mp ou) (hs : kc.inv = true → kc.minSec ≤ o'.minSecver ∧ o'.minSecver ≤ 63) (h0 : kc.frozen .otp = false := by first | with_reducible assumption | rfl) :
    OkF kc p o' d sh lv pd rg ck ti gl b dm v va qm ne th pw fs rc fl po tl ho br fi ws sc mp ou := by
  obtain ⟨⟨a1, ai⟩, f0, f1, f2, f3, f4, f5, f6, f7, f8, f9, f10, f11, f12, f13, f14, f15, f16, f17, f18, f19, f20, f21, f22, f23, f24, f25, f26⟩ := h
  exact ⟨⟨a1, fun i => ⟨(hs i).1, (ai i).2.1, (ai i).2.2.1, (ai i).2.2.2.1, (hs i).2⟩⟩, f0, f1, f2, f3, f4, f5, frozenOff h0, f7, f8, f9, f10, f11, f12, f13, f14, f15, f16, f17, f18, f19, f20, f21, f22, f23, f24, f25, f26⟩

theorem okF_fresh {p : List Instr} {o : OtpS} {d : Tab Word} {sh : Tab (Tab Word)} {lv : Tab (Tab Word)} {pd : Tab (Option (Tab Word))} {rg : RegFile} {ck : Nat} {ti : TimeS} {gl : GlbS} {b : Mem} {dm : DmcS} {v : Mem} {va : ValeS} {qm : QmS} {ne : NetS} {th : ThmS} {pw : PwrS} {fs : FlashS} {rc : RcS} {fl : FlS} {po : Tab Port} {tl : Tab TileSlot} {ho : Tab Hop} {br : Tab Bridge} {fi : FilmS} {ws : WsaS} {sc : SchS} {mp : MpS} {ou : List Out} {d' : Tab Word} {sh' : Tab (Tab Word)} {lv' : Tab (Tab Word)} {pd' : Tab (Option (Tab Word))} {rg' : RegFile} {ti' : TimeS} {gl' : GlbS} {b' : Mem} {dm' : DmcS} {v' : Mem} {va' : ValeS} {qm' : QmS} {ne' : NetS} {th' : ThmS} {pw' : PwrS} {fs' : FlashS} {rc' : RcS} {fl' : FlS} {po' : Tab Port} {tl' : Tab TileSlot} {ho' : Tab Hop} {fi' : FilmS} {ws' : WsaS} {sc' : SchS} {mp' : MpS} (h : OkF kc p o d sh lv pd rg ck ti gl b dm v va qm ne th pw fs rc fl po tl ho br fi ws sc mp ou) (hb : memWf b' = true) (hv : memWf v' = true) (hs : setsOk d' sh' lv' pd') (h0 : kc.frozen .written = false := by first | with_reducible assumption | rfl) (h1 : kc.frozen .inForce = false := by first | with_reducible assumption | rfl) (h2 : kc.frozen .regs = false := by first | with_reducible assumption | rfl) (h3 : kc.frozen .time = false := by first | with_reducible assumption | rfl) (h4 : kc.frozen .glb = false := by first | with_reducible assumption | rfl) (h5 : kc.frozen .dram = false := by first | with_reducible assumption | rfl) (h6 : kc.frozen .dmc = false := by first | with_reducible assumption | rfl) (h7 : kc.frozen .valeMem = false := by first | with_reducible assumption | rfl) (h8 : kc.frozen .vale = false := by first | with_reducible assumption | rfl) (h9 : kc.frozen .qm = false := by first | with_reducible assumption | rfl) (h10 : kc.frozen .net = false := by first | with_reducible assumption | rfl) (h11 : kc.frozen .thm = false := by first | with_reducible assumption | rfl) (h12 : kc.frozen .pwr = false := by first | with_reducible assumption | rfl) (h13 : kc.frozen .flash = false := by first | with_reducible assumption | rfl) (h14 : kc.frozen .rc = false := by first | with_reducible assumption | rfl) (h15 : kc.frozen .fl = false := by first | with_reducible assumption | rfl) (h16 : kc.frozen .ports = false := by first | with_reducible assumption | rfl) (h17 : kc.frozen .tiles = false := by first | with_reducible assumption | rfl) (h18 : kc.frozen .hops = false := by first | with_reducible assumption | rfl) (h19 : kc.frozen .film = false := by first | with_reducible assumption | rfl) (h20 : kc.frozen .wsa = false := by first | with_reducible assumption | rfl) (h21 : kc.frozen .sch = false := by first | with_reducible assumption | rfl) (h22 : kc.frozen .mp = false := by first | with_reducible assumption | rfl) :
    OkF kc p o d' sh' lv' pd' rg' ck ti' gl' b' dm' v' va' qm' ne' th' pw' fs' rc' fl' po' tl' ho' br fi' ws' sc' mp' ou := by
  obtain ⟨⟨a1, ai⟩, f0, f1, f2, f3, f4, f5, f6, f7, f8, f9, f10, f11, f12, f13, f14, f15, f16, f17, f18, f19, f20, f21, f22, f23, f24, f25, f26⟩ := h
  exact ⟨⟨a1, fun i => ⟨(ai i).1, hb, hv, hs, (ai i).2.2.2.2⟩⟩, frozenOff h0, frozenOff h1, frozenOff h2, f3, frozenOff h3, frozenOff h4, f6, frozenOff h5, frozenOff h6, frozenOff h7, frozenOff h8, frozenOff h9, frozenOff h10, frozenOff h11, frozenOff h12, frozenOff h13, frozenOff h14, frozenOff h15, frozenOff h16, frozenOff h17, frozenOff h18, f21, frozenOff h19, frozenOff h20, frozenOff h21, frozenOff h22, f26⟩

theorem Ok.sets {s : State} (h : Ok kc s) (i : kc.inv = true) : setsOk s.regs.direct s.regs.shadow s.regs.live s.regs.pend :=
  (h.1.2 i).2.2.2.1
theorem Ok.bulk {s : State} (h : Ok kc s) (i : kc.inv = true) : memWf s.dmc.bulk = true := (h.1.2 i).2.1
theorem Ok.mem {s : State} (h : Ok kc s) (i : kc.inv = true) : memWf s.vale.mem = true := (h.1.2 i).2.2.1

/-- Every state is `Ok` beside itself, the invariant apart. -/
theorem Ok.self (s : State) (fr : StatePart → Bool) : Ok ⟨s.pending, false, 0, s, fr⟩ s :=
  ⟨⟨rfl, fun h => absurd h Bool.false_ne_true⟩, fun _ => ⟨rfl, rfl⟩, fun _ => ⟨rfl, rfl⟩, fun _ => rfl, fun _ => rfl, fun _ => rfl, fun _ => rfl, fun _ => rfl, fun _ => rfl, fun _ => rfl, fun _ => rfl, fun _ => rfl, fun _ => rfl, fun _ => rfl, fun _ => rfl, fun _ => rfl, fun _ => rfl, fun _ => rfl, fun _ => rfl, fun _ => rfl, fun _ => rfl, fun _ => rfl, fun _ => rfl, fun _ => rfl, fun _ => rfl, fun _ => rfl, fun _ => rfl, fun _ => rfl⟩

/-- Every state that meets the invariant is `Ok` beside itself. -/
theorem Ok.inv (s : State) (fr : StatePart → Bool) (h : s.Inv) : Ok ⟨s.pending, true, s.otp.minSecver, s, fr⟩ s :=
  ⟨⟨rfl, fun _ => ⟨Nat.le_refl _, h.1, h.2.1, h.2.2.1, h.2.2.2⟩⟩, fun _ => ⟨rfl, rfl⟩, fun _ => ⟨rfl, rfl⟩, fun _ => rfl, fun _ => rfl, fun _ => rfl, fun _ => rfl, fun _ => rfl, fun _ => rfl, fun _ => rfl, fun _ => rfl, fun _ => rfl, fun _ => rfl, fun _ => rfl, fun _ => rfl, fun _ => rfl, fun _ => rfl, fun _ => rfl, fun _ => rfl, fun _ => rfl, fun _ => rfl, fun _ => rfl, fun _ => rfl, fun _ => rfl, fun _ => rfl, fun _ => rfl, fun _ => rfl, fun _ => rfl⟩

/-- What an `Ok` state says of the queue, of the invariant and of the frozen parts. -/
theorem Ok.queueEq {t : State} (h : Ok kc t) : t.pending = kc.queue := h.1.1

theorem Ok.toInv {t : State} (h : Ok kc t) (i : kc.inv = true) : t.Inv := ⟨h.bulk i, h.mem i, h.sets i, (h.1.2 i).2.2.2.2⟩

theorem Ok.writtenEq {t : State} (h : Ok kc t) (f : kc.frozen .written = true := by rfl) : t.regs.direct = kc.start.regs.direct ∧ t.regs.shadow = kc.start.regs.shadow := (h.2.1) f

theorem Ok.inForceEq {t : State} (h : Ok kc t) (f : kc.frozen .inForce = true := by rfl) : t.regs.live = kc.start.regs.live ∧ t.regs.pend = kc.start.regs.pend := (h.2.2.1) f

theorem Ok.regsEq {t : State} (h : Ok kc t) (f : kc.frozen .regs = true := by rfl) : t.regs = kc.start.regs := (h.2.2.2.1) f

theorem Ok.clkEq {t : State} (h : Ok kc t) (f : kc.frozen .clk = true := by rfl) : t.clk = kc.start.clk := (h.2.2.2.2.1) f

theorem Ok.timeEq {t : State} (h : Ok kc t) (f : kc.frozen .time = true := by rfl) : t.time = kc.start.time := (h.2.2.2.2.2.1) f

theorem Ok.glbEq {t : State} (h : Ok kc t) (f : kc.frozen .glb = true := by rfl) : t.glb = kc.start.glb := (h.2.2.2.2.2.2.1) f

theorem Ok.otpEq {t : State} (h : Ok kc t) (f : kc.frozen .otp = true := by rfl) : t.otp = kc.start.otp := (h.2.2.2.2.2.2.2.1) f

theorem Ok.dramEq {t : State} (h : Ok kc t) (f : kc.frozen .dram = true := by rfl) : t.dmc.bulk = kc.start.dmc.bulk := (h.2.2.2.2.2.2.2.2.1) f

theorem Ok.dmcEq {t : State} (h : Ok kc t) (f : kc.frozen .dmc = true := by rfl) : t.dmc = kc.start.dmc := (h.2.2.2.2.2.2.2.2.2.1) f

theorem Ok.valeMemEq {t : State} (h : Ok kc t) (f : kc.frozen .valeMem = true := by rfl) : t.vale.mem = kc.start.vale.mem := (h.2.2.2.2.2.2.2.2.2.2.1) f

theorem Ok.valeEq {t : State} (h : Ok kc t) (f : kc.frozen .vale = true := by rfl) : t.vale = kc.start.vale := (h.2.2.2.2.2.2.2.2.2.2.2.1) f

theorem Ok.qmEq {t : State} (h : Ok kc t) (f : kc.frozen .qm = true := by rfl) : t.qm = kc.start.qm := (h.2.2.2.2.2.2.2.2.2.2.2.2.1) f

theorem Ok.netEq {t : State} (h : Ok kc t) (f : kc.frozen .net = true := by rfl) : t.net = kc.start.net := (h.2.2.2.2.2.2.2.2.2.2.2.2.2.1) f

theorem Ok.thmEq {t : State} (h : Ok kc t) (f : kc.frozen .thm = true := by rfl) : t.thm = kc.start.thm := (h.2.2.2.2.2.2.2.2.2.2.2.2.2.2.1) f

theorem Ok.pwrEq {t : State} (h : Ok kc t) (f : kc.frozen .pwr = true := by rfl) : t.pwr = kc.start.pwr := (h.2.2.2.2.2.2.2.2.2.2.2.2.2.2.2.1) f

theorem Ok.flashEq {t : State} (h : Ok kc t) (f : kc.frozen .flash = true := by rfl) : t.flash = kc.start.flash := (h.2.2.2.2.2.2.2.2.2.2.2.2.2.2.2.2.1) f

theorem Ok.rcEq {t : State} (h : Ok kc t) (f : kc.frozen .rc = true := by rfl) : t.rc = kc.start.rc := (h.2.2.2.2.2.2.2.2.2.2.2.2.2.2.2.2.2.1) f

theorem Ok.flEq {t : State} (h : Ok kc t) (f : kc.frozen .fl = true := by rfl) : t.fl = kc.start.fl := (h.2.2.2.2.2.2.2.2.2.2.2.2.2.2.2.2.2.2.1) f

theorem Ok.portsEq {t : State} (h : Ok kc t) (f : kc.frozen .ports = true := by rfl) : t.ports = kc.start.ports := (h.2.2.2.2.2.2.2.2.2.2.2.2.2.2.2.2.2.2.2.1) f

theorem Ok.tilesEq {t : State} (h : Ok kc t) (f : kc.frozen .tiles = true := by rfl) : t.tiles = kc.start.tiles := (h.2.2.2.2.2.2.2.2.2.2.2.2.2.2.2.2.2.2.2.2.1) f

theorem Ok.hopsEq {t : State} (h : Ok kc t) (f : kc.frozen .hops = true := by rfl) : t.hops = kc.start.hops := (h.2.2.2.2.2.2.2.2.2.2.2.2.2.2.2.2.2.2.2.2.2.1) f

theorem Ok.bridgesEq {t : State} (h : Ok kc t) (f : kc.frozen .bridges = true := by rfl) : t.bridges = kc.start.bridges := (h.2.2.2.2.2.2.2.2.2.2.2.2.2.2.2.2.2.2.2.2.2.2.1) f

theorem Ok.filmEq {t : State} (h : Ok kc t) (f : kc.frozen .film = true := by rfl) : t.film = kc.start.film := (h.2.2.2.2.2.2.2.2.2.2.2.2.2.2.2.2.2.2.2.2.2.2.2.1) f

theorem Ok.wsaEq {t : State} (h : Ok kc t) (f : kc.frozen .wsa = true := by rfl) : t.wsa = kc.start.wsa := (h.2.2.2.2.2.2.2.2.2.2.2.2.2.2.2.2.2.2.2.2.2.2.2.2.1) f

theorem Ok.schEq {t : State} (h : Ok kc t) (f : kc.frozen .sch = true := by rfl) : t.sch = kc.start.sch := (h.2.2.2.2.2.2.2.2.2.2.2.2.2.2.2.2.2.2.2.2.2.2.2.2.2.1) f

theorem Ok.mpEq {t : State} (h : Ok kc t) (f : kc.frozen .mp = true := by rfl) : t.mp = kc.start.mp := (h.2.2.2.2.2.2.2.2.2.2.2.2.2.2.2.2.2.2.2.2.2.2.2.2.2.2.1) f

theorem Ok.outEq {t : State} (h : Ok kc t) (f : kc.frozen .out = true := by rfl) : t.out = kc.start.out := (h.2.2.2.2.2.2.2.2.2.2.2.2.2.2.2.2.2.2.2.2.2.2.2.2.2.2.2) f

theorem Ok.same {t : State} (h : Ok kc t) (p : StatePart) (f : kc.frozen p = true) : p.same kc.start t := by
  cases p with
  | written => exact h.writtenEq f
  | inForce => exact h.inForceEq f
  | regs => exact h.regsEq f
  | clk => exact h.clkEq f
  | time => exact h.timeEq f
  | glb => exact h.glbEq f
  | otp => exact h.otpEq f
  | dram => exact h.dramEq f
  | dmc => exact h.dmcEq f
  | valeMem => exact h.valeMemEq f
  | vale => exact h.valeEq f
  | qm => exact h.qmEq f
  | net => exact h.netEq f
  | thm => exact h.thmEq f
  | pwr => exact h.pwrEq f
  | flash => exact h.flashEq f
  | rc => exact h.rcEq f
  | fl => exact h.flEq f
  | ports => exact h.portsEq f
  | tiles => exact h.tilesEq f
  | hops => exact h.hopsEq f
  | bridges => exact h.bridgesEq f
  | film => exact h.filmEq f
  | wsa => exact h.wsaEq f
  | sch => exact h.schEq f
  | mp => exact h.mpEq f
  | out => exact h.outEq f

theorem foldl_inv {α β : Type} {P : β → Prop} {f : β → α → β} {l : List α} {s : β} (h : P s) (hf : ∀ s a, P s → P (f s a)) :
    P (l.foldl f s) := by
  induction l generalizing s with
  | nil => exact h
  | cons a l ih => exact ih (hf s a h)

theorem foldl_ok {α : Type} {f : State → α → State} {l : List α} {s : State} (h : Ok kc s) (hf : ∀ s a, Ok kc s → Ok kc (f s a)) :
    Ok kc (l.foldl f s) := foldl_inv (P := Ok kc) h hf

theorem foldl_ok1 {α β : Type} {f : State × β → α → State × β} {l : List α} {s : State × β} (h : Ok kc s.1)
    (hf : ∀ s a, Ok kc s.1 → Ok kc (f s a).1) : Ok kc (l.foldl f s).1 := foldl_inv (P := fun z : State × β => Ok kc z.1) h hf

theorem foldl_ok2 {α β : Type} {f : β × State → α → β × State} {l : List α} {s : β × State} (h : Ok kc s.2)
    (hf : ∀ s a, Ok kc s.2 → Ok kc (f s a).2) : Ok kc (l.foldl f s).2 := foldl_inv (P := fun z : β × State => Ok kc z.2) h hf

theorem snd_ok {α : Type} {a : α} {t : State} (hk : Ok kc t) : Ok kc (a, t).2 := hk

theorem fst_ok {α : Type} {a : α} {t : State} (hk : Ok kc t) : Ok kc (t, a).1 := hk

theorem ok_ite {c : Prop} [Decidable c] {a b : State} (ha : c → Ok kc a) (hb : ¬c → Ok kc b) : Ok kc (if c then a else b) := by
  split
  · next h => exact ha h
  · next h => exact hb h

end Sys2Proof.Machine
end

