-- ==== Sys2Proof/Laws/KeepOps.lean ====
section
/-! SUPPORT. What the operations and commands of the shared operations, DRAM and the queue manager keep (Laws/KeepBase.lean). -/

namespace Sys2Proof.Machine

set_option Elab.async false
set_option linter.all false

variable {kc : KeepCtx}

/-! ### Ops -/

theorem State.bump_ok (s : State) (hk : Ok kc s) : Ok kc (State.bump s) := by
  unfold State.bump
  repeat' first
    | with_reducible assumption | intro _ | split | dsimp only | with_reducible apply okF | dsimp only [Ok]

theorem State.draw_ok (s : State) (n : Nat) (hk : Ok kc s) : Ok kc (State.draw s n).2 := by
  unfold State.draw
  repeat' first
    | with_reducible assumption | with_reducible apply State.bump_ok | intro _ | split | dsimp only | with_reducible apply okF
    | dsimp only [Ok]

theorem State.emit_ok (s : State) (o : Out) (hk : Ok kc s) (h_out : kc.frozen .out = false := by first | with_reducible assumption | rfl) : Ok kc (State.emit s o) := by
  unfold State.emit
  repeat' first
    | with_reducible assumption | intro _ | split | dsimp only | with_reducible apply okF | with_reducible refine okF_out (okF ?_)
    | dsimp only [Ok]

theorem State.emits_ok (s : State) (os : List Out) (hk : Ok kc s) (h_out : kc.frozen .out = false := by first | with_reducible assumption | rfl) : Ok kc (State.emits s os) := by
  unfold State.emits
  repeat' first
    | with_reducible assumption | with_reducible apply State.emit_ok | with_reducible apply foldl_ok
    | with_reducible apply foldl_ok1 | with_reducible apply foldl_ok2 | intro _ | split | dsimp only | with_reducible apply okF
    | dsimp only [Ok]

theorem reservedOk_get {t : Tab Word} (h : reservedOk t) (off : Nat) :
    BitVec.ofNat 32 (regGet t off) &&& fixedMask off = BitVec.ofNat 32 (resetVal off) &&& fixedMask off := by
  unfold regGet
  rcases tabGet_mem (d := BitVec.ofNat 32 (resetVal off)) (t := t) (k := off) with e | e
  · rw [e, BitVec.ofNat_toNat, BitVec.setWidth_eq]
  · rw [BitVec.ofNat_toNat, BitVec.setWidth_eq]; exact h _ e

theorem mask_merge (a v m : Nat) :
    BitVec.ofNat 32 ((a &&& (0xFFFFFFFF ^^^ m)) ||| (v &&& m)) &&& ~~~(BitVec.ofNat 32 m) =
      BitVec.ofNat 32 a &&& ~~~(BitVec.ofNat 32 m) := by
  apply BitVec.eq_of_getLsbD_eq
  intro i hi
  have h1 : Nat.testBit 0xFFFFFFFF i = true := by
    have : (0xFFFFFFFF : Nat) = 2 ^ 32 - 1 := by decide
    rw [this, Nat.testBit_two_pow_sub_one]; simpa using hi
  simp only [BitVec.getLsbD_and, BitVec.getLsbD_not, BitVec.getLsbD_ofNat, Nat.testBit_or, Nat.testBit_and, Nat.testBit_xor, h1, hi]
  cases a.testBit i <;> cases m.testBit i <;> simp

theorem reservedOk_put {t : Tab Word} (h : reservedOk t) (off a v : Nat) (ha : a = regGet t off) :
    reservedOk (regPut t off ((a &&& (0xFFFFFFFF ^^^ rwMask off)) ||| (v &&& rwMask off))) := by
  intro e he
  rcases mem_tabSet he with h' | h'
  · exact h e h'
  · subst h' ha
    simp only [fixedMask, mask_merge]
    exact reservedOk_get h off

theorem mem_tabGet_set {t : Tab (Tab Word)} (h : ∀ u ∈ t, reservedOk u.2) (u : Nat) : reservedOk (tabGet [] t u) := by
  rcases tabGet_mem (d := ([] : Tab Word)) (t := t) (k := u) with e | e
  · rw [e]; intro x hx; cases hx
  · exact h _ e

theorem sets_tabSet {t : Tab (Tab Word)} (h : ∀ u ∈ t, reservedOk u.2) (u : Nat) {x : Tab Word} (hx : reservedOk x) :
    ∀ w ∈ tabSet [] t u x, reservedOk w.2 := by
  intro w hw
  rcases mem_tabSet hw with h' | h'
  · exact h w h'
  · subst h'; exact hx

theorem State.putReg_ok (s : State) (off v : Nat) (hk : Ok kc s) (h_written : kc.frozen .written = false := by first | with_reducible assumption | rfl) (h_regs : kc.frozen .regs = false := by first | with_reducible assumption | rfl) : Ok kc (State.putReg s off v) := by
  have hs := hk.sets
  unfold State.putReg
  dsimp only
  split
  · next u hu =>
    dsimp only [Ok]
    refine okF_written (okF hk) fun hi => ?_
    replace hs := hs hi
    refine ⟨hs.1, ?_, hs.2.2⟩
    apply sets_tabSet hs.2.1
    exact reservedOk_put (mem_tabGet_set hs.2.1 u) off _ v (by unfold State.shadow; rw [hu]; rfl)
  · next hu =>
    dsimp only [Ok]
    refine okF_written (okF hk) fun hi => ?_
    replace hs := hs hi
    refine ⟨?_, hs.2⟩
    exact reservedOk_put hs.1 off _ v (by unfold State.shadow; rw [hu])

theorem State.pendLive_ok (s : State) (u : Nat) (hk : Ok kc s) (h_inForce : kc.frozen .inForce = false := by first | with_reducible assumption | rfl) (h_regs : kc.frozen .regs = false := by first | with_reducible assumption | rfl) : Ok kc (State.pendLive s u) := by
  have hs := hk.sets
  unfold State.pendLive
  split
  · next t ht =>
    have hx : kc.inv = true → reservedOk t := by
      intro hi
      replace hs := hs hi
      rcases tabGet_mem (d := (none : Option (Tab Word))) (t := s.regs.pend) (k := u) with e | e
      · unfold State.pendSet at ht; rw [e] at ht; cases ht
      · exact hs.2.2.2 _ e t ht
    dsimp only [Ok]
    refine okF_inForce (okF hk) fun hi => ?_
    replace hs := hs hi
    refine ⟨hs.1, hs.2.1, sets_tabSet hs.2.2.1 u (hx hi), ?_⟩
    intro w hw y hy
    rcases mem_tabSet hw with h' | h'
    · exact hs.2.2.2 w h' y hy
    · subst h'; cases hy
  · exact hk

theorem State.rejectCommit_ok (s : State) (u : Nat) (hk : Ok kc s) (h_regs : kc.frozen .regs = false := by first | with_reducible assumption | rfl) : Ok kc (State.rejectCommit s u) := by
  unfold State.rejectCommit
  repeat' first
    | with_reducible assumption | intro _ | split | dsimp only | with_reducible apply okF | with_reducible refine okF_regs (okF ?_)
    | dsimp only [Ok]

theorem State.clearRejected_ok (s : State) (u : Nat) (hk : Ok kc s) (h_regs : kc.frozen .regs = false := by first | with_reducible assumption | rfl) : Ok kc (State.clearRejected s u) := by
  unfold State.clearRejected
  repeat' first
    | with_reducible assumption | intro _ | split | dsimp only | with_reducible apply okF | with_reducible refine okF_regs (okF ?_)
    | dsimp only [Ok]

theorem State.acceptCommit_ok (s : State) (u : Nat) (hk : Ok kc s) (h_inForce : kc.frozen .inForce = false := by first | with_reducible assumption | rfl) (h_regs : kc.frozen .regs = false := by first | with_reducible assumption | rfl) : Ok kc (State.acceptCommit s u) := by
  have hk' : Ok kc (s.clearRejected u) := State.clearRejected_ok _ _ hk
  have hs := hk'.sets
  unfold State.acceptCommit
  dsimp only [Ok]
  refine okF_inForce (okF hk') fun hi => ?_
  replace hs := hs hi
  refine ⟨hs.1, hs.2.1, hs.2.2.1, ?_⟩
  intro w hw t ht
  rcases mem_tabSet hw with h' | h'
  · exact hs.2.2.2 w h' t ht
  · subst h'; cases ht; exact mem_tabGet_set hs.2.1 u

theorem State.count_ok (s : State) (off : Nat) (k : Nat) (hk : Ok kc s) (h_regs : kc.frozen .regs = false := by first | with_reducible assumption | rfl) : Ok kc (State.count s off k) := by
  unfold State.count
  repeat' first
    | with_reducible assumption | intro _ | split | dsimp only | with_reducible apply okF | with_reducible refine okF_regs (okF ?_)
    | dsimp only [Ok]

theorem State.clearCnt_ok (s : State) (lo hi : Nat) (hk : Ok kc s) (h_regs : kc.frozen .regs = false := by first | with_reducible assumption | rfl) : Ok kc (State.clearCnt s lo hi) := by
  unfold State.clearCnt
  repeat' first
    | with_reducible assumption | intro _ | split | dsimp only | with_reducible apply okF | with_reducible refine okF_regs (okF ?_)
    | dsimp only [Ok]

theorem State.setRing_ok (s : State) (n : Nat) (r : Ring) (hk : Ok kc s) (h_qm : kc.frozen .qm = false := by first | with_reducible assumption | rfl) : Ok kc (State.setRing s n r) := by
  unfold State.setRing
  repeat' first
    | with_reducible assumption | intro _ | split | dsimp only | with_reducible apply okF | with_reducible refine okF_qm (okF ?_)
    | dsimp only [Ok]

theorem State.setPeer_ok (s : State) (j : Nat) (p : Peer) (hk : Ok kc s) (h_net : kc.frozen .net = false := by first | with_reducible assumption | rfl) : Ok kc (State.setPeer s j p) := by
  unfold State.setPeer
  repeat' first
    | with_reducible assumption | intro _ | split | dsimp only | with_reducible apply okF | with_reducible refine okF_net (okF ?_)
    | dsimp only [Ok]

theorem State.setMbox_ok (s : State) (m : Nat) (b : Mbox) (hk : Ok kc s) (h_net : kc.frozen .net = false := by first | with_reducible assumption | rfl) : Ok kc (State.setMbox s m b) := by
  unfold State.setMbox
  repeat' first
    | with_reducible assumption | intro _ | split | dsimp only | with_reducible apply okF | with_reducible refine okF_net (okF ?_)
    | dsimp only [Ok]

theorem State.setGroup_ok (s : State) (g : Nat) (x : Group) (hk : Ok kc s) (h_rc : kc.frozen .rc = false := by first | with_reducible assumption | rfl) : Ok kc (State.setGroup s g x) := by
  unfold State.setGroup
  repeat' first
    | with_reducible assumption | intro _ | split | dsimp only | with_reducible apply okF | with_reducible refine okF_rc (okF ?_)
    | dsimp only [Ok]

theorem State.setSlot_ok (s : State) (g i : Nat) (x : Slot) (hk : Ok kc s) (h_rc : kc.frozen .rc = false := by first | with_reducible assumption | rfl) : Ok kc (State.setSlot s g i x) := by
  unfold State.setSlot
  repeat' first
    | with_reducible assumption | with_reducible apply State.setGroup_ok | intro _ | split | dsimp only | with_reducible apply okF
    | dsimp only [Ok]

theorem State.setZone_ok (s : State) (z : Nat) (x : Zone) (hk : Ok kc s) (h_thm : kc.frozen .thm = false := by first | with_reducible assumption | rfl) : Ok kc (State.setZone s z x) := by
  unfold State.setZone
  repeat' first
    | with_reducible assumption | intro _ | split | dsimp only | with_reducible apply okF | with_reducible refine okF_thm (okF ?_)
    | dsimp only [Ok]

theorem State.setFlZone_ok (s : State) (z : Nat) (x : FlZone) (hk : Ok kc s) (h_fl : kc.frozen .fl = false := by first | with_reducible assumption | rfl) : Ok kc (State.setFlZone s z x) := by
  unfold State.setFlZone
  repeat' first
    | with_reducible assumption | intro _ | split | dsimp only | with_reducible apply okF | with_reducible refine okF_fl (okF ?_)
    | dsimp only [Ok]

theorem State.setFlTile_ok (s : State) (i : Nat) (x : FlTile) (hk : Ok kc s) (h_fl : kc.frozen .fl = false := by first | with_reducible assumption | rfl) : Ok kc (State.setFlTile s i x) := by
  unfold State.setFlTile
  repeat' first
    | with_reducible assumption | intro _ | split | dsimp only | with_reducible apply okF | with_reducible refine okF_fl (okF ?_)
    | dsimp only [Ok]

theorem State.setChan_ok (s : State) (c : Nat) (x : Chan) (hk : Ok kc s) (h_dmc : kc.frozen .dmc = false := by first | with_reducible assumption | rfl) : Ok kc (State.setChan s c x) := by
  unfold State.setChan
  repeat' first
    | with_reducible assumption | intro _ | split | dsimp only | with_reducible apply okF | with_reducible refine okF_dmc (okF ?_)
    | dsimp only [Ok]

theorem State.setBank_ok (s : State) (k : Nat) (x : Bank) (hk : Ok kc s) (h_vale : kc.frozen .vale = false := by first | with_reducible assumption | rfl) : Ok kc (State.setBank s k x) := by
  unfold State.setBank
  repeat' first
    | with_reducible assumption | intro _ | split | dsimp only | with_reducible apply okF | with_reducible refine okF_vale (okF ?_)
    | dsimp only [Ok]

theorem State.setPort_ok (s : State) (p : Nat) (x : Port) (hk : Ok kc s) (h_ports : kc.frozen .ports = false := by first | with_reducible assumption | rfl) : Ok kc (State.setPort s p x) := by
  unfold State.setPort
  repeat' first
    | with_reducible assumption | intro _ | split | dsimp only | with_reducible apply okF
    | with_reducible refine okF_ports (okF ?_) | dsimp only [Ok]

theorem State.setTile_ok (s : State) (i : Nat) (x : TileSlot) (hk : Ok kc s) (h_tiles : kc.frozen .tiles = false := by first | with_reducible assumption | rfl) : Ok kc (State.setTile s i x) := by
  unfold State.setTile
  repeat' first
    | with_reducible assumption | intro _ | split | dsimp only | with_reducible apply okF
    | with_reducible refine okF_tiles (okF ?_) | dsimp only [Ok]

theorem State.setHop_ok (s : State) (h : Nat) (x : Hop) (hk : Ok kc s) (h_hops : kc.frozen .hops = false := by first | with_reducible assumption | rfl) : Ok kc (State.setHop s h x) := by
  unfold State.setHop
  repeat' first
    | with_reducible assumption | intro _ | split | dsimp only | with_reducible apply okF | with_reducible refine okF_hops (okF ?_)
    | dsimp only [Ok]

theorem State.setBridge_ok (s : State) (b : Nat) (x : Bridge) (hk : Ok kc s) (h_bridges : kc.frozen .bridges = false := by first | with_reducible assumption | rfl) : Ok kc (State.setBridge s b x) := by
  unfold State.setBridge
  repeat' first
    | with_reducible assumption | intro _ | split | dsimp only | with_reducible apply okF
    | with_reducible refine okF_bridges (okF ?_) | dsimp only [Ok]

theorem State.setSess_ok (s : State) (n : Nat) (x : Option Sess) (hk : Ok kc s) (h_sch : kc.frozen .sch = false := by first | with_reducible assumption | rfl) : Ok kc (State.setSess s n x) := by
  unfold State.setSess
  repeat' first
    | with_reducible assumption | intro _ | split | dsimp only | with_reducible apply okF | with_reducible refine okF_sch (okF ?_)
    | dsimp only [Ok]

theorem State.setCluster_ok (s : State) (c : Nat) (x : Cluster) (hk : Ok kc s) (h_wsa : kc.frozen .wsa = false := by first | with_reducible assumption | rfl) : Ok kc (State.setCluster s c x) := by
  unfold State.setCluster
  repeat' first
    | with_reducible assumption | intro _ | split | dsimp only | with_reducible apply okF | with_reducible refine okF_wsa (okF ?_)
    | dsimp only [Ok]

theorem State.setSrc_ok (s : State) (n : Nat) (x : SrcS) (hk : Ok kc s) (h_mp : kc.frozen .mp = false := by first | with_reducible assumption | rfl) : Ok kc (State.setSrc s n x) := by
  unfold State.setSrc
  repeat' first
    | with_reducible assumption | intro _ | split | dsimp only | with_reducible apply okF | with_reducible refine okF_mp (okF ?_)
    | dsimp only [Ok]

theorem State.modTile_ok (s : State) (i : Nat) (f : TileSlot → TileSlot) (hk : Ok kc s) (h_tiles : kc.frozen .tiles = false := by first | with_reducible assumption | rfl) : Ok kc (State.modTile s i f) := by
  unfold State.modTile
  repeat' first
    | with_reducible assumption | with_reducible apply State.setTile_ok | intro _ | split | dsimp only | with_reducible apply okF
    | dsimp only [Ok]

theorem State.modPort_ok (s : State) (p : Nat) (f : Port → Port) (hk : Ok kc s) (h_ports : kc.frozen .ports = false := by first | with_reducible assumption | rfl) : Ok kc (State.modPort s p f) := by
  unfold State.modPort
  repeat' first
    | with_reducible assumption | with_reducible apply State.setPort_ok | intro _ | split | dsimp only | with_reducible apply okF
    | dsimp only [Ok]

theorem State.modSess_ok (s : State) (n : Nat) (f : Sess → Sess) (hk : Ok kc s) (h_sch : kc.frozen .sch = false := by first | with_reducible assumption | rfl) : Ok kc (State.modSess s n f) := by
  unfold State.modSess
  repeat' first
    | with_reducible assumption | with_reducible apply State.setSess_ok | intro _ | split | dsimp only | with_reducible apply okF
    | dsimp only [Ok]

theorem State.advance_ok (s : State) (n : Nat) (hk : Ok kc s) (h_clk : kc.frozen .clk = false := by first | with_reducible assumption | rfl) (h_time : kc.frozen .time = false := by first | with_reducible assumption | rfl) (h_glb : kc.frozen .glb = false := by first | with_reducible assumption | rfl) : Ok kc (State.advance s n) := by
  unfold State.advance
  repeat' first
    | with_reducible assumption | with_reducible apply ok_ite | intro _ | split | dsimp only | with_reducible apply okF
    | with_reducible refine okF_clk (okF_time (okF_glb (okF ?_))) | dsimp only [Ok]

theorem State.advanceTo_ok (s : State) (t : Nat) (hk : Ok kc s) (h_clk : kc.frozen .clk = false := by first | with_reducible assumption | rfl) (h_time : kc.frozen .time = false := by first | with_reducible assumption | rfl) (h_glb : kc.frozen .glb = false := by first | with_reducible assumption | rfl) : Ok kc (State.advanceTo s t) := by
  unfold State.advanceTo
  repeat' first
    | with_reducible assumption | with_reducible apply State.advance_ok | with_reducible apply ok_ite | intro _ | split
    | dsimp only | with_reducible apply okF | dsimp only [Ok]

theorem State.cycleToward_ok (s : State) (t : Nat) (hk : Ok kc s) (h_clk : kc.frozen .clk = false := by first | with_reducible assumption | rfl) (h_time : kc.frozen .time = false := by first | with_reducible assumption | rfl) (h_glb : kc.frozen .glb = false := by first | with_reducible assumption | rfl) : Ok kc (State.cycleToward s t) := by
  unfold State.cycleToward
  repeat' first
    | with_reducible assumption | with_reducible apply State.advance_ok | intro _ | split | dsimp only | with_reducible apply okF
    | dsimp only [Ok]

theorem State.advanceWall_ok (s : State) (t : Nat) (hk : Ok kc s) (h_clk : kc.frozen .clk = false := by first | with_reducible assumption | rfl) (h_time : kc.frozen .time = false := by first | with_reducible assumption | rfl) (h_glb : kc.frozen .glb = false := by first | with_reducible assumption | rfl) : Ok kc (State.advanceWall s t) := by
  unfold State.advanceWall
  repeat' first
    | with_reducible assumption | with_reducible apply State.advance_ok | with_reducible apply State.cycleToward_ok | intro _
    | split | dsimp only | with_reducible apply okF | dsimp only [Ok]

theorem State.tick_ok (s : State) (hk : Ok kc s) (h_clk : kc.frozen .clk = false := by first | with_reducible assumption | rfl) (h_time : kc.frozen .time = false := by first | with_reducible assumption | rfl) (h_glb : kc.frozen .glb = false := by first | with_reducible assumption | rfl) : Ok kc (State.tick s) := by
  unfold State.tick
  repeat' first
    | with_reducible assumption | with_reducible apply State.advance_ok | intro _ | split | dsimp only | with_reducible apply okF
    | dsimp only [Ok]

theorem State.swinPut_ok (s : State) (w v : Nat) (hk : Ok kc s) (h_vale : kc.frozen .vale = false := by first | with_reducible assumption | rfl) : Ok kc (State.swinPut s w v) := by
  unfold State.swinPut
  repeat' first
    | with_reducible assumption | intro _ | split | dsimp only | with_reducible apply okF | with_reducible refine okF_vale (okF ?_)
    | dsimp only [Ok]

theorem State.swinBytes_ok (s : State) (off : Nat) (l : List Byte) (hk : Ok kc s) (h_vale : kc.frozen .vale = false := by first | with_reducible assumption | rfl) : Ok kc (State.swinBytes s off l) := by
  fun_induction State.swinBytes s off l with
  | case1 s off a b c d bs ih => exact ih (State.swinPut_ok _ _ _ hk)
  | case2 => exact hk

theorem State.whenReady_ok (s : State) (f : State → State) (hk : Ok kc s) (hf : ∀ t, Ok kc t → Ok kc (f t)) :
    Ok kc (State.whenReady s f) := by
  unfold State.whenReady
  split
  · exact hf s hk
  · exact hk

/-! ### Film -/

theorem State.setPsr_ok (s : State) (i x y : Nat) (p : Psr) (hk : Ok kc s) (h_film : kc.frozen .film = false := by first | with_reducible assumption | rfl) : Ok kc (State.setPsr s i x y p) := by
  unfold State.setPsr
  repeat' first
    | with_reducible assumption | intro _ | split | dsimp only | with_reducible apply okF | with_reducible refine okF_film (okF ?_)
    | dsimp only [Ok]

theorem State.mapPsrs_ok (s : State) (i : Nat) (f : Nat → Nat → Psr → Psr) (hk : Ok kc s) (h_film : kc.frozen .film = false := by first | with_reducible assumption | rfl) : Ok kc (State.mapPsrs s i f) := by
  unfold State.mapPsrs
  repeat' first
    | with_reducible assumption | with_reducible apply ok_ite | intro _ | split | dsimp only | with_reducible apply okF
    | with_reducible refine okF_film (okF ?_) | dsimp only [Ok]

theorem State.flagUnknown_ok (s : State) (i : Nat) (hk : Ok kc s) (h_tiles : kc.frozen .tiles = false := by first | with_reducible assumption | rfl) : Ok kc (State.flagUnknown s i) := by
  unfold State.flagUnknown
  repeat' first
    | with_reducible assumption | with_reducible apply State.modTile_ok | intro _ | split | dsimp only | with_reducible apply okF
    | dsimp only [Ok]

theorem State.flagIfActive_ok (s : State) (i : Nat) (activeOnly : Bool) (hk : Ok kc s) (h_tiles : kc.frozen .tiles = false := by first | with_reducible assumption | rfl) : Ok kc (State.flagIfActive s i activeOnly) := by
  unfold State.flagIfActive
  repeat' first
    | with_reducible assumption | with_reducible apply State.flagUnknown_ok | with_reducible apply ok_ite | intro _ | split
    | dsimp only | with_reducible apply okF | dsimp only [Ok]

theorem State.tileUnknown_ok (s : State) (i : Nat) (activeOnly : Bool) (hk : Ok kc s) (h_tiles : kc.frozen .tiles = false := by first | with_reducible assumption | rfl) (h_film : kc.frozen .film = false := by first | with_reducible assumption | rfl) : Ok kc (State.tileUnknown s i activeOnly) := by
  unfold State.tileUnknown
  repeat' first
    | with_reducible assumption | with_reducible apply State.flagIfActive_ok | with_reducible apply State.mapPsrs_ok
    | with_reducible apply ok_ite | intro _ | split | dsimp only | with_reducible apply okF | dsimp only [Ok]

theorem State.markTicked_ok (s : State) (i y g : Nat) (hk : Ok kc s) (h_film : kc.frozen .film = false := by first | with_reducible assumption | rfl) : Ok kc (State.markTicked s i y g) := by
  unfold State.markTicked
  repeat' first
    | with_reducible assumption | with_reducible apply ok_ite | intro _ | split | dsimp only | with_reducible apply okF
    | with_reducible refine okF_film (okF ?_) | dsimp only [Ok]


/-! ### Dram -/

theorem State.modChan_ok (s : State) (c : Nat) (f : Chan → Chan) (hk : Ok kc s) (h_dmc : kc.frozen .dmc = false := by first | with_reducible assumption | rfl) : Ok kc (State.modChan s c f) := by
  unfold State.modChan
  repeat' first
    | with_reducible assumption | with_reducible apply State.setChan_ok | intro _ | split | dsimp only | with_reducible apply okF
    | dsimp only [Ok]

theorem State.selfRefresh_ok (s : State) (c : Nat) (hk : Ok kc s) (h_regs : kc.frozen .regs = false := by first | with_reducible assumption | rfl) (h_dmc : kc.frozen .dmc = false := by first | with_reducible assumption | rfl) : Ok kc (State.selfRefresh s c) := by
  unfold State.selfRefresh
  repeat' first
    | with_reducible assumption | with_reducible apply State.count_ok | with_reducible apply State.setChan_ok
    | with_reducible apply ok_ite | intro _ | split | dsimp only | with_reducible apply okF | dsimp only [Ok]

theorem State.wakeChan_ok (s : State) (c : Nat) (hk : Ok kc s) (h_regs : kc.frozen .regs = false := by first | with_reducible assumption | rfl) (h_dmc : kc.frozen .dmc = false := by first | with_reducible assumption | rfl) : Ok kc (State.wakeChan s c) := by
  unfold State.wakeChan
  repeat' first
    | with_reducible assumption | with_reducible apply State.count_ok | with_reducible apply State.selfRefresh_ok
    | with_reducible apply State.setChan_ok | with_reducible apply ok_ite | intro _ | split | dsimp only | with_reducible apply okF
    | dsimp only [Ok]

theorem State.exitChan_ok (s : State) (c : Nat) (hk : Ok kc s) (h_regs : kc.frozen .regs = false := by first | with_reducible assumption | rfl) (h_dmc : kc.frozen .dmc = false := by first | with_reducible assumption | rfl) : Ok kc (State.exitChan s c) := by
  unfold State.exitChan
  repeat' first
    | with_reducible assumption | with_reducible apply State.count_ok | with_reducible apply State.setChan_ok
    | with_reducible apply State.wakeChan_ok | with_reducible apply ok_ite | intro _ | split | dsimp only
    | with_reducible apply okF | dsimp only [Ok]

theorem State.catchUp_ok (s : State) (c : Nat) (hk : Ok kc s) (h_regs : kc.frozen .regs = false := by first | with_reducible assumption | rfl) (h_dmc : kc.frozen .dmc = false := by first | with_reducible assumption | rfl) : Ok kc (State.catchUp s c) := by
  unfold State.catchUp
  repeat' first
    | with_reducible assumption | with_reducible apply State.count_ok | with_reducible apply State.setChan_ok
    | with_reducible apply foldl_ok | with_reducible apply foldl_ok1 | with_reducible apply foldl_ok2 | with_reducible apply ok_ite
    | intro _ | split | dsimp only | with_reducible apply okF | dsimp only [Ok]

theorem State.dmcGuard_ok (s : State) (hk : Ok kc s) (h_regs : kc.frozen .regs = false := by first | with_reducible assumption | rfl) (h_dmc : kc.frozen .dmc = false := by first | with_reducible assumption | rfl) : Ok kc (State.dmcGuard s) := by
  unfold State.dmcGuard
  repeat' first
    | with_reducible assumption | with_reducible apply State.catchUp_ok | with_reducible apply foldl_ok
    | with_reducible apply foldl_ok1 | with_reducible apply foldl_ok2 | intro _ | split | dsimp only | with_reducible apply okF
    | with_reducible refine okF_dmc (okF ?_) | dsimp only [Ok]

theorem State.linkEcc_ok (s : State) (c : Nat) (hk : Ok kc s) (h_regs : kc.frozen .regs = false := by first | with_reducible assumption | rfl) : Ok kc (State.linkEcc s c) := by
  unfold State.linkEcc
  repeat' first
    | with_reducible assumption | with_reducible apply State.count_ok | with_reducible apply State.draw_ok
    | with_reducible apply ok_ite | intro _ | split | dsimp only | with_reducible apply okF | dsimp only [Ok]

theorem State.touchRank_ok (s : State) (p : Nat × Nat) (hk : Ok kc s) (h_regs : kc.frozen .regs = false := by first | with_reducible assumption | rfl) (h_dmc : kc.frozen .dmc = false := by first | with_reducible assumption | rfl) : Ok kc (State.touchRank s p) := by
  unfold State.touchRank
  repeat' first
    | with_reducible assumption | with_reducible apply State.linkEcc_ok | with_reducible apply State.modChan_ok
    | with_reducible apply State.selfRefresh_ok | with_reducible apply State.wakeChan_ok | with_reducible apply ok_ite | intro _
    | split | dsimp only | with_reducible apply okF | dsimp only [Ok]

theorem State.touchRanks_ok (s : State) (ps : List (Nat × Nat)) (hk : Ok kc s) (h_regs : kc.frozen .regs = false := by first | with_reducible assumption | rfl) (h_dmc : kc.frozen .dmc = false := by first | with_reducible assumption | rfl) : Ok kc (State.touchRanks s ps) := by
  unfold State.touchRanks
  repeat' first
    | with_reducible assumption | with_reducible apply State.touchRank_ok | with_reducible apply foldl_ok
    | with_reducible apply foldl_ok1 | with_reducible apply foldl_ok2 | intro _ | split | dsimp only | with_reducible apply okF
    | dsimp only [Ok]

theorem State.openRow_ok (s : State) (l : DramLoc) (hk : Ok kc s) (h_dmc : kc.frozen .dmc = false := by first | with_reducible assumption | rfl) : Ok kc (State.openRow s l) := by
  unfold State.openRow
  repeat' first
    | with_reducible assumption | with_reducible apply State.modChan_ok | intro _ | split | dsimp only | with_reducible apply okF
    | dsimp only [Ok]

theorem State.touchBulk_ok (s : State) (b : Nat) (hk : Ok kc s) (h_regs : kc.frozen .regs = false := by first | with_reducible assumption | rfl) (h_dmc : kc.frozen .dmc = false := by first | with_reducible assumption | rfl) : Ok kc (State.touchBulk s b) := by
  unfold State.touchBulk
  repeat' first
    | with_reducible assumption | with_reducible apply State.openRow_ok | with_reducible apply State.touchRank_ok | intro _ | split
    | dsimp only | with_reducible apply okF | dsimp only [Ok]

theorem State.touchData_ok (s : State) (r d : Nat) (hk : Ok kc s) (h_regs : kc.frozen .regs = false := by first | with_reducible assumption | rfl) (h_dmc : kc.frozen .dmc = false := by first | with_reducible assumption | rfl) : Ok kc (State.touchData s r d) := by
  unfold State.touchData
  repeat' first
    | with_reducible assumption | with_reducible apply State.touchBulk_ok | with_reducible apply foldl_ok
    | with_reducible apply foldl_ok1 | with_reducible apply foldl_ok2 | intro _ | split | dsimp only | with_reducible apply okF
    | dsimp only [Ok]

theorem State.touchPsr_ok (s : State) (key : Nat) (hk : Ok kc s) (h_regs : kc.frozen .regs = false := by first | with_reducible assumption | rfl) (h_dmc : kc.frozen .dmc = false := by first | with_reducible assumption | rfl) : Ok kc (State.touchPsr s key) := by
  unfold State.touchPsr
  repeat' first
    | with_reducible assumption | with_reducible apply State.touchData_ok | intro _ | split | dsimp only | with_reducible apply okF
    | dsimp only [Ok]

theorem State.touchPixel_ok (s : State) (key : Nat) (hk : Ok kc s) (h_regs : kc.frozen .regs = false := by first | with_reducible assumption | rfl) (h_dmc : kc.frozen .dmc = false := by first | with_reducible assumption | rfl) : Ok kc (State.touchPixel s key) := by
  unfold State.touchPixel
  repeat' first
    | with_reducible assumption | with_reducible apply State.touchData_ok | with_reducible apply State.touchPsr_ok | intro _
    | split | dsimp only | with_reducible apply okF | dsimp only [Ok]

theorem State.touchPool_ok (s : State) (n serial : Nat) (hk : Ok kc s) (h_regs : kc.frozen .regs = false := by first | with_reducible assumption | rfl) (h_dmc : kc.frozen .dmc = false := by first | with_reducible assumption | rfl) : Ok kc (State.touchPool s n serial) := by
  unfold State.touchPool
  repeat' first
    | with_reducible assumption | with_reducible apply State.touchData_ok | intro _ | split | dsimp only | with_reducible apply okF
    | dsimp only [Ok]

theorem State.ctrlReach_ok (s : State) (c : Nat) (hk : Ok kc s) (h_regs : kc.frozen .regs = false := by first | with_reducible assumption | rfl) : Ok kc (State.ctrlReach s c) := by
  unfold State.ctrlReach
  repeat' first
    | with_reducible assumption | with_reducible apply State.linkEcc_ok | intro _ | split | dsimp only | with_reducible apply okF
    | dsimp only [Ok]

theorem State.touchPlanes_ok (s : State) (hk : Ok kc s) (h_regs : kc.frozen .regs = false := by first | with_reducible assumption | rfl) (h_dmc : kc.frozen .dmc = false := by first | with_reducible assumption | rfl) : Ok kc (State.touchPlanes s) := by
  unfold State.touchPlanes
  repeat' first
    | with_reducible assumption | with_reducible apply State.touchRanks_ok | intro _ | split | dsimp only
    | with_reducible apply okF | dsimp only [Ok]

theorem State.holdReq_ok (s : State) (w : Waiter) (hk : Ok kc s) (h_dmc : kc.frozen .dmc = false := by first | with_reducible assumption | rfl) : Ok kc (State.holdReq s w) := by
  unfold State.holdReq
  repeat' first
    | with_reducible assumption | with_reducible apply ok_ite | intro _ | split | dsimp only | with_reducible apply okF
    | with_reducible refine okF_dmc (okF ?_) | dsimp only [Ok]

theorem State.grantReq_ok (s : State) (w : Waiter) (chans : List Nat) (hk : Ok kc s) (h_regs : kc.frozen .regs = false := by first | with_reducible assumption | rfl) (h_dmc : kc.frozen .dmc = false := by first | with_reducible assumption | rfl) : Ok kc (State.grantReq s w chans) := by
  unfold State.grantReq
  repeat' first
    | with_reducible assumption | with_reducible apply State.count_ok | with_reducible apply foldl_ok
    | with_reducible apply foldl_ok1 | with_reducible apply foldl_ok2 | with_reducible apply ok_ite | intro _ | split | dsimp only
    | with_reducible apply okF | with_reducible refine okF_dmc (okF ?_) | dsimp only [Ok]


/-! ### Qm -/

theorem State.sendMsix_ok (s : State) (v : Nat) (hk : Ok kc s) (h_regs : kc.frozen .regs = false := by first | with_reducible assumption | rfl) (h_qm : kc.frozen .qm = false := by first | with_reducible assumption | rfl) (h_out : kc.frozen .out = false := by first | with_reducible assumption | rfl) : Ok kc (State.sendMsix s v) := by
  unfold State.sendMsix
  repeat' first
    | with_reducible assumption | with_reducible apply State.count_ok | with_reducible apply State.emit_ok
    | with_reducible apply ok_ite | intro _ | split | dsimp only | with_reducible apply okF | with_reducible refine okF_qm (okF ?_)
    | dsimp only [Ok]

theorem State.fireRing_ok (s : State) (n : Nat) (hk : Ok kc s) (h_regs : kc.frozen .regs = false := by first | with_reducible assumption | rfl) (h_qm : kc.frozen .qm = false := by first | with_reducible assumption | rfl) (h_out : kc.frozen .out = false := by first | with_reducible assumption | rfl) : Ok kc (State.fireRing s n) := by
  unfold State.fireRing
  repeat' first
    | with_reducible assumption | with_reducible apply State.sendMsix_ok | with_reducible apply State.setRing_ok | intro _ | split
    | dsimp only | with_reducible apply okF | dsimp only [Ok]

theorem State.signalRing_ok (s : State) (n : Nat) (hk : Ok kc s) (h_regs : kc.frozen .regs = false := by first | with_reducible assumption | rfl) (h_qm : kc.frozen .qm = false := by first | with_reducible assumption | rfl) (h_out : kc.frozen .out = false := by first | with_reducible assumption | rfl) : Ok kc (State.signalRing s n) := by
  unfold State.signalRing
  repeat' first
    | with_reducible assumption | with_reducible apply State.fireRing_ok | with_reducible apply State.setRing_ok
    | with_reducible apply ok_ite | intro _ | split | dsimp only | with_reducible apply okF | dsimp only [Ok]

theorem State.ringPut_ok (s : State) (n : Nat) (e : List Byte) (hk : Ok kc s) (h_regs : kc.frozen .regs = false := by first | with_reducible assumption | rfl) (h_qm : kc.frozen .qm = false := by first | with_reducible assumption | rfl) (h_out : kc.frozen .out = false := by first | with_reducible assumption | rfl) : Ok kc (State.ringPut s n e) := by
  unfold State.ringPut
  repeat' first
    | with_reducible assumption | with_reducible apply State.count_ok | with_reducible apply State.emit_ok
    | with_reducible apply State.setRing_ok | with_reducible apply State.signalRing_ok | with_reducible apply ok_ite | intro _
    | split | dsimp only | with_reducible apply okF | dsimp only [Ok]

theorem State.postEvent_ok (s : State) (e : LogEntry) (hk : Ok kc s) (h_regs : kc.frozen .regs = false := by first | with_reducible assumption | rfl) (h_qm : kc.frozen .qm = false := by first | with_reducible assumption | rfl) (h_out : kc.frozen .out = false := by first | with_reducible assumption | rfl) : Ok kc (State.postEvent s e) := by
  unfold State.postEvent
  repeat' first
    | with_reducible assumption | with_reducible apply State.count_ok | with_reducible apply State.ringPut_ok
    | with_reducible apply ok_ite | intro _ | split | dsimp only | with_reducible apply okF | dsimp only [Ok]

theorem State.writeEvent_ok (s : State) (code unit arg0 arg1 : Nat) (detail : List Byte) (suppressed : Nat) (hk : Ok kc s) (h_regs : kc.frozen .regs = false := by first | with_reducible assumption | rfl) (h_glb : kc.frozen .glb = false := by first | with_reducible assumption | rfl) (h_qm : kc.frozen .qm = false := by first | with_reducible assumption | rfl) (h_out : kc.frozen .out = false := by first | with_reducible assumption | rfl) : Ok kc (State.writeEvent s code unit arg0 arg1 detail suppressed) := by
  unfold State.writeEvent
  repeat' first
    | with_reducible assumption | with_reducible apply State.ctrlReach_ok | with_reducible apply State.postEvent_ok
    | with_reducible apply ok_ite | intro _ | split | dsimp only | with_reducible apply okF
    | with_reducible refine okF_glb (okF_qm (okF ?_)) | dsimp only [Ok]

theorem State.logD_ok (s : State) (code unit arg0 arg1 : Nat) (detail : List Byte) (hk : Ok kc s) (h_regs : kc.frozen .regs = false := by first | with_reducible assumption | rfl) (h_glb : kc.frozen .glb = false := by first | with_reducible assumption | rfl) (h_qm : kc.frozen .qm = false := by first | with_reducible assumption | rfl) (h_out : kc.frozen .out = false := by first | with_reducible assumption | rfl) : Ok kc (State.logD s code unit arg0 arg1 detail) := by
  unfold State.logD
  repeat' first
    | with_reducible assumption | with_reducible apply State.writeEvent_ok | with_reducible apply ok_ite | intro _ | split
    | dsimp only | with_reducible apply okF | with_reducible refine okF_qm (okF ?_) | dsimp only [Ok]

theorem State.log_ok (s : State) (code unit arg0 arg1 : Nat) (hk : Ok kc s) (h_regs : kc.frozen .regs = false := by first | with_reducible assumption | rfl) (h_glb : kc.frozen .glb = false := by first | with_reducible assumption | rfl) (h_qm : kc.frozen .qm = false := by first | with_reducible assumption | rfl) (h_out : kc.frozen .out = false := by first | with_reducible assumption | rfl) : Ok kc (State.log s code unit arg0 arg1) := by
  unfold State.log
  repeat' first
    | with_reducible assumption | with_reducible apply State.logD_ok | intro _ | split | dsimp only | with_reducible apply okF
    | dsimp only [Ok]

theorem State.ringWrite_ok (s : State) (n : Nat) (e : List Byte) (hk : Ok kc s) (h_regs : kc.frozen .regs = false := by first | with_reducible assumption | rfl) (h_glb : kc.frozen .glb = false := by first | with_reducible assumption | rfl) (h_qm : kc.frozen .qm = false := by first | with_reducible assumption | rfl) (h_out : kc.frozen .out = false := by first | with_reducible assumption | rfl) : Ok kc (State.ringWrite s n e) := by
  unfold State.ringWrite
  repeat' first
    | with_reducible assumption | with_reducible apply State.log_ok | with_reducible apply State.ringPut_ok
    | with_reducible apply ok_ite | intro _ | split | dsimp only | with_reducible apply okF | dsimp only [Ok]

theorem State.dmaErr_ok (s : State) (hk : Ok kc s) (h_regs : kc.frozen .regs = false := by first | with_reducible assumption | rfl) : Ok kc (State.dmaErr s) := by
  unfold State.dmaErr
  repeat' first
    | with_reducible assumption | with_reducible apply State.count_ok | intro _ | split | dsimp only | with_reducible apply okF
    | dsimp only [Ok]

theorem State.mbShow_ok (s : State) (m : Nat) (hk : Ok kc s) (h_vale : kc.frozen .vale = false := by first | with_reducible assumption | rfl) : Ok kc (State.mbShow s m) := by
  unfold State.mbShow
  repeat' first
    | with_reducible assumption | with_reducible apply State.swinPut_ok | intro _ | split | dsimp only | with_reducible apply okF
    | dsimp only [Ok]

theorem State.dstWrite_ok (s : State) (d : CplDst) (e : List Byte) (hk : Ok kc s) (h_regs : kc.frozen .regs = false := by first | with_reducible assumption | rfl) (h_glb : kc.frozen .glb = false := by first | with_reducible assumption | rfl) (h_vale : kc.frozen .vale = false := by first | with_reducible assumption | rfl) (h_qm : kc.frozen .qm = false := by first | with_reducible assumption | rfl) (h_net : kc.frozen .net = false := by first | with_reducible assumption | rfl) (h_out : kc.frozen .out = false := by first | with_reducible assumption | rfl) : Ok kc (State.dstWrite s d e) := by
  unfold State.dstWrite
  repeat' first
    | with_reducible assumption | with_reducible apply State.ctrlReach_ok | with_reducible apply State.mbShow_ok
    | with_reducible apply State.ringWrite_ok | with_reducible apply State.setMbox_ok | with_reducible apply State.setRing_ok
    | with_reducible apply State.swinBytes_ok | intro _ | split | dsimp only | with_reducible apply okF
    | with_reducible refine okF_qm (okF ?_) | dsimp only [Ok]

theorem State.dstRelease_ok (s : State) (d : CplDst) (hk : Ok kc s) (h_qm : kc.frozen .qm = false := by first | with_reducible assumption | rfl) (h_net : kc.frozen .net = false := by first | with_reducible assumption | rfl) : Ok kc (State.dstRelease s d) := by
  unfold State.dstRelease
  repeat' first
    | with_reducible assumption | with_reducible apply State.setMbox_ok | with_reducible apply State.setRing_ok | intro _ | split
    | dsimp only | with_reducible apply okF | dsimp only [Ok]

theorem State.dstReserve_ok (s : State) (d : CplDst) (hk : Ok kc s) (h_qm : kc.frozen .qm = false := by first | with_reducible assumption | rfl) (h_net : kc.frozen .net = false := by first | with_reducible assumption | rfl) : Ok kc (State.dstReserve s d) := by
  unfold State.dstReserve
  repeat' first
    | with_reducible assumption | with_reducible apply State.setMbox_ok | with_reducible apply State.setRing_ok | intro _ | split
    | dsimp only | with_reducible apply okF | dsimp only [Ok]

theorem State.overflow_ok (s : State) (d : CplDst) (e : List Byte) (slot kind : Nat) (hk : Ok kc s) (h_regs : kc.frozen .regs = false := by first | with_reducible assumption | rfl) (h_glb : kc.frozen .glb = false := by first | with_reducible assumption | rfl) (h_qm : kc.frozen .qm = false := by first | with_reducible assumption | rfl) (h_out : kc.frozen .out = false := by first | with_reducible assumption | rfl) : Ok kc (State.overflow s d e slot kind) := by
  unfold State.overflow
  repeat' first
    | with_reducible assumption | with_reducible apply State.count_ok | with_reducible apply State.log_ok
    | with_reducible apply ok_ite | intro _ | split | dsimp only | with_reducible apply okF | with_reducible refine okF_qm (okF ?_)
    | dsimp only [Ok]

theorem State.postRecord_ok (s : State) (d : CplDst) (e : List Byte) (slot kind : Nat) (hk : Ok kc s) (h_regs : kc.frozen .regs = false := by first | with_reducible assumption | rfl) (h_glb : kc.frozen .glb = false := by first | with_reducible assumption | rfl) (h_vale : kc.frozen .vale = false := by first | with_reducible assumption | rfl) (h_qm : kc.frozen .qm = false := by first | with_reducible assumption | rfl) (h_net : kc.frozen .net = false := by first | with_reducible assumption | rfl) (h_out : kc.frozen .out = false := by first | with_reducible assumption | rfl) : Ok kc (State.postRecord s d e slot kind) := by
  unfold State.postRecord
  repeat' first
    | with_reducible assumption | with_reducible apply State.dstWrite_ok | with_reducible apply State.overflow_ok
    | with_reducible apply ok_ite | intro _ | split | dsimp only | with_reducible apply okF | dsimp only [Ok]

theorem State.postReserved_ok (s : State) (d : CplDst) (e : List Byte) (slot kind : Nat) (hk : Ok kc s) (h_regs : kc.frozen .regs = false := by first | with_reducible assumption | rfl) (h_glb : kc.frozen .glb = false := by first | with_reducible assumption | rfl) (h_vale : kc.frozen .vale = false := by first | with_reducible assumption | rfl) (h_qm : kc.frozen .qm = false := by first | with_reducible assumption | rfl) (h_net : kc.frozen .net = false := by first | with_reducible assumption | rfl) (h_out : kc.frozen .out = false := by first | with_reducible assumption | rfl) : Ok kc (State.postReserved s d e slot kind) := by
  unfold State.postReserved
  repeat' first
    | with_reducible assumption | with_reducible apply State.dstRelease_ok | with_reducible apply State.dstWrite_ok
    | with_reducible apply State.overflow_ok | with_reducible apply ok_ite | intro _ | split | dsimp only
    | with_reducible apply okF | dsimp only [Ok]

theorem State.drainOvq_ok (s : State) (d : CplDst) (n : Nat) (hk : Ok kc s) (h_regs : kc.frozen .regs = false := by first | with_reducible assumption | rfl) (h_glb : kc.frozen .glb = false := by first | with_reducible assumption | rfl) (h_vale : kc.frozen .vale = false := by first | with_reducible assumption | rfl) (h_qm : kc.frozen .qm = false := by first | with_reducible assumption | rfl) (h_net : kc.frozen .net = false := by first | with_reducible assumption | rfl) (h_out : kc.frozen .out = false := by first | with_reducible assumption | rfl) : Ok kc (State.drainOvq s d n) := by
  induction n generalizing s with
  | zero => exact hk
  | succ n ih =>
    unfold State.drainOvq
    repeat' split
    all_goals first | exact hk | (apply ih; apply State.dstWrite_ok <;> first | assumption | (dsimp only [Ok]; exact okF_qm (okF hk)))

theorem State.complete_ok (s : State) (org : Origin) (tag opcode status result : Nat) (data : List Byte) (hk : Ok kc s) (h_regs : kc.frozen .regs = false := by first | with_reducible assumption | rfl) (h_glb : kc.frozen .glb = false := by first | with_reducible assumption | rfl) (h_vale : kc.frozen .vale = false := by first | with_reducible assumption | rfl) (h_qm : kc.frozen .qm = false := by first | with_reducible assumption | rfl) (h_net : kc.frozen .net = false := by first | with_reducible assumption | rfl) (h_out : kc.frozen .out = false := by first | with_reducible assumption | rfl) : Ok kc (State.complete s org tag opcode status result data) := by
  unfold State.complete
  repeat' first
    | with_reducible assumption | with_reducible apply State.count_ok | with_reducible apply State.postReserved_ok
    | with_reducible apply ok_ite | intro _ | split | dsimp only | with_reducible apply okF | dsimp only [Ok]

theorem State.openAnswered_ok (s : State) (dst : CplDst) (e : List Byte) (slot kind : Nat) (hk : Ok kc s) (h_regs : kc.frozen .regs = false := by first | with_reducible assumption | rfl) (h_glb : kc.frozen .glb = false := by first | with_reducible assumption | rfl) (h_vale : kc.frozen .vale = false := by first | with_reducible assumption | rfl) (h_qm : kc.frozen .qm = false := by first | with_reducible assumption | rfl) (h_net : kc.frozen .net = false := by first | with_reducible assumption | rfl) (h_out : kc.frozen .out = false := by first | with_reducible assumption | rfl) : Ok kc (State.openAnswered s dst e slot kind) := by
  unfold State.openAnswered
  repeat' first
    | with_reducible assumption | with_reducible apply State.count_ok | with_reducible apply State.postReserved_ok | intro _
    | split | dsimp only | with_reducible apply okF | dsimp only [Ok]

theorem State.postTileRsp_ok (s : State) (i : Nat) (e : List Byte) (hk : Ok kc s) (h_regs : kc.frozen .regs = false := by first | with_reducible assumption | rfl) (h_glb : kc.frozen .glb = false := by first | with_reducible assumption | rfl) (h_qm : kc.frozen .qm = false := by first | with_reducible assumption | rfl) (h_out : kc.frozen .out = false := by first | with_reducible assumption | rfl) : Ok kc (State.postTileRsp s i e) := by
  unfold State.postTileRsp
  repeat' first
    | with_reducible assumption | with_reducible apply State.ringWrite_ok | with_reducible apply State.setRing_ok
    | with_reducible apply ok_ite | intro _ | split | dsimp only | with_reducible apply okF | dsimp only [Ok]

theorem State.postTelemetry_ok (s : State) (i : Nat) (a b : List Byte) (hk : Ok kc s) (h_regs : kc.frozen .regs = false := by first | with_reducible assumption | rfl) (h_glb : kc.frozen .glb = false := by first | with_reducible assumption | rfl) (h_qm : kc.frozen .qm = false := by first | with_reducible assumption | rfl) (h_out : kc.frozen .out = false := by first | with_reducible assumption | rfl) : Ok kc (State.postTelemetry s i a b) := by
  unfold State.postTelemetry
  repeat' first
    | with_reducible assumption | with_reducible apply State.count_ok | with_reducible apply State.ringWrite_ok
    | with_reducible apply State.setRing_ok | with_reducible apply ok_ite | intro _ | split | dsimp only | with_reducible apply okF
    | dsimp only [Ok]


end Sys2Proof.Machine
end

