-- ==== Sys2Proof/Laws/KeepTile.lean ====
section
/-! SUPPORT. What the operations and commands of the tile fabric, its hops and the frontlight keep (Laws/KeepBase.lean). -/

namespace Sys2Proof.Machine

set_option Elab.async false
set_option linter.all false

variable {kc : KeepCtx}

/-! ### Jtl -/

theorem State.sendDown_ok (s : State) (p : Nat) (bs : List Byte) (hk : Ok kc s) (h_ports : kc.frozen .ports = false := by first | with_reducible assumption | rfl) (h_out : kc.frozen .out = false := by first | with_reducible assumption | rfl) : Ok kc (State.sendDown s p bs) := by
  unfold State.sendDown
  repeat' first
    | with_reducible assumption | with_reducible apply State.emit_ok | with_reducible apply State.setPort_ok | intro _ | split
    | dsimp only | with_reducible apply okF | dsimp only [Ok]

theorem State.sendRow_ok (s : State) (p : Nat) (r : SentRow) (resend : Bool) (hk : Ok kc s) (h_ports : kc.frozen .ports = false := by first | with_reducible assumption | rfl) (h_out : kc.frozen .out = false := by first | with_reducible assumption | rfl) : Ok kc (State.sendRow s p r resend).1 := by
  unfold State.sendRow
  repeat' first
    | with_reducible assumption | with_reducible apply State.emit_ok | with_reducible apply State.setPort_ok
    | with_reducible apply ok_ite | intro _ | split | dsimp only | with_reducible apply okF | dsimp only [Ok]

theorem State.issueCmd_ok (s : State) (i tag op : Nat) (param : List Byte) (rsp : Nat) (engine : Bool) (hk : Ok kc s) (h_ports : kc.frozen .ports = false := by first | with_reducible assumption | rfl) (h_tiles : kc.frozen .tiles = false := by first | with_reducible assumption | rfl) (h_out : kc.frozen .out = false := by first | with_reducible assumption | rfl) : Ok kc (State.issueCmd s i tag op param rsp engine) := by
  unfold State.issueCmd
  repeat' first
    | with_reducible assumption | with_reducible apply State.sendDown_ok | with_reducible apply State.setTile_ok | intro _ | split
    | dsimp only | with_reducible apply okF | dsimp only [Ok]

theorem State.flDerate_ok (s : State) (i : Nat) (hk : Ok kc s) (h_fl : kc.frozen .fl = false := by first | with_reducible assumption | rfl) : Ok kc (State.flDerate s i) := by
  unfold State.flDerate
  repeat' first
    | with_reducible assumption | with_reducible apply State.setFlTile_ok | with_reducible apply ok_ite | intro _ | split
    | dsimp only | with_reducible apply okF | dsimp only [Ok]

theorem State.flShorts_ok (s : State) (i : Nat) (hk : Ok kc s) (h_fl : kc.frozen .fl = false := by first | with_reducible assumption | rfl) : Ok kc (State.flShorts s i) := by
  unfold State.flShorts
  repeat' first
    | with_reducible assumption | with_reducible apply State.setFlTile_ok | with_reducible apply foldl_ok
    | with_reducible apply foldl_ok1 | with_reducible apply foldl_ok2 | with_reducible apply ok_ite | intro _ | split | dsimp only
    | with_reducible apply okF | dsimp only [Ok]

theorem State.flSend_ok (s : State) (i op : Nat) (param : List Byte) (out : FlOut) (hk : Ok kc s) (h_fl : kc.frozen .fl = false := by first | with_reducible assumption | rfl) (h_ports : kc.frozen .ports = false := by first | with_reducible assumption | rfl) (h_tiles : kc.frozen .tiles = false := by first | with_reducible assumption | rfl) (h_out : kc.frozen .out = false := by first | with_reducible assumption | rfl) : Ok kc (State.flSend s i op param out) := by
  unfold State.flSend
  repeat' first
    | with_reducible assumption | with_reducible apply State.draw_ok | with_reducible apply State.issueCmd_ok
    | with_reducible apply State.setFlTile_ok | intro _ | split | dsimp only | with_reducible apply okF
    | with_reducible refine okF_out (okF ?_) | dsimp only [Ok]

theorem State.flDuty_ok (s : State) (i mask y : Nat) (hk : Ok kc s) (h_fl : kc.frozen .fl = false := by first | with_reducible assumption | rfl) : Ok kc (State.flDuty s i mask y) := by
  unfold State.flDuty
  repeat' first
    | with_reducible assumption | with_reducible apply State.flShorts_ok | with_reducible apply State.setFlTile_ok
    | with_reducible apply foldl_ok | with_reducible apply foldl_ok1 | with_reducible apply foldl_ok2 | intro _ | split
    | dsimp only | with_reducible apply okF | dsimp only [Ok]

theorem State.flSendSet_ok (s : State) (i y ms : Nat) (hk : Ok kc s) (h_fl : kc.frozen .fl = false := by first | with_reducible assumption | rfl) (h_ports : kc.frozen .ports = false := by first | with_reducible assumption | rfl) (h_tiles : kc.frozen .tiles = false := by first | with_reducible assumption | rfl) (h_out : kc.frozen .out = false := by first | with_reducible assumption | rfl) : Ok kc (State.flSendSet s i y ms) := by
  unfold State.flSendSet
  repeat' first
    | with_reducible assumption | with_reducible apply State.flDuty_ok | with_reducible apply State.flSend_ok
    | with_reducible apply State.setFlTile_ok | intro _ | split | dsimp only | with_reducible apply okF | dsimp only [Ok]

theorem State.flKick_ok (s : State) (i : Nat) (hk : Ok kc s) (h_fl : kc.frozen .fl = false := by first | with_reducible assumption | rfl) (h_ports : kc.frozen .ports = false := by first | with_reducible assumption | rfl) (h_tiles : kc.frozen .tiles = false := by first | with_reducible assumption | rfl) (h_out : kc.frozen .out = false := by first | with_reducible assumption | rfl) : Ok kc (State.flKick s i) := by
  unfold State.flKick
  repeat' first
    | with_reducible assumption | with_reducible apply State.flSend_ok | with_reducible apply State.flSendSet_ok
    | with_reducible apply State.setFlTile_ok | with_reducible apply ok_ite | intro _ | split | dsimp only
    | with_reducible apply okF | dsimp only [Ok]

theorem State.bringUp_ok (s : State) (i : Nat) (hk : Ok kc s) (h_fl : kc.frozen .fl = false := by first | with_reducible assumption | rfl) (h_ports : kc.frozen .ports = false := by first | with_reducible assumption | rfl) (h_tiles : kc.frozen .tiles = false := by first | with_reducible assumption | rfl) (h_sch : kc.frozen .sch = false := by first | with_reducible assumption | rfl) (h_out : kc.frozen .out = false := by first | with_reducible assumption | rfl) : Ok kc (State.bringUp s i) := by
  unfold State.bringUp
  repeat' first
    | with_reducible assumption | with_reducible apply State.flKick_ok | with_reducible apply State.modTile_ok
    | with_reducible apply State.setFlTile_ok | with_reducible apply ok_ite | intro _ | split | dsimp only
    | with_reducible apply okF | with_reducible refine okF_sch (okF ?_) | dsimp only [Ok]

theorem State.tryUp_ok (s : State) (i : Nat) (hk : Ok kc s) (h_fl : kc.frozen .fl = false := by first | with_reducible assumption | rfl) (h_ports : kc.frozen .ports = false := by first | with_reducible assumption | rfl) (h_tiles : kc.frozen .tiles = false := by first | with_reducible assumption | rfl) (h_sch : kc.frozen .sch = false := by first | with_reducible assumption | rfl) (h_out : kc.frozen .out = false := by first | with_reducible assumption | rfl) : Ok kc (State.tryUp s i) := by
  unfold State.tryUp
  repeat' first
    | with_reducible assumption | with_reducible apply State.bringUp_ok | with_reducible apply ok_ite | intro _ | split
    | dsimp only | with_reducible apply okF | dsimp only [Ok]

theorem State.loseTileOn_ok (s : State) (p i cause : Nat) (hk : Ok kc s) (h_regs : kc.frozen .regs = false := by first | with_reducible assumption | rfl) (h_glb : kc.frozen .glb = false := by first | with_reducible assumption | rfl) (h_qm : kc.frozen .qm = false := by first | with_reducible assumption | rfl) (h_tiles : kc.frozen .tiles = false := by first | with_reducible assumption | rfl) (h_film : kc.frozen .film = false := by first | with_reducible assumption | rfl) (h_sch : kc.frozen .sch = false := by first | with_reducible assumption | rfl) (h_out : kc.frozen .out = false := by first | with_reducible assumption | rfl) : Ok kc (State.loseTileOn s p i cause) := by
  unfold State.loseTileOn
  repeat' first
    | with_reducible assumption | with_reducible apply State.count_ok | with_reducible apply State.log_ok
    | with_reducible apply State.setTile_ok | with_reducible apply ok_ite | intro _ | split | dsimp only | with_reducible apply okF
    | with_reducible refine okF_glb (okF_film (okF_sch (okF ?_))) | dsimp only [Ok]

theorem State.loseTile_ok (s : State) (i cause : Nat) (hk : Ok kc s) (h_regs : kc.frozen .regs = false := by first | with_reducible assumption | rfl) (h_glb : kc.frozen .glb = false := by first | with_reducible assumption | rfl) (h_qm : kc.frozen .qm = false := by first | with_reducible assumption | rfl) (h_tiles : kc.frozen .tiles = false := by first | with_reducible assumption | rfl) (h_film : kc.frozen .film = false := by first | with_reducible assumption | rfl) (h_sch : kc.frozen .sch = false := by first | with_reducible assumption | rfl) (h_out : kc.frozen .out = false := by first | with_reducible assumption | rfl) : Ok kc (State.loseTile s i cause) := by
  unfold State.loseTile
  repeat' first
    | with_reducible assumption | with_reducible apply State.loseTileOn_ok | intro _ | split | dsimp only
    | with_reducible apply okF | dsimp only [Ok]

theorem State.cutDomain_ok (s : State) (p k : Nat) (hk : Ok kc s) (h_regs : kc.frozen .regs = false := by first | with_reducible assumption | rfl) (h_glb : kc.frozen .glb = false := by first | with_reducible assumption | rfl) (h_qm : kc.frozen .qm = false := by first | with_reducible assumption | rfl) (h_tiles : kc.frozen .tiles = false := by first | with_reducible assumption | rfl) (h_film : kc.frozen .film = false := by first | with_reducible assumption | rfl) (h_sch : kc.frozen .sch = false := by first | with_reducible assumption | rfl) (h_out : kc.frozen .out = false := by first | with_reducible assumption | rfl) : Ok kc (State.cutDomain s p k) := by
  unfold State.cutDomain
  repeat' first
    | with_reducible assumption | with_reducible apply State.loseTile_ok | with_reducible apply State.modTile_ok
    | with_reducible apply foldl_ok | with_reducible apply foldl_ok1 | with_reducible apply foldl_ok2 | with_reducible apply ok_ite
    | intro _ | split | dsimp only | with_reducible apply okF | dsimp only [Ok]

theorem State.noteBreak_ok (s : State) (p k : Nat) (hk : Ok kc s) (h_ports : kc.frozen .ports = false := by first | with_reducible assumption | rfl) : Ok kc (State.noteBreak s p k) := by
  unfold State.noteBreak
  repeat' first
    | with_reducible assumption | with_reducible apply State.modPort_ok | with_reducible apply ok_ite | intro _ | split
    | dsimp only | with_reducible apply okF | dsimp only [Ok]

theorem State.startEnum_ok (s : State) (p limit phase : Nat) (hk : Ok kc s) (h_ports : kc.frozen .ports = false := by first | with_reducible assumption | rfl) (h_out : kc.frozen .out = false := by first | with_reducible assumption | rfl) : Ok kc (State.startEnum s p limit phase) := by
  unfold State.startEnum
  repeat' first
    | with_reducible assumption | with_reducible apply State.modPort_ok | with_reducible apply State.sendDown_ok
    | with_reducible apply ok_ite | intro _ | split | dsimp only | with_reducible apply okF | dsimp only [Ok]

theorem State.enumerate_ok (s : State) (p : Nat) (hk : Ok kc s) (h_ports : kc.frozen .ports = false := by first | with_reducible assumption | rfl) (h_out : kc.frozen .out = false := by first | with_reducible assumption | rfl) : Ok kc (State.enumerate s p) := by
  unfold State.enumerate
  repeat' first
    | with_reducible assumption | with_reducible apply State.modPort_ok | with_reducible apply State.startEnum_ok
    | with_reducible apply ok_ite | intro _ | split | dsimp only | with_reducible apply okF | dsimp only [Ok]

theorem State.reEnumerate_ok (s : State) (p : Nat) (hk : Ok kc s) (h_ports : kc.frozen .ports = false := by first | with_reducible assumption | rfl) (h_out : kc.frozen .out = false := by first | with_reducible assumption | rfl) : Ok kc (State.reEnumerate s p) := by
  unfold State.reEnumerate
  repeat' first
    | with_reducible assumption | with_reducible apply State.enumerate_ok | with_reducible apply State.startEnum_ok
    | with_reducible apply ok_ite | intro _ | split | dsimp only | with_reducible apply okF | dsimp only [Ok]


/-! ### Hop -/

theorem State.sendUp_ok (s : State) (b : BridgeId) (bs : List Byte) (hk : Ok kc s) (h_out : kc.frozen .out = false := by first | with_reducible assumption | rfl) : Ok kc (State.sendUp s b bs) := by
  unfold State.sendUp
  repeat' first
    | with_reducible assumption | with_reducible apply State.emits_ok | intro _ | split | dsimp only | with_reducible apply okF
    | dsimp only [Ok]

theorem State.sideState_ok (s : State) (side : HopSide) (x : PortState) (hk : Ok kc s) (h_ports : kc.frozen .ports = false := by first | with_reducible assumption | rfl) : Ok kc (State.sideState s side x) := by
  unfold State.sideState
  repeat' first
    | with_reducible assumption | with_reducible apply State.modPort_ok | intro _ | split | dsimp only | with_reducible apply okF
    | dsimp only [Ok]

theorem State.enterStep_ok (s : State) (side : HopSide) (x : HopStep) (hk : Ok kc s) (h_hops : kc.frozen .hops = false := by first | with_reducible assumption | rfl) : Ok kc (State.enterStep s side x) := by
  unfold State.enterStep
  repeat' first
    | with_reducible assumption | with_reducible apply State.setHop_ok | intro _ | split | dsimp only | with_reducible apply okF
    | dsimp only [Ok]

theorem execHopSignalDetected_ok (side : HopSide) (s : State) (hk : Ok kc s) (h_ports : kc.frozen .ports = false := by first | with_reducible assumption | rfl) (h_hops : kc.frozen .hops = false := by first | with_reducible assumption | rfl) : OkO kc (execHopSignalDetected side s) := by
  unfold execHopSignalDetected
  repeat' first
    | with_reducible assumption | with_reducible apply State.enterStep_ok | with_reducible apply State.sideState_ok
    | with_reducible apply okO_next | with_reducible apply okO_fault | with_reducible apply ok_ite | intro _ | split | dsimp only
    | with_reducible apply okF | dsimp only [Ok]

theorem execHopBlockLock_ok (side : HopSide) (s : State) (hk : Ok kc s) (h_hops : kc.frozen .hops = false := by first | with_reducible assumption | rfl) : OkO kc (execHopBlockLock side s) := by
  unfold execHopBlockLock
  repeat' first
    | with_reducible assumption | with_reducible apply State.enterStep_ok | with_reducible apply okO_next
    | with_reducible apply okO_fault | with_reducible apply ok_ite | intro _ | split | dsimp only | with_reducible apply okF
    | dsimp only [Ok]

theorem State.sendLinkState_ok (s : State) (side : HopSide) (hk : Ok kc s) (h_ports : kc.frozen .ports = false := by first | with_reducible assumption | rfl) (h_out : kc.frozen .out = false := by first | with_reducible assumption | rfl) : Ok kc (State.sendLinkState s side) := by
  unfold State.sendLinkState
  repeat' first
    | with_reducible assumption | with_reducible apply State.sendDown_ok | with_reducible apply State.emit_ok | split

theorem execHopFrameLock_ok (side : HopSide) (s : State) (hk : Ok kc s) (h_ports : kc.frozen .ports = false := by first | with_reducible assumption | rfl) (h_hops : kc.frozen .hops = false := by first | with_reducible assumption | rfl) (h_out : kc.frozen .out = false := by first | with_reducible assumption | rfl) : OkO kc (execHopFrameLock side s) := by
  unfold execHopFrameLock
  repeat' first
    | with_reducible assumption | with_reducible apply State.enterStep_ok | with_reducible apply State.sendLinkState_ok
    | with_reducible apply okO_next | with_reducible apply okO_fault | with_reducible apply ok_ite | intro _ | split | dsimp only
    | with_reducible apply okF | dsimp only [Ok]

theorem execHopStepTimeout_ok (side : HopSide) (s : State) (hk : Ok kc s) (h_clk : kc.frozen .clk = false := by first | with_reducible assumption | rfl) (h_time : kc.frozen .time = false := by first | with_reducible assumption | rfl) (h_glb : kc.frozen .glb = false := by first | with_reducible assumption | rfl) (h_ports : kc.frozen .ports = false := by first | with_reducible assumption | rfl) (h_hops : kc.frozen .hops = false := by first | with_reducible assumption | rfl) : OkO kc (execHopStepTimeout side s) := by
  unfold execHopStepTimeout
  repeat' first
    | with_reducible assumption | with_reducible apply State.advanceTo_ok | with_reducible apply State.setHop_ok
    | with_reducible apply State.sideState_ok | with_reducible apply okO_next | with_reducible apply okO_fault | intro _ | split
    | dsimp only | with_reducible apply okF | dsimp only [Ok]

theorem State.setSync_ok (s : State) (side : HopSide) (b : Bool) (hk : Ok kc s) (h_hops : kc.frozen .hops = false := by first | with_reducible assumption | rfl) : Ok kc (State.setSync s side b) := by
  unfold State.setSync
  repeat' first
    | with_reducible assumption | with_reducible apply State.setHop_ok | intro _ | split | dsimp only | with_reducible apply okF
    | dsimp only [Ok]

theorem State.cwCorrected_ok (s : State) (side : HopSide) (hk : Ok kc s) (h_regs : kc.frozen .regs = false := by first | with_reducible assumption | rfl) (h_bridges : kc.frozen .bridges = false := by first | with_reducible assumption | rfl) : Ok kc (State.cwCorrected s side) := by
  unfold State.cwCorrected
  repeat' first
    | with_reducible assumption | with_reducible apply State.count_ok | with_reducible apply State.draw_ok
    | with_reducible apply State.setBridge_ok | with_reducible apply ok_ite | intro _ | split | dsimp only
    | with_reducible apply okF | dsimp only [Ok]

theorem State.received_ok (s : State) (side : HopSide) (hk : Ok kc s) (h_regs : kc.frozen .regs = false := by first | with_reducible assumption | rfl) (h_hops : kc.frozen .hops = false := by first | with_reducible assumption | rfl) (h_bridges : kc.frozen .bridges = false := by first | with_reducible assumption | rfl) : Ok kc (State.received s side) := by
  unfold State.received
  repeat' first
    | with_reducible assumption | with_reducible apply State.cwCorrected_ok | with_reducible apply State.setSync_ok | intro _
    | split | dsimp only | with_reducible apply okF | dsimp only [Ok]

theorem State.portCameUp_ok (s : State) (p : Nat) (hk : Ok kc s) (h_ports : kc.frozen .ports = false := by first | with_reducible assumption | rfl) (h_out : kc.frozen .out = false := by first | with_reducible assumption | rfl) : Ok kc (State.portCameUp s p) := by
  unfold State.portCameUp
  repeat' first
    | with_reducible assumption | with_reducible apply State.enumerate_ok | with_reducible apply State.modPort_ok
    | with_reducible apply State.startEnum_ok | with_reducible apply ok_ite | intro _ | split | dsimp only
    | with_reducible apply okF | dsimp only [Ok]

theorem execLinkState_ok (side : HopSide) (rxOk : Bool) (s0 : State) (hk : Ok kc s0) (h_regs : kc.frozen .regs = false := by first | with_reducible assumption | rfl) (h_ports : kc.frozen .ports = false := by first | with_reducible assumption | rfl) (h_hops : kc.frozen .hops = false := by first | with_reducible assumption | rfl) (h_bridges : kc.frozen .bridges = false := by first | with_reducible assumption | rfl) (h_out : kc.frozen .out = false := by first | with_reducible assumption | rfl) : OkO kc (execLinkState side rxOk s0) := by
  unfold execLinkState
  repeat' first
    | with_reducible assumption | with_reducible apply State.portCameUp_ok | with_reducible apply State.reEnumerate_ok
    | with_reducible apply State.received_ok | with_reducible apply State.setHop_ok | with_reducible apply okO_next
    | with_reducible apply okO_fault | with_reducible apply ok_ite | intro _ | split | dsimp only | with_reducible apply okF
    | dsimp only [Ok]

theorem State.portHopDown_ok (s : State) (p : Nat) (hk : Ok kc s) (h_regs : kc.frozen .regs = false := by first | with_reducible assumption | rfl) (h_glb : kc.frozen .glb = false := by first | with_reducible assumption | rfl) (h_qm : kc.frozen .qm = false := by first | with_reducible assumption | rfl) (h_ports : kc.frozen .ports = false := by first | with_reducible assumption | rfl) (h_tiles : kc.frozen .tiles = false := by first | with_reducible assumption | rfl) (h_hops : kc.frozen .hops = false := by first | with_reducible assumption | rfl) (h_film : kc.frozen .film = false := by first | with_reducible assumption | rfl) (h_sch : kc.frozen .sch = false := by first | with_reducible assumption | rfl) (h_out : kc.frozen .out = false := by first | with_reducible assumption | rfl) : Ok kc (State.portHopDown s p) := by
  unfold State.portHopDown
  repeat' first
    | with_reducible assumption | with_reducible apply State.count_ok | with_reducible apply State.cutDomain_ok
    | with_reducible apply State.modPort_ok | with_reducible apply State.noteBreak_ok | with_reducible apply State.setHop_ok
    | with_reducible apply ok_ite | intro _ | split | dsimp only | with_reducible apply okF | dsimp only [Ok]

theorem State.hopDown_ok (s : State) (side : HopSide) (hk : Ok kc s) (h_regs : kc.frozen .regs = false := by first | with_reducible assumption | rfl) (h_glb : kc.frozen .glb = false := by first | with_reducible assumption | rfl) (h_qm : kc.frozen .qm = false := by first | with_reducible assumption | rfl) (h_ports : kc.frozen .ports = false := by first | with_reducible assumption | rfl) (h_tiles : kc.frozen .tiles = false := by first | with_reducible assumption | rfl) (h_hops : kc.frozen .hops = false := by first | with_reducible assumption | rfl) (h_film : kc.frozen .film = false := by first | with_reducible assumption | rfl) (h_sch : kc.frozen .sch = false := by first | with_reducible assumption | rfl) (h_out : kc.frozen .out = false := by first | with_reducible assumption | rfl) : Ok kc (State.hopDown s side) := by
  unfold State.hopDown
  repeat' first
    | with_reducible assumption | with_reducible apply State.portHopDown_ok | with_reducible apply State.sendUp_ok
    | with_reducible apply State.setHop_ok | with_reducible apply ok_ite | intro _ | split | dsimp only | with_reducible apply okF
    | dsimp only [Ok]

theorem execHopLeavesUp_ok (side : HopSide) (s : State) (hk : Ok kc s) (h_regs : kc.frozen .regs = false := by first | with_reducible assumption | rfl) (h_glb : kc.frozen .glb = false := by first | with_reducible assumption | rfl) (h_qm : kc.frozen .qm = false := by first | with_reducible assumption | rfl) (h_ports : kc.frozen .ports = false := by first | with_reducible assumption | rfl) (h_tiles : kc.frozen .tiles = false := by first | with_reducible assumption | rfl) (h_hops : kc.frozen .hops = false := by first | with_reducible assumption | rfl) (h_film : kc.frozen .film = false := by first | with_reducible assumption | rfl) (h_sch : kc.frozen .sch = false := by first | with_reducible assumption | rfl) (h_out : kc.frozen .out = false := by first | with_reducible assumption | rfl) : OkO kc (execHopLeavesUp side s) := by
  unfold execHopLeavesUp
  repeat' first
    | with_reducible assumption | with_reducible apply State.hopDown_ok | with_reducible apply okO_next
    | with_reducible apply okO_fault | with_reducible apply ok_ite | intro _ | split | dsimp only | with_reducible apply okF
    | dsimp only [Ok]

theorem State.countRx_ok (s : State) (a : Receiver) (r : Nat) (hk : Ok kc s) (h_regs : kc.frozen .regs = false := by first | with_reducible assumption | rfl) : Ok kc (State.countRx s a r) := by
  unfold State.countRx
  repeat' first
    | with_reducible assumption | with_reducible apply State.count_ok | intro _ | split | dsimp only | with_reducible apply okF
    | dsimp only [Ok]

theorem State.rxDiscard_ok (s : State) (a : Receiver) (hk : Ok kc s) (h_hops : kc.frozen .hops = false := by first | with_reducible assumption | rfl) : Ok kc (State.rxDiscard s a) := by
  unfold State.rxDiscard
  repeat' first
    | with_reducible assumption | with_reducible apply State.setHop_ok | intro _ | split | dsimp only | with_reducible apply okF
    | dsimp only [Ok]

theorem execPacketTypeDiscard_ok (at_ : Receiver) (s : State) (hk : Ok kc s) (h_hops : kc.frozen .hops = false := by first | with_reducible assumption | rfl) : OkO kc (execPacketTypeDiscard at_ s) := by
  unfold execPacketTypeDiscard
  repeat' first
    | with_reducible assumption | with_reducible apply State.rxDiscard_ok | with_reducible apply State.setSync_ok
    | with_reducible apply okO_next | with_reducible apply okO_fault | intro _ | split | dsimp only | with_reducible apply okF
    | dsimp only [Ok]

theorem execPcrcFail_ok (at_ : Receiver) (s : State) (hk : Ok kc s) (h_regs : kc.frozen .regs = false := by first | with_reducible assumption | rfl) (h_hops : kc.frozen .hops = false := by first | with_reducible assumption | rfl) : OkO kc (execPcrcFail at_ s) := by
  unfold execPcrcFail
  repeat' first
    | with_reducible assumption | with_reducible apply State.countRx_ok | with_reducible apply State.rxDiscard_ok
    | with_reducible apply State.setSync_ok | with_reducible apply okO_next | with_reducible apply okO_fault | intro _ | split
    | dsimp only | with_reducible apply okF | dsimp only [Ok]

theorem execPacketSyncLost_ok (at_ : Receiver) (why : SyncLoss) (s : State) (hk : Ok kc s) (h_regs : kc.frozen .regs = false := by first | with_reducible assumption | rfl) (h_hops : kc.frozen .hops = false := by first | with_reducible assumption | rfl) : OkO kc (execPacketSyncLost at_ why s) := by
  unfold execPacketSyncLost
  repeat' first
    | with_reducible assumption | with_reducible apply State.countRx_ok | with_reducible apply State.setSync_ok
    | with_reducible apply okO_next | with_reducible apply okO_fault | with_reducible apply ok_ite | intro _ | split | dsimp only
    | with_reducible apply okF | dsimp only [Ok]

theorem execFecCodewordLost_ok (at_ : Receiver) (s : State) (hk : Ok kc s) (h_regs : kc.frozen .regs = false := by first | with_reducible assumption | rfl) (h_glb : kc.frozen .glb = false := by first | with_reducible assumption | rfl) (h_qm : kc.frozen .qm = false := by first | with_reducible assumption | rfl) (h_ports : kc.frozen .ports = false := by first | with_reducible assumption | rfl) (h_tiles : kc.frozen .tiles = false := by first | with_reducible assumption | rfl) (h_hops : kc.frozen .hops = false := by first | with_reducible assumption | rfl) (h_bridges : kc.frozen .bridges = false := by first | with_reducible assumption | rfl) (h_film : kc.frozen .film = false := by first | with_reducible assumption | rfl) (h_sch : kc.frozen .sch = false := by first | with_reducible assumption | rfl) (h_out : kc.frozen .out = false := by first | with_reducible assumption | rfl) : OkO kc (execFecCodewordLost at_ s) := by
  unfold execFecCodewordLost
  repeat' first
    | with_reducible assumption | with_reducible apply State.countRx_ok | with_reducible apply State.emit_ok
    | with_reducible apply State.hopDown_ok | with_reducible apply State.setBridge_ok | with_reducible apply State.setHop_ok
    | with_reducible apply okO_next | with_reducible apply okO_fault | with_reducible apply ok_ite | intro _ | split | dsimp only
    | with_reducible apply okF | with_reducible refine okF_glb (okF ?_) | dsimp only [Ok]


/-! ### Fl -/

theorem State.flTileEval_ok (s : State) (i p : Nat) (off afresh : Bool) (ms : Nat) (hk : Ok kc s) (h_fl : kc.frozen .fl = false := by first | with_reducible assumption | rfl) : Ok kc (State.flTileEval s i p off afresh ms) := by
  unfold State.flTileEval
  repeat' first
    | with_reducible assumption | with_reducible apply State.setFlTile_ok | with_reducible apply ok_ite | intro _ | split
    | dsimp only | with_reducible apply okF | dsimp only [Ok]

theorem State.flApply_ok (s : State) (q : Nat × List Byte) (hk : Ok kc s) (h_fl : kc.frozen .fl = false := by first | with_reducible assumption | rfl) : Ok kc (State.flApply s q) := by
  unfold State.flApply
  repeat' first
    | with_reducible assumption | with_reducible apply State.setFlTile_ok | with_reducible apply State.setFlZone_ok
    | with_reducible apply foldl_ok | with_reducible apply foldl_ok1 | with_reducible apply foldl_ok2 | with_reducible apply ok_ite
    | intro _ | split | dsimp only | with_reducible apply okF | with_reducible refine okF_fl (okF ?_) | dsimp only [Ok]

theorem execFlEvaluate_ok (s : State) (hk : Ok kc s) (h_fl : kc.frozen .fl = false := by first | with_reducible assumption | rfl) : OkO kc (execFlEvaluate s) := by
  unfold execFlEvaluate
  repeat' first
    | with_reducible assumption | with_reducible apply State.flApply_ok | with_reducible apply State.flTileEval_ok
    | with_reducible apply State.setFlZone_ok | with_reducible apply okO_next | with_reducible apply okO_fault
    | with_reducible apply foldl_ok | with_reducible apply foldl_ok1 | with_reducible apply foldl_ok2 | with_reducible apply ok_ite
    | intro _ | split | dsimp only | with_reducible apply okF | with_reducible refine okF_fl (okF ?_) | dsimp only [Ok]

theorem execFlAmbientEvaluate_ok (zone : Fin 16) (s : State) (hk : Ok kc s) (h_fl : kc.frozen .fl = false := by first | with_reducible assumption | rfl) : OkO kc (execFlAmbientEvaluate zone s) := by
  unfold execFlAmbientEvaluate
  repeat' first
    | with_reducible assumption | with_reducible apply State.setFlZone_ok | with_reducible apply okO_next
    | with_reducible apply okO_fault | with_reducible apply ok_ite | intro _ | split | dsimp only | with_reducible apply okF
    | dsimp only [Ok]

theorem execFlSegmentSend_ok (tile : Fin 1024) (s : State) (hk : Ok kc s) (h_clk : kc.frozen .clk = false := by first | with_reducible assumption | rfl) (h_time : kc.frozen .time = false := by first | with_reducible assumption | rfl) (h_glb : kc.frozen .glb = false := by first | with_reducible assumption | rfl) (h_fl : kc.frozen .fl = false := by first | with_reducible assumption | rfl) (h_ports : kc.frozen .ports = false := by first | with_reducible assumption | rfl) (h_tiles : kc.frozen .tiles = false := by first | with_reducible assumption | rfl) (h_out : kc.frozen .out = false := by first | with_reducible assumption | rfl) : OkO kc (execFlSegmentSend tile s) := by
  unfold execFlSegmentSend
  repeat' first
    | with_reducible assumption | with_reducible apply State.advanceTo_ok | with_reducible apply State.flKick_ok
    | with_reducible apply State.flSendSet_ok | with_reducible apply State.setFlTile_ok | with_reducible apply okO_next
    | with_reducible apply okO_fault | with_reducible apply ok_ite | intro _ | split | dsimp only | with_reducible apply okF
    | dsimp only [Ok]

theorem execFlDiagTimer_ok (tile : Fin 1024) (s : State) (hk : Ok kc s) (h_clk : kc.frozen .clk = false := by first | with_reducible assumption | rfl) (h_time : kc.frozen .time = false := by first | with_reducible assumption | rfl) (h_glb : kc.frozen .glb = false := by first | with_reducible assumption | rfl) (h_fl : kc.frozen .fl = false := by first | with_reducible assumption | rfl) (h_ports : kc.frozen .ports = false := by first | with_reducible assumption | rfl) (h_tiles : kc.frozen .tiles = false := by first | with_reducible assumption | rfl) (h_out : kc.frozen .out = false := by first | with_reducible assumption | rfl) : OkO kc (execFlDiagTimer tile s) := by
  unfold execFlDiagTimer
  repeat' first
    | with_reducible assumption | with_reducible apply State.advanceTo_ok | with_reducible apply State.flSend_ok
    | with_reducible apply State.setFlTile_ok | with_reducible apply okO_next | with_reducible apply okO_fault
    | with_reducible apply foldl_ok | with_reducible apply foldl_ok1 | with_reducible apply foldl_ok2 | with_reducible apply ok_ite
    | intro _ | split | dsimp only | with_reducible apply okF | dsimp only [Ok]

theorem State.flVerdict_ok (s : State) (i k v : Nat) (hk : Ok kc s) (h_regs : kc.frozen .regs = false := by first | with_reducible assumption | rfl) (h_glb : kc.frozen .glb = false := by first | with_reducible assumption | rfl) (h_qm : kc.frozen .qm = false := by first | with_reducible assumption | rfl) (h_fl : kc.frozen .fl = false := by first | with_reducible assumption | rfl) (h_out : kc.frozen .out = false := by first | with_reducible assumption | rfl) : Ok kc (State.flVerdict s i k v) := by
  unfold State.flVerdict
  repeat' first
    | with_reducible assumption | with_reducible apply State.log_ok | with_reducible apply State.setFlTile_ok
    | with_reducible apply ok_ite | intro _ | split | dsimp only | with_reducible apply okF | dsimp only [Ok]

theorem State.flTelemetry_ok (s : State) (i ambient fflags verdict : Nat) (hk : Ok kc s) (h_regs : kc.frozen .regs = false := by first | with_reducible assumption | rfl) (h_glb : kc.frozen .glb = false := by first | with_reducible assumption | rfl) (h_qm : kc.frozen .qm = false := by first | with_reducible assumption | rfl) (h_fl : kc.frozen .fl = false := by first | with_reducible assumption | rfl) (h_ports : kc.frozen .ports = false := by first | with_reducible assumption | rfl) (h_tiles : kc.frozen .tiles = false := by first | with_reducible assumption | rfl) (h_out : kc.frozen .out = false := by first | with_reducible assumption | rfl) : Ok kc (State.flTelemetry s i ambient fflags verdict) := by
  unfold State.flTelemetry
  repeat' first
    | with_reducible assumption | with_reducible apply State.flDerate_ok | with_reducible apply State.flKick_ok
    | with_reducible apply State.flTileEval_ok | with_reducible apply State.flVerdict_ok | with_reducible apply State.setFlTile_ok
    | with_reducible apply foldl_ok | with_reducible apply foldl_ok1 | with_reducible apply foldl_ok2 | with_reducible apply ok_ite
    | intro _ | split | dsimp only | with_reducible apply okF | dsimp only [Ok]

theorem State.flDone_ok (s : State) (i : Nat) (c : TileCmd) (ok : Bool) (hk : Ok kc s) (h_fl : kc.frozen .fl = false := by first | with_reducible assumption | rfl) (h_ports : kc.frozen .ports = false := by first | with_reducible assumption | rfl) (h_tiles : kc.frozen .tiles = false := by first | with_reducible assumption | rfl) (h_out : kc.frozen .out = false := by first | with_reducible assumption | rfl) : Ok kc (State.flDone s i c ok) := by
  unfold State.flDone
  repeat' first
    | with_reducible assumption | with_reducible apply State.flDuty_ok | with_reducible apply State.flKick_ok
    | with_reducible apply State.flShorts_ok | with_reducible apply State.setFlTile_ok | with_reducible apply foldl_ok
    | with_reducible apply foldl_ok1 | with_reducible apply foldl_ok2 | with_reducible apply ok_ite | intro _ | split | dsimp only
    | with_reducible apply okF | dsimp only [Ok]


/-! ### Tf -/

theorem State.rxPort_ok (s : State) (p : Nat) (hk : Ok kc s) (h_regs : kc.frozen .regs = false := by first | with_reducible assumption | rfl) (h_hops : kc.frozen .hops = false := by first | with_reducible assumption | rfl) (h_bridges : kc.frozen .bridges = false := by first | with_reducible assumption | rfl) : Ok kc (State.rxPort s p) := by
  unfold State.rxPort
  repeat' first
    | with_reducible assumption | with_reducible apply State.received_ok | intro _ | split | dsimp only | with_reducible apply okF
    | dsimp only [Ok]

theorem execDriveRowSend_ok (port : Fin 32) (s : State) (hk : Ok kc s) (h_regs : kc.frozen .regs = false := by first | with_reducible assumption | rfl) (h_clk : kc.frozen .clk = false := by first | with_reducible assumption | rfl) (h_time : kc.frozen .time = false := by first | with_reducible assumption | rfl) (h_glb : kc.frozen .glb = false := by first | with_reducible assumption | rfl) (h_ports : kc.frozen .ports = false := by first | with_reducible assumption | rfl) (h_out : kc.frozen .out = false := by first | with_reducible assumption | rfl) : OkO kc (execDriveRowSend port s) := by
  unfold execDriveRowSend
  repeat' first
    | with_reducible assumption | with_reducible apply State.advanceTo_ok | with_reducible apply State.count_ok
    | with_reducible apply State.modPort_ok | with_reducible apply State.sendRow_ok | with_reducible apply State.setPort_ok
    | with_reducible apply okO_next | with_reducible apply okO_fault | with_reducible apply ok_ite | intro _ | split | dsimp only
    | with_reducible apply okF | dsimp only [Ok]

theorem State.sendFlip_ok (s : State) (p : Nat) (last : Bool) (hk : Ok kc s) (h_ports : kc.frozen .ports = false := by first | with_reducible assumption | rfl) (h_tiles : kc.frozen .tiles = false := by first | with_reducible assumption | rfl) (h_out : kc.frozen .out = false := by first | with_reducible assumption | rfl) : Ok kc (State.sendFlip s p last) := by
  unfold State.sendFlip
  repeat' first
    | with_reducible assumption | with_reducible apply State.modPort_ok | with_reducible apply State.modTile_ok
    | with_reducible apply State.sendDown_ok | with_reducible apply foldl_ok | with_reducible apply foldl_ok1
    | with_reducible apply foldl_ok2 | with_reducible apply ok_ite | intro _ | split | dsimp only | with_reducible apply okF
    | dsimp only [Ok]

theorem execFlipSend_ok (port : Fin 32) (s : State) (hk : Ok kc s) (h_ports : kc.frozen .ports = false := by first | with_reducible assumption | rfl) (h_tiles : kc.frozen .tiles = false := by first | with_reducible assumption | rfl) (h_out : kc.frozen .out = false := by first | with_reducible assumption | rfl) : OkO kc (execFlipSend port s) := by
  unfold execFlipSend
  repeat' first
    | with_reducible assumption | with_reducible apply State.sendFlip_ok | with_reducible apply okO_next
    | with_reducible apply okO_fault | with_reducible apply ok_ite | intro _ | split | dsimp only | with_reducible apply okF
    | dsimp only [Ok]

theorem execFlipCopySend_ok (port : Fin 32) (s : State) (hk : Ok kc s) (h_clk : kc.frozen .clk = false := by first | with_reducible assumption | rfl) (h_time : kc.frozen .time = false := by first | with_reducible assumption | rfl) (h_glb : kc.frozen .glb = false := by first | with_reducible assumption | rfl) (h_ports : kc.frozen .ports = false := by first | with_reducible assumption | rfl) (h_out : kc.frozen .out = false := by first | with_reducible assumption | rfl) : OkO kc (execFlipCopySend port s) := by
  unfold execFlipCopySend
  repeat' first
    | with_reducible assumption | with_reducible apply State.advanceTo_ok | with_reducible apply State.modPort_ok
    | with_reducible apply State.sendDown_ok | with_reducible apply okO_next | with_reducible apply okO_fault
    | with_reducible apply ok_ite | intro _ | split | dsimp only | with_reducible apply okF | dsimp only [Ok]

theorem execSeqMarkTimer_ok (port : Fin 32) (s : State) (hk : Ok kc s) (h_clk : kc.frozen .clk = false := by first | with_reducible assumption | rfl) (h_time : kc.frozen .time = false := by first | with_reducible assumption | rfl) (h_glb : kc.frozen .glb = false := by first | with_reducible assumption | rfl) (h_ports : kc.frozen .ports = false := by first | with_reducible assumption | rfl) (h_out : kc.frozen .out = false := by first | with_reducible assumption | rfl) : OkO kc (execSeqMarkTimer port s) := by
  unfold execSeqMarkTimer
  repeat' first
    | with_reducible assumption | with_reducible apply State.advanceTo_ok | with_reducible apply State.modPort_ok
    | with_reducible apply State.sendDown_ok | with_reducible apply okO_next | with_reducible apply okO_fault
    | with_reducible apply ok_ite | intro _ | split | dsimp only | with_reducible apply okF | dsimp only [Ok]

theorem State.journalOverflow_ok (s : State) (p : Nat) (hk : Ok kc s) (h_regs : kc.frozen .regs = false := by first | with_reducible assumption | rfl) (h_glb : kc.frozen .glb = false := by first | with_reducible assumption | rfl) (h_qm : kc.frozen .qm = false := by first | with_reducible assumption | rfl) (h_ports : kc.frozen .ports = false := by first | with_reducible assumption | rfl) (h_sch : kc.frozen .sch = false := by first | with_reducible assumption | rfl) (h_out : kc.frozen .out = false := by first | with_reducible assumption | rfl) : Ok kc (State.journalOverflow s p) := by
  unfold State.journalOverflow
  repeat' first
    | with_reducible assumption | with_reducible apply State.count_ok | with_reducible apply State.log_ok
    | with_reducible apply State.modPort_ok | with_reducible apply State.setPort_ok | with_reducible apply ok_ite | intro _ | split
    | dsimp only | with_reducible apply okF | with_reducible refine okF_sch (okF ?_) | dsimp only [Ok]

theorem State.resendRow_ok (s : State) (p : Nat) (r : SentRow) (hk : Ok kc s) (h_regs : kc.frozen .regs = false := by first | with_reducible assumption | rfl) (h_ports : kc.frozen .ports = false := by first | with_reducible assumption | rfl) (h_out : kc.frozen .out = false := by first | with_reducible assumption | rfl) : Ok kc (State.resendRow s p r) := by
  unfold State.resendRow
  repeat' first
    | with_reducible assumption | with_reducible apply State.count_ok | with_reducible apply State.modPort_ok
    | with_reducible apply State.sendRow_ok | with_reducible apply ok_ite | intro _ | split | dsimp only | with_reducible apply okF
    | dsimp only [Ok]

theorem State.nakOne_ok (s : State) (p pos q : Nat) (hk : Ok kc s) (h_regs : kc.frozen .regs = false := by first | with_reducible assumption | rfl) (h_glb : kc.frozen .glb = false := by first | with_reducible assumption | rfl) (h_qm : kc.frozen .qm = false := by first | with_reducible assumption | rfl) (h_ports : kc.frozen .ports = false := by first | with_reducible assumption | rfl) (h_sch : kc.frozen .sch = false := by first | with_reducible assumption | rfl) (h_out : kc.frozen .out = false := by first | with_reducible assumption | rfl) : Ok kc (State.nakOne s p pos q) := by
  unfold State.nakOne
  repeat' first
    | with_reducible assumption | with_reducible apply State.count_ok | with_reducible apply State.journalOverflow_ok
    | with_reducible apply State.resendRow_ok | with_reducible apply State.setPort_ok | with_reducible apply ok_ite | intro _
    | split | dsimp only | with_reducible apply okF | dsimp only [Ok]

theorem execRowNak_ok (port : Fin 32) (pos : BitVec 8) (first : BitVec 32) (count : BitVec 16) (s : State) (hk : Ok kc s) (h_regs : kc.frozen .regs = false := by first | with_reducible assumption | rfl) (h_glb : kc.frozen .glb = false := by first | with_reducible assumption | rfl) (h_qm : kc.frozen .qm = false := by first | with_reducible assumption | rfl) (h_ports : kc.frozen .ports = false := by first | with_reducible assumption | rfl) (h_hops : kc.frozen .hops = false := by first | with_reducible assumption | rfl) (h_bridges : kc.frozen .bridges = false := by first | with_reducible assumption | rfl) (h_sch : kc.frozen .sch = false := by first | with_reducible assumption | rfl) (h_out : kc.frozen .out = false := by first | with_reducible assumption | rfl) : OkO kc (execRowNak port pos first count s) := by
  unfold execRowNak
  repeat' first
    | with_reducible assumption | with_reducible apply State.nakOne_ok | with_reducible apply State.rxPort_ok
    | with_reducible apply okO_next | with_reducible apply okO_fault | with_reducible apply foldl_ok
    | with_reducible apply foldl_ok1 | with_reducible apply foldl_ok2 | intro _ | split | dsimp only | with_reducible apply okF
    | dsimp only [Ok]

theorem State.reported_ok (s : State) (p i n : Nat) (keep : List Nat) (hk : Ok kc s) (h_ports : kc.frozen .ports = false := by first | with_reducible assumption | rfl) (h_tiles : kc.frozen .tiles = false := by first | with_reducible assumption | rfl) : Ok kc (State.reported s p i n keep) := by
  unfold State.reported
  repeat' first
    | with_reducible assumption | with_reducible apply State.modPort_ok | with_reducible apply State.modTile_ok
    | with_reducible apply ok_ite | intro _ | split | dsimp only | with_reducible apply okF | dsimp only [Ok]

theorem execFrameReady_ok (port : Fin 32) (pos : BitVec 8) (wfn : BitVec 48) (s : State) (hk : Ok kc s) (h_regs : kc.frozen .regs = false := by first | with_reducible assumption | rfl) (h_ports : kc.frozen .ports = false := by first | with_reducible assumption | rfl) (h_tiles : kc.frozen .tiles = false := by first | with_reducible assumption | rfl) (h_hops : kc.frozen .hops = false := by first | with_reducible assumption | rfl) (h_bridges : kc.frozen .bridges = false := by first | with_reducible assumption | rfl) : OkO kc (execFrameReady port pos wfn s) := by
  unfold execFrameReady
  repeat' first
    | with_reducible assumption | with_reducible apply State.reported_ok | with_reducible apply State.rxPort_ok
    | with_reducible apply okO_next | with_reducible apply okO_fault | intro _ | split | dsimp only | with_reducible apply okF
    | dsimp only [Ok]

theorem execDropReport_ok (port : Fin 32) (report : DropReport) (s : State) (hk : Ok kc s) (h_regs : kc.frozen .regs = false := by first | with_reducible assumption | rfl) (h_ports : kc.frozen .ports = false := by first | with_reducible assumption | rfl) (h_tiles : kc.frozen .tiles = false := by first | with_reducible assumption | rfl) (h_hops : kc.frozen .hops = false := by first | with_reducible assumption | rfl) (h_bridges : kc.frozen .bridges = false := by first | with_reducible assumption | rfl) (h_wsa : kc.frozen .wsa = false := by first | with_reducible assumption | rfl) : OkO kc (execDropReport port report s) := by
  unfold execDropReport
  repeat' first
    | with_reducible assumption | with_reducible apply State.count_ok | with_reducible apply State.modTile_ok
    | with_reducible apply State.reported_ok | with_reducible apply State.rxPort_ok | with_reducible apply okO_next
    | with_reducible apply okO_fault | with_reducible apply ok_ite | intro _ | split | dsimp only | with_reducible apply okF
    | with_reducible refine okF_wsa (okF ?_) | dsimp only [Ok]

theorem execDegradedExit_ok (port : Fin 32) (s : State) (hk : Ok kc s) (h_ports : kc.frozen .ports = false := by first | with_reducible assumption | rfl) (h_sch : kc.frozen .sch = false := by first | with_reducible assumption | rfl) : OkO kc (execDegradedExit port s) := by
  unfold execDegradedExit
  repeat' first
    | with_reducible assumption | with_reducible apply State.setPort_ok | with_reducible apply okO_next
    | with_reducible apply okO_fault | with_reducible apply ok_ite | intro _ | split | dsimp only | with_reducible apply okF
    | with_reducible refine okF_sch (okF ?_) | dsimp only [Ok]

theorem State.bindDesc_ok (s : State) (p i : Nat) (d : DescPkt) (hk : Ok kc s) (h_regs : kc.frozen .regs = false := by first | with_reducible assumption | rfl) (h_glb : kc.frozen .glb = false := by first | with_reducible assumption | rfl) (h_qm : kc.frozen .qm = false := by first | with_reducible assumption | rfl) (h_tiles : kc.frozen .tiles = false := by first | with_reducible assumption | rfl) (h_film : kc.frozen .film = false := by first | with_reducible assumption | rfl) (h_sch : kc.frozen .sch = false := by first | with_reducible assumption | rfl) (h_out : kc.frozen .out = false := by first | with_reducible assumption | rfl) : Ok kc (State.bindDesc s p i d) := by
  unfold State.bindDesc
  repeat' first
    | with_reducible assumption | with_reducible apply State.loseTile_ok | with_reducible apply State.loseTileOn_ok
    | with_reducible apply State.modTile_ok | with_reducible apply State.setTile_ok | with_reducible apply ok_ite | intro _ | split
    | dsimp only | with_reducible apply okF | dsimp only [Ok]

theorem State.settleTile_ok (s : State) (p epoch pos i : Nat) (hk : Ok kc s) (h_regs : kc.frozen .regs = false := by first | with_reducible assumption | rfl) (h_glb : kc.frozen .glb = false := by first | with_reducible assumption | rfl) (h_qm : kc.frozen .qm = false := by first | with_reducible assumption | rfl) (h_tiles : kc.frozen .tiles = false := by first | with_reducible assumption | rfl) (h_film : kc.frozen .film = false := by first | with_reducible assumption | rfl) (h_sch : kc.frozen .sch = false := by first | with_reducible assumption | rfl) (h_out : kc.frozen .out = false := by first | with_reducible assumption | rfl) : Ok kc (State.settleTile s p epoch pos i) := by
  unfold State.settleTile
  repeat' first
    | with_reducible assumption | with_reducible apply State.loseTile_ok | with_reducible apply State.modTile_ok
    | with_reducible apply ok_ite | intro _ | split | dsimp only | with_reducible apply okF | dsimp only [Ok]

theorem execDesc_ok (port : Fin 32) (d : DescPkt) (s : State) (hk : Ok kc s) (h_regs : kc.frozen .regs = false := by first | with_reducible assumption | rfl) (h_glb : kc.frozen .glb = false := by first | with_reducible assumption | rfl) (h_qm : kc.frozen .qm = false := by first | with_reducible assumption | rfl) (h_ports : kc.frozen .ports = false := by first | with_reducible assumption | rfl) (h_tiles : kc.frozen .tiles = false := by first | with_reducible assumption | rfl) (h_hops : kc.frozen .hops = false := by first | with_reducible assumption | rfl) (h_bridges : kc.frozen .bridges = false := by first | with_reducible assumption | rfl) (h_film : kc.frozen .film = false := by first | with_reducible assumption | rfl) (h_sch : kc.frozen .sch = false := by first | with_reducible assumption | rfl) (h_out : kc.frozen .out = false := by first | with_reducible assumption | rfl) : OkO kc (execDesc port d s) := by
  unfold execDesc
  repeat' first
    | with_reducible assumption | with_reducible apply State.bindDesc_ok | with_reducible apply State.modPort_ok
    | with_reducible apply State.rxPort_ok | with_reducible apply State.settleTile_ok | with_reducible apply okO_next
    | with_reducible apply okO_fault | with_reducible apply ok_ite | intro _ | split | dsimp only | with_reducible apply okF
    | dsimp only [Ok]

theorem State.sendProbes_ok (s : State) (i n : Nat) (hk : Ok kc s) (h_ports : kc.frozen .ports = false := by first | with_reducible assumption | rfl) (h_tiles : kc.frozen .tiles = false := by first | with_reducible assumption | rfl) (h_out : kc.frozen .out = false := by first | with_reducible assumption | rfl) : Ok kc (State.sendProbes s i n) := by
  unfold State.sendProbes
  repeat' first
    | with_reducible assumption | with_reducible apply State.modPort_ok | with_reducible apply State.sendDown_ok
    | with_reducible apply State.setTile_ok | with_reducible apply foldl_ok | with_reducible apply foldl_ok1
    | with_reducible apply foldl_ok2 | intro _ | split | dsimp only | with_reducible apply okF | dsimp only [Ok]

theorem State.closeEnum_ok (s : State) (p : Nat) (run : EnumRun) (hk : Ok kc s) (h_regs : kc.frozen .regs = false := by first | with_reducible assumption | rfl) (h_glb : kc.frozen .glb = false := by first | with_reducible assumption | rfl) (h_qm : kc.frozen .qm = false := by first | with_reducible assumption | rfl) (h_ports : kc.frozen .ports = false := by first | with_reducible assumption | rfl) (h_tiles : kc.frozen .tiles = false := by first | with_reducible assumption | rfl) (h_film : kc.frozen .film = false := by first | with_reducible assumption | rfl) (h_sch : kc.frozen .sch = false := by first | with_reducible assumption | rfl) (h_out : kc.frozen .out = false := by first | with_reducible assumption | rfl) : Ok kc (State.closeEnum s p run) := by
  unfold State.closeEnum
  repeat' first
    | with_reducible assumption | with_reducible apply State.loseTile_ok | with_reducible apply State.modPort_ok
    | with_reducible apply State.modTile_ok | with_reducible apply State.sendProbes_ok | with_reducible apply foldl_ok
    | with_reducible apply foldl_ok1 | with_reducible apply foldl_ok2 | with_reducible apply ok_ite | intro _ | split | dsimp only
    | with_reducible apply okF | dsimp only [Ok]

theorem execEnumWaitExpire_ok (port : Fin 32) (s : State) (hk : Ok kc s) (h_regs : kc.frozen .regs = false := by first | with_reducible assumption | rfl) (h_clk : kc.frozen .clk = false := by first | with_reducible assumption | rfl) (h_time : kc.frozen .time = false := by first | with_reducible assumption | rfl) (h_glb : kc.frozen .glb = false := by first | with_reducible assumption | rfl) (h_qm : kc.frozen .qm = false := by first | with_reducible assumption | rfl) (h_ports : kc.frozen .ports = false := by first | with_reducible assumption | rfl) (h_tiles : kc.frozen .tiles = false := by first | with_reducible assumption | rfl) (h_film : kc.frozen .film = false := by first | with_reducible assumption | rfl) (h_sch : kc.frozen .sch = false := by first | with_reducible assumption | rfl) (h_out : kc.frozen .out = false := by first | with_reducible assumption | rfl) : OkO kc (execEnumWaitExpire port s) := by
  unfold execEnumWaitExpire
  repeat' first
    | with_reducible assumption | with_reducible apply State.advanceTo_ok | with_reducible apply State.closeEnum_ok
    | with_reducible apply State.modPort_ok | with_reducible apply State.settleTile_ok | with_reducible apply State.startEnum_ok
    | with_reducible apply okO_next | with_reducible apply okO_fault | with_reducible apply foldl_ok
    | with_reducible apply foldl_ok1 | with_reducible apply foldl_ok2 | with_reducible apply ok_ite | intro _ | split | dsimp only
    | with_reducible apply okF | dsimp only [Ok]

theorem execEnumLoopArrival_ok (port : Fin 32) (hop : BitVec 8) (epoch : BitVec 32) (s : State) (hk : Ok kc s) (h_regs : kc.frozen .regs = false := by first | with_reducible assumption | rfl) (h_ports : kc.frozen .ports = false := by first | with_reducible assumption | rfl) (h_hops : kc.frozen .hops = false := by first | with_reducible assumption | rfl) (h_bridges : kc.frozen .bridges = false := by first | with_reducible assumption | rfl) : OkO kc (execEnumLoopArrival port hop epoch s) := by
  unfold execEnumLoopArrival
  repeat' first
    | with_reducible assumption | with_reducible apply State.modPort_ok | with_reducible apply State.rxPort_ok
    | with_reducible apply okO_next | with_reducible apply okO_fault | with_reducible apply ok_ite | intro _ | split | dsimp only
    | with_reducible apply okF | dsimp only [Ok]

theorem State.sendDelaySet_ok (s : State) (i : Nat) (d : Int) (hk : Ok kc s) (h_regs : kc.frozen .regs = false := by first | with_reducible assumption | rfl) (h_glb : kc.frozen .glb = false := by first | with_reducible assumption | rfl) (h_qm : kc.frozen .qm = false := by first | with_reducible assumption | rfl) (h_ports : kc.frozen .ports = false := by first | with_reducible assumption | rfl) (h_tiles : kc.frozen .tiles = false := by first | with_reducible assumption | rfl) (h_out : kc.frozen .out = false := by first | with_reducible assumption | rfl) : Ok kc (State.sendDelaySet s i d) := by
  unfold State.sendDelaySet
  repeat' first
    | with_reducible assumption | with_reducible apply State.draw_ok | with_reducible apply State.log_ok
    | with_reducible apply State.sendDown_ok | with_reducible apply State.setTile_ok | with_reducible apply ok_ite | intro _
    | split | dsimp only | with_reducible apply okF | dsimp only [Ok]

theorem execDelayResp_ok (port : Fin 32) (pos : BitVec 8) (probeId turn resid : BitVec 32) (tTx tRx : Nat) (s : State) (hk : Ok kc s) (h_regs : kc.frozen .regs = false := by first | with_reducible assumption | rfl) (h_glb : kc.frozen .glb = false := by first | with_reducible assumption | rfl) (h_qm : kc.frozen .qm = false := by first | with_reducible assumption | rfl) (h_fl : kc.frozen .fl = false := by first | with_reducible assumption | rfl) (h_ports : kc.frozen .ports = false := by first | with_reducible assumption | rfl) (h_tiles : kc.frozen .tiles = false := by first | with_reducible assumption | rfl) (h_hops : kc.frozen .hops = false := by first | with_reducible assumption | rfl) (h_bridges : kc.frozen .bridges = false := by first | with_reducible assumption | rfl) (h_sch : kc.frozen .sch = false := by first | with_reducible assumption | rfl) (h_out : kc.frozen .out = false := by first | with_reducible assumption | rfl) : OkO kc (execDelayResp port pos probeId turn resid tTx tRx s) := by
  unfold execDelayResp
  repeat' first
    | with_reducible assumption | with_reducible apply State.bump_ok | with_reducible apply State.modTile_ok
    | with_reducible apply State.rxPort_ok | with_reducible apply State.sendDelaySet_ok | with_reducible apply State.setTile_ok
    | with_reducible apply State.tryUp_ok | with_reducible apply okO_next | with_reducible apply okO_fault
    | with_reducible apply foldl_ok | with_reducible apply foldl_ok1 | with_reducible apply foldl_ok2 | with_reducible apply ok_ite
    | intro _ | split | dsimp only | with_reducible apply okF | dsimp only [Ok]

theorem execDelayProbePeriod_ok (tile : Fin 1024) (s : State) (hk : Ok kc s) (h_ports : kc.frozen .ports = false := by first | with_reducible assumption | rfl) (h_tiles : kc.frozen .tiles = false := by first | with_reducible assumption | rfl) (h_out : kc.frozen .out = false := by first | with_reducible assumption | rfl) : OkO kc (execDelayProbePeriod tile s) := by
  unfold execDelayProbePeriod
  repeat' first
    | with_reducible assumption | with_reducible apply State.sendProbes_ok | with_reducible apply okO_next
    | with_reducible apply okO_fault | with_reducible apply ok_ite | intro _ | split | dsimp only | with_reducible apply okF
    | dsimp only [Ok]

theorem execHopDown_ok (port : Fin 32) (pos : BitVec 8) (upstream : Bool) (s : State) (hk : Ok kc s) (h_regs : kc.frozen .regs = false := by first | with_reducible assumption | rfl) (h_glb : kc.frozen .glb = false := by first | with_reducible assumption | rfl) (h_qm : kc.frozen .qm = false := by first | with_reducible assumption | rfl) (h_ports : kc.frozen .ports = false := by first | with_reducible assumption | rfl) (h_tiles : kc.frozen .tiles = false := by first | with_reducible assumption | rfl) (h_hops : kc.frozen .hops = false := by first | with_reducible assumption | rfl) (h_bridges : kc.frozen .bridges = false := by first | with_reducible assumption | rfl) (h_film : kc.frozen .film = false := by first | with_reducible assumption | rfl) (h_sch : kc.frozen .sch = false := by first | with_reducible assumption | rfl) (h_out : kc.frozen .out = false := by first | with_reducible assumption | rfl) : OkO kc (execHopDown port pos upstream s) := by
  unfold execHopDown
  repeat' first
    | with_reducible assumption | with_reducible apply State.count_ok | with_reducible apply State.cutDomain_ok
    | with_reducible apply State.noteBreak_ok | with_reducible apply State.rxPort_ok | with_reducible apply okO_next
    | with_reducible apply okO_fault | with_reducible apply ok_ite | intro _ | split | dsimp only | with_reducible apply okF
    | dsimp only [Ok]

theorem State.tfGuard_ok (s : State) (hk : Ok kc s) (h_regs : kc.frozen .regs = false := by first | with_reducible assumption | rfl) (h_glb : kc.frozen .glb = false := by first | with_reducible assumption | rfl) (h_qm : kc.frozen .qm = false := by first | with_reducible assumption | rfl) (h_ports : kc.frozen .ports = false := by first | with_reducible assumption | rfl) (h_tiles : kc.frozen .tiles = false := by first | with_reducible assumption | rfl) (h_film : kc.frozen .film = false := by first | with_reducible assumption | rfl) (h_sch : kc.frozen .sch = false := by first | with_reducible assumption | rfl) (h_out : kc.frozen .out = false := by first | with_reducible assumption | rfl) : Ok kc (State.tfGuard s) := by
  unfold State.tfGuard
  repeat' first
    | with_reducible assumption | with_reducible apply State.count_ok | with_reducible apply State.loseTile_ok
    | with_reducible apply State.modPort_ok | with_reducible apply State.startEnum_ok | with_reducible apply foldl_ok
    | with_reducible apply foldl_ok1 | with_reducible apply foldl_ok2 | with_reducible apply ok_ite | intro _ | split | dsimp only
    | with_reducible apply okF | dsimp only [Ok]

theorem State.tfFlip_ok (s : State) (hk : Ok kc s) (h_ports : kc.frozen .ports = false := by first | with_reducible assumption | rfl) (h_out : kc.frozen .out = false := by first | with_reducible assumption | rfl) : Ok kc (State.tfFlip s) := by
  unfold State.tfFlip
  repeat' first
    | with_reducible assumption | with_reducible apply State.reEnumerate_ok | with_reducible apply State.setPort_ok
    | with_reducible apply foldl_ok | with_reducible apply foldl_ok1 | with_reducible apply foldl_ok2 | with_reducible apply ok_ite
    | intro _ | split | dsimp only | with_reducible apply okF | dsimp only [Ok]

theorem State.portEnable_ok (s : State) (p : Nat) (enable : Bool) (hk : Ok kc s) (h_regs : kc.frozen .regs = false := by first | with_reducible assumption | rfl) (h_glb : kc.frozen .glb = false := by first | with_reducible assumption | rfl) (h_qm : kc.frozen .qm = false := by first | with_reducible assumption | rfl) (h_ports : kc.frozen .ports = false := by first | with_reducible assumption | rfl) (h_tiles : kc.frozen .tiles = false := by first | with_reducible assumption | rfl) (h_hops : kc.frozen .hops = false := by first | with_reducible assumption | rfl) (h_film : kc.frozen .film = false := by first | with_reducible assumption | rfl) (h_sch : kc.frozen .sch = false := by first | with_reducible assumption | rfl) (h_out : kc.frozen .out = false := by first | with_reducible assumption | rfl) : Ok kc (State.portEnable s p enable) := by
  unfold State.portEnable
  repeat' first
    | with_reducible assumption | with_reducible apply State.modPort_ok | with_reducible apply State.portHopDown_ok
    | with_reducible apply State.setHop_ok | with_reducible apply ok_ite | intro _ | split | dsimp only | with_reducible apply okF
    | dsimp only [Ok]

theorem execTfPctrlEnable_ok (port : Fin 32) (enable : Bool) (s : State) (hk : Ok kc s) (h_regs : kc.frozen .regs = false := by first | with_reducible assumption | rfl) (h_glb : kc.frozen .glb = false := by first | with_reducible assumption | rfl) (h_qm : kc.frozen .qm = false := by first | with_reducible assumption | rfl) (h_ports : kc.frozen .ports = false := by first | with_reducible assumption | rfl) (h_tiles : kc.frozen .tiles = false := by first | with_reducible assumption | rfl) (h_hops : kc.frozen .hops = false := by first | with_reducible assumption | rfl) (h_film : kc.frozen .film = false := by first | with_reducible assumption | rfl) (h_sch : kc.frozen .sch = false := by first | with_reducible assumption | rfl) (h_out : kc.frozen .out = false := by first | with_reducible assumption | rfl) : OkO kc (execTfPctrlEnable port enable s) := by
  unfold execTfPctrlEnable
  repeat' first
    | with_reducible assumption | with_reducible apply State.portEnable_ok | with_reducible apply State.whenReady_ok
    | with_reducible apply okO_next | with_reducible apply okO_fault | intro _ | split | dsimp only | with_reducible apply okF
    | dsimp only [Ok]

theorem execTfPctrlEnum_ok (port : Fin 32) (s : State) (hk : Ok kc s) (h_ports : kc.frozen .ports = false := by first | with_reducible assumption | rfl) (h_out : kc.frozen .out = false := by first | with_reducible assumption | rfl) : OkO kc (execTfPctrlEnum port s) := by
  unfold execTfPctrlEnum
  repeat' first
    | with_reducible assumption | with_reducible apply State.enumerate_ok | with_reducible apply State.whenReady_ok
    | with_reducible apply okO_next | with_reducible apply okO_fault | intro _ | split | dsimp only | with_reducible apply okF
    | dsimp only [Ok]

theorem State.forgetPort_ok (s : State) (p : Nat) (hk : Ok kc s) (h_tiles : kc.frozen .tiles = false := by first | with_reducible assumption | rfl) : Ok kc (State.forgetPort s p) := by
  unfold State.forgetPort
  repeat' first
    | with_reducible assumption | with_reducible apply State.modTile_ok | with_reducible apply foldl_ok
    | with_reducible apply foldl_ok1 | with_reducible apply foldl_ok2 | with_reducible apply ok_ite | intro _ | split | dsimp only
    | with_reducible apply okF | dsimp only [Ok]

theorem execTfPctrlForget_ok (port : Fin 32) (s : State) (hk : Ok kc s) (h_tiles : kc.frozen .tiles = false := by first | with_reducible assumption | rfl) : OkO kc (execTfPctrlForget port s) := by
  unfold execTfPctrlForget
  repeat' first
    | with_reducible assumption | with_reducible apply State.forgetPort_ok | with_reducible apply State.whenReady_ok
    | with_reducible apply okO_next | with_reducible apply okO_fault | intro _ | split | dsimp only | with_reducible apply okF
    | dsimp only [Ok]

theorem State.acceptTile_ok (s : State) (i : Nat) (hk : Ok kc s) (h_fl : kc.frozen .fl = false := by first | with_reducible assumption | rfl) (h_ports : kc.frozen .ports = false := by first | with_reducible assumption | rfl) (h_tiles : kc.frozen .tiles = false := by first | with_reducible assumption | rfl) (h_sch : kc.frozen .sch = false := by first | with_reducible assumption | rfl) (h_out : kc.frozen .out = false := by first | with_reducible assumption | rfl) : Ok kc (State.acceptTile s i) := by
  unfold State.acceptTile
  repeat' first
    | with_reducible assumption | with_reducible apply State.setTile_ok | with_reducible apply State.tryUp_ok
    | with_reducible apply ok_ite | intro _ | split | dsimp only | with_reducible apply okF | dsimp only [Ok]

theorem execTfTslotAccept_ok (port : Fin 32) (slot : Fin 32) (s : State) (hk : Ok kc s) (h_fl : kc.frozen .fl = false := by first | with_reducible assumption | rfl) (h_ports : kc.frozen .ports = false := by first | with_reducible assumption | rfl) (h_tiles : kc.frozen .tiles = false := by first | with_reducible assumption | rfl) (h_sch : kc.frozen .sch = false := by first | with_reducible assumption | rfl) (h_out : kc.frozen .out = false := by first | with_reducible assumption | rfl) : OkO kc (execTfTslotAccept port slot s) := by
  unfold execTfTslotAccept
  repeat' first
    | with_reducible assumption | with_reducible apply State.acceptTile_ok | with_reducible apply State.whenReady_ok
    | with_reducible apply okO_next | with_reducible apply okO_fault | intro _ | split | dsimp only | with_reducible apply okF
    | dsimp only [Ok]

theorem State.completeTile_ok (s : State) (i : Nat) (c : TileCmd) (status tstatus : Nat) (data : List Byte) (dma : HostDma) (hk : Ok kc s) (h_regs : kc.frozen .regs = false := by first | with_reducible assumption | rfl) (h_glb : kc.frozen .glb = false := by first | with_reducible assumption | rfl) (h_qm : kc.frozen .qm = false := by first | with_reducible assumption | rfl) (h_fl : kc.frozen .fl = false := by first | with_reducible assumption | rfl) (h_ports : kc.frozen .ports = false := by first | with_reducible assumption | rfl) (h_tiles : kc.frozen .tiles = false := by first | with_reducible assumption | rfl) (h_out : kc.frozen .out = false := by first | with_reducible assumption | rfl) : Ok kc (State.completeTile s i c status tstatus data dma) := by
  unfold State.completeTile
  repeat' first
    | with_reducible assumption | with_reducible apply State.count_ok | with_reducible apply State.dmaErr_ok
    | with_reducible apply State.emit_ok | with_reducible apply State.flDone_ok | with_reducible apply State.postTileRsp_ok
    | with_reducible apply ok_ite | intro _ | split | dsimp only | with_reducible apply okF | dsimp only [Ok]

theorem execTileRsp_ok (port : Fin 32) (pos : BitVec 8) (tag : BitVec 16) (tstatus : BitVec 8) (data : List Byte) (dma : HostDma) (s : State) (hk : Ok kc s) (h_regs : kc.frozen .regs = false := by first | with_reducible assumption | rfl) (h_glb : kc.frozen .glb = false := by first | with_reducible assumption | rfl) (h_qm : kc.frozen .qm = false := by first | with_reducible assumption | rfl) (h_fl : kc.frozen .fl = false := by first | with_reducible assumption | rfl) (h_ports : kc.frozen .ports = false := by first | with_reducible assumption | rfl) (h_tiles : kc.frozen .tiles = false := by first | with_reducible assumption | rfl) (h_hops : kc.frozen .hops = false := by first | with_reducible assumption | rfl) (h_bridges : kc.frozen .bridges = false := by first | with_reducible assumption | rfl) (h_out : kc.frozen .out = false := by first | with_reducible assumption | rfl) : OkO kc (execTileRsp port pos tag tstatus data dma s) := by
  unfold execTileRsp
  repeat' first
    | with_reducible assumption | with_reducible apply State.completeTile_ok | with_reducible apply State.modTile_ok
    | with_reducible apply State.rxPort_ok | with_reducible apply okO_next | with_reducible apply okO_fault | intro _ | split
    | dsimp only | with_reducible apply okF | dsimp only [Ok]

theorem execTileCmdTimeout_ok (tile : Fin 1024) (tag : BitVec 16) (s : State) (hk : Ok kc s) (h_regs : kc.frozen .regs = false := by first | with_reducible assumption | rfl) (h_clk : kc.frozen .clk = false := by first | with_reducible assumption | rfl) (h_time : kc.frozen .time = false := by first | with_reducible assumption | rfl) (h_glb : kc.frozen .glb = false := by first | with_reducible assumption | rfl) (h_qm : kc.frozen .qm = false := by first | with_reducible assumption | rfl) (h_fl : kc.frozen .fl = false := by first | with_reducible assumption | rfl) (h_ports : kc.frozen .ports = false := by first | with_reducible assumption | rfl) (h_tiles : kc.frozen .tiles = false := by first | with_reducible assumption | rfl) (h_out : kc.frozen .out = false := by first | with_reducible assumption | rfl) : OkO kc (execTileCmdTimeout tile tag s) := by
  unfold execTileCmdTimeout
  repeat' first
    | with_reducible assumption | with_reducible apply State.advanceTo_ok | with_reducible apply State.completeTile_ok
    | with_reducible apply State.sendDown_ok | with_reducible apply State.setTile_ok | with_reducible apply okO_next
    | with_reducible apply okO_fault | with_reducible apply ok_ite | intro _ | split | dsimp only | with_reducible apply okF
    | dsimp only [Ok]

theorem State.takeTileCmd_ok (s : State) (i : Nat) (b : List Byte) (hk : Ok kc s) (h_regs : kc.frozen .regs = false := by first | with_reducible assumption | rfl) (h_glb : kc.frozen .glb = false := by first | with_reducible assumption | rfl) (h_qm : kc.frozen .qm = false := by first | with_reducible assumption | rfl) (h_fl : kc.frozen .fl = false := by first | with_reducible assumption | rfl) (h_ports : kc.frozen .ports = false := by first | with_reducible assumption | rfl) (h_tiles : kc.frozen .tiles = false := by first | with_reducible assumption | rfl) (h_out : kc.frozen .out = false := by first | with_reducible assumption | rfl) : Ok kc (State.takeTileCmd s i b) := by
  unfold State.takeTileCmd
  repeat' first
    | with_reducible assumption | with_reducible apply State.completeTile_ok | with_reducible apply State.issueCmd_ok
    | with_reducible apply ok_ite | intro _ | split | dsimp only | with_reducible apply okF | dsimp only [Ok]

theorem execTileCmdFetch_ok (tile : Fin 1024) (host : HostDma) (s : State) (hk : Ok kc s) (h_regs : kc.frozen .regs = false := by first | with_reducible assumption | rfl) (h_glb : kc.frozen .glb = false := by first | with_reducible assumption | rfl) (h_qm : kc.frozen .qm = false := by first | with_reducible assumption | rfl) (h_fl : kc.frozen .fl = false := by first | with_reducible assumption | rfl) (h_ports : kc.frozen .ports = false := by first | with_reducible assumption | rfl) (h_tiles : kc.frozen .tiles = false := by first | with_reducible assumption | rfl) (h_out : kc.frozen .out = false := by first | with_reducible assumption | rfl) : OkO kc (execTileCmdFetch tile host s) := by
  unfold execTileCmdFetch
  repeat' first
    | with_reducible assumption | with_reducible apply State.dmaErr_ok | with_reducible apply State.log_ok
    | with_reducible apply State.setRing_ok | with_reducible apply State.takeTileCmd_ok | with_reducible apply okO_next
    | with_reducible apply okO_fault | with_reducible apply ok_ite | intro _ | split | dsimp only | with_reducible apply okF
    | dsimp only [Ok]

theorem execTelemetry_ok (port : Fin 32) (t : Telem) (s : State) (hk : Ok kc s) (h_regs : kc.frozen .regs = false := by first | with_reducible assumption | rfl) (h_glb : kc.frozen .glb = false := by first | with_reducible assumption | rfl) (h_qm : kc.frozen .qm = false := by first | with_reducible assumption | rfl) (h_fl : kc.frozen .fl = false := by first | with_reducible assumption | rfl) (h_ports : kc.frozen .ports = false := by first | with_reducible assumption | rfl) (h_tiles : kc.frozen .tiles = false := by first | with_reducible assumption | rfl) (h_hops : kc.frozen .hops = false := by first | with_reducible assumption | rfl) (h_bridges : kc.frozen .bridges = false := by first | with_reducible assumption | rfl) (h_out : kc.frozen .out = false := by first | with_reducible assumption | rfl) : OkO kc (execTelemetry port t s) := by
  unfold execTelemetry
  repeat' first
    | with_reducible assumption | with_reducible apply State.flTelemetry_ok | with_reducible apply State.postTelemetry_ok
    | with_reducible apply State.rxPort_ok | with_reducible apply State.setTile_ok | with_reducible apply okO_next
    | with_reducible apply okO_fault | with_reducible apply ok_ite | intro _ | split | dsimp only | with_reducible apply okF
    | dsimp only [Ok]


/-! ### Stop -/

theorem State.stopDrive_ok (s : State) (hk : Ok kc s) (h_pwr : kc.frozen .pwr = false := by first | with_reducible assumption | rfl) (h_ports : kc.frozen .ports = false := by first | with_reducible assumption | rfl) (h_tiles : kc.frozen .tiles = false := by first | with_reducible assumption | rfl) (h_wsa : kc.frozen .wsa = false := by first | with_reducible assumption | rfl) (h_mp : kc.frozen .mp = false := by first | with_reducible assumption | rfl) (h_out : kc.frozen .out = false := by first | with_reducible assumption | rfl) : Ok kc (State.stopDrive s) := by
  unfold State.stopDrive
  repeat' first
    | with_reducible assumption | with_reducible apply State.sendFlip_ok | with_reducible apply foldl_ok
    | with_reducible apply foldl_ok1 | with_reducible apply foldl_ok2 | with_reducible apply ok_ite | intro _ | split | dsimp only
    | with_reducible apply okF | with_reducible refine okF_pwr (okF_wsa (okF_mp (okF ?_))) | dsimp only [Ok]

theorem State.odoRequest_ok (s : State) (reason : Nat) (hk : Ok kc s) (h_glb : kc.frozen .glb = false := by first | with_reducible assumption | rfl) : Ok kc (State.odoRequest s reason) := by
  unfold State.odoRequest
  repeat' first
    | with_reducible assumption | with_reducible apply ok_ite | intro _ | split | dsimp only | with_reducible apply okF
    | with_reducible refine okF_glb (okF ?_) | dsimp only [Ok]

theorem State.startCapture_ok (s : State) (cause arg : Nat) (hk : Ok kc s) (h_glb : kc.frozen .glb = false := by first | with_reducible assumption | rfl) : Ok kc (State.startCapture s cause arg) := by
  unfold State.startCapture
  repeat' first
    | with_reducible assumption | intro _ | split | dsimp only | with_reducible apply okF | with_reducible refine okF_glb (okF ?_)
    | dsimp only [Ok]

theorem State.countStrike_ok (s : State) (cause : Nat) (hk : Ok kc s) (h_glb : kc.frozen .glb = false := by first | with_reducible assumption | rfl) : Ok kc (State.countStrike s cause) := by
  unfold State.countStrike
  repeat' first
    | with_reducible assumption | with_reducible apply ok_ite | intro _ | split | dsimp only | with_reducible apply okF
    | with_reducible refine okF_glb (okF ?_) | dsimp only [Ok]

theorem State.beginReset_ok (s : State) (cause arg : Nat) (hk : Ok kc s) (h_glb : kc.frozen .glb = false := by first | with_reducible assumption | rfl) (h_pwr : kc.frozen .pwr = false := by first | with_reducible assumption | rfl) (h_ports : kc.frozen .ports = false := by first | with_reducible assumption | rfl) (h_tiles : kc.frozen .tiles = false := by first | with_reducible assumption | rfl) (h_wsa : kc.frozen .wsa = false := by first | with_reducible assumption | rfl) (h_mp : kc.frozen .mp = false := by first | with_reducible assumption | rfl) (h_out : kc.frozen .out = false := by first | with_reducible assumption | rfl) : Ok kc (State.beginReset s cause arg) := by
  unfold State.beginReset
  repeat' first
    | with_reducible assumption | with_reducible apply State.countStrike_ok | with_reducible apply State.odoRequest_ok
    | with_reducible apply State.startCapture_ok | with_reducible apply State.stopDrive_ok | with_reducible apply ok_ite | intro _
    | split | dsimp only | with_reducible apply okF | with_reducible refine okF_glb (okF ?_) | dsimp only [Ok]


end Sys2Proof.Machine
end

