-- ==== Sys2Proof/Laws/KeepWsa.lean ====
section
/-! SUPPORT. What the operations and commands of waveform synthesis, the rails, opcodes and power keep (Laws/KeepBase.lean). -/

namespace Sys2Proof.Machine

set_option Elab.async false
set_option linter.all false

variable {kc : KeepCtx}

/-! ### Wsa -/

theorem State.addCharge_ok (s : State) (g role amount : Nat) (session : Option Nat) (hk : Ok kc s) (h_wsa : kc.frozen .wsa = false := by first | with_reducible assumption | rfl) : Ok kc (State.addCharge s g role amount session) := by
  unfold State.addCharge
  repeat' first
    | with_reducible assumption | intro _ | split | dsimp only | with_reducible apply okF | with_reducible refine okF_wsa (okF ?_)
    | dsimp only [Ok]

theorem State.chargeCode_ok (s : State) (i : Nat) (p : Pkg) (c session : Nat) (hk : Ok kc s) (h_wsa : kc.frozen .wsa = false := by first | with_reducible assumption | rfl) : Ok kc (State.chargeCode s i p c session) := by
  unfold State.chargeCode
  repeat' first
    | with_reducible assumption | with_reducible apply State.addCharge_ok | with_reducible apply ok_ite | intro _ | split
    | dsimp only | with_reducible apply okF | dsimp only [Ok]

theorem State.chargeGate_ok (s : State) (i : Nat) (hk : Ok kc s) (h_wsa : kc.frozen .wsa = false := by first | with_reducible assumption | rfl) : Ok kc (State.chargeGate s i) := by
  unfold State.chargeGate
  repeat' first
    | with_reducible assumption | with_reducible apply State.addCharge_ok | with_reducible apply ok_ite | intro _ | split
    | dsimp only | with_reducible apply okF | with_reducible refine okF_wsa (okF ?_) | dsimp only [Ok]

theorem State.noteAge_ok (s : State) (i a : Nat) (hk : Ok kc s) (h_sch : kc.frozen .sch = false := by first | with_reducible assumption | rfl) : Ok kc (State.noteAge s i a) := by
  unfold State.noteAge
  repeat' first
    | with_reducible assumption | intro _ | split | dsimp only | with_reducible apply okF | with_reducible refine okF_sch (okF ?_)
    | dsimp only [Ok]

theorem State.tickPixel_ok (s : State) (i y x : Nat) (t now : Nat) (hk : Ok kc s) (h_film : kc.frozen .film = false := by first | with_reducible assumption | rfl) (h_sch : kc.frozen .sch = false := by first | with_reducible assumption | rfl) : Ok kc (State.tickPixel s i y x t now) := by
  unfold State.tickPixel
  repeat' first
    | with_reducible assumption | with_reducible apply State.noteAge_ok | with_reducible apply State.setPsr_ok
    | with_reducible apply ok_ite | intro _ | split | dsimp only | with_reducible apply okF | dsimp only [Ok]

theorem State.tickSegment_ok (s : State) (i y g : Nat) (hk : Ok kc s) (h_film : kc.frozen .film = false := by first | with_reducible assumption | rfl) (h_sch : kc.frozen .sch = false := by first | with_reducible assumption | rfl) : Ok kc (State.tickSegment s i y g) := by
  unfold State.tickSegment
  repeat' first
    | with_reducible assumption | with_reducible apply State.markTicked_ok | with_reducible apply State.tickPixel_ok
    | with_reducible apply foldl_ok | with_reducible apply foldl_ok1 | with_reducible apply foldl_ok2 | with_reducible apply ok_ite
    | intro _ | split | dsimp only | with_reducible apply okF | dsimp only [Ok]

theorem State.releaseRow_ok (s : State) (c i y : Nat) (segs : List Nat) (a : RowAcc) (hk : Ok kc s) (h_ports : kc.frozen .ports = false := by first | with_reducible assumption | rfl) (h_wsa : kc.frozen .wsa = false := by first | with_reducible assumption | rfl) : Ok kc (State.releaseRow s c i y segs a) := by
  unfold State.releaseRow
  repeat' first
    | with_reducible assumption | with_reducible apply State.chargeGate_ok | with_reducible apply State.modPort_ok
    | with_reducible apply State.setCluster_ok | intro _ | split | dsimp only | with_reducible apply okF | dsimp only [Ok]

theorem State.noteDone_ok (s : State) (key session kind code : Nat) (hk : Ok kc s) (h_wsa : kc.frozen .wsa = false := by first | with_reducible assumption | rfl) : Ok kc (State.noteDone s key session kind code) := by
  unfold State.noteDone
  repeat' first
    | with_reducible assumption | intro _ | split | dsimp only | with_reducible apply okF | with_reducible refine okF_wsa (okF ?_)
    | dsimp only [Ok]

theorem State.countOut_ok (s : State) (i x y session : Nat) (r : PixRes) (est : Bool) (hk : Ok kc s) (h_regs : kc.frozen .regs = false := by first | with_reducible assumption | rfl) (h_tiles : kc.frozen .tiles = false := by first | with_reducible assumption | rfl) (h_wsa : kc.frozen .wsa = false := by first | with_reducible assumption | rfl) (h_sch : kc.frozen .sch = false := by first | with_reducible assumption | rfl) : Ok kc (State.countOut s i x y session r est) := by
  unfold State.countOut
  repeat' first
    | with_reducible assumption | with_reducible apply State.count_ok | with_reducible apply State.flagUnknown_ok
    | with_reducible apply State.noteDone_ok | with_reducible apply ok_ite | intro _ | split | dsimp only
    | with_reducible apply okF | with_reducible refine okF_wsa (okF_sch (okF ?_)) | dsimp only [Ok]

theorem State.noteReplaced_ok (s : State) (key : Nat) (r : PixRes) (leveling last : Bool) (hk : Ok kc s) (h_wsa : kc.frozen .wsa = false := by first | with_reducible assumption | rfl) : Ok kc (State.noteReplaced s key r leveling last) := by
  unfold State.noteReplaced
  repeat' first
    | with_reducible assumption | with_reducible apply ok_ite | intro _ | split | dsimp only | with_reducible apply okF
    | with_reducible refine okF_wsa (okF ?_) | dsimp only [Ok]

theorem State.evalAt_ok (s : State) (i x y : Nat) (p : Pkg) (hk : Ok kc s) (h_regs : kc.frozen .regs = false := by first | with_reducible assumption | rfl) (h_tiles : kc.frozen .tiles = false := by first | with_reducible assumption | rfl) (h_film : kc.frozen .film = false := by first | with_reducible assumption | rfl) (h_wsa : kc.frozen .wsa = false := by first | with_reducible assumption | rfl) (h_sch : kc.frozen .sch = false := by first | with_reducible assumption | rfl) : Ok kc (State.evalAt s i x y p).1 := by
  unfold State.evalAt
  repeat' first
    | with_reducible assumption | with_reducible apply State.chargeCode_ok | with_reducible apply State.countOut_ok
    | with_reducible apply State.noteReplaced_ok | with_reducible apply State.setPsr_ok | with_reducible apply ok_ite | intro _
    | split | dsimp only | with_reducible apply okF | dsimp only [Ok]

theorem State.noteEst_ok (s : State) (i : Nat) (hk : Ok kc s) (h_regs : kc.frozen .regs = false := by first | with_reducible assumption | rfl) (h_wsa : kc.frozen .wsa = false := by first | with_reducible assumption | rfl) : Ok kc (State.noteEst s i) := by
  unfold State.noteEst
  repeat' first
    | with_reducible assumption | with_reducible apply State.count_ok | with_reducible apply ok_ite | intro _ | split | dsimp only
    | with_reducible apply okF | with_reducible refine okF_wsa (okF ?_) | dsimp only [Ok]

theorem State.computePixel_ok (s : State) (c i x y : Nat) (p : Pkg) (hk : Ok kc s) (h_regs : kc.frozen .regs = false := by first | with_reducible assumption | rfl) (h_glb : kc.frozen .glb = false := by first | with_reducible assumption | rfl) (h_ports : kc.frozen .ports = false := by first | with_reducible assumption | rfl) (h_tiles : kc.frozen .tiles = false := by first | with_reducible assumption | rfl) (h_film : kc.frozen .film = false := by first | with_reducible assumption | rfl) (h_wsa : kc.frozen .wsa = false := by first | with_reducible assumption | rfl) (h_sch : kc.frozen .sch = false := by first | with_reducible assumption | rfl) : Ok kc (State.computePixel s c i x y p) := by
  unfold State.computePixel
  repeat' first
    | with_reducible assumption | with_reducible apply State.evalAt_ok | with_reducible apply State.noteEst_ok
    | with_reducible apply State.releaseRow_ok | with_reducible apply State.setCluster_ok
    | with_reducible apply State.tickSegment_ok | with_reducible apply ok_ite | intro _ | split | dsimp only
    | with_reducible apply okF | with_reducible refine okF_glb (okF_wsa (okF ?_)) | dsimp only [Ok]

theorem execPixelEvaluate_ok (cluster : Fin 48) (tile : Fin 1024) (col : Fin 16384) (row : Fin 65536) (s : State) (hk : Ok kc s) (h_regs : kc.frozen .regs = false := by first | with_reducible assumption | rfl) (h_glb : kc.frozen .glb = false := by first | with_reducible assumption | rfl) (h_dmc : kc.frozen .dmc = false := by first | with_reducible assumption | rfl) (h_ports : kc.frozen .ports = false := by first | with_reducible assumption | rfl) (h_tiles : kc.frozen .tiles = false := by first | with_reducible assumption | rfl) (h_film : kc.frozen .film = false := by first | with_reducible assumption | rfl) (h_wsa : kc.frozen .wsa = false := by first | with_reducible assumption | rfl) (h_sch : kc.frozen .sch = false := by first | with_reducible assumption | rfl) : OkO kc (execPixelEvaluate cluster tile col row s) := by
  unfold execPixelEvaluate
  repeat' first
    | with_reducible assumption | with_reducible apply State.computePixel_ok | with_reducible apply State.touchPixel_ok
    | with_reducible apply okO_next | with_reducible apply okO_fault | with_reducible apply ok_ite | intro _ | split | dsimp only
    | with_reducible apply okF | dsimp only [Ok]

theorem State.fixPixel_ok (s : State) (i y : Nat) (ctx : LaneCtx) (h : Nat × DWord) (hk : Ok kc s) (h_film : kc.frozen .film = false := by first | with_reducible assumption | rfl) (h_wsa : kc.frozen .wsa = false := by first | with_reducible assumption | rfl) (h_sch : kc.frozen .sch = false := by first | with_reducible assumption | rfl) : Ok kc (State.fixPixel s i y ctx h) := by
  unfold State.fixPixel
  repeat' first
    | with_reducible assumption | with_reducible apply State.setPsr_ok | with_reducible apply ok_ite | intro _ | split | dsimp only
    | with_reducible apply okF | with_reducible refine okF_wsa (okF_sch (okF ?_)) | dsimp only [Ok]

theorem State.freeHeld_ok (s : State) (r : SentRow) (hk : Ok kc s) (h_ports : kc.frozen .ports = false := by first | with_reducible assumption | rfl) : Ok kc (State.freeHeld s r) := by
  unfold State.freeHeld
  repeat' first
    | with_reducible assumption | with_reducible apply State.setPort_ok | with_reducible apply foldl_ok
    | with_reducible apply foldl_ok1 | with_reducible apply foldl_ok2 | with_reducible apply ok_ite | intro _ | split | dsimp only
    | with_reducible apply okF | dsimp only [Ok]

theorem execDroppedRowFixup_ok (cluster : Fin 48) (tile : Fin 1024) (row : Fin 65536) (seg : Fin 256) (s : State) (hk : Ok kc s) (h_regs : kc.frozen .regs = false := by first | with_reducible assumption | rfl) (h_glb : kc.frozen .glb = false := by first | with_reducible assumption | rfl) (h_dmc : kc.frozen .dmc = false := by first | with_reducible assumption | rfl) (h_ports : kc.frozen .ports = false := by first | with_reducible assumption | rfl) (h_tiles : kc.frozen .tiles = false := by first | with_reducible assumption | rfl) (h_film : kc.frozen .film = false := by first | with_reducible assumption | rfl) (h_wsa : kc.frozen .wsa = false := by first | with_reducible assumption | rfl) (h_sch : kc.frozen .sch = false := by first | with_reducible assumption | rfl) : OkO kc (execDroppedRowFixup cluster tile row seg s) := by
  unfold execDroppedRowFixup
  repeat' first
    | with_reducible assumption | with_reducible apply State.computePixel_ok | with_reducible apply State.count_ok
    | with_reducible apply State.fixPixel_ok | with_reducible apply State.freeHeld_ok | with_reducible apply State.touchPixel_ok
    | with_reducible apply okO_next | with_reducible apply okO_fault | with_reducible apply foldl_ok
    | with_reducible apply foldl_ok1 | with_reducible apply foldl_ok2 | with_reducible apply ok_ite | intro _ | split | dsimp only
    | with_reducible apply okF | with_reducible refine okF_wsa (okF ?_) | dsimp only [Ok]

theorem execAgeSweepSegment_ok (tile : Fin 1024) (row : Fin 65536) (seg : Fin 256) (s : State) (hk : Ok kc s) (h_regs : kc.frozen .regs = false := by first | with_reducible assumption | rfl) (h_dmc : kc.frozen .dmc = false := by first | with_reducible assumption | rfl) (h_film : kc.frozen .film = false := by first | with_reducible assumption | rfl) (h_sch : kc.frozen .sch = false := by first | with_reducible assumption | rfl) : OkO kc (execAgeSweepSegment tile row seg s) := by
  unfold execAgeSweepSegment
  repeat' first
    | with_reducible assumption | with_reducible apply State.grantReq_ok | with_reducible apply State.holdReq_ok
    | with_reducible apply State.tickSegment_ok | with_reducible apply State.touchPixel_ok | with_reducible apply okO_next
    | with_reducible apply okO_fault | with_reducible apply ok_ite | intro _ | split | dsimp only | with_reducible apply okF
    | with_reducible refine okF_sch (okF ?_) | dsimp only [Ok]

theorem State.popQueue_ok (s : State) (slot : Nat) (z : Bundle × State) (hk : Ok kc s) (h : State.popQueue s slot = some z) (h_wsa : kc.frozen .wsa = false := by first | with_reducible assumption | rfl) :
    Ok kc z.2 := by
  unfold State.popQueue at h
  split at h
  · split at h
    · cases h; dsimp only [Ok]; exact okF_wsa (okF hk)
    · cases h
  · cases h

theorem State.takeBundle_ok (s : State) (c : Nat) (hk : Ok kc s) (h_wsa : kc.frozen .wsa = false := by first | with_reducible assumption | rfl) : Ok kc (State.takeBundle s c) := by
  unfold State.takeBundle
  dsimp only
  split
  · exact hk
  · split
    · next h => exact State.setCluster_ok _ _ _ (State.popQueue_ok _ _ _ hk h)
    · split
      · exact State.setCluster_ok _ _ _ hk
      · split
        · exact hk
        · split
          · split
            · next h => exact State.setCluster_ok _ _ _ (State.popQueue_ok _ _ _ hk h)
            · exact hk
          · exact hk

theorem execBundleTake_ok (cluster : Fin 48) (s : State) (hk : Ok kc s) (h_wsa : kc.frozen .wsa = false := by first | with_reducible assumption | rfl) : OkO kc (execBundleTake cluster s) := by
  unfold execBundleTake
  repeat' first
    | with_reducible assumption | with_reducible apply State.setCluster_ok | with_reducible apply State.takeBundle_ok
    | with_reducible apply okO_next | with_reducible apply okO_fault | with_reducible apply ok_ite | intro _ | split | dsimp only
    | with_reducible apply okF | dsimp only [Ok]

theorem State.closeRow_ok (s : State) (c i y : Nat) (segs : List Nat) (p : Pkg) (hk : Ok kc s) (h_regs : kc.frozen .regs = false := by first | with_reducible assumption | rfl) (h_glb : kc.frozen .glb = false := by first | with_reducible assumption | rfl) (h_ports : kc.frozen .ports = false := by first | with_reducible assumption | rfl) (h_tiles : kc.frozen .tiles = false := by first | with_reducible assumption | rfl) (h_film : kc.frozen .film = false := by first | with_reducible assumption | rfl) (h_wsa : kc.frozen .wsa = false := by first | with_reducible assumption | rfl) (h_sch : kc.frozen .sch = false := by first | with_reducible assumption | rfl) : Ok kc (State.closeRow s c i y segs p).1 := by
  unfold State.closeRow
  repeat' first
    | with_reducible assumption | with_reducible apply State.computePixel_ok | with_reducible apply State.releaseRow_ok
    | with_reducible apply foldl_ok | with_reducible apply foldl_ok1 | with_reducible apply foldl_ok2 | with_reducible apply ok_ite
    | intro _ | split | dsimp only | with_reducible apply okF | dsimp only [Ok]

theorem State.closeBundle_ok (s : State) (c : Nat) (b : Bundle) (hk : Ok kc s) (h_regs : kc.frozen .regs = false := by first | with_reducible assumption | rfl) (h_glb : kc.frozen .glb = false := by first | with_reducible assumption | rfl) (h_ports : kc.frozen .ports = false := by first | with_reducible assumption | rfl) (h_tiles : kc.frozen .tiles = false := by first | with_reducible assumption | rfl) (h_film : kc.frozen .film = false := by first | with_reducible assumption | rfl) (h_wsa : kc.frozen .wsa = false := by first | with_reducible assumption | rfl) (h_sch : kc.frozen .sch = false := by first | with_reducible assumption | rfl) : Ok kc (State.closeBundle s c b).1 := by
  unfold State.closeBundle
  repeat' first
    | with_reducible assumption | with_reducible apply State.closeRow_ok | with_reducible apply foldl_ok
    | with_reducible apply foldl_ok1 | with_reducible apply foldl_ok2 | with_reducible apply ok_ite | intro _ | split | dsimp only
    | with_reducible apply okF | dsimp only [Ok]

theorem State.countSkip_ok (s : State) (hk : Ok kc s) (h_wsa : kc.frozen .wsa = false := by first | with_reducible assumption | rfl) : Ok kc (State.countSkip s) := by
  unfold State.countSkip
  repeat' first
    | with_reducible assumption | with_reducible apply ok_ite | intro _ | split | dsimp only | with_reducible apply okF
    | with_reducible refine okF_wsa (okF ?_) | dsimp only [Ok]

theorem State.wsaGuard_ok (s : State) (hk : Ok kc s) (h_regs : kc.frozen .regs = false := by first | with_reducible assumption | rfl) (h_glb : kc.frozen .glb = false := by first | with_reducible assumption | rfl) (h_qm : kc.frozen .qm = false := by first | with_reducible assumption | rfl) (h_ports : kc.frozen .ports = false := by first | with_reducible assumption | rfl) (h_tiles : kc.frozen .tiles = false := by first | with_reducible assumption | rfl) (h_film : kc.frozen .film = false := by first | with_reducible assumption | rfl) (h_wsa : kc.frozen .wsa = false := by first | with_reducible assumption | rfl) (h_sch : kc.frozen .sch = false := by first | with_reducible assumption | rfl) (h_out : kc.frozen .out = false := by first | with_reducible assumption | rfl) : Ok kc (State.wsaGuard s) := by
  unfold State.wsaGuard
  repeat' first
    | with_reducible assumption | with_reducible apply State.closeBundle_ok | with_reducible apply State.count_ok
    | with_reducible apply State.countSkip_ok | with_reducible apply State.log_ok | with_reducible apply foldl_ok
    | with_reducible apply foldl_ok1 | with_reducible apply foldl_ok2 | with_reducible apply ok_ite | intro _ | split | dsimp only
    | with_reducible apply okF | with_reducible refine okF_wsa (okF ?_) | dsimp only [Ok]

theorem State.latchCharge_ok (s : State) (hk : Ok kc s) (h_wsa : kc.frozen .wsa = false := by first | with_reducible assumption | rfl) : Ok kc (State.latchCharge s) := by
  unfold State.latchCharge
  dsimp only [Ok]
  exact okF_wsa (okF hk)

/-! ### Rails -/

theorem State.modSlot_ok (s : State) (g i : Nat) (f : Slot → Slot) (hk : Ok kc s) (h_rc : kc.frozen .rc = false := by first | with_reducible assumption | rfl) : Ok kc (State.modSlot s g i f) := by
  unfold State.modSlot
  repeat' first
    | with_reducible assumption | with_reducible apply State.setSlot_ok | intro _ | split | dsimp only | with_reducible apply okF
    | dsimp only [Ok]

theorem State.modGroup_ok (s : State) (g : Nat) (f : Group → Group) (hk : Ok kc s) (h_rc : kc.frozen .rc = false := by first | with_reducible assumption | rfl) : Ok kc (State.modGroup s g f) := by
  unfold State.modGroup
  repeat' first
    | with_reducible assumption | with_reducible apply State.setGroup_ok | intro _ | split | dsimp only | with_reducible apply okF
    | dsimp only [Ok]

theorem State.railShow_ok (s : State) (g : Nat) (hk : Ok kc s) (h_vale : kc.frozen .vale = false := by first | with_reducible assumption | rfl) : Ok kc (State.railShow s g) := by
  unfold State.railShow
  repeat' first
    | with_reducible assumption | with_reducible apply State.swinPut_ok | with_reducible apply foldl_ok
    | with_reducible apply foldl_ok1 | with_reducible apply foldl_ok2 | intro _ | split | dsimp only | with_reducible apply okF
    | dsimp only [Ok]

theorem State.vinShow_ok (s : State) (hk : Ok kc s) (h_vale : kc.frozen .vale = false := by first | with_reducible assumption | rfl) : Ok kc (State.vinShow s) := by
  unfold State.vinShow
  repeat' first
    | with_reducible assumption | with_reducible apply State.swinPut_ok | intro _ | split | dsimp only | with_reducible apply okF
    | dsimp only [Ok]

theorem State.railShowAll_ok (s : State) (hk : Ok kc s) (h_vale : kc.frozen .vale = false := by first | with_reducible assumption | rfl) : Ok kc (State.railShowAll s) := by
  unfold State.railShowAll
  repeat' first
    | with_reducible assumption | with_reducible apply State.railShow_ok | with_reducible apply State.vinShow_ok
    | with_reducible apply foldl_ok | with_reducible apply foldl_ok1 | with_reducible apply foldl_ok2 | intro _ | split
    | dsimp only | with_reducible apply okF | dsimp only [Ok]

theorem State.spNow_ok (s : State) (x : Slot) (hk : Ok kc s) : Ok kc (State.spNow s x).2 := by
  unfold State.spNow
  repeat' first
    | with_reducible assumption | with_reducible apply State.draw_ok | with_reducible apply ok_ite | intro _ | split | dsimp only
    | with_reducible apply okF | dsimp only [Ok]

theorem State.startSlot_ok (s : State) (g i : Nat) (hk : Ok kc s) (h_rc : kc.frozen .rc = false := by first | with_reducible assumption | rfl) : Ok kc (State.startSlot s g i) := by
  unfold State.startSlot
  repeat' first
    | with_reducible assumption | with_reducible apply State.setSlot_ok | with_reducible apply ok_ite | intro _ | split
    | dsimp only | with_reducible apply okF | dsimp only [Ok]

theorem State.slewSlot_ok (s : State) (g i : Nat) (hk : Ok kc s) (h_rc : kc.frozen .rc = false := by first | with_reducible assumption | rfl) : Ok kc (State.slewSlot s g i) := by
  unfold State.slewSlot
  repeat' first
    | with_reducible assumption | with_reducible apply State.setSlot_ok | with_reducible apply State.spNow_ok
    | with_reducible apply ok_ite | intro _ | split | dsimp only | with_reducible apply okF | dsimp only [Ok]

theorem State.checkUp_ok (s : State) (g : Nat) (hk : Ok kc s) (h_regs : kc.frozen .regs = false := by first | with_reducible assumption | rfl) (h_rc : kc.frozen .rc = false := by first | with_reducible assumption | rfl) : Ok kc (State.checkUp s g) := by
  unfold State.checkUp
  repeat' first
    | with_reducible assumption | with_reducible apply State.count_ok | with_reducible apply State.modGroup_ok
    | with_reducible apply ok_ite | intro _ | split | dsimp only | with_reducible apply okF | dsimp only [Ok]

theorem State.startGroup_ok (s : State) (g : Nat) (hk : Ok kc s) (h_regs : kc.frozen .regs = false := by first | with_reducible assumption | rfl) (h_rc : kc.frozen .rc = false := by first | with_reducible assumption | rfl) : Ok kc (State.startGroup s g) := by
  unfold State.startGroup
  repeat' first
    | with_reducible assumption | with_reducible apply State.checkUp_ok | with_reducible apply State.modGroup_ok
    | with_reducible apply State.modSlot_ok | with_reducible apply State.startSlot_ok | with_reducible apply foldl_ok
    | with_reducible apply foldl_ok1 | with_reducible apply foldl_ok2 | with_reducible apply ok_ite | intro _ | split | dsimp only
    | with_reducible apply okF | dsimp only [Ok]

theorem State.tryStart_ok (s : State) (g : Nat) (hk : Ok kc s) (h_regs : kc.frozen .regs = false := by first | with_reducible assumption | rfl) (h_vale : kc.frozen .vale = false := by first | with_reducible assumption | rfl) (h_rc : kc.frozen .rc = false := by first | with_reducible assumption | rfl) : Ok kc (State.tryStart s g) := by
  unfold State.tryStart
  repeat' first
    | with_reducible assumption | with_reducible apply State.railShow_ok | with_reducible apply State.startGroup_ok
    | with_reducible apply ok_ite | intro _ | split | dsimp only | with_reducible apply okF | dsimp only [Ok]

theorem State.tryStartAll_ok (s : State) (hk : Ok kc s) (h_regs : kc.frozen .regs = false := by first | with_reducible assumption | rfl) (h_vale : kc.frozen .vale = false := by first | with_reducible assumption | rfl) (h_rc : kc.frozen .rc = false := by first | with_reducible assumption | rfl) : Ok kc (State.tryStartAll s) := by
  unfold State.tryStartAll
  repeat' first
    | with_reducible assumption | with_reducible apply State.tryStart_ok | with_reducible apply foldl_ok
    | with_reducible apply foldl_ok1 | with_reducible apply foldl_ok2 | intro _ | split | dsimp only | with_reducible apply okF
    | dsimp only [Ok]

theorem State.checkOff_ok (s : State) (g : Nat) (hk : Ok kc s) (h_regs : kc.frozen .regs = false := by first | with_reducible assumption | rfl) (h_glb : kc.frozen .glb = false := by first | with_reducible assumption | rfl) (h_rc : kc.frozen .rc = false := by first | with_reducible assumption | rfl) : Ok kc (State.checkOff s g) := by
  unfold State.checkOff
  repeat' first
    | with_reducible assumption | with_reducible apply State.count_ok | with_reducible apply State.setGroup_ok
    | with_reducible apply ok_ite | intro _ | split | dsimp only | with_reducible apply okF
    | with_reducible refine okF_glb (okF ?_) | dsimp only [Ok]

theorem State.dischargeSlot_ok (s : State) (g i : Nat) (hk : Ok kc s) (h_rc : kc.frozen .rc = false := by first | with_reducible assumption | rfl) : Ok kc (State.dischargeSlot s g i) := by
  unfold State.dischargeSlot
  repeat' first
    | with_reducible assumption | with_reducible apply State.setSlot_ok | with_reducible apply State.spNow_ok
    | with_reducible apply ok_ite | intro _ | split | dsimp only | with_reducible apply okF | dsimp only [Ok]

theorem State.stopScan_ok (s : State) (g : Nat) (hk : Ok kc s) (h_regs : kc.frozen .regs = false := by first | with_reducible assumption | rfl) (h_glb : kc.frozen .glb = false := by first | with_reducible assumption | rfl) (h_rc : kc.frozen .rc = false := by first | with_reducible assumption | rfl) : Ok kc (State.stopScan s g) := by
  unfold State.stopScan
  repeat' first
    | with_reducible assumption | with_reducible apply State.checkOff_ok | with_reducible apply State.dischargeSlot_ok
    | with_reducible apply foldl_ok | with_reducible apply foldl_ok1 | with_reducible apply foldl_ok2 | with_reducible apply ok_ite
    | intro _ | split | dsimp only | with_reducible apply okF | dsimp only [Ok]

theorem State.railFault_ok (s : State) (g : Nat) (hk : Ok kc s) (h_film : kc.frozen .film = false := by first | with_reducible assumption | rfl) (h_sch : kc.frozen .sch = false := by first | with_reducible assumption | rfl) : Ok kc (State.railFault s g) := by
  unfold State.railFault
  repeat' first
    | with_reducible assumption | intro _ | split | dsimp only | with_reducible apply okF
    | with_reducible refine okF_film (okF_sch (okF ?_)) | dsimp only [Ok]

theorem State.noteCause_ok (s : State) (g c : Nat) (hk : Ok kc s) (h_rc : kc.frozen .rc = false := by first | with_reducible assumption | rfl) (h_film : kc.frozen .film = false := by first | with_reducible assumption | rfl) (h_sch : kc.frozen .sch = false := by first | with_reducible assumption | rfl) : Ok kc (State.noteCause s g c) := by
  unfold State.noteCause
  repeat' first
    | with_reducible assumption | with_reducible apply State.railFault_ok | with_reducible apply State.setGroup_ok
    | with_reducible apply ok_ite | intro _ | split | dsimp only | with_reducible apply okF | dsimp only [Ok]

theorem State.shutGroup_ok (s : State) (g c : Nat) (hk : Ok kc s) (h_regs : kc.frozen .regs = false := by first | with_reducible assumption | rfl) (h_glb : kc.frozen .glb = false := by first | with_reducible assumption | rfl) (h_vale : kc.frozen .vale = false := by first | with_reducible assumption | rfl) (h_rc : kc.frozen .rc = false := by first | with_reducible assumption | rfl) (h_film : kc.frozen .film = false := by first | with_reducible assumption | rfl) (h_sch : kc.frozen .sch = false := by first | with_reducible assumption | rfl) : Ok kc (State.shutGroup s g c) := by
  unfold State.shutGroup
  repeat' first
    | with_reducible assumption | with_reducible apply State.modGroup_ok | with_reducible apply State.modSlot_ok
    | with_reducible apply State.noteCause_ok | with_reducible apply State.railShow_ok | with_reducible apply State.setGroup_ok
    | with_reducible apply State.stopScan_ok | with_reducible apply foldl_ok | with_reducible apply foldl_ok1
    | with_reducible apply foldl_ok2 | with_reducible apply ok_ite | intro _ | split | dsimp only | with_reducible apply okF
    | dsimp only [Ok]

theorem State.assertFn_ok (s : State) (g : Nat) (hk : Ok kc s) (h_regs : kc.frozen .regs = false := by first | with_reducible assumption | rfl) (h_vale : kc.frozen .vale = false := by first | with_reducible assumption | rfl) (h_rc : kc.frozen .rc = false := by first | with_reducible assumption | rfl) : Ok kc (State.assertFn s g) := by
  unfold State.assertFn
  repeat' first
    | with_reducible assumption | with_reducible apply State.count_ok | with_reducible apply State.modGroup_ok
    | with_reducible apply State.vinShow_ok | with_reducible apply ok_ite | intro _ | split | dsimp only | with_reducible apply okF
    | with_reducible refine okF_rc (okF ?_) | dsimp only [Ok]

theorem State.killSlot_ok (s : State) (g i : Nat) (hk : Ok kc s) (h_rc : kc.frozen .rc = false := by first | with_reducible assumption | rfl) : Ok kc (State.killSlot s g i) := by
  unfold State.killSlot
  repeat' first
    | with_reducible assumption | with_reducible apply State.modSlot_ok | with_reducible apply ok_ite | intro _ | split
    | dsimp only | with_reducible apply okF | dsimp only [Ok]

theorem State.reactIgnore_ok (s : State) (g i c : Nat) (hk : Ok kc s) (h_regs : kc.frozen .regs = false := by first | with_reducible assumption | rfl) (h_rc : kc.frozen .rc = false := by first | with_reducible assumption | rfl) : Ok kc (State.reactIgnore s g i c) := by
  unfold State.reactIgnore
  repeat' first
    | with_reducible assumption | with_reducible apply State.checkUp_ok | with_reducible apply State.modSlot_ok
    | with_reducible apply ok_ite | intro _ | split | dsimp only | with_reducible apply okF | dsimp only [Ok]

theorem State.reactRetry_ok (s : State) (g i : Nat) (hk : Ok kc s) (h_regs : kc.frozen .regs = false := by first | with_reducible assumption | rfl) (h_glb : kc.frozen .glb = false := by first | with_reducible assumption | rfl) (h_qm : kc.frozen .qm = false := by first | with_reducible assumption | rfl) (h_rc : kc.frozen .rc = false := by first | with_reducible assumption | rfl) (h_out : kc.frozen .out = false := by first | with_reducible assumption | rfl) : Ok kc (State.reactRetry s g i) := by
  unfold State.reactRetry
  repeat' first
    | with_reducible assumption | with_reducible apply State.count_ok | with_reducible apply State.log_ok
    | with_reducible apply State.setSlot_ok | intro _ | split | dsimp only | with_reducible apply okF | dsimp only [Ok]

theorem State.reactOff_ok (s : State) (g i c : Nat) (hk : Ok kc s) (h_regs : kc.frozen .regs = false := by first | with_reducible assumption | rfl) (h_glb : kc.frozen .glb = false := by first | with_reducible assumption | rfl) (h_vale : kc.frozen .vale = false := by first | with_reducible assumption | rfl) (h_rc : kc.frozen .rc = false := by first | with_reducible assumption | rfl) (h_film : kc.frozen .film = false := by first | with_reducible assumption | rfl) (h_sch : kc.frozen .sch = false := by first | with_reducible assumption | rfl) : Ok kc (State.reactOff s g i c) := by
  unfold State.reactOff
  repeat' first
    | with_reducible assumption | with_reducible apply State.assertFn_ok | with_reducible apply State.shutGroup_ok
    | with_reducible apply ok_ite | intro _ | split | dsimp only | with_reducible apply okF | dsimp only [Ok]

theorem State.reactReset_ok (s : State) (g i : Nat) (hk : Ok kc s) (h_regs : kc.frozen .regs = false := by first | with_reducible assumption | rfl) (h_glb : kc.frozen .glb = false := by first | with_reducible assumption | rfl) (h_vale : kc.frozen .vale = false := by first | with_reducible assumption | rfl) (h_pwr : kc.frozen .pwr = false := by first | with_reducible assumption | rfl) (h_rc : kc.frozen .rc = false := by first | with_reducible assumption | rfl) (h_ports : kc.frozen .ports = false := by first | with_reducible assumption | rfl) (h_tiles : kc.frozen .tiles = false := by first | with_reducible assumption | rfl) (h_film : kc.frozen .film = false := by first | with_reducible assumption | rfl) (h_wsa : kc.frozen .wsa = false := by first | with_reducible assumption | rfl) (h_sch : kc.frozen .sch = false := by first | with_reducible assumption | rfl) (h_mp : kc.frozen .mp = false := by first | with_reducible assumption | rfl) (h_out : kc.frozen .out = false := by first | with_reducible assumption | rfl) : Ok kc (State.reactReset s g i) := by
  unfold State.reactReset
  repeat' first
    | with_reducible assumption | with_reducible apply State.assertFn_ok | with_reducible apply State.beginReset_ok
    | with_reducible apply State.railShowAll_ok | with_reducible apply State.shutGroup_ok | with_reducible apply foldl_ok
    | with_reducible apply foldl_ok1 | with_reducible apply foldl_ok2 | intro _ | split | dsimp only | with_reducible apply okF
    | with_reducible refine okF_rc (okF ?_) | dsimp only [Ok]

theorem State.react_ok (s : State) (g : Nat) (is : List Nat) (c : Nat) (hk : Ok kc s) (h_regs : kc.frozen .regs = false := by first | with_reducible assumption | rfl) (h_glb : kc.frozen .glb = false := by first | with_reducible assumption | rfl) (h_vale : kc.frozen .vale = false := by first | with_reducible assumption | rfl) (h_qm : kc.frozen .qm = false := by first | with_reducible assumption | rfl) (h_pwr : kc.frozen .pwr = false := by first | with_reducible assumption | rfl) (h_rc : kc.frozen .rc = false := by first | with_reducible assumption | rfl) (h_ports : kc.frozen .ports = false := by first | with_reducible assumption | rfl) (h_tiles : kc.frozen .tiles = false := by first | with_reducible assumption | rfl) (h_film : kc.frozen .film = false := by first | with_reducible assumption | rfl) (h_wsa : kc.frozen .wsa = false := by first | with_reducible assumption | rfl) (h_sch : kc.frozen .sch = false := by first | with_reducible assumption | rfl) (h_mp : kc.frozen .mp = false := by first | with_reducible assumption | rfl) (h_out : kc.frozen .out = false := by first | with_reducible assumption | rfl) : Ok kc (State.react s g is c) := by
  unfold State.react
  repeat' first
    | with_reducible assumption | with_reducible apply State.killSlot_ok | with_reducible apply State.railShow_ok
    | with_reducible apply State.reactIgnore_ok | with_reducible apply State.reactOff_ok | with_reducible apply State.reactReset_ok
    | with_reducible apply State.reactRetry_ok | with_reducible apply foldl_ok | with_reducible apply foldl_ok1
    | with_reducible apply foldl_ok2 | with_reducible apply ok_ite | intro _ | split | dsimp only | with_reducible apply okF
    | dsimp only [Ok]

theorem State.slotFault_ok (s : State) (g i cls r : Nat) (hk : Ok kc s) (h_regs : kc.frozen .regs = false := by first | with_reducible assumption | rfl) (h_glb : kc.frozen .glb = false := by first | with_reducible assumption | rfl) (h_qm : kc.frozen .qm = false := by first | with_reducible assumption | rfl) (h_out : kc.frozen .out = false := by first | with_reducible assumption | rfl) : Ok kc (State.slotFault s g i cls r) := by
  unfold State.slotFault
  repeat' first
    | with_reducible assumption | with_reducible apply State.count_ok | with_reducible apply State.log_ok | intro _ | split
    | dsimp only | with_reducible apply okF | with_reducible refine okF_glb (okF ?_) | dsimp only [Ok]

theorem State.slotWarning_ok (s : State) (g i cls r : Nat) (reading : Int) (hk : Ok kc s) (h_regs : kc.frozen .regs = false := by first | with_reducible assumption | rfl) (h_glb : kc.frozen .glb = false := by first | with_reducible assumption | rfl) (h_qm : kc.frozen .qm = false := by first | with_reducible assumption | rfl) (h_rc : kc.frozen .rc = false := by first | with_reducible assumption | rfl) (h_out : kc.frozen .out = false := by first | with_reducible assumption | rfl) : Ok kc (State.slotWarning s g i cls r reading) := by
  unfold State.slotWarning
  repeat' first
    | with_reducible assumption | with_reducible apply State.count_ok | with_reducible apply State.log_ok
    | with_reducible apply State.modSlot_ok | intro _ | split | dsimp only | with_reducible apply okF | dsimp only [Ok]

theorem State.judge_ok (s : State) (g i : Nat) (hk : Ok kc s) (h_regs : kc.frozen .regs = false := by first | with_reducible assumption | rfl) (h_glb : kc.frozen .glb = false := by first | with_reducible assumption | rfl) (h_qm : kc.frozen .qm = false := by first | with_reducible assumption | rfl) (h_rc : kc.frozen .rc = false := by first | with_reducible assumption | rfl) (h_out : kc.frozen .out = false := by first | with_reducible assumption | rfl) : Ok kc (State.judge s g i) := by
  unfold State.judge
  repeat' first
    | with_reducible assumption | with_reducible apply State.slotFault_ok | with_reducible apply State.slotWarning_ok
    | with_reducible apply foldl_ok | with_reducible apply foldl_ok1 | with_reducible apply foldl_ok2 | with_reducible apply ok_ite
    | intro _ | split | dsimp only | with_reducible apply okF | dsimp only [Ok]

theorem State.qualifySample_ok (s : State) (g i v : Nat) (pgood : Bool) (hk : Ok kc s) (h_regs : kc.frozen .regs = false := by first | with_reducible assumption | rfl) (h_rc : kc.frozen .rc = false := by first | with_reducible assumption | rfl) : Ok kc (State.qualifySample s g i v pgood) := by
  unfold State.qualifySample
  repeat' first
    | with_reducible assumption | with_reducible apply State.count_ok | with_reducible apply State.setSlot_ok
    | with_reducible apply ok_ite | intro _ | split | dsimp only | with_reducible apply okF | dsimp only [Ok]

theorem State.slotOff__ok (s : State) (g i : Nat) (hk : Ok kc s) (h_regs : kc.frozen .regs = false := by first | with_reducible assumption | rfl) (h_glb : kc.frozen .glb = false := by first | with_reducible assumption | rfl) (h_vale : kc.frozen .vale = false := by first | with_reducible assumption | rfl) (h_rc : kc.frozen .rc = false := by first | with_reducible assumption | rfl) : Ok kc (State.slotOff_ s g i) := by
  unfold State.slotOff_
  repeat' first
    | with_reducible assumption | with_reducible apply State.modSlot_ok | with_reducible apply State.railShow_ok
    | with_reducible apply State.stopScan_ok | intro _ | split | dsimp only | with_reducible apply okF | dsimp only [Ok]

theorem State.takeSample_ok (s : State) (g : Nat) (p : RailSample) (hk : Ok kc s) (h_regs : kc.frozen .regs = false := by first | with_reducible assumption | rfl) (h_rc : kc.frozen .rc = false := by first | with_reducible assumption | rfl) : Ok kc (State.takeSample s g p) := by
  unfold State.takeSample
  repeat' first
    | with_reducible assumption | with_reducible apply State.bump_ok | with_reducible apply State.qualifySample_ok
    | with_reducible apply State.setSlot_ok | with_reducible apply State.spNow_ok | with_reducible apply ok_ite | intro _ | split
    | dsimp only | with_reducible apply okF | dsimp only [Ok]

theorem State.offSample_ok (s : State) (g : Nat) (p : RailSample) (hk : Ok kc s) (h_regs : kc.frozen .regs = false := by first | with_reducible assumption | rfl) (h_glb : kc.frozen .glb = false := by first | with_reducible assumption | rfl) (h_vale : kc.frozen .vale = false := by first | with_reducible assumption | rfl) (h_rc : kc.frozen .rc = false := by first | with_reducible assumption | rfl) : Ok kc (State.offSample s g p) := by
  unfold State.offSample
  repeat' first
    | with_reducible assumption | with_reducible apply State.slotOff__ok | with_reducible apply ok_ite | intro _ | split
    | dsimp only | with_reducible apply okF | dsimp only [Ok]

theorem execRailPwmPeriod_ok (g : Fin 8) (slots : List (Fin 12)) (v amps : List (BitVec 32)) (pgood : List Bool) (s : State) (hk : Ok kc s) (h_regs : kc.frozen .regs = false := by first | with_reducible assumption | rfl) (h_clk : kc.frozen .clk = false := by first | with_reducible assumption | rfl) (h_time : kc.frozen .time = false := by first | with_reducible assumption | rfl) (h_glb : kc.frozen .glb = false := by first | with_reducible assumption | rfl) (h_vale : kc.frozen .vale = false := by first | with_reducible assumption | rfl) (h_qm : kc.frozen .qm = false := by first | with_reducible assumption | rfl) (h_pwr : kc.frozen .pwr = false := by first | with_reducible assumption | rfl) (h_rc : kc.frozen .rc = false := by first | with_reducible assumption | rfl) (h_ports : kc.frozen .ports = false := by first | with_reducible assumption | rfl) (h_tiles : kc.frozen .tiles = false := by first | with_reducible assumption | rfl) (h_film : kc.frozen .film = false := by first | with_reducible assumption | rfl) (h_wsa : kc.frozen .wsa = false := by first | with_reducible assumption | rfl) (h_sch : kc.frozen .sch = false := by first | with_reducible assumption | rfl) (h_mp : kc.frozen .mp = false := by first | with_reducible assumption | rfl) (h_out : kc.frozen .out = false := by first | with_reducible assumption | rfl) : OkO kc (execRailPwmPeriod g slots v amps pgood s) := by
  unfold execRailPwmPeriod
  repeat' first
    | with_reducible assumption | with_reducible apply State.advanceTo_ok | with_reducible apply State.judge_ok
    | with_reducible apply State.offSample_ok | with_reducible apply State.react_ok | with_reducible apply State.takeSample_ok
    | with_reducible apply okO_next | with_reducible apply okO_fault | with_reducible apply foldl_ok
    | with_reducible apply foldl_ok1 | with_reducible apply foldl_ok2 | with_reducible apply ok_ite | intro _ | split | dsimp only
    | with_reducible apply okF | dsimp only [Ok]

theorem execDepDelayExpire_ok (g : Fin 8) (s : Fin 12) (st : State) (hk : Ok kc st) (h_clk : kc.frozen .clk = false := by first | with_reducible assumption | rfl) (h_time : kc.frozen .time = false := by first | with_reducible assumption | rfl) (h_glb : kc.frozen .glb = false := by first | with_reducible assumption | rfl) (h_vale : kc.frozen .vale = false := by first | with_reducible assumption | rfl) (h_rc : kc.frozen .rc = false := by first | with_reducible assumption | rfl) : OkO kc (execDepDelayExpire g s st) := by
  unfold execDepDelayExpire
  repeat' first
    | with_reducible assumption | with_reducible apply State.advanceTo_ok | with_reducible apply State.railShow_ok
    | with_reducible apply State.startSlot_ok | with_reducible apply okO_next | with_reducible apply okO_fault
    | with_reducible apply ok_ite | intro _ | split | dsimp only | with_reducible apply okF | dsimp only [Ok]

theorem execRampEnd_ok (g : Fin 8) (s : Fin 12) (st : State) (hk : Ok kc st) (h_clk : kc.frozen .clk = false := by first | with_reducible assumption | rfl) (h_time : kc.frozen .time = false := by first | with_reducible assumption | rfl) (h_glb : kc.frozen .glb = false := by first | with_reducible assumption | rfl) (h_vale : kc.frozen .vale = false := by first | with_reducible assumption | rfl) (h_rc : kc.frozen .rc = false := by first | with_reducible assumption | rfl) : OkO kc (execRampEnd g s st) := by
  unfold execRampEnd
  repeat' first
    | with_reducible assumption | with_reducible apply State.advanceTo_ok | with_reducible apply State.railShow_ok
    | with_reducible apply State.setSlot_ok | with_reducible apply okO_next | with_reducible apply okO_fault
    | with_reducible apply ok_ite | intro _ | split | dsimp only | with_reducible apply okF | dsimp only [Ok]

theorem execQualifyDone_ok (g : Fin 8) (s : Fin 12) (st : State) (hk : Ok kc st) (h_regs : kc.frozen .regs = false := by first | with_reducible assumption | rfl) (h_clk : kc.frozen .clk = false := by first | with_reducible assumption | rfl) (h_time : kc.frozen .time = false := by first | with_reducible assumption | rfl) (h_glb : kc.frozen .glb = false := by first | with_reducible assumption | rfl) (h_vale : kc.frozen .vale = false := by first | with_reducible assumption | rfl) (h_rc : kc.frozen .rc = false := by first | with_reducible assumption | rfl) : OkO kc (execQualifyDone g s st) := by
  unfold execQualifyDone
  repeat' first
    | with_reducible assumption | with_reducible apply State.advanceTo_ok | with_reducible apply State.checkUp_ok
    | with_reducible apply State.railShow_ok | with_reducible apply State.setSlot_ok | with_reducible apply okO_next
    | with_reducible apply okO_fault | with_reducible apply ok_ite | intro _ | split | dsimp only | with_reducible apply okF
    | dsimp only [Ok]

theorem execRailTimeout_ok (g : Fin 8) (s : Fin 12) (st : State) (hk : Ok kc st) (h_regs : kc.frozen .regs = false := by first | with_reducible assumption | rfl) (h_clk : kc.frozen .clk = false := by first | with_reducible assumption | rfl) (h_time : kc.frozen .time = false := by first | with_reducible assumption | rfl) (h_glb : kc.frozen .glb = false := by first | with_reducible assumption | rfl) (h_vale : kc.frozen .vale = false := by first | with_reducible assumption | rfl) (h_qm : kc.frozen .qm = false := by first | with_reducible assumption | rfl) (h_pwr : kc.frozen .pwr = false := by first | with_reducible assumption | rfl) (h_rc : kc.frozen .rc = false := by first | with_reducible assumption | rfl) (h_ports : kc.frozen .ports = false := by first | with_reducible assumption | rfl) (h_tiles : kc.frozen .tiles = false := by first | with_reducible assumption | rfl) (h_film : kc.frozen .film = false := by first | with_reducible assumption | rfl) (h_wsa : kc.frozen .wsa = false := by first | with_reducible assumption | rfl) (h_sch : kc.frozen .sch = false := by first | with_reducible assumption | rfl) (h_mp : kc.frozen .mp = false := by first | with_reducible assumption | rfl) (h_out : kc.frozen .out = false := by first | with_reducible assumption | rfl) : OkO kc (execRailTimeout g s st) := by
  unfold execRailTimeout
  repeat' first
    | with_reducible assumption | with_reducible apply State.advanceTo_ok | with_reducible apply State.count_ok
    | with_reducible apply State.log_ok | with_reducible apply State.react_ok | with_reducible apply okO_next
    | with_reducible apply okO_fault | with_reducible apply ok_ite | intro _ | split | dsimp only | with_reducible apply okF
    | with_reducible refine okF_glb (okF ?_) | dsimp only [Ok]

theorem execRetryOffExpire_ok (g : Fin 8) (s : Fin 12) (st : State) (hk : Ok kc st) (h_clk : kc.frozen .clk = false := by first | with_reducible assumption | rfl) (h_time : kc.frozen .time = false := by first | with_reducible assumption | rfl) (h_glb : kc.frozen .glb = false := by first | with_reducible assumption | rfl) (h_rc : kc.frozen .rc = false := by first | with_reducible assumption | rfl) : OkO kc (execRetryOffExpire g s st) := by
  unfold execRetryOffExpire
  repeat' first
    | with_reducible assumption | with_reducible apply State.advanceTo_ok | with_reducible apply State.startSlot_ok
    | with_reducible apply okO_next | with_reducible apply okO_fault | with_reducible apply ok_ite | intro _ | split | dsimp only
    | with_reducible apply okF | dsimp only [Ok]

theorem execRetriesClear_ok (g : Fin 8) (s : Fin 12) (st : State) (hk : Ok kc st) (h_clk : kc.frozen .clk = false := by first | with_reducible assumption | rfl) (h_time : kc.frozen .time = false := by first | with_reducible assumption | rfl) (h_glb : kc.frozen .glb = false := by first | with_reducible assumption | rfl) (h_rc : kc.frozen .rc = false := by first | with_reducible assumption | rfl) : OkO kc (execRetriesClear g s st) := by
  unfold execRetriesClear
  repeat' first
    | with_reducible assumption | with_reducible apply State.advanceTo_ok | with_reducible apply State.setSlot_ok
    | with_reducible apply okO_next | with_reducible apply okO_fault | with_reducible apply ok_ite | intro _ | split | dsimp only
    | with_reducible apply okF | dsimp only [Ok]

theorem execExternalSlotOffTimer_ok (g : Fin 8) (s : Fin 12) (st : State) (hk : Ok kc st) (h_regs : kc.frozen .regs = false := by first | with_reducible assumption | rfl) (h_clk : kc.frozen .clk = false := by first | with_reducible assumption | rfl) (h_time : kc.frozen .time = false := by first | with_reducible assumption | rfl) (h_glb : kc.frozen .glb = false := by first | with_reducible assumption | rfl) (h_vale : kc.frozen .vale = false := by first | with_reducible assumption | rfl) (h_rc : kc.frozen .rc = false := by first | with_reducible assumption | rfl) : OkO kc (execExternalSlotOffTimer g s st) := by
  unfold execExternalSlotOffTimer
  repeat' first
    | with_reducible assumption | with_reducible apply State.advanceTo_ok | with_reducible apply State.slotOff__ok
    | with_reducible apply okO_next | with_reducible apply okO_fault | with_reducible apply ok_ite | intro _ | split | dsimp only
    | with_reducible apply okF | dsimp only [Ok]

theorem execOfftmoExpire_ok (g : Fin 8) (s : Fin 12) (st : State) (hk : Ok kc st) (h_regs : kc.frozen .regs = false := by first | with_reducible assumption | rfl) (h_clk : kc.frozen .clk = false := by first | with_reducible assumption | rfl) (h_time : kc.frozen .time = false := by first | with_reducible assumption | rfl) (h_glb : kc.frozen .glb = false := by first | with_reducible assumption | rfl) (h_vale : kc.frozen .vale = false := by first | with_reducible assumption | rfl) (h_rc : kc.frozen .rc = false := by first | with_reducible assumption | rfl) : OkO kc (execOfftmoExpire g s st) := by
  unfold execOfftmoExpire
  repeat' first
    | with_reducible assumption | with_reducible apply State.advanceTo_ok | with_reducible apply State.count_ok
    | with_reducible apply State.slotOff__ok | with_reducible apply okO_next | with_reducible apply okO_fault
    | with_reducible apply ok_ite | intro _ | split | dsimp only | with_reducible apply okF | dsimp only [Ok]

theorem State.loadFf_ok (s : State) (g : Nat) (hk : Ok kc s) (h_rc : kc.frozen .rc = false := by first | with_reducible assumption | rfl) : Ok kc (State.loadFf s g) := by
  unfold State.loadFf
  repeat' first
    | with_reducible assumption | with_reducible apply State.modSlot_ok | with_reducible apply foldl_ok
    | with_reducible apply foldl_ok1 | with_reducible apply foldl_ok2 | with_reducible apply ok_ite | intro _ | split | dsimp only
    | with_reducible apply okF | dsimp only [Ok]

theorem execFfLoad_ok (g : Fin 8) (s : State) (hk : Ok kc s) (h_clk : kc.frozen .clk = false := by first | with_reducible assumption | rfl) (h_time : kc.frozen .time = false := by first | with_reducible assumption | rfl) (h_glb : kc.frozen .glb = false := by first | with_reducible assumption | rfl) (h_rc : kc.frozen .rc = false := by first | with_reducible assumption | rfl) : OkO kc (execFfLoad g s) := by
  unfold execFfLoad
  repeat' first
    | with_reducible assumption | with_reducible apply State.advanceWall_ok | with_reducible apply State.loadFf_ok
    | with_reducible apply okO_next | with_reducible apply okO_fault | with_reducible apply ok_ite | intro _ | split | dsimp only
    | with_reducible apply okF | dsimp only [Ok]

theorem State.takePrediction_ok (s : State) (g : Nat) (hk : Ok kc s) (h_regs : kc.frozen .regs = false := by first | with_reducible assumption | rfl) (h_glb : kc.frozen .glb = false := by first | with_reducible assumption | rfl) (h_qm : kc.frozen .qm = false := by first | with_reducible assumption | rfl) (h_rc : kc.frozen .rc = false := by first | with_reducible assumption | rfl) (h_out : kc.frozen .out = false := by first | with_reducible assumption | rfl) : Ok kc (State.takePrediction s g) := by
  unfold State.takePrediction
  repeat' first
    | with_reducible assumption | with_reducible apply State.count_ok | with_reducible apply State.loadFf_ok
    | with_reducible apply State.log_ok | with_reducible apply State.modSlot_ok | with_reducible apply foldl_ok
    | with_reducible apply foldl_ok1 | with_reducible apply foldl_ok2 | with_reducible apply ok_ite | intro _ | split | dsimp only
    | with_reducible apply okF | dsimp only [Ok]

theorem execFaultNRelease_ok (s : State) (hk : Ok kc s) (h_clk : kc.frozen .clk = false := by first | with_reducible assumption | rfl) (h_time : kc.frozen .time = false := by first | with_reducible assumption | rfl) (h_glb : kc.frozen .glb = false := by first | with_reducible assumption | rfl) (h_vale : kc.frozen .vale = false := by first | with_reducible assumption | rfl) (h_rc : kc.frozen .rc = false := by first | with_reducible assumption | rfl) : OkO kc (execFaultNRelease s) := by
  unfold execFaultNRelease
  repeat' first
    | with_reducible assumption | with_reducible apply State.advanceTo_ok | with_reducible apply State.modGroup_ok
    | with_reducible apply State.vinShow_ok | with_reducible apply okO_next | with_reducible apply okO_fault
    | with_reducible apply foldl_ok | with_reducible apply foldl_ok1 | with_reducible apply foldl_ok2 | with_reducible apply ok_ite
    | intro _ | split | dsimp only | with_reducible apply okF | with_reducible refine okF_rc (okF ?_) | dsimp only [Ok]

theorem execFaultNReleaseSample_ok (low : Bool) (s : State) (hk : Ok kc s) (h_regs : kc.frozen .regs = false := by first | with_reducible assumption | rfl) (h_clk : kc.frozen .clk = false := by first | with_reducible assumption | rfl) (h_time : kc.frozen .time = false := by first | with_reducible assumption | rfl) (h_glb : kc.frozen .glb = false := by first | with_reducible assumption | rfl) (h_vale : kc.frozen .vale = false := by first | with_reducible assumption | rfl) (h_qm : kc.frozen .qm = false := by first | with_reducible assumption | rfl) (h_rc : kc.frozen .rc = false := by first | with_reducible assumption | rfl) (h_out : kc.frozen .out = false := by first | with_reducible assumption | rfl) : OkO kc (execFaultNReleaseSample low s) := by
  unfold execFaultNReleaseSample
  repeat' first
    | with_reducible assumption | with_reducible apply State.advanceTo_ok | with_reducible apply State.log_ok
    | with_reducible apply State.vinShow_ok | with_reducible apply okO_next | with_reducible apply okO_fault
    | with_reducible apply ok_ite | intro _ | split | dsimp only | with_reducible apply okF | with_reducible refine okF_rc (okF ?_)
    | dsimp only [Ok]

theorem execFaultNEvent_ok (since : Nat) (s : State) (hk : Ok kc s) (h_regs : kc.frozen .regs = false := by first | with_reducible assumption | rfl) (h_clk : kc.frozen .clk = false := by first | with_reducible assumption | rfl) (h_time : kc.frozen .time = false := by first | with_reducible assumption | rfl) (h_glb : kc.frozen .glb = false := by first | with_reducible assumption | rfl) (h_vale : kc.frozen .vale = false := by first | with_reducible assumption | rfl) (h_rc : kc.frozen .rc = false := by first | with_reducible assumption | rfl) (h_film : kc.frozen .film = false := by first | with_reducible assumption | rfl) (h_sch : kc.frozen .sch = false := by first | with_reducible assumption | rfl) : OkO kc (execFaultNEvent since s) := by
  unfold execFaultNEvent
  repeat' first
    | with_reducible assumption | with_reducible apply State.advanceTo_ok | with_reducible apply State.count_ok
    | with_reducible apply State.shutGroup_ok | with_reducible apply State.vinShow_ok | with_reducible apply okO_next
    | with_reducible apply okO_fault | with_reducible apply foldl_ok | with_reducible apply foldl_ok1
    | with_reducible apply foldl_ok2 | with_reducible apply ok_ite | intro _ | split | dsimp only | with_reducible apply okF
    | with_reducible refine okF_rc (okF ?_) | dsimp only [Ok]

theorem fnStuck_ok (t : State) (t0 : Nat) (h : Ok kc t) (h_regs : kc.frozen .regs = false := by first | with_reducible assumption | rfl) (h_glb : kc.frozen .glb = false := by first | with_reducible assumption | rfl) (h_qm : kc.frozen .qm = false := by first | with_reducible assumption | rfl) (h_rc : kc.frozen .rc = false := by first | with_reducible assumption | rfl) (h_out : kc.frozen .out = false := by first | with_reducible assumption | rfl) : Ok kc ({ t with rc.fnStuck := true, rc.fnStuckLow := some t0 }.log 166 noUnit 0 0) :=
  State.log_ok _ _ _ _ _ (by dsimp only [Ok]; exact okF_rc (okF h))

theorem execFaultNStuck_ok (s : State) (hk : Ok kc s) (h_regs : kc.frozen .regs = false := by first | with_reducible assumption | rfl) (h_clk : kc.frozen .clk = false := by first | with_reducible assumption | rfl) (h_time : kc.frozen .time = false := by first | with_reducible assumption | rfl) (h_glb : kc.frozen .glb = false := by first | with_reducible assumption | rfl) (h_qm : kc.frozen .qm = false := by first | with_reducible assumption | rfl) (h_rc : kc.frozen .rc = false := by first | with_reducible assumption | rfl) (h_out : kc.frozen .out = false := by first | with_reducible assumption | rfl) : OkO kc (execFaultNStuck s) := by
  unfold execFaultNStuck
  split
  · exact hk
  · exact fnStuck_ok _ _ (State.advanceTo_ok _ _ hk)

theorem execFaultNRearm_ok (s : State) (hk : Ok kc s) (h_regs : kc.frozen .regs = false := by first | with_reducible assumption | rfl) (h_clk : kc.frozen .clk = false := by first | with_reducible assumption | rfl) (h_time : kc.frozen .time = false := by first | with_reducible assumption | rfl) (h_glb : kc.frozen .glb = false := by first | with_reducible assumption | rfl) (h_vale : kc.frozen .vale = false := by first | with_reducible assumption | rfl) (h_rc : kc.frozen .rc = false := by first | with_reducible assumption | rfl) : OkO kc (execFaultNRearm s) := by
  unfold execFaultNRearm
  repeat' first
    | with_reducible assumption | with_reducible apply State.advanceTo_ok | with_reducible apply State.tryStartAll_ok
    | with_reducible apply State.vinShow_ok | with_reducible apply okO_next | with_reducible apply okO_fault
    | with_reducible apply ok_ite | intro _ | split | dsimp only | with_reducible apply okF | with_reducible refine okF_rc (okF ?_)
    | dsimp only [Ok]

theorem execMinoffExpire_ok (g : Fin 8) (s : State) (hk : Ok kc s) (h_regs : kc.frozen .regs = false := by first | with_reducible assumption | rfl) (h_clk : kc.frozen .clk = false := by first | with_reducible assumption | rfl) (h_time : kc.frozen .time = false := by first | with_reducible assumption | rfl) (h_glb : kc.frozen .glb = false := by first | with_reducible assumption | rfl) (h_vale : kc.frozen .vale = false := by first | with_reducible assumption | rfl) (h_rc : kc.frozen .rc = false := by first | with_reducible assumption | rfl) : OkO kc (execMinoffExpire g s) := by
  unfold execMinoffExpire
  repeat' first
    | with_reducible assumption | with_reducible apply State.advanceTo_ok | with_reducible apply State.tryStart_ok
    | with_reducible apply okO_next | with_reducible apply okO_fault | with_reducible apply ok_ite | intro _ | split | dsimp only
    | with_reducible apply okF | dsimp only [Ok]

theorem execHeldUpStart_ok (g : Fin 8) (s : State) (hk : Ok kc s) (h_regs : kc.frozen .regs = false := by first | with_reducible assumption | rfl) (h_vale : kc.frozen .vale = false := by first | with_reducible assumption | rfl) (h_rc : kc.frozen .rc = false := by first | with_reducible assumption | rfl) : OkO kc (execHeldUpStart g s) := by
  unfold execHeldUpStart
  repeat' first
    | with_reducible assumption | with_reducible apply State.tryStart_ok | with_reducible apply okO_next
    | with_reducible apply okO_fault | intro _ | split | dsimp only | with_reducible apply okF | dsimp only [Ok]

theorem State.convertVin_ok (s : State) (u : BitVec 32) (hk : Ok kc s) (h_rc : kc.frozen .rc = false := by first | with_reducible assumption | rfl) : Ok kc (State.convertVin s u) := by
  unfold State.convertVin
  repeat' first
    | with_reducible assumption | with_reducible apply State.bump_ok | intro _ | split | dsimp only | with_reducible apply okF
    | with_reducible refine okF_rc (okF ?_) | dsimp only [Ok]

theorem execVinLow_ok (u : BitVec 32) (s : State) (hk : Ok kc s) (h_regs : kc.frozen .regs = false := by first | with_reducible assumption | rfl) (h_glb : kc.frozen .glb = false := by first | with_reducible assumption | rfl) (h_vale : kc.frozen .vale = false := by first | with_reducible assumption | rfl) (h_qm : kc.frozen .qm = false := by first | with_reducible assumption | rfl) (h_rc : kc.frozen .rc = false := by first | with_reducible assumption | rfl) (h_film : kc.frozen .film = false := by first | with_reducible assumption | rfl) (h_sch : kc.frozen .sch = false := by first | with_reducible assumption | rfl) (h_out : kc.frozen .out = false := by first | with_reducible assumption | rfl) : OkO kc (execVinLow u s) := by
  unfold execVinLow
  repeat' first
    | with_reducible assumption | with_reducible apply State.convertVin_ok | with_reducible apply State.count_ok
    | with_reducible apply State.log_ok | with_reducible apply State.shutGroup_ok | with_reducible apply State.vinShow_ok
    | with_reducible apply okO_next | with_reducible apply okO_fault | with_reducible apply foldl_ok
    | with_reducible apply foldl_ok1 | with_reducible apply foldl_ok2 | with_reducible apply ok_ite | intro _ | split | dsimp only
    | with_reducible apply okF | with_reducible refine okF_glb (okF_rc (okF ?_)) | dsimp only [Ok]

theorem execVinReturn_ok (u : BitVec 32) (s : State) (hk : Ok kc s) (h_regs : kc.frozen .regs = false := by first | with_reducible assumption | rfl) (h_glb : kc.frozen .glb = false := by first | with_reducible assumption | rfl) (h_vale : kc.frozen .vale = false := by first | with_reducible assumption | rfl) (h_qm : kc.frozen .qm = false := by first | with_reducible assumption | rfl) (h_rc : kc.frozen .rc = false := by first | with_reducible assumption | rfl) (h_out : kc.frozen .out = false := by first | with_reducible assumption | rfl) : OkO kc (execVinReturn u s) := by
  unfold execVinReturn
  repeat' first
    | with_reducible assumption | with_reducible apply State.convertVin_ok | with_reducible apply State.log_ok
    | with_reducible apply State.tryStartAll_ok | with_reducible apply State.vinShow_ok | with_reducible apply okO_next
    | with_reducible apply okO_fault | with_reducible apply ok_ite | intro _ | split | dsimp only | with_reducible apply okF
    | with_reducible refine okF_rc (okF ?_) | dsimp only [Ok]

theorem State.dropRails_ok (s : State) (g c : Nat) (hk : Ok kc s) (h_regs : kc.frozen .regs = false := by first | with_reducible assumption | rfl) (h_glb : kc.frozen .glb = false := by first | with_reducible assumption | rfl) (h_rc : kc.frozen .rc = false := by first | with_reducible assumption | rfl) (h_film : kc.frozen .film = false := by first | with_reducible assumption | rfl) (h_sch : kc.frozen .sch = false := by first | with_reducible assumption | rfl) : Ok kc (State.dropRails s g c) := by
  unfold State.dropRails
  repeat' first
    | with_reducible assumption | with_reducible apply State.count_ok | with_reducible apply State.modGroup_ok
    | with_reducible apply State.modSlot_ok | with_reducible apply State.noteCause_ok | with_reducible apply foldl_ok
    | with_reducible apply foldl_ok1 | with_reducible apply foldl_ok2 | with_reducible apply ok_ite | intro _ | split | dsimp only
    | with_reducible apply okF | with_reducible refine okF_glb (okF ?_) | dsimp only [Ok]

theorem execVinCollapse_ok (u : BitVec 32) (s : State) (hk : Ok kc s) (h_regs : kc.frozen .regs = false := by first | with_reducible assumption | rfl) (h_glb : kc.frozen .glb = false := by first | with_reducible assumption | rfl) (h_vale : kc.frozen .vale = false := by first | with_reducible assumption | rfl) (h_qm : kc.frozen .qm = false := by first | with_reducible assumption | rfl) (h_rc : kc.frozen .rc = false := by first | with_reducible assumption | rfl) (h_film : kc.frozen .film = false := by first | with_reducible assumption | rfl) (h_sch : kc.frozen .sch = false := by first | with_reducible assumption | rfl) (h_out : kc.frozen .out = false := by first | with_reducible assumption | rfl) : OkO kc (execVinCollapse u s) := by
  unfold execVinCollapse
  repeat' first
    | with_reducible assumption | with_reducible apply State.convertVin_ok | with_reducible apply State.count_ok
    | with_reducible apply State.dropRails_ok | with_reducible apply State.log_ok | with_reducible apply State.railShowAll_ok
    | with_reducible apply okO_next | with_reducible apply okO_fault | with_reducible apply foldl_ok
    | with_reducible apply foldl_ok1 | with_reducible apply foldl_ok2 | with_reducible apply ok_ite | intro _ | split | dsimp only
    | with_reducible apply okF | with_reducible refine okF_glb (okF_rc (okF ?_)) | dsimp only [Ok]

theorem execRailStatusUpdate_ok (s : State) (hk : Ok kc s) (h_vale : kc.frozen .vale = false := by first | with_reducible assumption | rfl) : OkO kc (execRailStatusUpdate s) := by
  unfold execRailStatusUpdate
  repeat' first
    | with_reducible assumption | with_reducible apply State.railShowAll_ok | with_reducible apply okO_next
    | with_reducible apply okO_fault | intro _ | split | dsimp only | with_reducible apply okF | dsimp only [Ok]

theorem State.disableRails_ok (s : State) (hk : Ok kc s) (h_vale : kc.frozen .vale = false := by first | with_reducible assumption | rfl) (h_rc : kc.frozen .rc = false := by first | with_reducible assumption | rfl) : Ok kc (State.disableRails s) := by
  unfold State.disableRails
  repeat' first
    | with_reducible assumption | with_reducible apply State.modGroup_ok | with_reducible apply State.modSlot_ok
    | with_reducible apply State.railShow_ok | with_reducible apply foldl_ok | with_reducible apply foldl_ok1
    | with_reducible apply foldl_ok2 | intro _ | split | dsimp only | with_reducible apply okF | dsimp only [Ok]

theorem State.rgEnable_ok (s : State) (g : Nat) (enable : Bool) (hk : Ok kc s) (h_vale : kc.frozen .vale = false := by first | with_reducible assumption | rfl) (h_rc : kc.frozen .rc = false := by first | with_reducible assumption | rfl) : Ok kc (State.rgEnable s g enable) := by
  unfold State.rgEnable
  repeat' first
    | with_reducible assumption | with_reducible apply State.railShow_ok | with_reducible apply State.setGroup_ok
    | with_reducible apply ok_ite | intro _ | split | dsimp only | with_reducible apply okF | dsimp only [Ok]

theorem execRgCtrlEnable_ok (g : Fin 8) (enable : Bool) (s : State) (hk : Ok kc s) (h_vale : kc.frozen .vale = false := by first | with_reducible assumption | rfl) (h_rc : kc.frozen .rc = false := by first | with_reducible assumption | rfl) : OkO kc (execRgCtrlEnable g enable s) := by
  unfold execRgCtrlEnable
  repeat' first
    | with_reducible assumption | with_reducible apply State.rgEnable_ok | with_reducible apply State.whenReady_ok
    | with_reducible apply okO_next | with_reducible apply okO_fault | intro _ | split | dsimp only | with_reducible apply okF
    | dsimp only [Ok]

theorem State.rgUp_ok (s : State) (g : Nat) (hk : Ok kc s) (h_regs : kc.frozen .regs = false := by first | with_reducible assumption | rfl) (h_vale : kc.frozen .vale = false := by first | with_reducible assumption | rfl) (h_rc : kc.frozen .rc = false := by first | with_reducible assumption | rfl) : Ok kc (State.rgUp s g) := by
  unfold State.rgUp
  repeat' first
    | with_reducible assumption | with_reducible apply State.railShow_ok | with_reducible apply State.setGroup_ok
    | with_reducible apply State.tryStart_ok | with_reducible apply ok_ite | intro _ | split | dsimp only
    | with_reducible apply okF | dsimp only [Ok]

theorem execRgCtrlUp_ok (g : Fin 8) (s : State) (hk : Ok kc s) (h_regs : kc.frozen .regs = false := by first | with_reducible assumption | rfl) (h_vale : kc.frozen .vale = false := by first | with_reducible assumption | rfl) (h_rc : kc.frozen .rc = false := by first | with_reducible assumption | rfl) : OkO kc (execRgCtrlUp g s) := by
  unfold execRgCtrlUp
  repeat' first
    | with_reducible assumption | with_reducible apply State.rgUp_ok | with_reducible apply State.whenReady_ok
    | with_reducible apply okO_next | with_reducible apply okO_fault | intro _ | split | dsimp only | with_reducible apply okF
    | dsimp only [Ok]

theorem State.rgDown_ok (s : State) (g : Nat) (hk : Ok kc s) (h_regs : kc.frozen .regs = false := by first | with_reducible assumption | rfl) (h_glb : kc.frozen .glb = false := by first | with_reducible assumption | rfl) (h_vale : kc.frozen .vale = false := by first | with_reducible assumption | rfl) (h_rc : kc.frozen .rc = false := by first | with_reducible assumption | rfl) (h_film : kc.frozen .film = false := by first | with_reducible assumption | rfl) (h_sch : kc.frozen .sch = false := by first | with_reducible assumption | rfl) : Ok kc (State.rgDown s g) := by
  unfold State.rgDown
  repeat' first
    | with_reducible assumption | with_reducible apply State.railShow_ok | with_reducible apply State.setGroup_ok
    | with_reducible apply State.shutGroup_ok | with_reducible apply ok_ite | intro _ | split | dsimp only
    | with_reducible apply okF | dsimp only [Ok]

theorem execRgCtrlDown_ok (g : Fin 8) (s : State) (hk : Ok kc s) (h_regs : kc.frozen .regs = false := by first | with_reducible assumption | rfl) (h_glb : kc.frozen .glb = false := by first | with_reducible assumption | rfl) (h_vale : kc.frozen .vale = false := by first | with_reducible assumption | rfl) (h_rc : kc.frozen .rc = false := by first | with_reducible assumption | rfl) (h_film : kc.frozen .film = false := by first | with_reducible assumption | rfl) (h_sch : kc.frozen .sch = false := by first | with_reducible assumption | rfl) : OkO kc (execRgCtrlDown g s) := by
  unfold execRgCtrlDown
  repeat' first
    | with_reducible assumption | with_reducible apply State.rgDown_ok | with_reducible apply State.whenReady_ok
    | with_reducible apply okO_next | with_reducible apply okO_fault | intro _ | split | dsimp only | with_reducible apply okF
    | dsimp only [Ok]


/-! ### Opcodes -/

theorem State.takeCmd_ok (s : State) (c : Cmd) (hk : Ok kc s) (h_qm : kc.frozen .qm = false := by first | with_reducible assumption | rfl) : Ok kc (State.takeCmd s c) := by
  unfold State.takeCmd
  repeat' first
    | with_reducible assumption | intro _ | split | dsimp only | with_reducible apply okF | with_reducible refine okF_qm (okF ?_)
    | dsimp only [Ok]

theorem State.failCmd_ok (s : State) (c : Cmd) (status : Nat) (hk : Ok kc s) (h_regs : kc.frozen .regs = false := by first | with_reducible assumption | rfl) (h_glb : kc.frozen .glb = false := by first | with_reducible assumption | rfl) (h_vale : kc.frozen .vale = false := by first | with_reducible assumption | rfl) (h_qm : kc.frozen .qm = false := by first | with_reducible assumption | rfl) (h_net : kc.frozen .net = false := by first | with_reducible assumption | rfl) (h_out : kc.frozen .out = false := by first | with_reducible assumption | rfl) : Ok kc (State.failCmd s c status) := by
  unfold State.failCmd
  repeat' first
    | with_reducible assumption | with_reducible apply State.complete_ok | with_reducible apply State.count_ok
    | with_reducible apply State.openAnswered_ok | with_reducible apply ok_ite | intro _ | split | dsimp only
    | with_reducible apply okF | dsimp only [Ok]

theorem State.settleN_ok (s : State) (src : CmdSource) (n : Nat) (hk : Ok kc s) (h_regs : kc.frozen .regs = false := by first | with_reducible assumption | rfl) (h_glb : kc.frozen .glb = false := by first | with_reducible assumption | rfl) (h_vale : kc.frozen .vale = false := by first | with_reducible assumption | rfl) (h_qm : kc.frozen .qm = false := by first | with_reducible assumption | rfl) (h_net : kc.frozen .net = false := by first | with_reducible assumption | rfl) (h_out : kc.frozen .out = false := by first | with_reducible assumption | rfl) : Ok kc (State.settleN s src n) := by
  induction n generalizing s with
  | zero => exact hk
  | succ n ih =>
    unfold State.settleN
    repeat' first
      | with_reducible assumption
      | with_reducible apply ih
      | with_reducible apply State.failCmd_ok
      | with_reducible apply State.takeCmd_ok
      | split

theorem State.mboxDone_ok (s : State) (src : CmdSource) (hk : Ok kc s) (h_vale : kc.frozen .vale = false := by first | with_reducible assumption | rfl) (h_net : kc.frozen .net = false := by first | with_reducible assumption | rfl) : Ok kc (State.mboxDone s src) := by
  unfold State.mboxDone
  repeat' first
    | with_reducible assumption | with_reducible apply State.mbShow_ok | with_reducible apply State.setMbox_ok | split | dsimp only

theorem State.settle_ok (s : State) (src : CmdSource) (hk : Ok kc s) (h_regs : kc.frozen .regs = false := by first | with_reducible assumption | rfl) (h_glb : kc.frozen .glb = false := by first | with_reducible assumption | rfl) (h_vale : kc.frozen .vale = false := by first | with_reducible assumption | rfl) (h_qm : kc.frozen .qm = false := by first | with_reducible assumption | rfl) (h_net : kc.frozen .net = false := by first | with_reducible assumption | rfl) (h_out : kc.frozen .out = false := by first | with_reducible assumption | rfl) : Ok kc (State.settle s src) := by
  unfold State.settle
  repeat' first
    | with_reducible assumption | with_reducible apply State.mboxDone_ok | with_reducible apply State.settleN_ok | intro _ | split
    | dsimp only | with_reducible apply okF | dsimp only [Ok]

theorem State.runCmd_ok (s : State) (src : CmdSource) (op : Nat) (f : Origin → Nat → List Byte → State → State) (hk : Ok kc s)
    (hf : ∀ o a b t, Ok kc t → Ok kc (f o a b t)) (h_regs : kc.frozen .regs = false := by first | with_reducible assumption | rfl) (h_glb : kc.frozen .glb = false := by first | with_reducible assumption | rfl) (h_vale : kc.frozen .vale = false := by first | with_reducible assumption | rfl) (h_qm : kc.frozen .qm = false := by first | with_reducible assumption | rfl) (h_net : kc.frozen .net = false := by first | with_reducible assumption | rfl) (h_out : kc.frozen .out = false := by first | with_reducible assumption | rfl) : Ok kc (State.runCmd s src op f) := by
  unfold State.runCmd
  repeat' first
    | with_reducible assumption | with_reducible apply State.settle_ok | with_reducible apply State.failCmd_ok
    | with_reducible apply State.takeCmd_ok | with_reducible apply hf | split | dsimp only

theorem State.okCmd_ok (s : State) (org : Origin) (tag op result : Nat) (data : List Byte) (hk : Ok kc s) (h_regs : kc.frozen .regs = false := by first | with_reducible assumption | rfl) (h_glb : kc.frozen .glb = false := by first | with_reducible assumption | rfl) (h_vale : kc.frozen .vale = false := by first | with_reducible assumption | rfl) (h_qm : kc.frozen .qm = false := by first | with_reducible assumption | rfl) (h_net : kc.frozen .net = false := by first | with_reducible assumption | rfl) (h_out : kc.frozen .out = false := by first | with_reducible assumption | rfl) : Ok kc (State.okCmd s org tag op result data) := by
  unfold State.okCmd
  repeat' first
    | with_reducible assumption | with_reducible apply State.complete_ok | intro _ | split | dsimp only | with_reducible apply okF
    | dsimp only [Ok]

theorem State.errCmd_ok (s : State) (org : Origin) (tag op status : Nat) (hk : Ok kc s) (h_regs : kc.frozen .regs = false := by first | with_reducible assumption | rfl) (h_glb : kc.frozen .glb = false := by first | with_reducible assumption | rfl) (h_vale : kc.frozen .vale = false := by first | with_reducible assumption | rfl) (h_qm : kc.frozen .qm = false := by first | with_reducible assumption | rfl) (h_net : kc.frozen .net = false := by first | with_reducible assumption | rfl) (h_out : kc.frozen .out = false := by first | with_reducible assumption | rfl) : Ok kc (State.errCmd s org tag op status) := by
  unfold State.errCmd
  repeat' first
    | with_reducible assumption | with_reducible apply State.complete_ok | intro _ | split | dsimp only | with_reducible apply okF
    | dsimp only [Ok]

theorem State.startRun_ok (s : State) (grp : RunGroup) (org : Origin) (tag op : Nat) (p : List Byte) (hk : Ok kc s) (h_regs : kc.frozen .regs = false := by first | with_reducible assumption | rfl) (h_glb : kc.frozen .glb = false := by first | with_reducible assumption | rfl) (h_vale : kc.frozen .vale = false := by first | with_reducible assumption | rfl) (h_qm : kc.frozen .qm = false := by first | with_reducible assumption | rfl) (h_net : kc.frozen .net = false := by first | with_reducible assumption | rfl) (h_out : kc.frozen .out = false := by first | with_reducible assumption | rfl) : Ok kc (State.startRun s grp org tag op p) := by
  unfold State.startRun
  repeat' first
    | with_reducible assumption | with_reducible apply State.errCmd_ok | with_reducible apply ok_ite | intro _ | split | dsimp only
    | with_reducible apply okF | with_reducible refine okF_qm (okF ?_) | dsimp only [Ok]

theorem State.runCmdOf_ok (s : State) (grp : RunGroup) (src : CmdSource) (op : Nat) (f : Origin → Nat → List Byte → State → State) (hk : Ok kc s)
    (hf : ∀ o a b t, Ok kc t → Ok kc (f o a b t)) (h_regs : kc.frozen .regs = false := by first | with_reducible assumption | rfl) (h_glb : kc.frozen .glb = false := by first | with_reducible assumption | rfl) (h_vale : kc.frozen .vale = false := by first | with_reducible assumption | rfl) (h_qm : kc.frozen .qm = false := by first | with_reducible assumption | rfl) (h_net : kc.frozen .net = false := by first | with_reducible assumption | rfl) (h_out : kc.frozen .out = false := by first | with_reducible assumption | rfl) : Ok kc (State.runCmdOf s grp src op f) := by
  unfold State.runCmdOf
  refine State.runCmd_ok _ _ _ _ hk ?_
  intro o a b t ht
  split
  · exact State.errCmd_ok _ _ _ _ _ ht
  · exact hf _ _ _ _ ht

theorem State.endRun_ok (s : State) (r : Running) (status result : Nat) (data : List Byte) (hk : Ok kc s) (h_regs : kc.frozen .regs = false := by first | with_reducible assumption | rfl) (h_glb : kc.frozen .glb = false := by first | with_reducible assumption | rfl) (h_vale : kc.frozen .vale = false := by first | with_reducible assumption | rfl) (h_qm : kc.frozen .qm = false := by first | with_reducible assumption | rfl) (h_net : kc.frozen .net = false := by first | with_reducible assumption | rfl) (h_out : kc.frozen .out = false := by first | with_reducible assumption | rfl) : Ok kc (State.endRun s r status result data) := by
  unfold State.endRun
  repeat' first
    | with_reducible assumption | with_reducible apply State.complete_ok | with_reducible apply State.settle_ok | intro _ | split
    | dsimp only | with_reducible apply okF | with_reducible refine okF_qm (okF ?_) | dsimp only [Ok]

theorem State.doneAtFlip_ok (s : State) (org : Origin) (tag op result : Nat) (hk : Ok kc s) (h_qm : kc.frozen .qm = false := by first | with_reducible assumption | rfl) : Ok kc (State.doneAtFlip s org tag op result) := by
  unfold State.doneAtFlip
  repeat' first
    | with_reducible assumption | intro _ | split | dsimp only | with_reducible apply okF | with_reducible refine okF_qm (okF ?_)
    | dsimp only [Ok]

theorem State.flipDone_ok (s : State) (hk : Ok kc s) (h_regs : kc.frozen .regs = false := by first | with_reducible assumption | rfl) (h_glb : kc.frozen .glb = false := by first | with_reducible assumption | rfl) (h_vale : kc.frozen .vale = false := by first | with_reducible assumption | rfl) (h_qm : kc.frozen .qm = false := by first | with_reducible assumption | rfl) (h_net : kc.frozen .net = false := by first | with_reducible assumption | rfl) (h_out : kc.frozen .out = false := by first | with_reducible assumption | rfl) : Ok kc (State.flipDone s) := by
  unfold State.flipDone
  repeat' first
    | with_reducible assumption | with_reducible apply State.okCmd_ok | with_reducible apply State.settle_ok
    | with_reducible apply foldl_ok | with_reducible apply foldl_ok1 | with_reducible apply foldl_ok2 | intro _ | split
    | dsimp only | with_reducible apply okF | with_reducible refine okF_qm (okF ?_) | dsimp only [Ok]

theorem State.accept_ok (s : State) (src : CmdSource) (pkt : List Byte) (hk : Ok kc s) (h_regs : kc.frozen .regs = false := by first | with_reducible assumption | rfl) (h_glb : kc.frozen .glb = false := by first | with_reducible assumption | rfl) (h_vale : kc.frozen .vale = false := by first | with_reducible assumption | rfl) (h_qm : kc.frozen .qm = false := by first | with_reducible assumption | rfl) (h_net : kc.frozen .net = false := by first | with_reducible assumption | rfl) (h_out : kc.frozen .out = false := by first | with_reducible assumption | rfl) : Ok kc (State.accept s src pkt) := by
  unfold State.accept
  repeat' first
    | with_reducible assumption | with_reducible apply State.dstReserve_ok | with_reducible apply State.settle_ok | intro _ | split
    | dsimp only | with_reducible apply okF | with_reducible refine okF_qm (okF ?_) | dsimp only [Ok]

theorem State.fetchMbox_ok (s : State) (m : Fin 16) (hk : Ok kc s) (h_regs : kc.frozen .regs = false := by first | with_reducible assumption | rfl) (h_glb : kc.frozen .glb = false := by first | with_reducible assumption | rfl) (h_vale : kc.frozen .vale = false := by first | with_reducible assumption | rfl) (h_qm : kc.frozen .qm = false := by first | with_reducible assumption | rfl) (h_net : kc.frozen .net = false := by first | with_reducible assumption | rfl) (h_out : kc.frozen .out = false := by first | with_reducible assumption | rfl) : Ok kc (State.fetchMbox s m) := by
  unfold State.fetchMbox
  repeat' first
    | with_reducible assumption | with_reducible apply State.accept_ok | with_reducible apply State.mbShow_ok
    | with_reducible apply State.setMbox_ok | with_reducible apply ok_ite | intro _ | split | dsimp only | with_reducible apply okF
    | dsimp only [Ok]

theorem State.fetchNet_ok (s : State) (j : Fin 256) (hk : Ok kc s) (h_regs : kc.frozen .regs = false := by first | with_reducible assumption | rfl) (h_glb : kc.frozen .glb = false := by first | with_reducible assumption | rfl) (h_vale : kc.frozen .vale = false := by first | with_reducible assumption | rfl) (h_qm : kc.frozen .qm = false := by first | with_reducible assumption | rfl) (h_net : kc.frozen .net = false := by first | with_reducible assumption | rfl) (h_out : kc.frozen .out = false := by first | with_reducible assumption | rfl) : Ok kc (State.fetchNet s j) := by
  unfold State.fetchNet
  repeat' first
    | with_reducible assumption | with_reducible apply State.accept_ok | with_reducible apply State.setRing_ok
    | with_reducible apply ok_ite | intro _ | split | dsimp only | with_reducible apply okF | with_reducible refine okF_qm (okF ?_)
    | dsimp only [Ok]

theorem State.fetchMboxes_ok (s : State) (m : Fin 16) (n : Nat) (hk : Ok kc s) (h_regs : kc.frozen .regs = false := by first | with_reducible assumption | rfl) (h_glb : kc.frozen .glb = false := by first | with_reducible assumption | rfl) (h_vale : kc.frozen .vale = false := by first | with_reducible assumption | rfl) (h_qm : kc.frozen .qm = false := by first | with_reducible assumption | rfl) (h_net : kc.frozen .net = false := by first | with_reducible assumption | rfl) (h_out : kc.frozen .out = false := by first | with_reducible assumption | rfl) : Ok kc (State.fetchMboxes s m n) := by
  induction n generalizing s with
  | zero => exact hk
  | succ n ih => exact ih _ (State.fetchMbox_ok _ _ hk)

theorem State.fetchNets_ok (s : State) (j : Fin 256) (n : Nat) (hk : Ok kc s) (h_regs : kc.frozen .regs = false := by first | with_reducible assumption | rfl) (h_glb : kc.frozen .glb = false := by first | with_reducible assumption | rfl) (h_vale : kc.frozen .vale = false := by first | with_reducible assumption | rfl) (h_qm : kc.frozen .qm = false := by first | with_reducible assumption | rfl) (h_net : kc.frozen .net = false := by first | with_reducible assumption | rfl) (h_out : kc.frozen .out = false := by first | with_reducible assumption | rfl) : Ok kc (State.fetchNets s j n) := by
  induction n generalizing s with
  | zero => exact hk
  | succ n ih => exact ih _ (State.fetchNet_ok _ _ hk)

theorem State.fetchSubmit_ok (s0 : State) (rn : Fin 256) (host : HostDma) (hk : Ok kc s0) (h_regs : kc.frozen .regs = false := by first | with_reducible assumption | rfl) (h_glb : kc.frozen .glb = false := by first | with_reducible assumption | rfl) (h_vale : kc.frozen .vale = false := by first | with_reducible assumption | rfl) (h_qm : kc.frozen .qm = false := by first | with_reducible assumption | rfl) (h_net : kc.frozen .net = false := by first | with_reducible assumption | rfl) (h_out : kc.frozen .out = false := by first | with_reducible assumption | rfl) : Ok kc (State.fetchSubmit s0 rn host) := by
  unfold State.fetchSubmit
  repeat' first
    | with_reducible assumption | with_reducible apply State.accept_ok | with_reducible apply State.dmaErr_ok
    | with_reducible apply State.log_ok | with_reducible apply State.setRing_ok | with_reducible apply ok_ite | intro _ | split
    | dsimp only | with_reducible apply okF | with_reducible refine okF_qm (okF ?_) | dsimp only [Ok]

theorem State.refetch_ok (s : State) (d : CplDst) (hk : Ok kc s) (h_regs : kc.frozen .regs = false := by first | with_reducible assumption | rfl) (h_glb : kc.frozen .glb = false := by first | with_reducible assumption | rfl) (h_vale : kc.frozen .vale = false := by first | with_reducible assumption | rfl) (h_qm : kc.frozen .qm = false := by first | with_reducible assumption | rfl) (h_net : kc.frozen .net = false := by first | with_reducible assumption | rfl) (h_out : kc.frozen .out = false := by first | with_reducible assumption | rfl) : Ok kc (State.refetch s d) := by
  unfold State.refetch
  repeat' first
    | with_reducible assumption | with_reducible apply State.complete_ok | with_reducible apply State.fetchMboxes_ok
    | with_reducible apply State.fetchNets_ok | intro _ | split | dsimp only | with_reducible apply okF | dsimp only [Ok]


/-! ### Power -/

theorem State.setPower_ok (s : State) (new : PState) (hk : Ok kc s) (h_regs : kc.frozen .regs = false := by first | with_reducible assumption | rfl) (h_glb : kc.frozen .glb = false := by first | with_reducible assumption | rfl) (h_qm : kc.frozen .qm = false := by first | with_reducible assumption | rfl) (h_pwr : kc.frozen .pwr = false := by first | with_reducible assumption | rfl) (h_out : kc.frozen .out = false := by first | with_reducible assumption | rfl) : Ok kc (State.setPower s new) := by
  unfold State.setPower
  repeat' first
    | with_reducible assumption | with_reducible apply State.log_ok | with_reducible apply ok_ite | intro _ | split | dsimp only
    | with_reducible apply okF | with_reducible refine okF_pwr (okF ?_) | dsimp only [Ok]

theorem State.followSessions_ok (s : State) (hk : Ok kc s) (h_regs : kc.frozen .regs = false := by first | with_reducible assumption | rfl) (h_glb : kc.frozen .glb = false := by first | with_reducible assumption | rfl) (h_qm : kc.frozen .qm = false := by first | with_reducible assumption | rfl) (h_pwr : kc.frozen .pwr = false := by first | with_reducible assumption | rfl) (h_out : kc.frozen .out = false := by first | with_reducible assumption | rfl) : Ok kc (State.followSessions s) := by
  unfold State.followSessions
  repeat' first
    | with_reducible assumption | with_reducible apply State.setPower_ok | with_reducible apply ok_ite | intro _ | split
    | dsimp only | with_reducible apply okF | dsimp only [Ok]

theorem State.shutAll_ok (s : State) (hk : Ok kc s) (h_regs : kc.frozen .regs = false := by first | with_reducible assumption | rfl) (h_glb : kc.frozen .glb = false := by first | with_reducible assumption | rfl) (h_vale : kc.frozen .vale = false := by first | with_reducible assumption | rfl) (h_rc : kc.frozen .rc = false := by first | with_reducible assumption | rfl) (h_film : kc.frozen .film = false := by first | with_reducible assumption | rfl) (h_sch : kc.frozen .sch = false := by first | with_reducible assumption | rfl) : Ok kc (State.shutAll s) := by
  unfold State.shutAll
  repeat' first
    | with_reducible assumption | with_reducible apply State.shutGroup_ok | with_reducible apply foldl_ok
    | with_reducible apply foldl_ok1 | with_reducible apply foldl_ok2 | with_reducible apply ok_ite | intro _ | split | dsimp only
    | with_reducible apply okF | dsimp only [Ok]

theorem State.plateauRails_ok (s : State) (hk : Ok kc s) (h_regs : kc.frozen .regs = false := by first | with_reducible assumption | rfl) (h_glb : kc.frozen .glb = false := by first | with_reducible assumption | rfl) (h_vale : kc.frozen .vale = false := by first | with_reducible assumption | rfl) (h_pwr : kc.frozen .pwr = false := by first | with_reducible assumption | rfl) (h_rc : kc.frozen .rc = false := by first | with_reducible assumption | rfl) (h_film : kc.frozen .film = false := by first | with_reducible assumption | rfl) (h_sch : kc.frozen .sch = false := by first | with_reducible assumption | rfl) : Ok kc (State.plateauRails s) := by
  unfold State.plateauRails
  repeat' first
    | with_reducible assumption | with_reducible apply State.shutAll_ok | intro _ | split | dsimp only | with_reducible apply okF
    | with_reducible refine okF_pwr (okF ?_) | dsimp only [Ok]

theorem State.requestSwitch_ok (s : State) (target : Nat) (hk : Ok kc s) (h_regs : kc.frozen .regs = false := by first | with_reducible assumption | rfl) (h_dmc : kc.frozen .dmc = false := by first | with_reducible assumption | rfl) : Ok kc (State.requestSwitch s target) := by
  unfold State.requestSwitch
  repeat' first
    | with_reducible assumption | with_reducible apply State.count_ok | with_reducible apply State.draw_ok
    | with_reducible apply ok_ite | intro _ | split | dsimp only | with_reducible apply okF
    | with_reducible refine okF_dmc (okF ?_) | dsimp only [Ok]

theorem State.countRefused_ok (s : State) (st : Nat) (hk : Ok kc s) (h_regs : kc.frozen .regs = false := by first | with_reducible assumption | rfl) : Ok kc (State.countRefused s st) := by
  unfold State.countRefused
  repeat' first
    | with_reducible assumption | with_reducible apply State.count_ok | with_reducible apply ok_ite | intro _ | split | dsimp only
    | with_reducible apply okF | dsimp only [Ok]

theorem State.wakeBank_ok (s : State) (k : Nat) (hk : Ok kc s) (h_regs : kc.frozen .regs = false := by first | with_reducible assumption | rfl) (h_vale : kc.frozen .vale = false := by first | with_reducible assumption | rfl) : Ok kc (State.wakeBank s k) := by
  unfold State.wakeBank
  repeat' first
    | with_reducible assumption | with_reducible apply State.count_ok | with_reducible apply State.setBank_ok
    | with_reducible apply ok_ite | intro _ | split | dsimp only | with_reducible apply okF | dsimp only [Ok]

theorem State.functionBanks_ok (s : State) (ret : Bool) (hk : Ok kc s) (h_regs : kc.frozen .regs = false := by first | with_reducible assumption | rfl) (h_vale : kc.frozen .vale = false := by first | with_reducible assumption | rfl) : Ok kc (State.functionBanks s ret) := by
  unfold State.functionBanks
  repeat' first
    | with_reducible assumption | with_reducible apply State.setBank_ok | with_reducible apply State.wakeBank_ok
    | with_reducible apply foldl_ok | with_reducible apply foldl_ok1 | with_reducible apply foldl_ok2 | with_reducible apply ok_ite
    | intro _ | split | dsimp only | with_reducible apply okF | dsimp only [Ok]

theorem State.leaveSelfRefresh_ok (s : State) (hk : Ok kc s) (h_regs : kc.frozen .regs = false := by first | with_reducible assumption | rfl) (h_dmc : kc.frozen .dmc = false := by first | with_reducible assumption | rfl) : Ok kc (State.leaveSelfRefresh s) := by
  unfold State.leaveSelfRefresh
  repeat' first
    | with_reducible assumption | with_reducible apply State.exitChan_ok | with_reducible apply foldl_ok
    | with_reducible apply foldl_ok1 | with_reducible apply foldl_ok2 | intro _ | split | dsimp only | with_reducible apply okF
    | with_reducible refine okF_dmc (okF ?_) | dsimp only [Ok]

theorem State.startDmcExit_ok (s : State) (hk : Ok kc s) (h_regs : kc.frozen .regs = false := by first | with_reducible assumption | rfl) (h_dmc : kc.frozen .dmc = false := by first | with_reducible assumption | rfl) : Ok kc (State.startDmcExit s) := by
  unfold State.startDmcExit
  repeat' first
    | with_reducible assumption | with_reducible apply State.leaveSelfRefresh_ok | with_reducible apply State.requestSwitch_ok
    | with_reducible apply ok_ite | intro _ | split | dsimp only | with_reducible apply okF
    | with_reducible refine okF_dmc (okF ?_) | dsimp only [Ok]

theorem State.beginExit_ok (s : State) (hk : Ok kc s) (h_regs : kc.frozen .regs = false := by first | with_reducible assumption | rfl) (h_dmc : kc.frozen .dmc = false := by first | with_reducible assumption | rfl) (h_vale : kc.frozen .vale = false := by first | with_reducible assumption | rfl) (h_pwr : kc.frozen .pwr = false := by first | with_reducible assumption | rfl) (h_rc : kc.frozen .rc = false := by first | with_reducible assumption | rfl) (h_wsa : kc.frozen .wsa = false := by first | with_reducible assumption | rfl) : Ok kc (State.beginExit s) := by
  unfold State.beginExit
  repeat' first
    | with_reducible assumption | with_reducible apply State.functionBanks_ok | with_reducible apply State.railShow_ok
    | with_reducible apply State.setGroup_ok | with_reducible apply State.startDmcExit_ok | with_reducible apply State.tryStart_ok
    | with_reducible apply foldl_ok | with_reducible apply foldl_ok1 | with_reducible apply foldl_ok2 | with_reducible apply ok_ite
    | intro _ | split | dsimp only | with_reducible apply okF | with_reducible refine okF_pwr (okF_wsa (okF ?_)) | dsimp only [Ok]

theorem State.startExit_ok (s : State) (hk : Ok kc s) (h_regs : kc.frozen .regs = false := by first | with_reducible assumption | rfl) (h_dmc : kc.frozen .dmc = false := by first | with_reducible assumption | rfl) (h_vale : kc.frozen .vale = false := by first | with_reducible assumption | rfl) (h_pwr : kc.frozen .pwr = false := by first | with_reducible assumption | rfl) (h_rc : kc.frozen .rc = false := by first | with_reducible assumption | rfl) (h_wsa : kc.frozen .wsa = false := by first | with_reducible assumption | rfl) : Ok kc (State.startExit s) := by
  unfold State.startExit
  repeat' first
    | with_reducible assumption | with_reducible apply State.beginExit_ok | with_reducible apply State.countRefused_ok | intro _
    | split | dsimp only | with_reducible apply okF | dsimp only [Ok]

theorem State.endPowerSet_ok (s : State) (hk : Ok kc s) (h_regs : kc.frozen .regs = false := by first | with_reducible assumption | rfl) (h_glb : kc.frozen .glb = false := by first | with_reducible assumption | rfl) (h_vale : kc.frozen .vale = false := by first | with_reducible assumption | rfl) (h_qm : kc.frozen .qm = false := by first | with_reducible assumption | rfl) (h_net : kc.frozen .net = false := by first | with_reducible assumption | rfl) (h_out : kc.frozen .out = false := by first | with_reducible assumption | rfl) : Ok kc (State.endPowerSet s) := by
  unfold State.endPowerSet
  repeat' first
    | with_reducible assumption | with_reducible apply State.endRun_ok | intro _ | split | dsimp only | with_reducible apply okF
    | dsimp only [Ok]

theorem State.plateauGate_ok (s : State) (hk : Ok kc s) (h_regs : kc.frozen .regs = false := by first | with_reducible assumption | rfl) (h_dmc : kc.frozen .dmc = false := by first | with_reducible assumption | rfl) (h_vale : kc.frozen .vale = false := by first | with_reducible assumption | rfl) (h_pwr : kc.frozen .pwr = false := by first | with_reducible assumption | rfl) (h_film : kc.frozen .film = false := by first | with_reducible assumption | rfl) (h_wsa : kc.frozen .wsa = false := by first | with_reducible assumption | rfl) (h_mp : kc.frozen .mp = false := by first | with_reducible assumption | rfl) : Ok kc (State.plateauGate s) := by
  unfold State.plateauGate
  repeat' first
    | with_reducible assumption | with_reducible apply State.functionBanks_ok | with_reducible apply State.requestSwitch_ok
    | with_reducible apply State.selfRefresh_ok | with_reducible apply foldl_ok | with_reducible apply foldl_ok1
    | with_reducible apply foldl_ok2 | intro _ | split | dsimp only | with_reducible apply okF
    | with_reducible refine okF_dmc (okF_pwr (okF_film (okF_wsa (okF_mp (okF ?_))))) | dsimp only [Ok]

theorem State.plateauReached_ok (s : State) (hk : Ok kc s) (h_regs : kc.frozen .regs = false := by first | with_reducible assumption | rfl) (h_glb : kc.frozen .glb = false := by first | with_reducible assumption | rfl) (h_vale : kc.frozen .vale = false := by first | with_reducible assumption | rfl) (h_qm : kc.frozen .qm = false := by first | with_reducible assumption | rfl) (h_net : kc.frozen .net = false := by first | with_reducible assumption | rfl) (h_pwr : kc.frozen .pwr = false := by first | with_reducible assumption | rfl) (h_out : kc.frozen .out = false := by first | with_reducible assumption | rfl) : Ok kc (State.plateauReached s) := by
  unfold State.plateauReached
  repeat' first
    | with_reducible assumption | with_reducible apply State.endPowerSet_ok | with_reducible apply State.odoRequest_ok
    | with_reducible apply State.setPower_ok | intro _ | split | dsimp only | with_reducible apply okF
    | with_reducible refine okF_pwr (okF ?_) | dsimp only [Ok]

theorem State.entryAborted_ok (s : State) (e : Nat) (hk : Ok kc s) (h_regs : kc.frozen .regs = false := by first | with_reducible assumption | rfl) (h_glb : kc.frozen .glb = false := by first | with_reducible assumption | rfl) (h_dmc : kc.frozen .dmc = false := by first | with_reducible assumption | rfl) (h_vale : kc.frozen .vale = false := by first | with_reducible assumption | rfl) (h_qm : kc.frozen .qm = false := by first | with_reducible assumption | rfl) (h_net : kc.frozen .net = false := by first | with_reducible assumption | rfl) (h_pwr : kc.frozen .pwr = false := by first | with_reducible assumption | rfl) (h_rc : kc.frozen .rc = false := by first | with_reducible assumption | rfl) (h_wsa : kc.frozen .wsa = false := by first | with_reducible assumption | rfl) (h_out : kc.frozen .out = false := by first | with_reducible assumption | rfl) : Ok kc (State.entryAborted s e) := by
  unfold State.entryAborted
  repeat' first
    | with_reducible assumption | with_reducible apply State.countRefused_ok | with_reducible apply State.endRun_ok
    | with_reducible apply State.startExit_ok | intro _ | split | dsimp only | with_reducible apply okF | dsimp only [Ok]

theorem execPlateauEntryComplete_ok (s : State) (hk : Ok kc s) (h_regs : kc.frozen .regs = false := by first | with_reducible assumption | rfl) (h_glb : kc.frozen .glb = false := by first | with_reducible assumption | rfl) (h_dmc : kc.frozen .dmc = false := by first | with_reducible assumption | rfl) (h_vale : kc.frozen .vale = false := by first | with_reducible assumption | rfl) (h_qm : kc.frozen .qm = false := by first | with_reducible assumption | rfl) (h_net : kc.frozen .net = false := by first | with_reducible assumption | rfl) (h_pwr : kc.frozen .pwr = false := by first | with_reducible assumption | rfl) (h_rc : kc.frozen .rc = false := by first | with_reducible assumption | rfl) (h_film : kc.frozen .film = false := by first | with_reducible assumption | rfl) (h_wsa : kc.frozen .wsa = false := by first | with_reducible assumption | rfl) (h_mp : kc.frozen .mp = false := by first | with_reducible assumption | rfl) (h_out : kc.frozen .out = false := by first | with_reducible assumption | rfl) : OkO kc (execPlateauEntryComplete s) := by
  unfold execPlateauEntryComplete
  repeat' first
    | with_reducible assumption | with_reducible apply State.entryAborted_ok | with_reducible apply State.plateauGate_ok
    | with_reducible apply State.plateauReached_ok | with_reducible apply okO_next | with_reducible apply okO_fault
    | with_reducible apply ok_ite | intro _ | split | dsimp only | with_reducible apply okF | dsimp only [Ok]

theorem execPlateauExitComplete_ok (s : State) (hk : Ok kc s) (h_regs : kc.frozen .regs = false := by first | with_reducible assumption | rfl) (h_glb : kc.frozen .glb = false := by first | with_reducible assumption | rfl) (h_vale : kc.frozen .vale = false := by first | with_reducible assumption | rfl) (h_qm : kc.frozen .qm = false := by first | with_reducible assumption | rfl) (h_net : kc.frozen .net = false := by first | with_reducible assumption | rfl) (h_pwr : kc.frozen .pwr = false := by first | with_reducible assumption | rfl) (h_out : kc.frozen .out = false := by first | with_reducible assumption | rfl) : OkO kc (execPlateauExitComplete s) := by
  unfold execPlateauExitComplete
  repeat' first
    | with_reducible assumption | with_reducible apply State.endPowerSet_ok | with_reducible apply State.setPower_ok
    | with_reducible apply okO_next | with_reducible apply okO_fault | with_reducible apply ok_ite | intro _ | split | dsimp only
    | with_reducible apply okF | with_reducible refine okF_pwr (okF ?_) | dsimp only [Ok]


end Sys2Proof.Machine
end

