-- ==== Sys2Proof/Laws/KeepSch.lean ====
section
/-! SUPPORT. What the operations and commands of the session scheduler, time, DRAM, sources and network keep (Laws/KeepBase.lean). -/

namespace Sys2Proof.Machine

set_option Elab.async false
set_option linter.all false

variable {kc : KeepCtx}

/-! ### SchAdm -/

theorem State.postSess_ok (s : State) (slot : Nat) (x : Sess) (kind frame a b c d : Nat) (hk : Ok kc s) (h_regs : kc.frozen .regs = false := by first | with_reducible assumption | rfl) (h_glb : kc.frozen .glb = false := by first | with_reducible assumption | rfl) (h_vale : kc.frozen .vale = false := by first | with_reducible assumption | rfl) (h_qm : kc.frozen .qm = false := by first | with_reducible assumption | rfl) (h_net : kc.frozen .net = false := by first | with_reducible assumption | rfl) (h_out : kc.frozen .out = false := by first | with_reducible assumption | rfl) : Ok kc (State.postSess s slot x kind frame a b c d) := by
  unfold State.postSess
  repeat' first
    | with_reducible assumption | with_reducible apply State.postRecord_ok | intro _ | split | dsimp only
    | with_reducible apply okF | dsimp only [Ok]

theorem State.repromise_ok (s : State) (slot cause prev : Nat) (hk : Ok kc s) (h_regs : kc.frozen .regs = false := by first | with_reducible assumption | rfl) (h_glb : kc.frozen .glb = false := by first | with_reducible assumption | rfl) (h_vale : kc.frozen .vale = false := by first | with_reducible assumption | rfl) (h_qm : kc.frozen .qm = false := by first | with_reducible assumption | rfl) (h_net : kc.frozen .net = false := by first | with_reducible assumption | rfl) (h_sch : kc.frozen .sch = false := by first | with_reducible assumption | rfl) (h_out : kc.frozen .out = false := by first | with_reducible assumption | rfl) : Ok kc (State.repromise s slot cause prev) := by
  unfold State.repromise
  repeat' first
    | with_reducible assumption | with_reducible apply State.count_ok | with_reducible apply State.postSess_ok
    | with_reducible apply State.setSess_ok | intro _ | split | dsimp only | with_reducible apply okF
    | with_reducible refine okF_glb (okF ?_) | dsimp only [Ok]

theorem State.bookSess_ok (s : State) (n : Nat) (x : Sess) (v : Want) (ptw : Nat × Nat × Nat) (st : Nat) (hk : Ok kc s) (h_sch : kc.frozen .sch = false := by first | with_reducible assumption | rfl) : Ok kc (State.bookSess s n x v ptw st) := by
  unfold State.bookSess
  repeat' first
    | with_reducible assumption | with_reducible apply State.setSess_ok | with_reducible apply ok_ite | intro _ | split
    | dsimp only | with_reducible apply okF | dsimp only [Ok]

theorem State.unbook_ok (s : State) (n : Nat) (hk : Ok kc s) (h_sch : kc.frozen .sch = false := by first | with_reducible assumption | rfl) : Ok kc (State.unbook s n) := by
  unfold State.unbook
  repeat' first
    | with_reducible assumption | with_reducible apply State.modSess_ok | intro _ | split | dsimp only | with_reducible apply okF
    | dsimp only [Ok]

theorem State.grab_ok (s : State) (fits : State → Bool) (taken l : List Nat) (z : State × List Nat) (hk : Ok kc s)
    (h : State.grab s fits taken l = some z) (h_sch : kc.frozen .sch = false := by first | with_reducible assumption | rfl) : Ok kc z.1 := by
  induction l generalizing s taken with
  | nil =>
    unfold State.grab at h
    split at h
    · cases h; exact hk
    · cases h
  | cons n l ih =>
    unfold State.grab at h
    split at h
    · cases h; exact hk
    · exact ih _ _ (State.unbook_ok _ _ hk) h

theorem State.findPlace_ok (s : State) (v : Want) (z : State × Nat × List Nat) (hk : Ok kc s)
    (h : State.findPlace s v = some z) (h_sch : kc.frozen .sch = false := by first | with_reducible assumption | rfl) : Ok kc z.1 := by
  unfold State.findPlace at h
  split at h
  · cases h; exact hk
  · split at h
    · split at h
      · next hg =>
        rw [Option.map_eq_some_iff] at h
        obtain ⟨_, _, h⟩ := h
        cases h
        exact State.grab_ok _ _ _ _ _ hk hg
      · cases h
    · cases h

theorem State.rebookOne_ok (s : State) (cause : Nat) (n : Nat) (hk : Ok kc s) (h_regs : kc.frozen .regs = false := by first | with_reducible assumption | rfl) (h_glb : kc.frozen .glb = false := by first | with_reducible assumption | rfl) (h_vale : kc.frozen .vale = false := by first | with_reducible assumption | rfl) (h_qm : kc.frozen .qm = false := by first | with_reducible assumption | rfl) (h_net : kc.frozen .net = false := by first | with_reducible assumption | rfl) (h_sch : kc.frozen .sch = false := by first | with_reducible assumption | rfl) (h_out : kc.frozen .out = false := by first | with_reducible assumption | rfl) : Ok kc (State.rebookOne s cause n) := by
  unfold State.rebookOne
  repeat' first
    | with_reducible assumption | with_reducible apply State.bookSess_ok | with_reducible apply State.count_ok
    | with_reducible apply State.repromise_ok | with_reducible apply State.setSess_ok | with_reducible apply ok_ite | intro _
    | split | dsimp only | with_reducible apply okF | dsimp only [Ok]

theorem State.rebookIn_ok (k : Nat) (cause : Nat) (s : State) (n : Nat) (hk : Ok kc s) (h_regs : kc.frozen .regs = false := by first | with_reducible assumption | rfl) (h_glb : kc.frozen .glb = false := by first | with_reducible assumption | rfl) (h_vale : kc.frozen .vale = false := by first | with_reducible assumption | rfl) (h_qm : kc.frozen .qm = false := by first | with_reducible assumption | rfl) (h_net : kc.frozen .net = false := by first | with_reducible assumption | rfl) (h_sch : kc.frozen .sch = false := by first | with_reducible assumption | rfl) (h_out : kc.frozen .out = false := by first | with_reducible assumption | rfl) : Ok kc (State.rebookIn k cause s n) := by
  induction k generalizing cause s n with
  | zero => exact hk
  | succ k ih =>
    unfold State.rebookIn
    refine foldl_ok (foldl_ok (State.rebookOne_ok _ _ _ hk) ?_) ?_
    · intro t a ht; exact State.unbook_ok _ _ ht
    · intro t a ht; exact ih _ _ _ ht

theorem State.rebook_ok (s : State) (cause : Nat) (n : Nat) (hk : Ok kc s) (h_regs : kc.frozen .regs = false := by first | with_reducible assumption | rfl) (h_glb : kc.frozen .glb = false := by first | with_reducible assumption | rfl) (h_vale : kc.frozen .vale = false := by first | with_reducible assumption | rfl) (h_qm : kc.frozen .qm = false := by first | with_reducible assumption | rfl) (h_net : kc.frozen .net = false := by first | with_reducible assumption | rfl) (h_sch : kc.frozen .sch = false := by first | with_reducible assumption | rfl) (h_out : kc.frozen .out = false := by first | with_reducible assumption | rfl) : Ok kc (State.rebook s cause n) := by
  unfold State.rebook
  repeat' first
    | with_reducible assumption | with_reducible apply State.rebookIn_ok | intro _ | split | dsimp only | with_reducible apply okF
    | dsimp only [Ok]

theorem State.admitSession_ok (s : State) (n : Nat) (hk : Ok kc s) (h_regs : kc.frozen .regs = false := by first | with_reducible assumption | rfl) (h_glb : kc.frozen .glb = false := by first | with_reducible assumption | rfl) (h_vale : kc.frozen .vale = false := by first | with_reducible assumption | rfl) (h_qm : kc.frozen .qm = false := by first | with_reducible assumption | rfl) (h_net : kc.frozen .net = false := by first | with_reducible assumption | rfl) (h_sch : kc.frozen .sch = false := by first | with_reducible assumption | rfl) (h_out : kc.frozen .out = false := by first | with_reducible assumption | rfl) : Ok kc (State.admitSession s n).1 := by
  unfold State.admitSession
  split
  · exact hk
  · split
    · exact hk
    · split
      · exact State.setSess_ok _ _ _ hk
      · split
        · next h =>
          refine foldl_ok (foldl_ok (State.bookSess_ok _ _ _ _ _ _ (State.findPlace_ok _ _ _ hk h)) ?_) ?_
          · intro t a ht; exact State.unbook_ok _ _ ht
          · intro t a ht; exact State.rebook_ok _ _ _ ht
        · dsimp only
          split
          · exact State.setSess_ok _ _ _ hk
          · exact State.setSess_ok _ _ _ hk

theorem State.freeSess_ok (s : State) (n : Nat) (hk : Ok kc s) (h_sch : kc.frozen .sch = false := by first | with_reducible assumption | rfl) : Ok kc (State.freeSess s n) := by
  unfold State.freeSess
  repeat' first
    | with_reducible assumption | with_reducible apply State.modSess_ok | intro _ | split | dsimp only | with_reducible apply okF
    | dsimp only [Ok]

theorem State.wakeForSession_ok (s : State) (hk : Ok kc s) (h_regs : kc.frozen .regs = false := by first | with_reducible assumption | rfl) (h_dmc : kc.frozen .dmc = false := by first | with_reducible assumption | rfl) (h_vale : kc.frozen .vale = false := by first | with_reducible assumption | rfl) (h_pwr : kc.frozen .pwr = false := by first | with_reducible assumption | rfl) (h_rc : kc.frozen .rc = false := by first | with_reducible assumption | rfl) (h_wsa : kc.frozen .wsa = false := by first | with_reducible assumption | rfl) : Ok kc (State.wakeForSession s) := by
  unfold State.wakeForSession
  repeat' first
    | with_reducible assumption | with_reducible apply State.startExit_ok | with_reducible apply ok_ite | intro _ | split
    | dsimp only | with_reducible apply okF | dsimp only [Ok]

theorem State.answer_ok (s : State) (n : Nat) (first : Bool) (hk : Ok kc s) (h_regs : kc.frozen .regs = false := by first | with_reducible assumption | rfl) (h_glb : kc.frozen .glb = false := by first | with_reducible assumption | rfl) (h_dmc : kc.frozen .dmc = false := by first | with_reducible assumption | rfl) (h_vale : kc.frozen .vale = false := by first | with_reducible assumption | rfl) (h_qm : kc.frozen .qm = false := by first | with_reducible assumption | rfl) (h_net : kc.frozen .net = false := by first | with_reducible assumption | rfl) (h_pwr : kc.frozen .pwr = false := by first | with_reducible assumption | rfl) (h_rc : kc.frozen .rc = false := by first | with_reducible assumption | rfl) (h_wsa : kc.frozen .wsa = false := by first | with_reducible assumption | rfl) (h_sch : kc.frozen .sch = false := by first | with_reducible assumption | rfl) (h_out : kc.frozen .out = false := by first | with_reducible assumption | rfl) : Ok kc (State.answer s n first) := by
  unfold State.answer
  repeat' first
    | with_reducible assumption | with_reducible apply State.admitSession_ok | with_reducible apply State.count_ok
    | with_reducible apply State.freeSess_ok | with_reducible apply State.openAnswered_ok
    | with_reducible apply State.postRecord_ok | with_reducible apply State.wakeForSession_ok | with_reducible apply ok_ite
    | intro _ | split | dsimp only | with_reducible apply okF | dsimp only [Ok]

theorem State.openSession_ok (s : State) (org : Origin) (tag : Nat) (b : List Byte) (hk : Ok kc s) (h_regs : kc.frozen .regs = false := by first | with_reducible assumption | rfl) (h_glb : kc.frozen .glb = false := by first | with_reducible assumption | rfl) (h_dmc : kc.frozen .dmc = false := by first | with_reducible assumption | rfl) (h_vale : kc.frozen .vale = false := by first | with_reducible assumption | rfl) (h_qm : kc.frozen .qm = false := by first | with_reducible assumption | rfl) (h_net : kc.frozen .net = false := by first | with_reducible assumption | rfl) (h_pwr : kc.frozen .pwr = false := by first | with_reducible assumption | rfl) (h_rc : kc.frozen .rc = false := by first | with_reducible assumption | rfl) (h_wsa : kc.frozen .wsa = false := by first | with_reducible assumption | rfl) (h_sch : kc.frozen .sch = false := by first | with_reducible assumption | rfl) (h_out : kc.frozen .out = false := by first | with_reducible assumption | rfl) : Ok kc (State.openSession s org tag b) := by
  unfold State.openSession
  repeat' first
    | with_reducible assumption | with_reducible apply State.answer_ok | with_reducible apply State.count_ok
    | with_reducible apply State.openAnswered_ok | with_reducible apply State.setSess_ok | intro _ | split | dsimp only
    | with_reducible apply okF | with_reducible refine okF_sch (okF ?_) | dsimp only [Ok]

theorem State.takeOpen_ok (s : State) (src : CmdSource) (hk : Ok kc s) (h_regs : kc.frozen .regs = false := by first | with_reducible assumption | rfl) (h_glb : kc.frozen .glb = false := by first | with_reducible assumption | rfl) (h_dmc : kc.frozen .dmc = false := by first | with_reducible assumption | rfl) (h_vale : kc.frozen .vale = false := by first | with_reducible assumption | rfl) (h_qm : kc.frozen .qm = false := by first | with_reducible assumption | rfl) (h_net : kc.frozen .net = false := by first | with_reducible assumption | rfl) (h_pwr : kc.frozen .pwr = false := by first | with_reducible assumption | rfl) (h_rc : kc.frozen .rc = false := by first | with_reducible assumption | rfl) (h_wsa : kc.frozen .wsa = false := by first | with_reducible assumption | rfl) (h_sch : kc.frozen .sch = false := by first | with_reducible assumption | rfl) (h_out : kc.frozen .out = false := by first | with_reducible assumption | rfl) : Ok kc (State.takeOpen s src) := by
  unfold State.takeOpen
  repeat' first
    | with_reducible assumption | with_reducible apply State.openSession_ok | with_reducible apply State.runCmd_ok | intro _
    | split | dsimp only | with_reducible apply okF | dsimp only [Ok]

theorem execSessionOpen_ok (src : CmdSource) (s : State) (hk : Ok kc s) (h_regs : kc.frozen .regs = false := by first | with_reducible assumption | rfl) (h_glb : kc.frozen .glb = false := by first | with_reducible assumption | rfl) (h_dmc : kc.frozen .dmc = false := by first | with_reducible assumption | rfl) (h_vale : kc.frozen .vale = false := by first | with_reducible assumption | rfl) (h_qm : kc.frozen .qm = false := by first | with_reducible assumption | rfl) (h_net : kc.frozen .net = false := by first | with_reducible assumption | rfl) (h_pwr : kc.frozen .pwr = false := by first | with_reducible assumption | rfl) (h_rc : kc.frozen .rc = false := by first | with_reducible assumption | rfl) (h_wsa : kc.frozen .wsa = false := by first | with_reducible assumption | rfl) (h_sch : kc.frozen .sch = false := by first | with_reducible assumption | rfl) (h_out : kc.frozen .out = false := by first | with_reducible assumption | rfl) : OkO kc (execSessionOpen src s) := by
  unfold execSessionOpen
  repeat' first
    | with_reducible assumption | with_reducible apply State.takeOpen_ok | with_reducible apply okO_next
    | with_reducible apply okO_fault | with_reducible apply foldl_ok | with_reducible apply foldl_ok1
    | with_reducible apply foldl_ok2 | with_reducible apply ok_ite | intro _ | split | dsimp only | with_reducible apply okF
    | dsimp only [Ok]

theorem State.cancelNow_ok (s : State) (n : Nat) (x : Sess) (hk : Ok kc s) (h_regs : kc.frozen .regs = false := by first | with_reducible assumption | rfl) (h_glb : kc.frozen .glb = false := by first | with_reducible assumption | rfl) (h_vale : kc.frozen .vale = false := by first | with_reducible assumption | rfl) (h_qm : kc.frozen .qm = false := by first | with_reducible assumption | rfl) (h_net : kc.frozen .net = false := by first | with_reducible assumption | rfl) (h_sch : kc.frozen .sch = false := by first | with_reducible assumption | rfl) (h_out : kc.frozen .out = false := by first | with_reducible assumption | rfl) : Ok kc (State.cancelNow s n x) := by
  unfold State.cancelNow
  repeat' first
    | with_reducible assumption | with_reducible apply State.count_ok | with_reducible apply State.freeSess_ok
    | with_reducible apply State.postSess_ok | with_reducible apply State.setSess_ok | intro _ | split | dsimp only
    | with_reducible apply okF | dsimp only [Ok]

theorem execSessionCancel_ok (src : CmdSource) (s : State) (hk : Ok kc s) (h_regs : kc.frozen .regs = false := by first | with_reducible assumption | rfl) (h_glb : kc.frozen .glb = false := by first | with_reducible assumption | rfl) (h_vale : kc.frozen .vale = false := by first | with_reducible assumption | rfl) (h_qm : kc.frozen .qm = false := by first | with_reducible assumption | rfl) (h_net : kc.frozen .net = false := by first | with_reducible assumption | rfl) (h_sch : kc.frozen .sch = false := by first | with_reducible assumption | rfl) (h_out : kc.frozen .out = false := by first | with_reducible assumption | rfl) : OkO kc (execSessionCancel src s) := by
  unfold execSessionCancel
  repeat' first
    | with_reducible assumption | with_reducible apply State.cancelNow_ok | with_reducible apply State.errCmd_ok
    | with_reducible apply State.modSess_ok | with_reducible apply State.okCmd_ok | with_reducible apply State.runCmd_ok
    | with_reducible apply okO_next | with_reducible apply okO_fault | with_reducible apply ok_ite | intro _ | split | dsimp only
    | with_reducible apply okF | dsimp only [Ok]

theorem State.setWsess_ok (s : State) (n : Nat) (e : WSess) (hk : Ok kc s) (h_wsa : kc.frozen .wsa = false := by first | with_reducible assumption | rfl) : Ok kc (State.setWsess s n e) := by
  unfold State.setWsess
  repeat' first
    | with_reducible assumption | intro _ | split | dsimp only | with_reducible apply okF | with_reducible refine okF_wsa (okF ?_)
    | dsimp only [Ok]

theorem State.closeNow_ok (s : State) (n : Nat) (x : Sess) (hk : Ok kc s) (h_wsa : kc.frozen .wsa = false := by first | with_reducible assumption | rfl) (h_sch : kc.frozen .sch = false := by first | with_reducible assumption | rfl) : Ok kc (State.closeNow s n x) := by
  unfold State.closeNow
  repeat' first
    | with_reducible assumption | with_reducible apply State.setSess_ok | with_reducible apply State.setWsess_ok
    | with_reducible apply ok_ite | intro _ | split | dsimp only | with_reducible apply okF | dsimp only [Ok]

theorem State.closeSess_ok (s : State) (n : Nat) (x : Sess) (hk : Ok kc s) (h_sch : kc.frozen .sch = false := by first | with_reducible assumption | rfl) : Ok kc (State.closeSess s n x).1 := by
  unfold State.closeSess
  repeat' first
    | with_reducible assumption | with_reducible apply State.setSess_ok | with_reducible apply ok_ite | intro _ | split
    | dsimp only | with_reducible apply okF | dsimp only [Ok]

theorem execSessionClose_ok (src : CmdSource) (s : State) (hk : Ok kc s) (h_regs : kc.frozen .regs = false := by first | with_reducible assumption | rfl) (h_glb : kc.frozen .glb = false := by first | with_reducible assumption | rfl) (h_vale : kc.frozen .vale = false := by first | with_reducible assumption | rfl) (h_qm : kc.frozen .qm = false := by first | with_reducible assumption | rfl) (h_net : kc.frozen .net = false := by first | with_reducible assumption | rfl) (h_wsa : kc.frozen .wsa = false := by first | with_reducible assumption | rfl) (h_sch : kc.frozen .sch = false := by first | with_reducible assumption | rfl) (h_out : kc.frozen .out = false := by first | with_reducible assumption | rfl) : OkO kc (execSessionClose src s) := by
  unfold execSessionClose
  repeat' first
    | with_reducible assumption | with_reducible apply State.closeNow_ok | with_reducible apply State.closeSess_ok
    | with_reducible apply State.errCmd_ok | with_reducible apply State.okCmd_ok | with_reducible apply State.runCmd_ok
    | with_reducible apply okO_next | with_reducible apply okO_fault | with_reducible apply ok_ite | intro _ | split | dsimp only
    | with_reducible apply okF | dsimp only [Ok]


/-! ### Time -/

theorem State.roundFree_ok (s : State) (a : Int) (d : Nat) (hk : Ok kc s) : Ok kc (State.roundFree s a d).2 := by
  unfold State.roundFree
  repeat' first
    | with_reducible assumption | with_reducible apply State.draw_ok | with_reducible apply ok_ite | intro _ | split | dsimp only
    | with_reducible apply okF | dsimp only [Ok]

theorem State.slew_ok (s : State) (hk : Ok kc s) (h_time : kc.frozen .time = false := by first | with_reducible assumption | rfl) : Ok kc (State.slew s) := by
  unfold State.slew
  repeat' first
    | with_reducible assumption | with_reducible apply State.draw_ok | intro _ | split | dsimp only | with_reducible apply okF
    | with_reducible refine okF_time (okF ?_) | dsimp only [Ok]

theorem State.freezeEps_ok (s : State) (hk : Ok kc s) (h_time : kc.frozen .time = false := by first | with_reducible assumption | rfl) : Ok kc (State.freezeEps s) := by
  unfold State.freezeEps
  repeat' first
    | with_reducible assumption | with_reducible apply State.roundFree_ok | with_reducible apply ok_ite | intro _ | split
    | dsimp only | with_reducible apply okF | with_reducible refine okF_time (okF ?_) | dsimp only [Ok]

theorem State.enterHoldover_ok (s : State) (hk : Ok kc s) (h_regs : kc.frozen .regs = false := by first | with_reducible assumption | rfl) (h_time : kc.frozen .time = false := by first | with_reducible assumption | rfl) : Ok kc (State.enterHoldover s) := by
  unfold State.enterHoldover
  repeat' first
    | with_reducible assumption | with_reducible apply State.count_ok | with_reducible apply State.freezeEps_ok
    | with_reducible apply ok_ite | intro _ | split | dsimp only | with_reducible apply okF
    | with_reducible refine okF_time (okF ?_) | dsimp only [Ok]

theorem State.tellTimeLost_ok (s : State) (hk : Ok kc s) (h_regs : kc.frozen .regs = false := by first | with_reducible assumption | rfl) (h_glb : kc.frozen .glb = false := by first | with_reducible assumption | rfl) (h_vale : kc.frozen .vale = false := by first | with_reducible assumption | rfl) (h_qm : kc.frozen .qm = false := by first | with_reducible assumption | rfl) (h_net : kc.frozen .net = false := by first | with_reducible assumption | rfl) (h_sch : kc.frozen .sch = false := by first | with_reducible assumption | rfl) (h_out : kc.frozen .out = false := by first | with_reducible assumption | rfl) : Ok kc (State.tellTimeLost s) := by
  unfold State.tellTimeLost
  repeat' first
    | with_reducible assumption | with_reducible apply State.modSess_ok | with_reducible apply State.repromise_ok
    | with_reducible apply foldl_ok | with_reducible apply foldl_ok1 | with_reducible apply foldl_ok2 | with_reducible apply ok_ite
    | intro _ | split | dsimp only | with_reducible apply okF | dsimp only [Ok]

theorem State.tellStep_ok (s : State) (d : Int) (hk : Ok kc s) (h_regs : kc.frozen .regs = false := by first | with_reducible assumption | rfl) (h_glb : kc.frozen .glb = false := by first | with_reducible assumption | rfl) (h_vale : kc.frozen .vale = false := by first | with_reducible assumption | rfl) (h_qm : kc.frozen .qm = false := by first | with_reducible assumption | rfl) (h_net : kc.frozen .net = false := by first | with_reducible assumption | rfl) (h_sch : kc.frozen .sch = false := by first | with_reducible assumption | rfl) (h_out : kc.frozen .out = false := by first | with_reducible assumption | rfl) : Ok kc (State.tellStep s d) := by
  unfold State.tellStep
  repeat' first
    | with_reducible assumption | with_reducible apply State.repromise_ok | with_reducible apply foldl_ok
    | with_reducible apply foldl_ok1 | with_reducible apply foldl_ok2 | with_reducible apply ok_ite | intro _ | split | dsimp only
    | with_reducible apply okF | dsimp only [Ok]

theorem State.loseTime_ok (s : State) (new : TimeState) (hk : Ok kc s) (h_regs : kc.frozen .regs = false := by first | with_reducible assumption | rfl) (h_time : kc.frozen .time = false := by first | with_reducible assumption | rfl) (h_glb : kc.frozen .glb = false := by first | with_reducible assumption | rfl) (h_vale : kc.frozen .vale = false := by first | with_reducible assumption | rfl) (h_qm : kc.frozen .qm = false := by first | with_reducible assumption | rfl) (h_net : kc.frozen .net = false := by first | with_reducible assumption | rfl) (h_sch : kc.frozen .sch = false := by first | with_reducible assumption | rfl) (h_out : kc.frozen .out = false := by first | with_reducible assumption | rfl) : Ok kc (State.loseTime s new) := by
  unfold State.loseTime
  repeat' first
    | with_reducible assumption | with_reducible apply State.count_ok | with_reducible apply State.log_ok
    | with_reducible apply State.tellTimeLost_ok | intro _ | split | dsimp only | with_reducible apply okF
    | with_reducible refine okF_time (okF ?_) | dsimp only [Ok]

theorem State.toStep_ok (s : State) (hk : Ok kc s) (h_regs : kc.frozen .regs = false := by first | with_reducible assumption | rfl) (h_time : kc.frozen .time = false := by first | with_reducible assumption | rfl) (h_glb : kc.frozen .glb = false := by first | with_reducible assumption | rfl) (h_vale : kc.frozen .vale = false := by first | with_reducible assumption | rfl) (h_qm : kc.frozen .qm = false := by first | with_reducible assumption | rfl) (h_net : kc.frozen .net = false := by first | with_reducible assumption | rfl) (h_sch : kc.frozen .sch = false := by first | with_reducible assumption | rfl) (h_out : kc.frozen .out = false := by first | with_reducible assumption | rfl) : Ok kc (State.toStep s) := by
  unfold State.toStep
  repeat' first
    | with_reducible assumption | with_reducible apply State.loseTime_ok | with_reducible apply ok_ite | intro _ | split
    | dsimp only | with_reducible apply okF | with_reducible refine okF_time (okF ?_) | dsimp only [Ok]

theorem State.servoStep_ok (s : State) (a lock leave micro : Nat) (hk : Ok kc s) (h_regs : kc.frozen .regs = false := by first | with_reducible assumption | rfl) (h_time : kc.frozen .time = false := by first | with_reducible assumption | rfl) (h_glb : kc.frozen .glb = false := by first | with_reducible assumption | rfl) (h_vale : kc.frozen .vale = false := by first | with_reducible assumption | rfl) (h_qm : kc.frozen .qm = false := by first | with_reducible assumption | rfl) (h_net : kc.frozen .net = false := by first | with_reducible assumption | rfl) (h_sch : kc.frozen .sch = false := by first | with_reducible assumption | rfl) (h_out : kc.frozen .out = false := by first | with_reducible assumption | rfl) : Ok kc (State.servoStep s a lock leave micro) := by
  unfold State.servoStep
  repeat' first
    | with_reducible assumption | with_reducible apply State.toStep_ok | with_reducible apply ok_ite | intro _ | split | dsimp only
    | with_reducible apply okF | with_reducible refine okF_time (okF ?_) | dsimp only [Ok]

theorem State.ptpHeard_ok (s : State) (p : Nat) (hk : Ok kc s) (h_net : kc.frozen .net = false := by first | with_reducible assumption | rfl) : Ok kc (State.ptpHeard s p) := by
  unfold State.ptpHeard
  repeat' first
    | with_reducible assumption | with_reducible apply ok_ite | intro _ | split | dsimp only | with_reducible apply okF
    | with_reducible refine okF_net (okF ?_) | dsimp only [Ok]

theorem execPtpSync_ok (m : PtpSync) (s : State) (hk : Ok kc s) (h_regs : kc.frozen .regs = false := by first | with_reducible assumption | rfl) (h_time : kc.frozen .time = false := by first | with_reducible assumption | rfl) (h_glb : kc.frozen .glb = false := by first | with_reducible assumption | rfl) (h_vale : kc.frozen .vale = false := by first | with_reducible assumption | rfl) (h_qm : kc.frozen .qm = false := by first | with_reducible assumption | rfl) (h_net : kc.frozen .net = false := by first | with_reducible assumption | rfl) (h_sch : kc.frozen .sch = false := by first | with_reducible assumption | rfl) (h_out : kc.frozen .out = false := by first | with_reducible assumption | rfl) : OkO kc (execPtpSync m s) := by
  unfold execPtpSync
  repeat' first
    | with_reducible assumption | with_reducible apply State.ptpHeard_ok | with_reducible apply State.roundFree_ok
    | with_reducible apply State.servoStep_ok | with_reducible apply State.slew_ok | with_reducible apply okO_next
    | with_reducible apply okO_fault | with_reducible apply ok_ite | intro _ | split | dsimp only | with_reducible apply okF
    | with_reducible refine okF_time (okF ?_) | dsimp only [Ok]

theorem State.chooseMaster_ok (s : State) (hk : Ok kc s) (h_time : kc.frozen .time = false := by first | with_reducible assumption | rfl) : Ok kc (State.chooseMaster s) := by
  unfold State.chooseMaster
  repeat' first
    | with_reducible assumption | with_reducible apply ok_ite | intro _ | split | dsimp only | with_reducible apply okF
    | with_reducible refine okF_time (okF ?_) | dsimp only [Ok]

theorem execPtpAnnounce_ok (m : PtpAnnounce) (s : State) (hk : Ok kc s) (h_time : kc.frozen .time = false := by first | with_reducible assumption | rfl) (h_net : kc.frozen .net = false := by first | with_reducible assumption | rfl) : OkO kc (execPtpAnnounce m s) := by
  unfold execPtpAnnounce
  repeat' first
    | with_reducible assumption | with_reducible apply State.chooseMaster_ok | with_reducible apply State.ptpHeard_ok
    | with_reducible apply okO_next | with_reducible apply okO_fault | with_reducible apply ok_ite | intro _ | split | dsimp only
    | with_reducible apply okF | with_reducible refine okF_time (okF ?_) | dsimp only [Ok]

theorem execPtpDelayReqSend_ok (txStamp : Nat) (s : State) (hk : Ok kc s) (h_time : kc.frozen .time = false := by first | with_reducible assumption | rfl) (h_out : kc.frozen .out = false := by first | with_reducible assumption | rfl) : OkO kc (execPtpDelayReqSend txStamp s) := by
  unfold execPtpDelayReqSend
  repeat' first
    | with_reducible assumption | with_reducible apply State.emit_ok | with_reducible apply okO_next
    | with_reducible apply okO_fault | with_reducible apply ok_ite | intro _ | split | dsimp only | with_reducible apply okF
    | with_reducible refine okF_time (okF ?_) | dsimp only [Ok]

theorem execPtpDelayResp_ok (m : PtpDelayResp) (s : State) (hk : Ok kc s) (h_time : kc.frozen .time = false := by first | with_reducible assumption | rfl) (h_net : kc.frozen .net = false := by first | with_reducible assumption | rfl) : OkO kc (execPtpDelayResp m s) := by
  unfold execPtpDelayResp
  repeat' first
    | with_reducible assumption | with_reducible apply State.ptpHeard_ok | with_reducible apply State.roundFree_ok
    | with_reducible apply okO_next | with_reducible apply okO_fault | with_reducible apply ok_ite | intro _ | split | dsimp only
    | with_reducible apply okF | with_reducible refine okF_time (okF ?_) | dsimp only [Ok]

theorem execAnnounceReceiptTimeout_ok (s : State) (hk : Ok kc s) (h_regs : kc.frozen .regs = false := by first | with_reducible assumption | rfl) (h_clk : kc.frozen .clk = false := by first | with_reducible assumption | rfl) (h_time : kc.frozen .time = false := by first | with_reducible assumption | rfl) (h_glb : kc.frozen .glb = false := by first | with_reducible assumption | rfl) : OkO kc (execAnnounceReceiptTimeout s) := by
  unfold execAnnounceReceiptTimeout
  repeat' first
    | with_reducible assumption | with_reducible apply State.advanceTo_ok | with_reducible apply State.chooseMaster_ok
    | with_reducible apply State.count_ok | with_reducible apply State.enterHoldover_ok | with_reducible apply okO_next
    | with_reducible apply okO_fault | with_reducible apply ok_ite | intro _ | split | dsimp only | with_reducible apply okF
    | with_reducible refine okF_time (okF ?_) | dsimp only [Ok]

theorem execSyncTimeout_ok (s : State) (hk : Ok kc s) (h_regs : kc.frozen .regs = false := by first | with_reducible assumption | rfl) (h_clk : kc.frozen .clk = false := by first | with_reducible assumption | rfl) (h_time : kc.frozen .time = false := by first | with_reducible assumption | rfl) (h_glb : kc.frozen .glb = false := by first | with_reducible assumption | rfl) : OkO kc (execSyncTimeout s) := by
  unfold execSyncTimeout
  repeat' first
    | with_reducible assumption | with_reducible apply State.advanceTo_ok | with_reducible apply State.enterHoldover_ok
    | with_reducible apply okO_next | with_reducible apply okO_fault | with_reducible apply ok_ite | intro _ | split | dsimp only
    | with_reducible apply okF | dsimp only [Ok]

theorem execHoldoverExpire_ok (s : State) (hk : Ok kc s) (h_regs : kc.frozen .regs = false := by first | with_reducible assumption | rfl) (h_clk : kc.frozen .clk = false := by first | with_reducible assumption | rfl) (h_time : kc.frozen .time = false := by first | with_reducible assumption | rfl) (h_glb : kc.frozen .glb = false := by first | with_reducible assumption | rfl) (h_vale : kc.frozen .vale = false := by first | with_reducible assumption | rfl) (h_qm : kc.frozen .qm = false := by first | with_reducible assumption | rfl) (h_net : kc.frozen .net = false := by first | with_reducible assumption | rfl) (h_sch : kc.frozen .sch = false := by first | with_reducible assumption | rfl) (h_out : kc.frozen .out = false := by first | with_reducible assumption | rfl) : OkO kc (execHoldoverExpire s) := by
  unfold execHoldoverExpire
  repeat' first
    | with_reducible assumption | with_reducible apply State.advanceTo_ok | with_reducible apply State.loseTime_ok
    | with_reducible apply okO_next | with_reducible apply okO_fault | with_reducible apply ok_ite | intro _ | split | dsimp only
    | with_reducible apply okF | dsimp only [Ok]

theorem State.stepNowOn_ok (s : State) (hk : Ok kc s) (h_time : kc.frozen .time = false := by first | with_reducible assumption | rfl) : Ok kc (State.stepNowOn s) := by
  unfold State.stepNowOn
  repeat' first
    | with_reducible assumption | with_reducible apply ok_ite | intro _ | split | dsimp only | with_reducible apply okF
    | with_reducible refine okF_time (okF ?_) | dsimp only [Ok]

theorem execTimeStepNow_ok (s : State) (hk : Ok kc s) (h_time : kc.frozen .time = false := by first | with_reducible assumption | rfl) : OkO kc (execTimeStepNow s) := by
  unfold execTimeStepNow
  repeat' first
    | with_reducible assumption | with_reducible apply State.stepNowOn_ok | with_reducible apply State.whenReady_ok
    | with_reducible apply okO_next | with_reducible apply okO_fault | intro _ | split | dsimp only | with_reducible apply okF
    | dsimp only [Ok]

theorem State.renumber_ok (s : State) (d : Int) (hk : Ok kc s) (h_glb : kc.frozen .glb = false := by first | with_reducible assumption | rfl) (h_thm : kc.frozen .thm = false := by first | with_reducible assumption | rfl) (h_pwr : kc.frozen .pwr = false := by first | with_reducible assumption | rfl) (h_tiles : kc.frozen .tiles = false := by first | with_reducible assumption | rfl) (h_wsa : kc.frozen .wsa = false := by first | with_reducible assumption | rfl) (h_sch : kc.frozen .sch = false := by first | with_reducible assumption | rfl) (h_mp : kc.frozen .mp = false := by first | with_reducible assumption | rfl) : Ok kc (State.renumber s d) := by
  unfold State.renumber
  repeat' first
    | with_reducible assumption | with_reducible apply foldl_ok | with_reducible apply foldl_ok1 | with_reducible apply foldl_ok2
    | with_reducible apply ok_ite | intro _ | split | dsimp only | with_reducible apply okF
    | with_reducible refine okF_glb (okF_thm (okF_pwr (okF_tiles (okF_wsa (okF_sch (okF_mp (okF ?_))))))) | dsimp only [Ok]

theorem State.takeStep_ok (s : State) (hk : Ok kc s) (h_regs : kc.frozen .regs = false := by first | with_reducible assumption | rfl) (h_time : kc.frozen .time = false := by first | with_reducible assumption | rfl) (h_glb : kc.frozen .glb = false := by first | with_reducible assumption | rfl) (h_vale : kc.frozen .vale = false := by first | with_reducible assumption | rfl) (h_qm : kc.frozen .qm = false := by first | with_reducible assumption | rfl) (h_net : kc.frozen .net = false := by first | with_reducible assumption | rfl) (h_thm : kc.frozen .thm = false := by first | with_reducible assumption | rfl) (h_pwr : kc.frozen .pwr = false := by first | with_reducible assumption | rfl) (h_tiles : kc.frozen .tiles = false := by first | with_reducible assumption | rfl) (h_wsa : kc.frozen .wsa = false := by first | with_reducible assumption | rfl) (h_sch : kc.frozen .sch = false := by first | with_reducible assumption | rfl) (h_mp : kc.frozen .mp = false := by first | with_reducible assumption | rfl) (h_out : kc.frozen .out = false := by first | with_reducible assumption | rfl) : Ok kc (State.takeStep s) := by
  unfold State.takeStep
  repeat' first
    | with_reducible assumption | with_reducible apply State.count_ok | with_reducible apply State.log_ok
    | with_reducible apply State.renumber_ok | with_reducible apply State.roundFree_ok | with_reducible apply State.tellStep_ok
    | intro _ | split | dsimp only | with_reducible apply okF | with_reducible refine okF_time (okF ?_) | dsimp only [Ok]

theorem State.rateFlip_ok (s : State) (n : Nat) (hk : Ok kc s) (h_time : kc.frozen .time = false := by first | with_reducible assumption | rfl) : Ok kc (State.rateFlip s n) := by
  unfold State.rateFlip
  repeat' first
    | with_reducible assumption | with_reducible apply ok_ite | intro _ | split | dsimp only | with_reducible apply okF
    | with_reducible refine okF_time (okF ?_) | dsimp only [Ok]

theorem State.timeLive_ok (s : State) (hk : Ok kc s) (h_inForce : kc.frozen .inForce = false := by first | with_reducible assumption | rfl) (h_regs : kc.frozen .regs = false := by first | with_reducible assumption | rfl) (h_time : kc.frozen .time = false := by first | with_reducible assumption | rfl) : Ok kc (State.timeLive s) := by
  unfold State.timeLive
  repeat' first
    | with_reducible assumption | with_reducible apply State.pendLive_ok | with_reducible apply ok_ite | intro _ | split
    | dsimp only | with_reducible apply okF | with_reducible refine okF_time (okF ?_) | dsimp only [Ok]

theorem State.wallOut_ok (s : State) (hk : Ok kc s) (h_time : kc.frozen .time = false := by first | with_reducible assumption | rfl) (h_out : kc.frozen .out = false := by first | with_reducible assumption | rfl) : Ok kc (State.wallOut s) := by
  unfold State.wallOut
  repeat' first
    | with_reducible assumption | with_reducible apply State.emit_ok | with_reducible apply ok_ite | intro _ | split | dsimp only
    | with_reducible apply okF | with_reducible refine okF_time (okF ?_) | dsimp only [Ok]

theorem State.markerCheck_ok (s : State) (hk : Ok kc s) (h_regs : kc.frozen .regs = false := by first | with_reducible assumption | rfl) (h_time : kc.frozen .time = false := by first | with_reducible assumption | rfl) : Ok kc (State.markerCheck s) := by
  unfold State.markerCheck
  repeat' first
    | with_reducible assumption | with_reducible apply State.count_ok | with_reducible apply ok_ite | intro _ | split | dsimp only
    | with_reducible apply okF | with_reducible refine okF_time (okF ?_) | dsimp only [Ok]

theorem State.timeFlip_ok (s : State) (hk : Ok kc s) (h_inForce : kc.frozen .inForce = false := by first | with_reducible assumption | rfl) (h_regs : kc.frozen .regs = false := by first | with_reducible assumption | rfl) (h_clk : kc.frozen .clk = false := by first | with_reducible assumption | rfl) (h_time : kc.frozen .time = false := by first | with_reducible assumption | rfl) (h_glb : kc.frozen .glb = false := by first | with_reducible assumption | rfl) (h_vale : kc.frozen .vale = false := by first | with_reducible assumption | rfl) (h_qm : kc.frozen .qm = false := by first | with_reducible assumption | rfl) (h_net : kc.frozen .net = false := by first | with_reducible assumption | rfl) (h_thm : kc.frozen .thm = false := by first | with_reducible assumption | rfl) (h_pwr : kc.frozen .pwr = false := by first | with_reducible assumption | rfl) (h_tiles : kc.frozen .tiles = false := by first | with_reducible assumption | rfl) (h_wsa : kc.frozen .wsa = false := by first | with_reducible assumption | rfl) (h_sch : kc.frozen .sch = false := by first | with_reducible assumption | rfl) (h_mp : kc.frozen .mp = false := by first | with_reducible assumption | rfl) (h_out : kc.frozen .out = false := by first | with_reducible assumption | rfl) : Ok kc (State.timeFlip s) := by
  unfold State.timeFlip
  repeat' first
    | with_reducible assumption | with_reducible apply State.advanceWall_ok | with_reducible apply State.markerCheck_ok
    | with_reducible apply State.rateFlip_ok | with_reducible apply State.takeStep_ok | with_reducible apply State.timeLive_ok
    | with_reducible apply State.wallOut_ok | with_reducible apply ok_ite | intro _ | split | dsimp only | with_reducible apply okF
    | with_reducible refine okF_time (okF ?_) | dsimp only [Ok]

theorem State.markerAnchor_ok (s : State) (t n rate : Nat) (hk : Ok kc s) (h_time : kc.frozen .time = false := by first | with_reducible assumption | rfl) (h_glb : kc.frozen .glb = false := by first | with_reducible assumption | rfl) (h_thm : kc.frozen .thm = false := by first | with_reducible assumption | rfl) (h_pwr : kc.frozen .pwr = false := by first | with_reducible assumption | rfl) (h_tiles : kc.frozen .tiles = false := by first | with_reducible assumption | rfl) (h_wsa : kc.frozen .wsa = false := by first | with_reducible assumption | rfl) (h_sch : kc.frozen .sch = false := by first | with_reducible assumption | rfl) (h_mp : kc.frozen .mp = false := by first | with_reducible assumption | rfl) : Ok kc (State.markerAnchor s t n rate) := by
  unfold State.markerAnchor
  repeat' first
    | with_reducible assumption | with_reducible apply State.renumber_ok | with_reducible apply ok_ite | intro _ | split
    | dsimp only | with_reducible apply okF | with_reducible refine okF_time (okF ?_) | dsimp only [Ok]

theorem marker_ok (m : Marker) (s : State) (hk : Ok kc s) (e : Int) (x1 x2 x3 x4 rate t n fl : Nat) (h_regs : kc.frozen .regs = false := by first | with_reducible assumption | rfl) (h_time : kc.frozen .time = false := by first | with_reducible assumption | rfl) (h_glb : kc.frozen .glb = false := by first | with_reducible assumption | rfl) (h_vale : kc.frozen .vale = false := by first | with_reducible assumption | rfl) (h_qm : kc.frozen .qm = false := by first | with_reducible assumption | rfl) (h_net : kc.frozen .net = false := by first | with_reducible assumption | rfl) (h_thm : kc.frozen .thm = false := by first | with_reducible assumption | rfl) (h_pwr : kc.frozen .pwr = false := by first | with_reducible assumption | rfl) (h_tiles : kc.frozen .tiles = false := by first | with_reducible assumption | rfl) (h_wsa : kc.frozen .wsa = false := by first | with_reducible assumption | rfl) (h_sch : kc.frozen .sch = false := by first | with_reducible assumption | rfl) (h_mp : kc.frozen .mp = false := by first | with_reducible assumption | rfl) (h_out : kc.frozen .out = false := by first | with_reducible assumption | rfl) : OkO kc
      (let r := s.roundFree e x1
      let chg := if bits fl 1 1 = 1 then some (fieldB m.msg 22 1, fieldB m.msg 16 6) else none
      let s1 := { r.2 with
        time.pherr := satInt 16 r.1, time.offset := e, time.wsWfn := n, time.leaderValid := decide (bits fl 0 1 = 1)
        time.wsGot := true, time.wsMiss := 0, time.chg := chg }
      let s2 : State := (if s1.time.state = .stepPending then s1 else s1.slew).servoStep e.natAbs x2 x3 x4
      .next (if s2.time.state = .stepPending then { s2 with time.wsAnchor := some (t, n, rate) } else s2.markerAnchor t n rate)) := by
  repeat' first
    | with_reducible assumption | with_reducible apply State.markerAnchor_ok | with_reducible apply State.roundFree_ok
    | with_reducible apply State.servoStep_ok | with_reducible apply State.slew_ok | with_reducible apply okO_next
    | with_reducible apply ok_ite | intro _ | dsimp only | with_reducible apply okF | with_reducible refine okF_time (okF ?_)
    | dsimp only [Ok]

theorem execWallSyncMarker_ok (m : Marker) (s : State) (hk : Ok kc s) (h_regs : kc.frozen .regs = false := by first | with_reducible assumption | rfl) (h_time : kc.frozen .time = false := by first | with_reducible assumption | rfl) (h_glb : kc.frozen .glb = false := by first | with_reducible assumption | rfl) (h_vale : kc.frozen .vale = false := by first | with_reducible assumption | rfl) (h_qm : kc.frozen .qm = false := by first | with_reducible assumption | rfl) (h_net : kc.frozen .net = false := by first | with_reducible assumption | rfl) (h_thm : kc.frozen .thm = false := by first | with_reducible assumption | rfl) (h_pwr : kc.frozen .pwr = false := by first | with_reducible assumption | rfl) (h_tiles : kc.frozen .tiles = false := by first | with_reducible assumption | rfl) (h_wsa : kc.frozen .wsa = false := by first | with_reducible assumption | rfl) (h_sch : kc.frozen .sch = false := by first | with_reducible assumption | rfl) (h_mp : kc.frozen .mp = false := by first | with_reducible assumption | rfl) (h_out : kc.frozen .out = false := by first | with_reducible assumption | rfl) : OkO kc (execWallSyncMarker m s) := by
  unfold execWallSyncMarker
  split
  · exact hk
  · split
    · exact marker_ok m s hk _ _ _ _ _ _ _ _ _
    · exact okO_next (State.count_ok _ _ _ hk)

theorem execMarkerMissHoldover_ok (s : State) (hk : Ok kc s) (h_regs : kc.frozen .regs = false := by first | with_reducible assumption | rfl) (h_time : kc.frozen .time = false := by first | with_reducible assumption | rfl) : OkO kc (execMarkerMissHoldover s) := by
  unfold execMarkerMissHoldover
  repeat' first
    | with_reducible assumption | with_reducible apply State.enterHoldover_ok | with_reducible apply okO_next
    | with_reducible apply okO_fault | with_reducible apply ok_ite | intro _ | split | dsimp only | with_reducible apply okF
    | dsimp only [Ok]

theorem State.commitTime_ok (s : State) (hk : Ok kc s) (h_inForce : kc.frozen .inForce = false := by first | with_reducible assumption | rfl) (h_regs : kc.frozen .regs = false := by first | with_reducible assumption | rfl) (h_time : kc.frozen .time = false := by first | with_reducible assumption | rfl) : Ok kc (State.commitTime s).2 := by
  unfold State.commitTime
  repeat' first
    | with_reducible assumption | with_reducible apply State.acceptCommit_ok | with_reducible apply State.rejectCommit_ok
    | with_reducible apply ok_ite | intro _ | split | dsimp only | with_reducible apply okF
    | with_reducible refine okF_time (okF ?_) | dsimp only [Ok]


/-! ### Dmc -/

theorem execRefreshDue_ok (c : Fin 12) (sub rank : Fin 2) (burst : Bool) (s : State) (hk : Ok kc s) (h_regs : kc.frozen .regs = false := by first | with_reducible assumption | rfl) (h_dmc : kc.frozen .dmc = false := by first | with_reducible assumption | rfl) : OkO kc (execRefreshDue c sub rank burst s) := by
  unfold execRefreshDue
  repeat' first
    | with_reducible assumption | with_reducible apply State.count_ok | with_reducible apply State.setChan_ok
    | with_reducible apply okO_next | with_reducible apply okO_fault | with_reducible apply ok_ite | intro _ | split | dsimp only
    | with_reducible apply okF | dsimp only [Ok]

theorem execRefreshPullin_ok (c : Fin 12) (sub rank : Fin 2) (s : State) (hk : Ok kc s) (h_regs : kc.frozen .regs = false := by first | with_reducible assumption | rfl) (h_dmc : kc.frozen .dmc = false := by first | with_reducible assumption | rfl) : OkO kc (execRefreshPullin c sub rank s) := by
  unfold execRefreshPullin
  repeat' first
    | with_reducible assumption | with_reducible apply State.count_ok | with_reducible apply State.setChan_ok
    | with_reducible apply okO_next | with_reducible apply okO_fault | with_reducible apply ok_ite | intro _ | split | dsimp only
    | with_reducible apply okF | dsimp only [Ok]

theorem execMr4Poll_ok (c : Fin 12) (rate : Fin 5) (s : State) (hk : Ok kc s) (h_regs : kc.frozen .regs = false := by first | with_reducible assumption | rfl) (h_glb : kc.frozen .glb = false := by first | with_reducible assumption | rfl) (h_dmc : kc.frozen .dmc = false := by first | with_reducible assumption | rfl) (h_qm : kc.frozen .qm = false := by first | with_reducible assumption | rfl) (h_out : kc.frozen .out = false := by first | with_reducible assumption | rfl) : OkO kc (execMr4Poll c rate s) := by
  unfold execMr4Poll
  repeat' first
    | with_reducible assumption | with_reducible apply State.count_ok | with_reducible apply State.log_ok
    | with_reducible apply State.setChan_ok | with_reducible apply okO_next | with_reducible apply okO_fault
    | with_reducible apply ok_ite | intro _ | split | dsimp only | with_reducible apply okF | dsimp only [Ok]

theorem execRankPowerDown_ok (c : Fin 12) (rank : Fin 2) (s : State) (hk : Ok kc s) (h_regs : kc.frozen .regs = false := by first | with_reducible assumption | rfl) (h_clk : kc.frozen .clk = false := by first | with_reducible assumption | rfl) (h_time : kc.frozen .time = false := by first | with_reducible assumption | rfl) (h_glb : kc.frozen .glb = false := by first | with_reducible assumption | rfl) (h_dmc : kc.frozen .dmc = false := by first | with_reducible assumption | rfl) : OkO kc (execRankPowerDown c rank s) := by
  unfold execRankPowerDown
  repeat' first
    | with_reducible assumption | with_reducible apply State.advanceTo_ok | with_reducible apply State.count_ok
    | with_reducible apply State.setChan_ok | with_reducible apply okO_next | with_reducible apply okO_fault
    | with_reducible apply ok_ite | intro _ | split | dsimp only | with_reducible apply okF | dsimp only [Ok]

theorem execSelfRefreshReentry_ok (c : Fin 12) (s : State) (hk : Ok kc s) (h_regs : kc.frozen .regs = false := by first | with_reducible assumption | rfl) (h_clk : kc.frozen .clk = false := by first | with_reducible assumption | rfl) (h_time : kc.frozen .time = false := by first | with_reducible assumption | rfl) (h_glb : kc.frozen .glb = false := by first | with_reducible assumption | rfl) (h_dmc : kc.frozen .dmc = false := by first | with_reducible assumption | rfl) : OkO kc (execSelfRefreshReentry c s) := by
  unfold execSelfRefreshReentry
  repeat' first
    | with_reducible assumption | with_reducible apply State.advanceTo_ok | with_reducible apply State.selfRefresh_ok
    | with_reducible apply okO_next | with_reducible apply okO_fault | with_reducible apply ok_ite | intro _ | split | dsimp only
    | with_reducible apply okF | dsimp only [Ok]

theorem execTrackingStep_ok (c : Fin 12) (sub : Fin 2) (s : State) (hk : Ok kc s) (h_regs : kc.frozen .regs = false := by first | with_reducible assumption | rfl) (h_clk : kc.frozen .clk = false := by first | with_reducible assumption | rfl) (h_time : kc.frozen .time = false := by first | with_reducible assumption | rfl) (h_glb : kc.frozen .glb = false := by first | with_reducible assumption | rfl) (h_dmc : kc.frozen .dmc = false := by first | with_reducible assumption | rfl) : OkO kc (execTrackingStep c sub s) := by
  unfold execTrackingStep
  repeat' first
    | with_reducible assumption | with_reducible apply State.advanceTo_ok | with_reducible apply State.count_ok
    | with_reducible apply State.setChan_ok | with_reducible apply okO_next | with_reducible apply okO_fault
    | with_reducible apply ok_ite | intro _ | split | dsimp only | with_reducible apply okF | dsimp only [Ok]

theorem execSetPointSwitch_ok (stall : BitVec 16) (s : State) (hk : Ok kc s) (h_regs : kc.frozen .regs = false := by first | with_reducible assumption | rfl) (h_dmc : kc.frozen .dmc = false := by first | with_reducible assumption | rfl) : OkO kc (execSetPointSwitch stall s) := by
  unfold execSetPointSwitch
  repeat' first
    | with_reducible assumption | with_reducible apply State.count_ok | with_reducible apply State.leaveSelfRefresh_ok
    | with_reducible apply State.modChan_ok | with_reducible apply okO_next | with_reducible apply okO_fault
    | with_reducible apply foldl_ok | with_reducible apply foldl_ok1 | with_reducible apply foldl_ok2 | with_reducible apply ok_ite
    | intro _ | split | dsimp only | with_reducible apply okF | with_reducible refine okF_dmc (okF ?_) | dsimp only [Ok]

theorem State.reachBar2_ok (s : State) (o n : Nat) (hk : Ok kc s) (h_regs : kc.frozen .regs = false := by first | with_reducible assumption | rfl) (h_dmc : kc.frozen .dmc = false := by first | with_reducible assumption | rfl) : Ok kc (State.reachBar2 s o n) := by
  unfold State.reachBar2
  repeat' first
    | with_reducible assumption | with_reducible apply State.openRow_ok | with_reducible apply State.touchRanks_ok
    | with_reducible apply foldl_ok | with_reducible apply foldl_ok1 | with_reducible apply foldl_ok2 | intro _ | split
    | dsimp only | with_reducible apply okF | dsimp only [Ok]

theorem State.grantBar2_ok (s : State) (w : Waiter) (o n : Nat) (hk : Ok kc s) (h_regs : kc.frozen .regs = false := by first | with_reducible assumption | rfl) (h_dmc : kc.frozen .dmc = false := by first | with_reducible assumption | rfl) : Ok kc (State.grantBar2 s w o n) := by
  unfold State.grantBar2
  repeat' first
    | with_reducible assumption | with_reducible apply State.grantReq_ok | with_reducible apply State.reachBar2_ok | intro _
    | split | dsimp only | with_reducible apply okF | dsimp only [Ok]

theorem State.bar2Store_ok (s : State) (o : Nat) (bs : List (Option Byte)) (hk : Ok kc s) (h_dram : kc.frozen .dram = false := by first | with_reducible assumption | rfl) (h_dmc : kc.frozen .dmc = false := by first | with_reducible assumption | rfl) : Ok kc (State.bar2Store s o bs) := by
  unfold State.bar2Store
  dsimp only [Ok]
  exact okF_dram (okF hk) (fun hi => memWf_storeEnabled (hk.bulk hi))

theorem State.bar2Serve_ok (s : State) (o : Nat) (acc : MemAcc) (hk : Ok kc s) (h_regs : kc.frozen .regs = false := by first | with_reducible assumption | rfl) (h_dram : kc.frozen .dram = false := by first | with_reducible assumption | rfl) (h_dmc : kc.frozen .dmc = false := by first | with_reducible assumption | rfl) (h_out : kc.frozen .out = false := by first | with_reducible assumption | rfl) : Ok kc (State.bar2Serve s o acc) := by
  unfold State.bar2Serve
  repeat' first
    | with_reducible assumption | with_reducible apply State.bar2Store_ok | with_reducible apply State.emit_ok
    | with_reducible apply State.reachBar2_ok | intro _ | split | dsimp only | with_reducible apply okF | dsimp only [Ok]

theorem State.countAged_ok (s : State) (r : MemReq) (hk : Ok kc s) (h_regs : kc.frozen .regs = false := by first | with_reducible assumption | rfl) : Ok kc (State.countAged s r) := by
  unfold State.countAged
  repeat' first
    | with_reducible assumption | with_reducible apply State.count_ok | with_reducible apply foldl_ok
    | with_reducible apply foldl_ok1 | with_reducible apply foldl_ok2 | with_reducible apply ok_ite | intro _ | split | dsimp only
    | with_reducible apply okF | dsimp only [Ok]

theorem State.serveHeld_ok (n : Nat) (l : List MemReq) (s : State) (hk : Ok kc s) (h_regs : kc.frozen .regs = false := by first | with_reducible assumption | rfl) (h_dram : kc.frozen .dram = false := by first | with_reducible assumption | rfl) (h_dmc : kc.frozen .dmc = false := by first | with_reducible assumption | rfl) (h_out : kc.frozen .out = false := by first | with_reducible assumption | rfl) : Ok kc (State.serveHeld n l s) := by
  induction n generalizing s l with
  | zero => exact hk
  | succ n ih =>
    unfold State.serveHeld
    split
    · exact ih _ _ (State.bar2Serve_ok _ _ _ (State.countAged_ok _ _ hk))
    · exact hk

theorem State.releaseHeld_ok (s : State) (hk : Ok kc s) (h_regs : kc.frozen .regs = false := by first | with_reducible assumption | rfl) (h_dram : kc.frozen .dram = false := by first | with_reducible assumption | rfl) (h_dmc : kc.frozen .dmc = false := by first | with_reducible assumption | rfl) (h_out : kc.frozen .out = false := by first | with_reducible assumption | rfl) : Ok kc (State.releaseHeld s) := by
  unfold State.releaseHeld
  repeat' first
    | with_reducible assumption | with_reducible apply State.serveHeld_ok | intro _ | split | dsimp only | with_reducible apply okF
    | with_reducible refine okF_dmc (okF ?_) | dsimp only [Ok]

theorem execBar2Access_ok (off : BitVec 36) (acc : MemAcc) (s : State) (hk : Ok kc s) (h_regs : kc.frozen .regs = false := by first | with_reducible assumption | rfl) (h_dram : kc.frozen .dram = false := by first | with_reducible assumption | rfl) (h_dmc : kc.frozen .dmc = false := by first | with_reducible assumption | rfl) (h_out : kc.frozen .out = false := by first | with_reducible assumption | rfl) : OkO kc (execBar2Access off acc s) := by
  unfold execBar2Access
  repeat' first
    | with_reducible assumption | with_reducible apply State.bar2Serve_ok | with_reducible apply okO_next
    | with_reducible apply okO_fault | with_reducible apply ok_ite | intro _ | split | dsimp only | with_reducible apply okF
    | with_reducible refine okF_dmc (okF ?_) | dsimp only [Ok]

theorem State.writeTrain_ok (s : State) (v : Nat) (hk : Ok kc s) (h_written : kc.frozen .written = false := by first | with_reducible assumption | rfl) (h_regs : kc.frozen .regs = false := by first | with_reducible assumption | rfl) (h_dmc : kc.frozen .dmc = false := by first | with_reducible assumption | rfl) (h_sch : kc.frozen .sch = false := by first | with_reducible assumption | rfl) : Ok kc (State.writeTrain s v) := by
  unfold State.writeTrain
  repeat' first
    | with_reducible assumption | with_reducible apply State.modChan_ok | with_reducible apply State.putReg_ok
    | with_reducible apply foldl_ok | with_reducible apply foldl_ok1 | with_reducible apply foldl_ok2 | with_reducible apply ok_ite
    | intro _ | split | dsimp only | with_reducible apply okF | with_reducible refine okF_dmc (okF_sch (okF ?_)) | dsimp only [Ok]

theorem execDmcTrainStart_ok (value : Word) (s : State) (hk : Ok kc s) (h_written : kc.frozen .written = false := by first | with_reducible assumption | rfl) (h_regs : kc.frozen .regs = false := by first | with_reducible assumption | rfl) (h_dmc : kc.frozen .dmc = false := by first | with_reducible assumption | rfl) (h_sch : kc.frozen .sch = false := by first | with_reducible assumption | rfl) : OkO kc (execDmcTrainStart value s) := by
  unfold execDmcTrainStart
  repeat' first
    | with_reducible assumption | with_reducible apply State.whenReady_ok | with_reducible apply State.writeTrain_ok
    | with_reducible apply okO_next | with_reducible apply okO_fault | intro _ | split | dsimp only | with_reducible apply okF
    | dsimp only [Ok]

theorem State.releaseUnknown_ok (s : State) (hk : Ok kc s) (h_regs : kc.frozen .regs = false := by first | with_reducible assumption | rfl) (h_dmc : kc.frozen .dmc = false := by first | with_reducible assumption | rfl) (h_tiles : kc.frozen .tiles = false := by first | with_reducible assumption | rfl) (h_film : kc.frozen .film = false := by first | with_reducible assumption | rfl) : Ok kc (State.releaseUnknown s) := by
  unfold State.releaseUnknown
  repeat' first
    | with_reducible assumption | with_reducible apply State.tileUnknown_ok | with_reducible apply State.touchPlanes_ok
    | with_reducible apply foldl_ok | with_reducible apply foldl_ok1 | with_reducible apply foldl_ok2 | with_reducible apply ok_ite
    | intro _ | split | dsimp only | with_reducible apply okF | with_reducible refine okF_film (okF ?_) | dsimp only [Ok]

theorem State.endTraining_ok (s : State) (mask bad : List Nat) (hk : Ok kc s) (h_regs : kc.frozen .regs = false := by first | with_reducible assumption | rfl) (h_glb : kc.frozen .glb = false := by first | with_reducible assumption | rfl) (h_dmc : kc.frozen .dmc = false := by first | with_reducible assumption | rfl) (h_qm : kc.frozen .qm = false := by first | with_reducible assumption | rfl) (h_out : kc.frozen .out = false := by first | with_reducible assumption | rfl) : Ok kc (State.endTraining s mask bad) := by
  unfold State.endTraining
  repeat' first
    | with_reducible assumption | with_reducible apply State.log_ok | with_reducible apply State.modChan_ok
    | with_reducible apply foldl_ok | with_reducible apply foldl_ok1 | with_reducible apply foldl_ok2 | with_reducible apply ok_ite
    | intro _ | split | dsimp only | with_reducible apply okF | with_reducible refine okF_dmc (okF ?_) | dsimp only [Ok]

theorem execInlineEccError_ok (c : Fin 12) (addr : BitVec 64) (double : Bool) (s : State) (hk : Ok kc s) (h_regs : kc.frozen .regs = false := by first | with_reducible assumption | rfl) (h_glb : kc.frozen .glb = false := by first | with_reducible assumption | rfl) (h_dmc : kc.frozen .dmc = false := by first | with_reducible assumption | rfl) (h_qm : kc.frozen .qm = false := by first | with_reducible assumption | rfl) (h_pwr : kc.frozen .pwr = false := by first | with_reducible assumption | rfl) (h_ports : kc.frozen .ports = false := by first | with_reducible assumption | rfl) (h_tiles : kc.frozen .tiles = false := by first | with_reducible assumption | rfl) (h_wsa : kc.frozen .wsa = false := by first | with_reducible assumption | rfl) (h_mp : kc.frozen .mp = false := by first | with_reducible assumption | rfl) (h_out : kc.frozen .out = false := by first | with_reducible assumption | rfl) : OkO kc (execInlineEccError c addr double s) := by
  unfold execInlineEccError
  repeat' first
    | with_reducible assumption | with_reducible apply State.beginReset_ok | with_reducible apply State.count_ok
    | with_reducible apply State.log_ok | with_reducible apply State.touchRank_ok | with_reducible apply okO_next
    | with_reducible apply okO_fault | with_reducible apply ok_ite | intro _ | split | dsimp only | with_reducible apply okF
    | with_reducible refine okF_glb (okF ?_) | dsimp only [Ok]


/-! ### Mp -/

theorem State.sweepSeen_ok (s : State) (n : Nat) (hk : Ok kc s) (h_regs : kc.frozen .regs = false := by first | with_reducible assumption | rfl) (h_mp : kc.frozen .mp = false := by first | with_reducible assumption | rfl) : Ok kc (State.sweepSeen s n) := by
  unfold State.sweepSeen
  repeat' first
    | with_reducible assumption | with_reducible apply State.count_ok | with_reducible apply State.setSrc_ok
    | with_reducible apply ok_ite | intro _ | split | dsimp only | with_reducible apply okF | dsimp only [Ok]

theorem State.dropPic_ok (s : State) (n : Nat) (p : Pic) (hk : Ok kc s) (h_regs : kc.frozen .regs = false := by first | with_reducible assumption | rfl) (h_mp : kc.frozen .mp = false := by first | with_reducible assumption | rfl) : Ok kc (State.dropPic s n p) := by
  unfold State.dropPic
  repeat' first
    | with_reducible assumption | with_reducible apply State.count_ok | with_reducible apply State.setSrc_ok | intro _ | split
    | dsimp only | with_reducible apply okF | dsimp only [Ok]

theorem State.takePic_ok (s : State) (n : Nat) (p : Pic) (hk : Ok kc s) (h_regs : kc.frozen .regs = false := by first | with_reducible assumption | rfl) (h_mp : kc.frozen .mp = false := by first | with_reducible assumption | rfl) : Ok kc (State.takePic s n p) := by
  unfold State.takePic
  repeat' first
    | with_reducible assumption | with_reducible apply State.count_ok | with_reducible apply State.setSrc_ok
    | with_reducible apply ok_ite | intro _ | split | dsimp only | with_reducible apply okF | dsimp only [Ok]

theorem State.closeOver_ok (s : State) (n : Nat) (hk : Ok kc s) (h_regs : kc.frozen .regs = false := by first | with_reducible assumption | rfl) (h_mp : kc.frozen .mp = false := by first | with_reducible assumption | rfl) : Ok kc (State.closeOver s n) := by
  unfold State.closeOver
  repeat' first
    | with_reducible assumption | with_reducible apply State.dropPic_ok | with_reducible apply foldl_ok
    | with_reducible apply foldl_ok1 | with_reducible apply foldl_ok2 | with_reducible apply ok_ite | intro _ | split | dsimp only
    | with_reducible apply okF | dsimp only [Ok]

theorem State.fillPic_ok (s : State) (n : Nat) (p : RtpPkt) (pic : Pic) (hk : Ok kc s) (h_regs : kc.frozen .regs = false := by first | with_reducible assumption | rfl) (h_mp : kc.frozen .mp = false := by first | with_reducible assumption | rfl) : Ok kc (State.fillPic s n p pic) := by
  unfold State.fillPic
  repeat' first
    | with_reducible assumption | with_reducible apply State.closeOver_ok | with_reducible apply State.setSrc_ok
    | with_reducible apply State.takePic_ok | with_reducible apply ok_ite | intro _ | split | dsimp only | with_reducible apply okF
    | dsimp only [Ok]

theorem State.storePacket_ok (s0 : State) (n : Nat) (p : RtpPkt) (came : Nat) (hk : Ok kc s0) (h_regs : kc.frozen .regs = false := by first | with_reducible assumption | rfl) (h_mp : kc.frozen .mp = false := by first | with_reducible assumption | rfl) : Ok kc (State.storePacket s0 n p came) := by
  unfold State.storePacket
  repeat' first
    | with_reducible assumption | with_reducible apply State.closeOver_ok | with_reducible apply State.count_ok
    | with_reducible apply State.dropPic_ok | with_reducible apply State.fillPic_ok | with_reducible apply State.setSrc_ok
    | with_reducible apply foldl_ok | with_reducible apply foldl_ok1 | with_reducible apply foldl_ok2 | with_reducible apply ok_ite
    | intro _ | split | dsimp only | with_reducible apply okF | dsimp only [Ok]

theorem State.intake_ok (s : State) (n : Nat) (p : RtpPkt) (hk : Ok kc s) (h_regs : kc.frozen .regs = false := by first | with_reducible assumption | rfl) (h_dmc : kc.frozen .dmc = false := by first | with_reducible assumption | rfl) (h_mp : kc.frozen .mp = false := by first | with_reducible assumption | rfl) : Ok kc (State.intake s n p) := by
  unfold State.intake
  repeat' first
    | with_reducible assumption | with_reducible apply State.storePacket_ok | with_reducible apply State.touchPool_ok
    | with_reducible apply ok_ite | intro _ | split | dsimp only | with_reducible apply okF | with_reducible refine okF_mp (okF ?_)
    | dsimp only [Ok]

theorem State.releaseIntake_ok (s : State) (hk : Ok kc s) (h_regs : kc.frozen .regs = false := by first | with_reducible assumption | rfl) (h_dmc : kc.frozen .dmc = false := by first | with_reducible assumption | rfl) (h_mp : kc.frozen .mp = false := by first | with_reducible assumption | rfl) : Ok kc (State.releaseIntake s) := by
  unfold State.releaseIntake
  repeat' first
    | with_reducible assumption | with_reducible apply State.count_ok | with_reducible apply State.storePacket_ok
    | with_reducible apply State.touchPool_ok | with_reducible apply foldl_ok | with_reducible apply foldl_ok1
    | with_reducible apply foldl_ok2 | with_reducible apply ok_ite | intro _ | split | dsimp only | with_reducible apply okF
    | with_reducible refine okF_mp (okF ?_) | dsimp only [Ok]

theorem execTrainingDone_ok (failed : List (Fin 12)) (s : State) (hk : Ok kc s) (h_regs : kc.frozen .regs = false := by first | with_reducible assumption | rfl) (h_glb : kc.frozen .glb = false := by first | with_reducible assumption | rfl) (h_dram : kc.frozen .dram = false := by first | with_reducible assumption | rfl) (h_dmc : kc.frozen .dmc = false := by first | with_reducible assumption | rfl) (h_qm : kc.frozen .qm = false := by first | with_reducible assumption | rfl) (h_tiles : kc.frozen .tiles = false := by first | with_reducible assumption | rfl) (h_film : kc.frozen .film = false := by first | with_reducible assumption | rfl) (h_mp : kc.frozen .mp = false := by first | with_reducible assumption | rfl) (h_out : kc.frozen .out = false := by first | with_reducible assumption | rfl) : OkO kc (execTrainingDone failed s) := by
  unfold execTrainingDone
  repeat' first
    | with_reducible assumption | with_reducible apply State.endTraining_ok | with_reducible apply State.releaseHeld_ok
    | with_reducible apply State.releaseIntake_ok | with_reducible apply State.releaseUnknown_ok | with_reducible apply okO_next
    | with_reducible apply okO_fault | intro _ | split | dsimp only | with_reducible apply okF | dsimp only [Ok]

theorem State.mergeSeq_ok (s : State) (n : Nat) (p : RtpPkt) (hk : Ok kc s) (h_regs : kc.frozen .regs = false := by first | with_reducible assumption | rfl) (h_mp : kc.frozen .mp = false := by first | with_reducible assumption | rfl) : Ok kc (State.mergeSeq s n p).2 := by
  unfold State.mergeSeq
  repeat' first
    | with_reducible assumption | with_reducible apply State.count_ok | with_reducible apply State.setSrc_ok
    | with_reducible apply ok_ite | intro _ | split | dsimp only | with_reducible apply okF | dsimp only [Ok]

theorem State.rxPacket_ok (s : State) (n : Nat) (p : RtpPkt) (hk : Ok kc s) (h_regs : kc.frozen .regs = false := by first | with_reducible assumption | rfl) (h_dmc : kc.frozen .dmc = false := by first | with_reducible assumption | rfl) (h_mp : kc.frozen .mp = false := by first | with_reducible assumption | rfl) : Ok kc (State.rxPacket s n p) := by
  unfold State.rxPacket
  repeat' first
    | with_reducible assumption | with_reducible apply State.intake_ok | with_reducible apply State.mergeSeq_ok
    | with_reducible apply State.setSrc_ok | with_reducible apply State.sweepSeen_ok | with_reducible apply ok_ite | intro _
    | split | dsimp only | with_reducible apply okF | dsimp only [Ok]

theorem State.commitMp_ok (s : State) (hk : Ok kc s) (h_inForce : kc.frozen .inForce = false := by first | with_reducible assumption | rfl) (h_regs : kc.frozen .regs = false := by first | with_reducible assumption | rfl) : Ok kc (State.commitMp s).2 := by
  unfold State.commitMp
  repeat' first
    | with_reducible assumption | with_reducible apply State.acceptCommit_ok | with_reducible apply State.rejectCommit_ok
    | with_reducible apply ok_ite | intro _ | split | dsimp only | with_reducible apply okF | dsimp only [Ok]

theorem State.mpLive_ok (s : State) (hk : Ok kc s) (h_inForce : kc.frozen .inForce = false := by first | with_reducible assumption | rfl) (h_regs : kc.frozen .regs = false := by first | with_reducible assumption | rfl) (h_mp : kc.frozen .mp = false := by first | with_reducible assumption | rfl) : Ok kc (State.mpLive s) := by
  unfold State.mpLive
  repeat' first
    | with_reducible assumption | with_reducible apply State.pendLive_ok | intro _ | split | dsimp only | with_reducible apply okF
    | with_reducible refine okF_mp (okF ?_) | dsimp only [Ok]


/-! ### Net -/

theorem State.rxDrop_ok (s : State) (q : Nat) (hk : Ok kc s) (h_regs : kc.frozen .regs = false := by first | with_reducible assumption | rfl) : Ok kc (State.rxDrop s q) := by
  unfold State.rxDrop
  repeat' first
    | with_reducible assumption | with_reducible apply State.count_ok | with_reducible apply ok_ite | intro _ | split | dsimp only
    | with_reducible apply okF | dsimp only [Ok]

theorem execEthFrameDiscard_ok (port : Fin 16) (_vid : Option (BitVec 12)) (s : State) (hk : Ok kc s) (h_regs : kc.frozen .regs = false := by first | with_reducible assumption | rfl) : OkO kc (execEthFrameDiscard port _vid s) := by
  unfold execEthFrameDiscard
  repeat' first
    | with_reducible assumption | with_reducible apply State.rxDrop_ok | with_reducible apply okO_next
    | with_reducible apply okO_fault | intro _ | split | dsimp only | with_reducible apply okF | dsimp only [Ok]

theorem execArpRequest_ok (port : Fin 16) (vid : Option (BitVec 12)) (mac : BitVec 48) (ip target : BitVec 32) (s : State) (hk : Ok kc s) (h_regs : kc.frozen .regs = false := by first | with_reducible assumption | rfl) (h_out : kc.frozen .out = false := by first | with_reducible assumption | rfl) : OkO kc (execArpRequest port vid mac ip target s) := by
  unfold execArpRequest
  repeat' first
    | with_reducible assumption | with_reducible apply State.emit_ok | with_reducible apply State.rxDrop_ok
    | with_reducible apply okO_next | with_reducible apply okO_fault | with_reducible apply ok_ite | intro _ | split | dsimp only
    | with_reducible apply okF | dsimp only [Ok]

theorem execIcmpEcho_ok (port : Fin 16) (vid : Option (BitVec 12)) (mac : BitVec 48) (ip dst : BitVec 32) (payload : List Byte) (s : State) (hk : Ok kc s) (h_regs : kc.frozen .regs = false := by first | with_reducible assumption | rfl) (h_out : kc.frozen .out = false := by first | with_reducible assumption | rfl) : OkO kc (execIcmpEcho port vid mac ip dst payload s) := by
  unfold execIcmpEcho
  repeat' first
    | with_reducible assumption | with_reducible apply State.emit_ok | with_reducible apply State.rxDrop_ok
    | with_reducible apply okO_next | with_reducible apply okO_fault | with_reducible apply ok_ite | intro _ | split | dsimp only
    | with_reducible apply okF | dsimp only [Ok]

theorem execIgmpQuery_ok (port : Fin 16) (vid : Option (BitVec 12)) (version : Fin 4) (group : BitVec 32) (s : State) (hk : Ok kc s) (h_regs : kc.frozen .regs = false := by first | with_reducible assumption | rfl) (h_out : kc.frozen .out = false := by first | with_reducible assumption | rfl) : OkO kc (execIgmpQuery port vid version group s) := by
  unfold execIgmpQuery
  repeat' first
    | with_reducible assumption | with_reducible apply State.emit_ok | with_reducible apply State.rxDrop_ok
    | with_reducible apply okO_next | with_reducible apply okO_fault | with_reducible apply ok_ite | intro _ | split | dsimp only
    | with_reducible apply okF | dsimp only [Ok]

theorem execRtpPacket_ok (p : RtpPkt) (s : State) (hk : Ok kc s) (h_regs : kc.frozen .regs = false := by first | with_reducible assumption | rfl) (h_dmc : kc.frozen .dmc = false := by first | with_reducible assumption | rfl) (h_mp : kc.frozen .mp = false := by first | with_reducible assumption | rfl) : OkO kc (execRtpPacket p s) := by
  unfold execRtpPacket
  repeat' first
    | with_reducible assumption | with_reducible apply State.rxDrop_ok | with_reducible apply State.rxPacket_ok
    | with_reducible apply okO_next | with_reducible apply okO_fault | with_reducible apply foldl_ok
    | with_reducible apply foldl_ok1 | with_reducible apply foldl_ok2 | with_reducible apply ok_ite | intro _ | split | dsimp only
    | with_reducible apply okF | dsimp only [Ok]

theorem State.udpOut_ok (s : State) (q mac ip port : Nat) (payload : List Byte) (hk : Ok kc s) (h_regs : kc.frozen .regs = false := by first | with_reducible assumption | rfl) (h_out : kc.frozen .out = false := by first | with_reducible assumption | rfl) : Ok kc (State.udpOut s q mac ip port payload) := by
  unfold State.udpOut
  repeat' first
    | with_reducible assumption | with_reducible apply State.count_ok | with_reducible apply State.emit_ok | intro _ | split
    | dsimp only | with_reducible apply okF | dsimp only [Ok]

theorem State.sendUdp_ok (s : State) (q ip port : Nat) (payload : List Byte) (hk : Ok kc s) (h_regs : kc.frozen .regs = false := by first | with_reducible assumption | rfl) (h_net : kc.frozen .net = false := by first | with_reducible assumption | rfl) (h_out : kc.frozen .out = false := by first | with_reducible assumption | rfl) : Ok kc (State.sendUdp s q ip port payload) := by
  unfold State.sendUdp
  repeat' first
    | with_reducible assumption | with_reducible apply State.emit_ok | with_reducible apply State.udpOut_ok | intro _ | split
    | dsimp only | with_reducible apply okF | with_reducible refine okF_net (okF ?_) | dsimp only [Ok]

theorem execArpReply_ok (port : Fin 16) (vid : Option (BitVec 12)) (mac : BitVec 48) (ip target : BitVec 32) (s : State) (hk : Ok kc s) (h_regs : kc.frozen .regs = false := by first | with_reducible assumption | rfl) (h_net : kc.frozen .net = false := by first | with_reducible assumption | rfl) (h_out : kc.frozen .out = false := by first | with_reducible assumption | rfl) : OkO kc (execArpReply port vid mac ip target s) := by
  unfold execArpReply
  repeat' first
    | with_reducible assumption | with_reducible apply State.rxDrop_ok | with_reducible apply State.udpOut_ok
    | with_reducible apply okO_next | with_reducible apply okO_fault | with_reducible apply foldl_ok
    | with_reducible apply foldl_ok1 | with_reducible apply foldl_ok2 | with_reducible apply ok_ite | intro _ | split | dsimp only
    | with_reducible apply okF | with_reducible refine okF_net (okF ?_) | dsimp only [Ok]

theorem State.authFail_ok (s : State) (j q : Nat) (hk : Ok kc s) (h_regs : kc.frozen .regs = false := by first | with_reducible assumption | rfl) (h_glb : kc.frozen .glb = false := by first | with_reducible assumption | rfl) (h_qm : kc.frozen .qm = false := by first | with_reducible assumption | rfl) (h_out : kc.frozen .out = false := by first | with_reducible assumption | rfl) : Ok kc (State.authFail s j q) := by
  unfold State.authFail
  repeat' first
    | with_reducible assumption | with_reducible apply State.count_ok | with_reducible apply State.log_ok | intro _ | split
    | dsimp only | with_reducible apply okF | dsimp only [Ok]

theorem State.placePacket_ok (s : State) (d : Datagram) (j : Fin 256) (seq count : Nat) (hk : Ok kc s) (h_regs : kc.frozen .regs = false := by first | with_reducible assumption | rfl) (h_glb : kc.frozen .glb = false := by first | with_reducible assumption | rfl) (h_vale : kc.frozen .vale = false := by first | with_reducible assumption | rfl) (h_qm : kc.frozen .qm = false := by first | with_reducible assumption | rfl) (h_net : kc.frozen .net = false := by first | with_reducible assumption | rfl) (h_out : kc.frozen .out = false := by first | with_reducible assumption | rfl) : Ok kc (State.placePacket s d j seq count) := by
  unfold State.placePacket
  repeat' first
    | with_reducible assumption | with_reducible apply State.count_ok | with_reducible apply State.ctrlReach_ok
    | with_reducible apply State.fetchNets_ok | with_reducible apply State.setPeer_ok | with_reducible apply State.setRing_ok
    | with_reducible apply ok_ite | intro _ | split | dsimp only | with_reducible apply okF | with_reducible refine okF_qm (okF ?_)
    | dsimp only [Ok]

theorem State.resend_ok (s : State) (j seq : Nat) (hk : Ok kc s) (h_regs : kc.frozen .regs = false := by first | with_reducible assumption | rfl) (h_net : kc.frozen .net = false := by first | with_reducible assumption | rfl) (h_out : kc.frozen .out = false := by first | with_reducible assumption | rfl) : Ok kc (State.resend s j seq) := by
  unfold State.resend
  repeat' first
    | with_reducible assumption | with_reducible apply State.count_ok | with_reducible apply State.sendUdp_ok | intro _ | split
    | dsimp only | with_reducible apply okF | dsimp only [Ok]

theorem execCommandDatagram_ok (d : Datagram) (s : State) (hk : Ok kc s) (h_regs : kc.frozen .regs = false := by first | with_reducible assumption | rfl) (h_glb : kc.frozen .glb = false := by first | with_reducible assumption | rfl) (h_vale : kc.frozen .vale = false := by first | with_reducible assumption | rfl) (h_qm : kc.frozen .qm = false := by first | with_reducible assumption | rfl) (h_net : kc.frozen .net = false := by first | with_reducible assumption | rfl) (h_out : kc.frozen .out = false := by first | with_reducible assumption | rfl) : OkO kc (execCommandDatagram d s) := by
  unfold execCommandDatagram
  repeat' first
    | with_reducible assumption | with_reducible apply State.authFail_ok | with_reducible apply State.count_ok
    | with_reducible apply State.placePacket_ok | with_reducible apply State.resend_ok | with_reducible apply State.rxDrop_ok
    | with_reducible apply okO_next | with_reducible apply okO_fault | with_reducible apply ok_ite | intro _ | split | dsimp only
    | with_reducible apply okF | dsimp only [Ok]

theorem execCompletionDatagramSend_ok (j : Fin 256) (s : State) (hk : Ok kc s) (h_regs : kc.frozen .regs = false := by first | with_reducible assumption | rfl) (h_glb : kc.frozen .glb = false := by first | with_reducible assumption | rfl) (h_vale : kc.frozen .vale = false := by first | with_reducible assumption | rfl) (h_qm : kc.frozen .qm = false := by first | with_reducible assumption | rfl) (h_net : kc.frozen .net = false := by first | with_reducible assumption | rfl) (h_out : kc.frozen .out = false := by first | with_reducible assumption | rfl) : OkO kc (execCompletionDatagramSend j s) := by
  unfold execCompletionDatagramSend
  repeat' first
    | with_reducible assumption | with_reducible apply State.refetch_ok | with_reducible apply State.sendUdp_ok
    | with_reducible apply State.setPeer_ok | with_reducible apply State.setRing_ok | with_reducible apply okO_next
    | with_reducible apply okO_fault | with_reducible apply ok_ite | intro _ | split | dsimp only | with_reducible apply okF
    | with_reducible refine okF_qm (okF ?_) | dsimp only [Ok]

theorem State.setKey_ok (s : State) (j : Nat) (key : List Byte) (hk : Ok kc s) (h_net : kc.frozen .net = false := by first | with_reducible assumption | rfl) (h_flash : kc.frozen .flash = false := by first | with_reducible assumption | rfl) : Ok kc (State.setKey s j key) := by
  unfold State.setKey
  repeat' first
    | with_reducible assumption | with_reducible apply State.setPeer_ok | with_reducible apply ok_ite | intro _ | split
    | dsimp only | with_reducible apply okF | with_reducible refine okF_flash (okF ?_) | dsimp only [Ok]

theorem State.poutMilli_ok (s : State) (w : Nat) (hk : Ok kc s) : Ok kc (State.poutMilli s w).2 := by
  unfold State.poutMilli
  repeat' first
    | with_reducible assumption | with_reducible apply State.draw_ok | with_reducible apply State.roundFree_ok
    | with_reducible apply ok_ite | intro _ | split | dsimp only | with_reducible apply okF | dsimp only [Ok]

theorem State.pmbFail_ok (s : State) (n : Nat) (pec : Bool) (hk : Ok kc s) (h_regs : kc.frozen .regs = false := by first | with_reducible assumption | rfl) (h_net : kc.frozen .net = false := by first | with_reducible assumption | rfl) : Ok kc (State.pmbFail s n pec) := by
  unfold State.pmbFail
  repeat' first
    | with_reducible assumption | with_reducible apply State.count_ok | intro _ | split | dsimp only | with_reducible apply okF
    | with_reducible refine okF_net (okF ?_) | dsimp only [Ok]

theorem execPmbusPoll_ok (n : Fin 8) (poll : PmbusPoll) (s : State) (hk : Ok kc s) (h_regs : kc.frozen .regs = false := by first | with_reducible assumption | rfl) (h_net : kc.frozen .net = false := by first | with_reducible assumption | rfl) : OkO kc (execPmbusPoll n poll s) := by
  unfold execPmbusPoll
  repeat' first
    | with_reducible assumption | with_reducible apply State.pmbFail_ok | with_reducible apply State.poutMilli_ok
    | with_reducible apply okO_next | with_reducible apply okO_fault | with_reducible apply ok_ite | intro _ | split | dsimp only
    | with_reducible apply okF | with_reducible refine okF_net (okF ?_) | dsimp only [Ok]

theorem State.commitNet_ok (s : State) (hk : Ok kc s) (h_inForce : kc.frozen .inForce = false := by first | with_reducible assumption | rfl) (h_regs : kc.frozen .regs = false := by first | with_reducible assumption | rfl) : Ok kc (State.commitNet s).2 := by
  unfold State.commitNet
  repeat' first
    | with_reducible assumption | with_reducible apply State.acceptCommit_ok | with_reducible apply State.rejectCommit_ok
    | with_reducible apply ok_ite | intro _ | split | dsimp only | with_reducible apply okF | dsimp only [Ok]

theorem State.netLive_ok (s : State) (hk : Ok kc s) (h_inForce : kc.frozen .inForce = false := by first | with_reducible assumption | rfl) (h_regs : kc.frozen .regs = false := by first | with_reducible assumption | rfl) (h_net : kc.frozen .net = false := by first | with_reducible assumption | rfl) (h_out : kc.frozen .out = false := by first | with_reducible assumption | rfl) : Ok kc (State.netLive s) := by
  unfold State.netLive
  repeat' first
    | with_reducible assumption | with_reducible apply State.emit_ok | with_reducible apply State.pendLive_ok
    | with_reducible apply foldl_ok | with_reducible apply foldl_ok1 | with_reducible apply foldl_ok2 | with_reducible apply ok_ite
    | intro _ | split | dsimp only | with_reducible apply okF | with_reducible refine okF_net (okF ?_) | dsimp only [Ok]


/-! ### SchGuard -/

theorem State.takeCounts_ok (s : State) (hk : Ok kc s) (h_sch : kc.frozen .sch = false := by first | with_reducible assumption | rfl) : Ok kc (State.takeCounts s) := by
  unfold State.takeCounts
  repeat' first
    | with_reducible assumption | with_reducible apply State.modSess_ok | with_reducible apply foldl_ok
    | with_reducible apply foldl_ok1 | with_reducible apply foldl_ok2 | intro _ | split | dsimp only | with_reducible apply okF
    | dsimp only [Ok]

theorem State.reopenPixel_ok (s : State) (key n : Nat) (hk : Ok kc s) (h_film : kc.frozen .film = false := by first | with_reducible assumption | rfl) (h_sch : kc.frozen .sch = false := by first | with_reducible assumption | rfl) : Ok kc (State.reopenPixel s key n) := by
  unfold State.reopenPixel
  repeat' first
    | with_reducible assumption | with_reducible apply State.modSess_ok | with_reducible apply State.setPsr_ok
    | with_reducible apply ok_ite | intro _ | split | dsimp only | with_reducible apply okF | dsimp only [Ok]

theorem State.reopenAll_ok (s : State) (hk : Ok kc s) (h_film : kc.frozen .film = false := by first | with_reducible assumption | rfl) (h_wsa : kc.frozen .wsa = false := by first | with_reducible assumption | rfl) (h_sch : kc.frozen .sch = false := by first | with_reducible assumption | rfl) : Ok kc (State.reopenAll s) := by
  unfold State.reopenAll
  repeat' first
    | with_reducible assumption | with_reducible apply State.reopenPixel_ok | with_reducible apply foldl_ok
    | with_reducible apply foldl_ok1 | with_reducible apply foldl_ok2 | intro _ | split | dsimp only | with_reducible apply okF
    | with_reducible refine okF_wsa (okF ?_) | dsimp only [Ok]

theorem State.lastRecord_ok (s : State) (n : Nat) (x : Sess) (frame : Nat) (hk : Ok kc s) (h_regs : kc.frozen .regs = false := by first | with_reducible assumption | rfl) (h_glb : kc.frozen .glb = false := by first | with_reducible assumption | rfl) (h_vale : kc.frozen .vale = false := by first | with_reducible assumption | rfl) (h_qm : kc.frozen .qm = false := by first | with_reducible assumption | rfl) (h_net : kc.frozen .net = false := by first | with_reducible assumption | rfl) (h_sch : kc.frozen .sch = false := by first | with_reducible assumption | rfl) (h_out : kc.frozen .out = false := by first | with_reducible assumption | rfl) : Ok kc (State.lastRecord s n x frame) := by
  unfold State.lastRecord
  repeat' first
    | with_reducible assumption | with_reducible apply State.count_ok | with_reducible apply State.modSess_ok
    | with_reducible apply State.postSess_ok | with_reducible apply ok_ite | intro _ | split | dsimp only
    | with_reducible apply okF | with_reducible refine okF_glb (okF ?_) | dsimp only [Ok]

theorem State.retire_ok (s : State) (n : Nat) (all : Bool) (hk : Ok kc s) (h_regs : kc.frozen .regs = false := by first | with_reducible assumption | rfl) (h_film : kc.frozen .film = false := by first | with_reducible assumption | rfl) (h_sch : kc.frozen .sch = false := by first | with_reducible assumption | rfl) : Ok kc (State.retire s n all) := by
  unfold State.retire
  repeat' first
    | with_reducible assumption | with_reducible apply State.count_ok | with_reducible apply State.freeSess_ok
    | with_reducible apply State.modSess_ok | with_reducible apply ok_ite | intro _ | split | dsimp only | with_reducible apply okF
    | with_reducible refine okF_film (okF ?_) | dsimp only [Ok]

theorem State.closeRecords_ok (s : State) (hk : Ok kc s) (h_regs : kc.frozen .regs = false := by first | with_reducible assumption | rfl) (h_glb : kc.frozen .glb = false := by first | with_reducible assumption | rfl) (h_vale : kc.frozen .vale = false := by first | with_reducible assumption | rfl) (h_qm : kc.frozen .qm = false := by first | with_reducible assumption | rfl) (h_net : kc.frozen .net = false := by first | with_reducible assumption | rfl) (h_film : kc.frozen .film = false := by first | with_reducible assumption | rfl) (h_sch : kc.frozen .sch = false := by first | with_reducible assumption | rfl) (h_out : kc.frozen .out = false := by first | with_reducible assumption | rfl) : Ok kc (State.closeRecords s) := by
  unfold State.closeRecords
  repeat' first
    | with_reducible assumption | with_reducible apply State.lastRecord_ok | with_reducible apply State.retire_ok
    | with_reducible apply foldl_ok | with_reducible apply foldl_ok1 | with_reducible apply foldl_ok2 | intro _ | split
    | dsimp only | with_reducible apply okF | dsimp only [Ok]

theorem State.freeRetained_ok (s : State) (hk : Ok kc s) (h_film : kc.frozen .film = false := by first | with_reducible assumption | rfl) (h_sch : kc.frozen .sch = false := by first | with_reducible assumption | rfl) : Ok kc (State.freeRetained s) := by
  unfold State.freeRetained
  repeat' first
    | with_reducible assumption | with_reducible apply State.freeSess_ok | with_reducible apply foldl_ok
    | with_reducible apply foldl_ok1 | with_reducible apply foldl_ok2 | with_reducible apply ok_ite | intro _ | split | dsimp only
    | with_reducible apply okF | with_reducible refine okF_film (okF ?_) | dsimp only [Ok]

theorem State.closeUnstarted_ok (s : State) (hk : Ok kc s) (h_regs : kc.frozen .regs = false := by first | with_reducible assumption | rfl) (h_glb : kc.frozen .glb = false := by first | with_reducible assumption | rfl) (h_vale : kc.frozen .vale = false := by first | with_reducible assumption | rfl) (h_qm : kc.frozen .qm = false := by first | with_reducible assumption | rfl) (h_net : kc.frozen .net = false := by first | with_reducible assumption | rfl) (h_sch : kc.frozen .sch = false := by first | with_reducible assumption | rfl) (h_out : kc.frozen .out = false := by first | with_reducible assumption | rfl) : Ok kc (State.closeUnstarted s) := by
  unfold State.closeUnstarted
  repeat' first
    | with_reducible assumption | with_reducible apply State.freeSess_ok | with_reducible apply State.lastRecord_ok
    | with_reducible apply foldl_ok | with_reducible apply foldl_ok1 | with_reducible apply foldl_ok2 | intro _ | split
    | dsimp only | with_reducible apply okF | dsimp only [Ok]

theorem State.startLevel_ok (s : State) (n : Nat) (hk : Ok kc s) (h_wsa : kc.frozen .wsa = false := by first | with_reducible assumption | rfl) (h_sch : kc.frozen .sch = false := by first | with_reducible assumption | rfl) : Ok kc (State.startLevel s n) := by
  unfold State.startLevel
  repeat' first
    | with_reducible assumption | intro _ | split | dsimp only | with_reducible apply okF
    | with_reducible refine okF_wsa (okF_sch (okF ?_)) | dsimp only [Ok]

theorem State.levelDone_ok (s : State) (n : Nat) (x : Sess) (hk : Ok kc s) (h_tiles : kc.frozen .tiles = false := by first | with_reducible assumption | rfl) (h_sch : kc.frozen .sch = false := by first | with_reducible assumption | rfl) : Ok kc (State.levelDone s n x) := by
  unfold State.levelDone
  repeat' first
    | with_reducible assumption | with_reducible apply State.modTile_ok | with_reducible apply foldl_ok
    | with_reducible apply foldl_ok1 | with_reducible apply foldl_ok2 | with_reducible apply ok_ite | intro _ | split | dsimp only
    | with_reducible apply okF | with_reducible refine okF_sch (okF ?_) | dsimp only [Ok]

theorem State.phaseStep_ok (s : State) (n : Nat) (x : Sess) (hk : Ok kc s) (h_tiles : kc.frozen .tiles = false := by first | with_reducible assumption | rfl) (h_wsa : kc.frozen .wsa = false := by first | with_reducible assumption | rfl) (h_sch : kc.frozen .sch = false := by first | with_reducible assumption | rfl) : Ok kc (State.phaseStep s n x) := by
  unfold State.phaseStep
  repeat' first
    | with_reducible assumption | with_reducible apply State.freeSess_ok | with_reducible apply State.levelDone_ok
    | with_reducible apply State.modSess_ok | with_reducible apply State.setSess_ok | with_reducible apply State.setWsess_ok
    | with_reducible apply ok_ite | intro _ | split | dsimp only | with_reducible apply okF | dsimp only [Ok]

theorem State.phaseAll_ok (s : State) (hk : Ok kc s) (h_tiles : kc.frozen .tiles = false := by first | with_reducible assumption | rfl) (h_wsa : kc.frozen .wsa = false := by first | with_reducible assumption | rfl) (h_sch : kc.frozen .sch = false := by first | with_reducible assumption | rfl) : Ok kc (State.phaseAll s) := by
  unfold State.phaseAll
  repeat' first
    | with_reducible assumption | with_reducible apply State.phaseStep_ok | with_reducible apply foldl_ok
    | with_reducible apply foldl_ok1 | with_reducible apply foldl_ok2 | intro _ | split | dsimp only | with_reducible apply okF
    | dsimp only [Ok]

theorem State.voidNow_ok (s : State) (n : Nat) (x : Sess) (hk : Ok kc s) (h_regs : kc.frozen .regs = false := by first | with_reducible assumption | rfl) (h_glb : kc.frozen .glb = false := by first | with_reducible assumption | rfl) (h_vale : kc.frozen .vale = false := by first | with_reducible assumption | rfl) (h_qm : kc.frozen .qm = false := by first | with_reducible assumption | rfl) (h_net : kc.frozen .net = false := by first | with_reducible assumption | rfl) (h_film : kc.frozen .film = false := by first | with_reducible assumption | rfl) (h_sch : kc.frozen .sch = false := by first | with_reducible assumption | rfl) (h_out : kc.frozen .out = false := by first | with_reducible assumption | rfl) : Ok kc (State.voidNow s n x) := by
  unfold State.voidNow
  repeat' first
    | with_reducible assumption | with_reducible apply State.lastRecord_ok | with_reducible apply State.retire_ok
    | with_reducible apply State.setSess_ok | intro _ | split | dsimp only | with_reducible apply okF | dsimp only [Ok]

theorem State.truncateNow_ok (s : State) (n : Nat) (x : Sess) (hk : Ok kc s) (h_wsa : kc.frozen .wsa = false := by first | with_reducible assumption | rfl) (h_sch : kc.frozen .sch = false := by first | with_reducible assumption | rfl) : Ok kc (State.truncateNow s n x) := by
  unfold State.truncateNow
  repeat' first
    | with_reducible assumption | with_reducible apply State.setSess_ok | with_reducible apply State.setWsess_ok | intro _ | split
    | dsimp only | with_reducible apply okF | dsimp only [Ok]

theorem State.resume_ok (s : State) (n : Nat) (x : Sess) (p t w : Nat) (ext : List Booking) (cause : Nat) (hk : Ok kc s) (h_regs : kc.frozen .regs = false := by first | with_reducible assumption | rfl) (h_glb : kc.frozen .glb = false := by first | with_reducible assumption | rfl) (h_vale : kc.frozen .vale = false := by first | with_reducible assumption | rfl) (h_qm : kc.frozen .qm = false := by first | with_reducible assumption | rfl) (h_net : kc.frozen .net = false := by first | with_reducible assumption | rfl) (h_wsa : kc.frozen .wsa = false := by first | with_reducible assumption | rfl) (h_sch : kc.frozen .sch = false := by first | with_reducible assumption | rfl) (h_out : kc.frozen .out = false := by first | with_reducible assumption | rfl) : Ok kc (State.resume s n x p t w ext cause) := by
  unfold State.resume
  repeat' first
    | with_reducible assumption | with_reducible apply State.repromise_ok | with_reducible apply State.setSess_ok
    | with_reducible apply State.setWsess_ok | with_reducible apply State.startLevel_ok | with_reducible apply ok_ite | intro _
    | split | dsimp only | with_reducible apply okF | dsimp only [Ok]

theorem State.readmit_ok (s : State) (n : Nat) (cause : Nat) (hk : Ok kc s) (h_regs : kc.frozen .regs = false := by first | with_reducible assumption | rfl) (h_glb : kc.frozen .glb = false := by first | with_reducible assumption | rfl) (h_vale : kc.frozen .vale = false := by first | with_reducible assumption | rfl) (h_qm : kc.frozen .qm = false := by first | with_reducible assumption | rfl) (h_net : kc.frozen .net = false := by first | with_reducible assumption | rfl) (h_film : kc.frozen .film = false := by first | with_reducible assumption | rfl) (h_wsa : kc.frozen .wsa = false := by first | with_reducible assumption | rfl) (h_sch : kc.frozen .sch = false := by first | with_reducible assumption | rfl) (h_out : kc.frozen .out = false := by first | with_reducible assumption | rfl) : Ok kc (State.readmit s n cause) := by
  unfold State.readmit
  split
  · exact hk
  · extract_lets own dead live x s0
    have h0 : Ok kc s0 := State.setSess_ok _ _ _ hk
    clear_value s0 x
    split
    · exact State.voidNow_ok _ _ _ hk
    · split
      · exact State.truncateNow_ok _ _ _ h0
      · split
        · exact State.resume_ok _ _ _ _ _ _ _ _ h0
        · extract_lets c' tiles b fits lack
          split
          · exact State.resume_ok _ _ _ _ _ _ _ _ h0
          · split
            · exact State.truncateNow_ok _ _ _ h0
            · split
              · next h =>
                refine foldl_ok (State.resume_ok _ _ _ _ _ _ _ _ (State.grab_ok _ _ _ _ _ h0 h)) ?_
                intro t a ht
                exact State.rebook_ok _ _ _ ht
              · exact State.truncateNow_ok _ _ _ h0

theorem State.halvePorts_ok (s : State) (hk : Ok kc s) (h_sch : kc.frozen .sch = false := by first | with_reducible assumption | rfl) : Ok kc (State.halvePorts s) := by
  unfold State.halvePorts
  repeat' first
    | with_reducible assumption | with_reducible apply foldl_ok | with_reducible apply foldl_ok1 | with_reducible apply foldl_ok2
    | with_reducible apply ok_ite | intro _ | split | dsimp only | with_reducible apply okF
    | with_reducible refine okF_sch (okF ?_) | dsimp only [Ok]

theorem State.voidOne_ok (z : State × List Nat) (ev : VoidEv) (hk : Ok kc z.1) (h_regs : kc.frozen .regs = false := by first | with_reducible assumption | rfl) (h_glb : kc.frozen .glb = false := by first | with_reducible assumption | rfl) (h_vale : kc.frozen .vale = false := by first | with_reducible assumption | rfl) (h_qm : kc.frozen .qm = false := by first | with_reducible assumption | rfl) (h_net : kc.frozen .net = false := by first | with_reducible assumption | rfl) (h_film : kc.frozen .film = false := by first | with_reducible assumption | rfl) (h_wsa : kc.frozen .wsa = false := by first | with_reducible assumption | rfl) (h_sch : kc.frozen .sch = false := by first | with_reducible assumption | rfl) (h_out : kc.frozen .out = false := by first | with_reducible assumption | rfl) : Ok kc (State.voidOne z ev).1 := by
  unfold State.voidOne
  repeat' first
    | with_reducible assumption | with_reducible apply foldl_ok1 | with_reducible apply State.readmit_ok
    | with_reducible apply State.rebook_ok | intro _ | split | dsimp only | with_reducible apply okF | dsimp only [Ok]

theorem State.returnOne_ok (z : State × List Nat) (y : Nat × Sess) (hk : Ok kc z.1) (h_regs : kc.frozen .regs = false := by first | with_reducible assumption | rfl) (h_glb : kc.frozen .glb = false := by first | with_reducible assumption | rfl) (h_vale : kc.frozen .vale = false := by first | with_reducible assumption | rfl) (h_qm : kc.frozen .qm = false := by first | with_reducible assumption | rfl) (h_net : kc.frozen .net = false := by first | with_reducible assumption | rfl) (h_film : kc.frozen .film = false := by first | with_reducible assumption | rfl) (h_wsa : kc.frozen .wsa = false := by first | with_reducible assumption | rfl) (h_sch : kc.frozen .sch = false := by first | with_reducible assumption | rfl) (h_out : kc.frozen .out = false := by first | with_reducible assumption | rfl) : Ok kc (State.returnOne z y).1 := by
  unfold State.returnOne
  repeat' first
    | with_reducible assumption | with_reducible apply State.readmit_ok | split | dsimp only

theorem State.voidAll_ok (s : State) (done : List Nat) (hk : Ok kc s) (h_regs : kc.frozen .regs = false := by first | with_reducible assumption | rfl) (h_glb : kc.frozen .glb = false := by first | with_reducible assumption | rfl) (h_vale : kc.frozen .vale = false := by first | with_reducible assumption | rfl) (h_qm : kc.frozen .qm = false := by first | with_reducible assumption | rfl) (h_net : kc.frozen .net = false := by first | with_reducible assumption | rfl) (h_film : kc.frozen .film = false := by first | with_reducible assumption | rfl) (h_wsa : kc.frozen .wsa = false := by first | with_reducible assumption | rfl) (h_sch : kc.frozen .sch = false := by first | with_reducible assumption | rfl) (h_out : kc.frozen .out = false := by first | with_reducible assumption | rfl) : Ok kc (State.voidAll s done) := by
  unfold State.voidAll
  repeat' first
    | with_reducible assumption | with_reducible apply State.returnOne_ok | with_reducible apply State.voidOne_ok
    | with_reducible apply foldl_ok | with_reducible apply foldl_ok1 | with_reducible apply foldl_ok2 | intro _ | split
    | dsimp only | with_reducible apply okF | with_reducible refine okF_sch (okF ?_) | dsimp only [Ok]

theorem State.handPixel_ok (s : State) (n : Nat) (x : Sess) (later : List Req) (i px py : Nat) (hk : Ok kc s) (h_regs : kc.frozen .regs = false := by first | with_reducible assumption | rfl) (h_dmc : kc.frozen .dmc = false := by first | with_reducible assumption | rfl) (h_film : kc.frozen .film = false := by first | with_reducible assumption | rfl) (h_sch : kc.frozen .sch = false := by first | with_reducible assumption | rfl) : Ok kc (State.handPixel s n x later i px py).1 := by
  unfold State.handPixel
  repeat' first
    | with_reducible assumption | with_reducible apply State.modSess_ok | with_reducible apply State.setPsr_ok
    | with_reducible apply State.touchPsr_ok | with_reducible apply ok_ite | intro _ | split | dsimp only
    | with_reducible apply okF | dsimp only [Ok]

theorem State.handPart_ok (s : State) (n : Nat) (x : Sess) (later : List Req) (a : Part) (hk : Ok kc s) (h_regs : kc.frozen .regs = false := by first | with_reducible assumption | rfl) (h_dmc : kc.frozen .dmc = false := by first | with_reducible assumption | rfl) (h_film : kc.frozen .film = false := by first | with_reducible assumption | rfl) (h_sch : kc.frozen .sch = false := by first | with_reducible assumption | rfl) : Ok kc (State.handPart s n x later a).1 := by
  unfold State.handPart
  repeat' first
    | with_reducible assumption | with_reducible apply State.handPixel_ok | with_reducible apply foldl_ok
    | with_reducible apply foldl_ok1 | with_reducible apply foldl_ok2 | intro _ | split | dsimp only | with_reducible apply okF
    | dsimp only [Ok]

theorem State.handLost_ok (s : State) (i : Nat) (hk : Ok kc s) (h_regs : kc.frozen .regs = false := by first | with_reducible assumption | rfl) (h_glb : kc.frozen .glb = false := by first | with_reducible assumption | rfl) (h_qm : kc.frozen .qm = false := by first | with_reducible assumption | rfl) (h_ports : kc.frozen .ports = false := by first | with_reducible assumption | rfl) (h_tiles : kc.frozen .tiles = false := by first | with_reducible assumption | rfl) (h_film : kc.frozen .film = false := by first | with_reducible assumption | rfl) (h_sch : kc.frozen .sch = false := by first | with_reducible assumption | rfl) (h_out : kc.frozen .out = false := by first | with_reducible assumption | rfl) : Ok kc (State.handLost s i) := by
  unfold State.handLost
  repeat' first
    | with_reducible assumption | with_reducible apply State.count_ok | with_reducible apply State.log_ok
    | with_reducible apply State.loseTile_ok | with_reducible apply State.modPort_ok | with_reducible apply State.setTile_ok
    | with_reducible apply ok_ite | intro _ | split | dsimp only | with_reducible apply okF
    | with_reducible refine okF_glb (okF_film (okF ?_)) | dsimp only [Ok]

theorem State.handOver_ok (s : State) (n : Nat) (x : Sess) (later : List Req) (hk : Ok kc s) (h_regs : kc.frozen .regs = false := by first | with_reducible assumption | rfl) (h_dmc : kc.frozen .dmc = false := by first | with_reducible assumption | rfl) (h_film : kc.frozen .film = false := by first | with_reducible assumption | rfl) (h_wsa : kc.frozen .wsa = false := by first | with_reducible assumption | rfl) (h_sch : kc.frozen .sch = false := by first | with_reducible assumption | rfl) : Ok kc (State.handOver s n x later) := by
  unfold State.handOver
  repeat' first
    | with_reducible assumption | with_reducible apply State.handPart_ok | with_reducible apply State.setSess_ok
    | with_reducible apply State.setWsess_ok | with_reducible apply State.startLevel_ok | with_reducible apply foldl_ok
    | with_reducible apply foldl_ok1 | with_reducible apply foldl_ok2 | with_reducible apply ok_ite | intro _ | split | dsimp only
    | with_reducible apply okF | dsimp only [Ok]

theorem State.handStranded_ok (s : State) (n : Nat) (x : Sess) (hk : Ok kc s) (h_regs : kc.frozen .regs = false := by first | with_reducible assumption | rfl) (h_glb : kc.frozen .glb = false := by first | with_reducible assumption | rfl) (h_vale : kc.frozen .vale = false := by first | with_reducible assumption | rfl) (h_qm : kc.frozen .qm = false := by first | with_reducible assumption | rfl) (h_net : kc.frozen .net = false := by first | with_reducible assumption | rfl) (h_ports : kc.frozen .ports = false := by first | with_reducible assumption | rfl) (h_tiles : kc.frozen .tiles = false := by first | with_reducible assumption | rfl) (h_film : kc.frozen .film = false := by first | with_reducible assumption | rfl) (h_wsa : kc.frozen .wsa = false := by first | with_reducible assumption | rfl) (h_sch : kc.frozen .sch = false := by first | with_reducible assumption | rfl) (h_out : kc.frozen .out = false := by first | with_reducible assumption | rfl) : Ok kc (State.handStranded s n x).1 := by
  unfold State.handStranded
  repeat' first
    | with_reducible assumption | with_reducible apply State.handLost_ok | with_reducible apply State.readmit_ok
    | with_reducible apply foldl_ok | with_reducible apply foldl_ok1 | with_reducible apply foldl_ok2 | with_reducible apply ok_ite
    | intro _ | split | dsimp only | with_reducible apply okF | dsimp only [Ok]

theorem State.handRun_ok (s : State) (done : List Nat) (l : List (Nat × Sess)) (hk : Ok kc s) (h_regs : kc.frozen .regs = false := by first | with_reducible assumption | rfl) (h_glb : kc.frozen .glb = false := by first | with_reducible assumption | rfl) (h_dmc : kc.frozen .dmc = false := by first | with_reducible assumption | rfl) (h_vale : kc.frozen .vale = false := by first | with_reducible assumption | rfl) (h_qm : kc.frozen .qm = false := by first | with_reducible assumption | rfl) (h_net : kc.frozen .net = false := by first | with_reducible assumption | rfl) (h_ports : kc.frozen .ports = false := by first | with_reducible assumption | rfl) (h_tiles : kc.frozen .tiles = false := by first | with_reducible assumption | rfl) (h_film : kc.frozen .film = false := by first | with_reducible assumption | rfl) (h_wsa : kc.frozen .wsa = false := by first | with_reducible assumption | rfl) (h_sch : kc.frozen .sch = false := by first | with_reducible assumption | rfl) (h_out : kc.frozen .out = false := by first | with_reducible assumption | rfl) :
    Ok kc (State.handAll.run s done l).1 := by
  induction l generalizing s done with
  | nil => exact hk
  | cons h l ih =>
    unfold State.handAll.run
    with_reducible apply ih
    with_reducible apply State.handStranded_ok
    with_reducible apply State.handOver_ok
    all_goals assumption

theorem State.handAll_ok (s : State) (hk : Ok kc s) (h_regs : kc.frozen .regs = false := by first | with_reducible assumption | rfl) (h_glb : kc.frozen .glb = false := by first | with_reducible assumption | rfl) (h_dmc : kc.frozen .dmc = false := by first | with_reducible assumption | rfl) (h_vale : kc.frozen .vale = false := by first | with_reducible assumption | rfl) (h_qm : kc.frozen .qm = false := by first | with_reducible assumption | rfl) (h_net : kc.frozen .net = false := by first | with_reducible assumption | rfl) (h_ports : kc.frozen .ports = false := by first | with_reducible assumption | rfl) (h_tiles : kc.frozen .tiles = false := by first | with_reducible assumption | rfl) (h_film : kc.frozen .film = false := by first | with_reducible assumption | rfl) (h_wsa : kc.frozen .wsa = false := by first | with_reducible assumption | rfl) (h_sch : kc.frozen .sch = false := by first | with_reducible assumption | rfl) (h_out : kc.frozen .out = false := by first | with_reducible assumption | rfl) : Ok kc (State.handAll s).1 := by
  unfold State.handAll
  refine State.handRun_ok _ _ _ (foldl_ok hk ?_)
  intro t a h
  exact State.cancelNow_ok _ _ _ h

theorem State.supersededAll_ok (s : State) (hk : Ok kc s) (h_regs : kc.frozen .regs = false := by first | with_reducible assumption | rfl) (h_glb : kc.frozen .glb = false := by first | with_reducible assumption | rfl) (h_vale : kc.frozen .vale = false := by first | with_reducible assumption | rfl) (h_qm : kc.frozen .qm = false := by first | with_reducible assumption | rfl) (h_net : kc.frozen .net = false := by first | with_reducible assumption | rfl) (h_film : kc.frozen .film = false := by first | with_reducible assumption | rfl) (h_sch : kc.frozen .sch = false := by first | with_reducible assumption | rfl) (h_out : kc.frozen .out = false := by first | with_reducible assumption | rfl) : Ok kc (State.supersededAll s) := by
  unfold State.supersededAll
  repeat' first
    | with_reducible assumption | with_reducible apply State.freeSess_ok | with_reducible apply State.lastRecord_ok
    | with_reducible apply State.retire_ok | with_reducible apply foldl_ok | with_reducible apply foldl_ok1
    | with_reducible apply foldl_ok2 | with_reducible apply ok_ite | intro _ | split | dsimp only | with_reducible apply okF
    | dsimp only [Ok]

theorem State.releaseCancelled_ok (s : State) (n : Nat) (x : Sess) (hk : Ok kc s) (h_wsa : kc.frozen .wsa = false := by first | with_reducible assumption | rfl) (h_sch : kc.frozen .sch = false := by first | with_reducible assumption | rfl) : Ok kc (State.releaseCancelled s n x) := by
  unfold State.releaseCancelled
  repeat' first
    | with_reducible assumption | with_reducible apply State.setSess_ok | with_reducible apply State.setWsess_ok
    | with_reducible apply ok_ite | intro _ | split | dsimp only | with_reducible apply okF | dsimp only [Ok]

theorem State.cancelAll_ok (s : State) (hk : Ok kc s) (h_wsa : kc.frozen .wsa = false := by first | with_reducible assumption | rfl) (h_sch : kc.frozen .sch = false := by first | with_reducible assumption | rfl) : Ok kc (State.cancelAll s) := by
  unfold State.cancelAll
  repeat' first
    | with_reducible assumption | with_reducible apply State.releaseCancelled_ok | with_reducible apply foldl_ok
    | with_reducible apply foldl_ok1 | with_reducible apply foldl_ok2 | intro _ | split | dsimp only | with_reducible apply okF
    | dsimp only [Ok]

theorem State.promote_ok (s : State) (hk : Ok kc s) (h_sch : kc.frozen .sch = false := by first | with_reducible assumption | rfl) : Ok kc (State.promote s) := by
  unfold State.promote
  repeat' first
    | with_reducible assumption | with_reducible apply State.modSess_ok | with_reducible apply foldl_ok
    | with_reducible apply foldl_ok1 | with_reducible apply foldl_ok2 | with_reducible apply ok_ite | intro _ | split | dsimp only
    | with_reducible apply okF | with_reducible refine okF_sch (okF ?_) | dsimp only [Ok]

theorem State.retryDeferred_ok (s : State) (n : Nat) (hk : Ok kc s) (h_regs : kc.frozen .regs = false := by first | with_reducible assumption | rfl) (h_glb : kc.frozen .glb = false := by first | with_reducible assumption | rfl) (h_dmc : kc.frozen .dmc = false := by first | with_reducible assumption | rfl) (h_vale : kc.frozen .vale = false := by first | with_reducible assumption | rfl) (h_qm : kc.frozen .qm = false := by first | with_reducible assumption | rfl) (h_net : kc.frozen .net = false := by first | with_reducible assumption | rfl) (h_pwr : kc.frozen .pwr = false := by first | with_reducible assumption | rfl) (h_rc : kc.frozen .rc = false := by first | with_reducible assumption | rfl) (h_wsa : kc.frozen .wsa = false := by first | with_reducible assumption | rfl) (h_sch : kc.frozen .sch = false := by first | with_reducible assumption | rfl) (h_out : kc.frozen .out = false := by first | with_reducible assumption | rfl) : Ok kc (State.retryDeferred s n) := by
  unfold State.retryDeferred
  repeat' first
    | with_reducible assumption | with_reducible apply State.answer_ok | with_reducible apply ok_ite | intro _ | split | dsimp only
    | with_reducible apply okF | dsimp only [Ok]

theorem State.refuseWaiting_ok (s : State) (n : Nat) (x : Sess) (reason frame : Nat) (hk : Ok kc s) (h_regs : kc.frozen .regs = false := by first | with_reducible assumption | rfl) (h_glb : kc.frozen .glb = false := by first | with_reducible assumption | rfl) (h_vale : kc.frozen .vale = false := by first | with_reducible assumption | rfl) (h_qm : kc.frozen .qm = false := by first | with_reducible assumption | rfl) (h_net : kc.frozen .net = false := by first | with_reducible assumption | rfl) (h_sch : kc.frozen .sch = false := by first | with_reducible assumption | rfl) (h_out : kc.frozen .out = false := by first | with_reducible assumption | rfl) : Ok kc (State.refuseWaiting s n x reason frame) := by
  unfold State.refuseWaiting
  repeat' first
    | with_reducible assumption | with_reducible apply State.count_ok | with_reducible apply State.freeSess_ok
    | with_reducible apply State.postRecord_ok | intro _ | split | dsimp only | with_reducible apply okF | dsimp only [Ok]

theorem State.retryWaiting_ok (s : State) (n : Nat) (x : Sess) (hk : Ok kc s) (h_regs : kc.frozen .regs = false := by first | with_reducible assumption | rfl) (h_glb : kc.frozen .glb = false := by first | with_reducible assumption | rfl) (h_dmc : kc.frozen .dmc = false := by first | with_reducible assumption | rfl) (h_vale : kc.frozen .vale = false := by first | with_reducible assumption | rfl) (h_qm : kc.frozen .qm = false := by first | with_reducible assumption | rfl) (h_net : kc.frozen .net = false := by first | with_reducible assumption | rfl) (h_pwr : kc.frozen .pwr = false := by first | with_reducible assumption | rfl) (h_rc : kc.frozen .rc = false := by first | with_reducible assumption | rfl) (h_wsa : kc.frozen .wsa = false := by first | with_reducible assumption | rfl) (h_sch : kc.frozen .sch = false := by first | with_reducible assumption | rfl) (h_out : kc.frozen .out = false := by first | with_reducible assumption | rfl) : Ok kc (State.retryWaiting s n x) := by
  unfold State.retryWaiting
  repeat' first
    | with_reducible assumption | with_reducible apply State.answer_ok | with_reducible apply State.findPlace_ok
    | with_reducible apply State.refuseWaiting_ok | with_reducible apply ok_ite | intro _ | split | dsimp only
    | with_reducible apply okF | dsimp only [Ok]

theorem State.recoverTile_ok (s : State) (n : Nat) (p i : Nat) (hk : Ok kc s) (h_regs : kc.frozen .regs = false := by first | with_reducible assumption | rfl) (h_glb : kc.frozen .glb = false := by first | with_reducible assumption | rfl) (h_qm : kc.frozen .qm = false := by first | with_reducible assumption | rfl) (h_sch : kc.frozen .sch = false := by first | with_reducible assumption | rfl) (h_out : kc.frozen .out = false := by first | with_reducible assumption | rfl) : Ok kc (State.recoverTile s n p i) := by
  unfold State.recoverTile
  repeat' first
    | with_reducible assumption | with_reducible apply State.log_ok | with_reducible apply State.setSess_ok
    | with_reducible apply ok_ite | intro _ | split | dsimp only | with_reducible apply okF | dsimp only [Ok]

theorem State.recoverOne_ok (s : State) (n : Nat) (x : Sess) (hk : Ok kc s) (h_regs : kc.frozen .regs = false := by first | with_reducible assumption | rfl) (h_glb : kc.frozen .glb = false := by first | with_reducible assumption | rfl) (h_qm : kc.frozen .qm = false := by first | with_reducible assumption | rfl) (h_wsa : kc.frozen .wsa = false := by first | with_reducible assumption | rfl) (h_sch : kc.frozen .sch = false := by first | with_reducible assumption | rfl) (h_out : kc.frozen .out = false := by first | with_reducible assumption | rfl) : Ok kc (State.recoverOne s n x) := by
  unfold State.recoverOne
  repeat' first
    | with_reducible assumption | with_reducible apply State.recoverTile_ok | with_reducible apply State.setSess_ok
    | with_reducible apply State.setWsess_ok | with_reducible apply State.startLevel_ok | with_reducible apply foldl_ok
    | with_reducible apply foldl_ok1 | with_reducible apply foldl_ok2 | with_reducible apply ok_ite | intro _ | split | dsimp only
    | with_reducible apply okF | dsimp only [Ok]

theorem State.retryAll_ok (s : State) (hk : Ok kc s) (h_regs : kc.frozen .regs = false := by first | with_reducible assumption | rfl) (h_glb : kc.frozen .glb = false := by first | with_reducible assumption | rfl) (h_dmc : kc.frozen .dmc = false := by first | with_reducible assumption | rfl) (h_vale : kc.frozen .vale = false := by first | with_reducible assumption | rfl) (h_qm : kc.frozen .qm = false := by first | with_reducible assumption | rfl) (h_net : kc.frozen .net = false := by first | with_reducible assumption | rfl) (h_pwr : kc.frozen .pwr = false := by first | with_reducible assumption | rfl) (h_rc : kc.frozen .rc = false := by first | with_reducible assumption | rfl) (h_wsa : kc.frozen .wsa = false := by first | with_reducible assumption | rfl) (h_sch : kc.frozen .sch = false := by first | with_reducible assumption | rfl) (h_out : kc.frozen .out = false := by first | with_reducible assumption | rfl) : Ok kc (State.retryAll s) := by
  unfold State.retryAll
  repeat' first
    | with_reducible assumption | with_reducible apply State.recoverOne_ok | with_reducible apply State.retryDeferred_ok
    | with_reducible apply State.retryWaiting_ok | with_reducible apply foldl_ok | with_reducible apply foldl_ok1
    | with_reducible apply foldl_ok2 | with_reducible apply ok_ite | intro _ | split | dsimp only | with_reducible apply okF
    | dsimp only [Ok]

theorem State.activity_ok (s : State) (hk : Ok kc s) (h_film : kc.frozen .film = false := by first | with_reducible assumption | rfl) : Ok kc (State.activity s) := by
  unfold State.activity
  repeat' first
    | with_reducible assumption | with_reducible apply foldl_ok | with_reducible apply foldl_ok1 | with_reducible apply foldl_ok2
    | with_reducible apply ok_ite | intro _ | split | dsimp only | with_reducible apply okF
    | with_reducible refine okF_film (okF ?_) | dsimp only [Ok]

theorem State.assignBundles_ok (s : State) (hk : Ok kc s) (h_wsa : kc.frozen .wsa = false := by first | with_reducible assumption | rfl) : Ok kc (State.assignBundles s) := by
  unfold State.assignBundles
  repeat' first
    | with_reducible assumption | with_reducible apply State.count_ok | with_reducible apply foldl_ok
    | with_reducible apply foldl_ok1 | with_reducible apply foldl_ok2 | intro _ | split | dsimp only | with_reducible apply okF
    | with_reducible refine okF_wsa (okF ?_) | dsimp only [Ok]

theorem State.countStranded_ok (s : State) (hk : Ok kc s) (h_sch : kc.frozen .sch = false := by first | with_reducible assumption | rfl) : Ok kc (State.countStranded s) := by
  unfold State.countStranded
  repeat' first
    | with_reducible assumption | with_reducible apply State.modSess_ok | with_reducible apply foldl_ok
    | with_reducible apply foldl_ok1 | with_reducible apply foldl_ok2 | with_reducible apply ok_ite | intro _ | split | dsimp only
    | with_reducible apply okF | dsimp only [Ok]

theorem State.closeStreams_ok (s : State) (hk : Ok kc s) (h_wsa : kc.frozen .wsa = false := by first | with_reducible assumption | rfl) (h_sch : kc.frozen .sch = false := by first | with_reducible assumption | rfl) : Ok kc (State.closeStreams s) := by
  unfold State.closeStreams
  repeat' first
    | with_reducible assumption | with_reducible apply State.closeNow_ok | with_reducible apply foldl_ok
    | with_reducible apply foldl_ok1 | with_reducible apply foldl_ok2 | with_reducible apply ok_ite | intro _ | split | dsimp only
    | with_reducible apply okF | dsimp only [Ok]

theorem State.idleEntries_ok (s : State) (hk : Ok kc s) (h_wsa : kc.frozen .wsa = false := by first | with_reducible assumption | rfl) : Ok kc (State.idleEntries s) := by
  unfold State.idleEntries
  repeat' first
    | with_reducible assumption | intro _ | split | dsimp only | with_reducible apply okF | with_reducible refine okF_wsa (okF ?_)
    | dsimp only [Ok]

theorem State.showSessions_ok (s : State) (hk : Ok kc s) (h_vale : kc.frozen .vale = false := by first | with_reducible assumption | rfl) (h_sch : kc.frozen .sch = false := by first | with_reducible assumption | rfl) : Ok kc (State.showSessions s) := by
  unfold State.showSessions
  repeat' first
    | with_reducible assumption | with_reducible apply State.setSess_ok | with_reducible apply State.swinPut_ok
    | with_reducible apply foldl_ok | with_reducible apply foldl_ok1 | with_reducible apply foldl_ok2 | with_reducible apply ok_ite
    | intro _ | split | dsimp only | with_reducible apply okF | dsimp only [Ok]

theorem State.showTiles_ok (s : State) (hk : Ok kc s) (h_vale : kc.frozen .vale = false := by first | with_reducible assumption | rfl) (h_tiles : kc.frozen .tiles = false := by first | with_reducible assumption | rfl) : Ok kc (State.showTiles s) := by
  unfold State.showTiles
  repeat' first
    | with_reducible assumption | with_reducible apply State.modTile_ok | with_reducible apply State.swinPut_ok
    | with_reducible apply foldl_ok | with_reducible apply foldl_ok1 | with_reducible apply foldl_ok2 | with_reducible apply ok_ite
    | intro _ | split | dsimp only | with_reducible apply okF | dsimp only [Ok]

theorem State.endSessions_ok (s : State) (hk : Ok kc s) (h_sch : kc.frozen .sch = false := by first | with_reducible assumption | rfl) : Ok kc (State.endSessions s) := by
  unfold State.endSessions
  repeat' first
    | with_reducible assumption | with_reducible apply State.freeSess_ok | with_reducible apply State.modSess_ok
    | with_reducible apply foldl_ok | with_reducible apply foldl_ok1 | with_reducible apply foldl_ok2 | intro _ | split
    | dsimp only | with_reducible apply okF | with_reducible refine okF_sch (okF ?_) | dsimp only [Ok]

theorem State.noteOwners_ok (s : State) (hk : Ok kc s) (h_sch : kc.frozen .sch = false := by first | with_reducible assumption | rfl) : Ok kc (State.noteOwners s) := by
  unfold State.noteOwners
  repeat' first
    | with_reducible assumption | with_reducible apply State.modSess_ok | with_reducible apply foldl_ok
    | with_reducible apply foldl_ok1 | with_reducible apply foldl_ok2 | with_reducible apply ok_ite | intro _ | split | dsimp only
    | with_reducible apply okF | dsimp only [Ok]

theorem State.guardSessions_ok (s : State) (hk : Ok kc s) (h_regs : kc.frozen .regs = false := by first | with_reducible assumption | rfl) (h_glb : kc.frozen .glb = false := by first | with_reducible assumption | rfl) (h_dmc : kc.frozen .dmc = false := by first | with_reducible assumption | rfl) (h_vale : kc.frozen .vale = false := by first | with_reducible assumption | rfl) (h_qm : kc.frozen .qm = false := by first | with_reducible assumption | rfl) (h_net : kc.frozen .net = false := by first | with_reducible assumption | rfl) (h_pwr : kc.frozen .pwr = false := by first | with_reducible assumption | rfl) (h_rc : kc.frozen .rc = false := by first | with_reducible assumption | rfl) (h_ports : kc.frozen .ports = false := by first | with_reducible assumption | rfl) (h_tiles : kc.frozen .tiles = false := by first | with_reducible assumption | rfl) (h_film : kc.frozen .film = false := by first | with_reducible assumption | rfl) (h_wsa : kc.frozen .wsa = false := by first | with_reducible assumption | rfl) (h_sch : kc.frozen .sch = false := by first | with_reducible assumption | rfl) (h_out : kc.frozen .out = false := by first | with_reducible assumption | rfl) : Ok kc (State.guardSessions s) := by
  unfold State.guardSessions
  repeat' first
    | with_reducible assumption | with_reducible apply State.cancelAll_ok | with_reducible apply State.closeRecords_ok
    | with_reducible apply State.closeStreams_ok | with_reducible apply State.closeUnstarted_ok
    | with_reducible apply State.countStranded_ok | with_reducible apply State.freeRetained_ok
    | with_reducible apply State.halvePorts_ok | with_reducible apply State.handAll_ok | with_reducible apply State.noteOwners_ok
    | with_reducible apply State.phaseAll_ok | with_reducible apply State.promote_ok | with_reducible apply State.reopenAll_ok
    | with_reducible apply State.retryAll_ok | with_reducible apply State.supersededAll_ok
    | with_reducible apply State.takeCounts_ok | with_reducible apply State.voidAll_ok | intro _ | split | dsimp only
    | with_reducible apply okF | dsimp only [Ok]

theorem State.wakeAgain_ok (s : State) (hk : Ok kc s) (h_regs : kc.frozen .regs = false := by first | with_reducible assumption | rfl) (h_dmc : kc.frozen .dmc = false := by first | with_reducible assumption | rfl) (h_vale : kc.frozen .vale = false := by first | with_reducible assumption | rfl) (h_pwr : kc.frozen .pwr = false := by first | with_reducible assumption | rfl) (h_rc : kc.frozen .rc = false := by first | with_reducible assumption | rfl) (h_wsa : kc.frozen .wsa = false := by first | with_reducible assumption | rfl) : Ok kc (State.wakeAgain s) := by
  unfold State.wakeAgain
  repeat' first
    | with_reducible assumption | with_reducible apply State.startExit_ok | with_reducible apply ok_ite | intro _ | split
    | dsimp only | with_reducible apply okF | dsimp only [Ok]

theorem execSchGuardProcess_ok (s : State) (hk : Ok kc s) (h_regs : kc.frozen .regs = false := by first | with_reducible assumption | rfl) (h_glb : kc.frozen .glb = false := by first | with_reducible assumption | rfl) (h_dmc : kc.frozen .dmc = false := by first | with_reducible assumption | rfl) (h_vale : kc.frozen .vale = false := by first | with_reducible assumption | rfl) (h_qm : kc.frozen .qm = false := by first | with_reducible assumption | rfl) (h_net : kc.frozen .net = false := by first | with_reducible assumption | rfl) (h_pwr : kc.frozen .pwr = false := by first | with_reducible assumption | rfl) (h_rc : kc.frozen .rc = false := by first | with_reducible assumption | rfl) (h_ports : kc.frozen .ports = false := by first | with_reducible assumption | rfl) (h_tiles : kc.frozen .tiles = false := by first | with_reducible assumption | rfl) (h_film : kc.frozen .film = false := by first | with_reducible assumption | rfl) (h_wsa : kc.frozen .wsa = false := by first | with_reducible assumption | rfl) (h_sch : kc.frozen .sch = false := by first | with_reducible assumption | rfl) (h_out : kc.frozen .out = false := by first | with_reducible assumption | rfl) : OkO kc (execSchGuardProcess s) := by
  unfold execSchGuardProcess
  repeat' first
    | with_reducible assumption | with_reducible apply State.activity_ok | with_reducible apply State.assignBundles_ok
    | with_reducible apply State.ctrlReach_ok | with_reducible apply State.endSessions_ok
    | with_reducible apply State.followSessions_ok | with_reducible apply State.guardSessions_ok
    | with_reducible apply State.idleEntries_ok | with_reducible apply State.showSessions_ok
    | with_reducible apply State.showTiles_ok | with_reducible apply State.wakeAgain_ok | with_reducible apply okO_next
    | with_reducible apply okO_fault | with_reducible apply ok_ite | intro _ | split | dsimp only | with_reducible apply okF
    | with_reducible refine okF_wsa (okF_sch (okF ?_)) | dsimp only [Ok]

theorem execTileFill_ok (tile : Fin 1024) (s : State) (hk : Ok kc s) (h_regs : kc.frozen .regs = false := by first | with_reducible assumption | rfl) (h_dmc : kc.frozen .dmc = false := by first | with_reducible assumption | rfl) (h_tiles : kc.frozen .tiles = false := by first | with_reducible assumption | rfl) (h_film : kc.frozen .film = false := by first | with_reducible assumption | rfl) : OkO kc (execTileFill tile s) := by
  unfold execTileFill
  repeat' first
    | with_reducible assumption | with_reducible apply State.mapPsrs_ok | with_reducible apply State.setTile_ok
    | with_reducible apply State.touchPlanes_ok | with_reducible apply okO_next | with_reducible apply okO_fault
    | with_reducible apply ok_ite | intro _ | split | dsimp only | with_reducible apply okF | dsimp only [Ok]

theorem execTileFillDone_ok (tile : Fin 1024) (s : State) (hk : Ok kc s) (h_regs : kc.frozen .regs = false := by first | with_reducible assumption | rfl) (h_dmc : kc.frozen .dmc = false := by first | with_reducible assumption | rfl) (h_fl : kc.frozen .fl = false := by first | with_reducible assumption | rfl) (h_ports : kc.frozen .ports = false := by first | with_reducible assumption | rfl) (h_tiles : kc.frozen .tiles = false := by first | with_reducible assumption | rfl) (h_film : kc.frozen .film = false := by first | with_reducible assumption | rfl) (h_sch : kc.frozen .sch = false := by first | with_reducible assumption | rfl) (h_out : kc.frozen .out = false := by first | with_reducible assumption | rfl) : OkO kc (execTileFillDone tile s) := by
  unfold execTileFillDone
  repeat' first
    | with_reducible assumption | with_reducible apply State.setTile_ok | with_reducible apply State.touchPlanes_ok
    | with_reducible apply State.tryUp_ok | with_reducible apply okO_next | with_reducible apply okO_fault
    | with_reducible apply ok_ite | intro _ | split | dsimp only | with_reducible apply okF
    | with_reducible refine okF_film (okF ?_) | dsimp only [Ok]


/-! ### Render -/

theorem State.setTarget_ok (s : State) (i x y c : Nat) (hk : Ok kc s) (h_film : kc.frozen .film = false := by first | with_reducible assumption | rfl) : Ok kc (State.setTarget s i x y c) := by
  unfold State.setTarget
  repeat' first
    | with_reducible assumption | intro _ | split | dsimp only | with_reducible apply okF | with_reducible refine okF_film (okF ?_)
    | dsimp only [Ok]

theorem ditherPixel_ok (get : Nat → Nat) (r : Render) (places : List Place) (wy : Nat) (dir : Int)
    (z : State × Tab Lab × Tab Lab) (a : Nat × Nat × Nat × Nat) (hk : Ok kc z.1) (h_regs : kc.frozen .regs = false := by first | with_reducible assumption | rfl) (h_film : kc.frozen .film = false := by first | with_reducible assumption | rfl) : Ok kc (ditherPixel get r places wy dir z a).1 := by
  obtain ⟨s, cur, next⟩ := z
  obtain ⟨wx, i, x, y⟩ := a
  have h : Ok kc s := hk
  unfold ditherPixel
  dsimp only
  repeat' first
    | with_reducible assumption | with_reducible apply State.setTarget_ok | with_reducible apply State.count_ok | intro _ | split
    | dsimp only

theorem State.renderRows_ok (s : State) (r : Render) (hk : Ok kc s) (h_regs : kc.frozen .regs = false := by first | with_reducible assumption | rfl) (h_film : kc.frozen .film = false := by first | with_reducible assumption | rfl) : Ok kc (State.renderRows s r) := by
  unfold State.renderRows
  extract_lets get q ps places
  clear_value places ps
  refine foldl_ok1 hk ?_
  intro z dy hz
  extract_lets wy row even r1
  exact foldl_ok1 (f := ditherPixel _ _ _ _ _) hz fun z a h => ditherPixel_ok _ _ _ _ _ z a h

theorem State.renderClear_ok (s : State) (r : Render) (hk : Ok kc s) (h_film : kc.frozen .film = false := by first | with_reducible assumption | rfl) : Ok kc (State.renderClear s r) := by
  unfold State.renderClear
  repeat' first
    | with_reducible assumption | with_reducible apply State.setTarget_ok | with_reducible apply foldl_ok
    | with_reducible apply foldl_ok1 | with_reducible apply foldl_ok2 | intro _ | split | dsimp only | with_reducible apply okF
    | dsimp only [Ok]

theorem State.finishRender_ok (s : State) (r : Render) (hk : Ok kc s) (h_regs : kc.frozen .regs = false := by first | with_reducible assumption | rfl) (h_film : kc.frozen .film = false := by first | with_reducible assumption | rfl) (h_mp : kc.frozen .mp = false := by first | with_reducible assumption | rfl) : Ok kc (State.finishRender s r) := by
  unfold State.finishRender
  repeat' first
    | with_reducible assumption | with_reducible apply State.count_ok | with_reducible apply State.renderClear_ok
    | with_reducible apply State.renderRows_ok | with_reducible apply ok_ite | intro _ | split | dsimp only
    | with_reducible apply okF | with_reducible refine okF_mp (okF ?_) | dsimp only [Ok]

theorem execRenderComplete_ok (slot : Fin 1023) (s : State) (hk : Ok kc s) (h_regs : kc.frozen .regs = false := by first | with_reducible assumption | rfl) (h_dmc : kc.frozen .dmc = false := by first | with_reducible assumption | rfl) (h_film : kc.frozen .film = false := by first | with_reducible assumption | rfl) (h_mp : kc.frozen .mp = false := by first | with_reducible assumption | rfl) : OkO kc (execRenderComplete slot s) := by
  unfold execRenderComplete
  repeat' first
    | with_reducible assumption | with_reducible apply State.finishRender_ok | with_reducible apply State.touchPlanes_ok
    | with_reducible apply okO_next | with_reducible apply okO_fault | with_reducible apply ok_ite | intro _ | split | dsimp only
    | with_reducible apply okF | dsimp only [Ok]

theorem State.endRenders_ok (s : State) (hk : Ok kc s) (h_regs : kc.frozen .regs = false := by first | with_reducible assumption | rfl) (h_glb : kc.frozen .glb = false := by first | with_reducible assumption | rfl) (h_dmc : kc.frozen .dmc = false := by first | with_reducible assumption | rfl) (h_qm : kc.frozen .qm = false := by first | with_reducible assumption | rfl) (h_film : kc.frozen .film = false := by first | with_reducible assumption | rfl) (h_mp : kc.frozen .mp = false := by first | with_reducible assumption | rfl) (h_out : kc.frozen .out = false := by first | with_reducible assumption | rfl) : Ok kc (State.endRenders s) := by
  unfold State.endRenders
  repeat' first
    | with_reducible assumption | with_reducible apply State.count_ok | with_reducible apply State.finishRender_ok
    | with_reducible apply State.log_ok | with_reducible apply State.touchPlanes_ok | with_reducible apply foldl_ok
    | with_reducible apply foldl_ok1 | with_reducible apply foldl_ok2 | with_reducible apply ok_ite | intro _ | split | dsimp only
    | with_reducible apply okF | with_reducible refine okF_mp (okF ?_) | dsimp only [Ok]

theorem State.startRender_ok (s : State) (n : Nat) (x : Sess) (k : Nat) (hk : Ok kc s) (h_sch : kc.frozen .sch = false := by first | with_reducible assumption | rfl) (h_mp : kc.frozen .mp = false := by first | with_reducible assumption | rfl) : Ok kc (State.startRender s n x k) := by
  unfold State.startRender
  repeat' first
    | with_reducible assumption | with_reducible apply State.setSess_ok | with_reducible apply State.setSrc_ok
    | with_reducible apply foldl_ok | with_reducible apply foldl_ok1 | with_reducible apply foldl_ok2 | with_reducible apply ok_ite
    | intro _ | split | dsimp only | with_reducible apply okF | with_reducible refine okF_mp (okF ?_) | dsimp only [Ok]

theorem State.startRenders_ok (s : State) (hk : Ok kc s) (h_sch : kc.frozen .sch = false := by first | with_reducible assumption | rfl) (h_mp : kc.frozen .mp = false := by first | with_reducible assumption | rfl) : Ok kc (State.startRenders s) := by
  unfold State.startRenders
  repeat' first
    | with_reducible assumption | with_reducible apply State.startRender_ok | with_reducible apply foldl_ok
    | with_reducible apply foldl_ok1 | with_reducible apply foldl_ok2 | with_reducible apply ok_ite | intro _ | split | dsimp only
    | with_reducible apply okF | dsimp only [Ok]


end Sys2Proof.Machine
end

