-- ==== Sys2Proof/Laws/KeepSys.lean ====
section
/-! SUPPORT. What the operations and commands of odometer, thermal, rings, resets, commits, Vale, registers, dump and boot keep (Laws/KeepBase.lean). -/

namespace Sys2Proof.Machine

set_option Elab.async false
set_option linter.all false

variable {kc : KeepCtx}

/-! ### Odo -/

theorem State.odoStep_ok (s : State) (hk : Ok kc s) (h_glb : kc.frozen .glb = false := by first | with_reducible assumption | rfl) (h_flash : kc.frozen .flash = false := by first | with_reducible assumption | rfl) : Ok kc (State.odoStep s) := by
  unfold State.odoStep
  repeat' first
    | with_reducible assumption | with_reducible apply ok_ite | intro _ | split | dsimp only | with_reducible apply okF
    | with_reducible refine okF_glb (okF_flash (okF ?_)) | dsimp only [Ok]

theorem odoWrite_ok (flashOk : Bool) (r : Nat) (s1 : State) (hk : Ok kc s1) (h_glb : kc.frozen .glb = false := by first | with_reducible assumption | rfl) (h_flash : kc.frozen .flash = false := by first | with_reducible assumption | rfl) : Ok kc (
    let due := s1.glb.odoDue.erase r
    if flashOk then
      let key := s1.glb.odoArea * 256 + s1.glb.odoSlot
      ({ s1 with
        flash.odo := tabSet none s1.flash.odo key (some (s1.odoRecord r))
        glb.odoGen := s1.glb.odoGen + 1, glb.odoDue := due, glb.odoRetry := false
        glb.odoLast := if odoSpaced r then some s1.clk else s1.glb.odoLast }).odoStep
    else if s1.glb.odoRetry then
      ({ s1 with glb.odoErrs := (s1.glb.odoErrs + 1) % 65536, glb.odoDue := due, glb.odoRetry := false }).odoStep
    else ({ s1 with glb.odoRetry := true }).odoStep) := by
  dsimp only
  split
  · exact State.odoStep_ok _ (by dsimp only [Ok]; exact okF_flash (okF_glb (okF hk)))
  · split
    · exact State.odoStep_ok _ (by dsimp only [Ok]; exact okF_glb (okF hk))
    · exact State.odoStep_ok _ (by dsimp only [Ok]; exact okF_glb (okF hk))

theorem odoWait_ok (b : Bool) (s : State) (hk : Ok kc s) (h_clk : kc.frozen .clk = false := by first | with_reducible assumption | rfl) (h_time : kc.frozen .time = false := by first | with_reducible assumption | rfl) (h_glb : kc.frozen .glb = false := by first | with_reducible assumption | rfl) : Ok kc (match s.glb.odoLast with
    | some t => if b then s.advanceTo (t + 10 * secC) else s
    | none => s) := by
  split
  · with_reducible apply ok_ite
    · intro _; exact State.advanceTo_ok _ _ hk
    · intro _; exact hk
  · exact hk

theorem execOdometerRecordWrite_ok (flashOk : Bool) (s : State) (hk : Ok kc s) (h_clk : kc.frozen .clk = false := by first | with_reducible assumption | rfl) (h_time : kc.frozen .time = false := by first | with_reducible assumption | rfl) (h_glb : kc.frozen .glb = false := by first | with_reducible assumption | rfl) (h_flash : kc.frozen .flash = false := by first | with_reducible assumption | rfl) : OkO kc (execOdometerRecordWrite flashOk s) := by
  unfold execOdometerRecordWrite
  with_reducible apply okO_next
  split
  · exact hk
  · next r _ => exact odoWrite_ok flashOk r _ (odoWait_ok (odoSpaced r && !s.glb.odoRetry) s hk)

theorem execOdometerAreaErase_ok (flashOk : Bool) (s : State) (hk : Ok kc s) (h_glb : kc.frozen .glb = false := by first | with_reducible assumption | rfl) (h_flash : kc.frozen .flash = false := by first | with_reducible assumption | rfl) : OkO kc (execOdometerAreaErase flashOk s) := by
  unfold execOdometerAreaErase
  repeat' first
    | with_reducible assumption | with_reducible apply okO_next | with_reducible apply okO_fault | with_reducible apply ok_ite
    | intro _ | split | dsimp only | with_reducible apply okF | with_reducible refine okF_glb (okF_flash (okF ?_))
    | dsimp only [Ok]

theorem execOdometerPeriodic_ok (s : State) (hk : Ok kc s) (h_clk : kc.frozen .clk = false := by first | with_reducible assumption | rfl) (h_time : kc.frozen .time = false := by first | with_reducible assumption | rfl) (h_glb : kc.frozen .glb = false := by first | with_reducible assumption | rfl) : OkO kc (execOdometerPeriodic s) := by
  unfold execOdometerPeriodic
  repeat' first
    | with_reducible assumption | with_reducible apply State.advance_ok | with_reducible apply State.odoRequest_ok
    | with_reducible apply okO_next | with_reducible apply okO_fault | with_reducible apply ok_ite | intro _ | split | dsimp only
    | with_reducible apply okF | with_reducible refine okF_glb (okF ?_) | dsimp only [Ok]


/-! ### Thermal -/

theorem State.setStep_ok (s : State) (k z : Nat) (hk : Ok kc s) (h_regs : kc.frozen .regs = false := by first | with_reducible assumption | rfl) (h_glb : kc.frozen .glb = false := by first | with_reducible assumption | rfl) (h_qm : kc.frozen .qm = false := by first | with_reducible assumption | rfl) (h_thm : kc.frozen .thm = false := by first | with_reducible assumption | rfl) (h_out : kc.frozen .out = false := by first | with_reducible assumption | rfl) : Ok kc (State.setStep s k z) := by
  unfold State.setStep
  repeat' first
    | with_reducible assumption | with_reducible apply State.count_ok | with_reducible apply State.log_ok
    | with_reducible apply ok_ite | intro _ | split | dsimp only | with_reducible apply okF
    | with_reducible refine okF_thm (okF ?_) | dsimp only [Ok]

theorem State.thermalShutdown_ok (s : State) (z : Nat) (hk : Ok kc s) (h_regs : kc.frozen .regs = false := by first | with_reducible assumption | rfl) (h_glb : kc.frozen .glb = false := by first | with_reducible assumption | rfl) (h_vale : kc.frozen .vale = false := by first | with_reducible assumption | rfl) (h_qm : kc.frozen .qm = false := by first | with_reducible assumption | rfl) (h_net : kc.frozen .net = false := by first | with_reducible assumption | rfl) (h_thm : kc.frozen .thm = false := by first | with_reducible assumption | rfl) (h_pwr : kc.frozen .pwr = false := by first | with_reducible assumption | rfl) (h_ports : kc.frozen .ports = false := by first | with_reducible assumption | rfl) (h_tiles : kc.frozen .tiles = false := by first | with_reducible assumption | rfl) (h_wsa : kc.frozen .wsa = false := by first | with_reducible assumption | rfl) (h_mp : kc.frozen .mp = false := by first | with_reducible assumption | rfl) (h_out : kc.frozen .out = false := by first | with_reducible assumption | rfl) : Ok kc (State.thermalShutdown s z) := by
  unfold State.thermalShutdown
  repeat' first
    | with_reducible assumption | with_reducible apply State.endPowerSet_ok | with_reducible apply State.log_ok
    | with_reducible apply State.odoRequest_ok | with_reducible apply State.startCapture_ok
    | with_reducible apply State.stopDrive_ok | with_reducible apply ok_ite | intro _ | split | dsimp only
    | with_reducible apply okF | with_reducible refine okF_glb (okF_thm (okF ?_)) | dsimp only [Ok]

theorem State.zoneSample_ok (s0 : State) (k : Nat) (raw : BitVec 16) (isOpen isShort : Bool) (hk : Ok kc s0) (h_regs : kc.frozen .regs = false := by first | with_reducible assumption | rfl) (h_glb : kc.frozen .glb = false := by first | with_reducible assumption | rfl) (h_qm : kc.frozen .qm = false := by first | with_reducible assumption | rfl) (h_thm : kc.frozen .thm = false := by first | with_reducible assumption | rfl) (h_out : kc.frozen .out = false := by first | with_reducible assumption | rfl) : Ok kc (State.zoneSample s0 k raw isOpen isShort) := by
  unfold State.zoneSample
  repeat' first
    | with_reducible assumption | with_reducible apply State.count_ok | with_reducible apply State.log_ok
    | with_reducible apply State.setZone_ok | with_reducible apply ok_ite | intro _ | split | dsimp only | with_reducible apply okF
    | dsimp only [Ok]

theorem State.flagsSet_ok (old s : State) (hk : Ok kc s) (h_regs : kc.frozen .regs = false := by first | with_reducible assumption | rfl) (h_glb : kc.frozen .glb = false := by first | with_reducible assumption | rfl) (h_vale : kc.frozen .vale = false := by first | with_reducible assumption | rfl) (h_qm : kc.frozen .qm = false := by first | with_reducible assumption | rfl) (h_net : kc.frozen .net = false := by first | with_reducible assumption | rfl) (h_thm : kc.frozen .thm = false := by first | with_reducible assumption | rfl) (h_pwr : kc.frozen .pwr = false := by first | with_reducible assumption | rfl) (h_ports : kc.frozen .ports = false := by first | with_reducible assumption | rfl) (h_tiles : kc.frozen .tiles = false := by first | with_reducible assumption | rfl) (h_wsa : kc.frozen .wsa = false := by first | with_reducible assumption | rfl) (h_mp : kc.frozen .mp = false := by first | with_reducible assumption | rfl) (h_out : kc.frozen .out = false := by first | with_reducible assumption | rfl) : Ok kc (State.flagsSet old s) := by
  unfold State.flagsSet
  dsimp only
  split
  · refine State.thermalShutdown_ok _ _ ?_
    split
    · exact State.setStep_ok _ _ _ hk
    · exact hk
  · split
    · exact State.setStep_ok _ _ _ hk
    · exact hk

theorem execThmZoneSample_ok (zs : List (Fin 8)) (raw : List (BitVec 16)) (isOpen isShort : List Bool) (s : State) (hk : Ok kc s) (h_regs : kc.frozen .regs = false := by first | with_reducible assumption | rfl) (h_clk : kc.frozen .clk = false := by first | with_reducible assumption | rfl) (h_time : kc.frozen .time = false := by first | with_reducible assumption | rfl) (h_glb : kc.frozen .glb = false := by first | with_reducible assumption | rfl) (h_vale : kc.frozen .vale = false := by first | with_reducible assumption | rfl) (h_qm : kc.frozen .qm = false := by first | with_reducible assumption | rfl) (h_net : kc.frozen .net = false := by first | with_reducible assumption | rfl) (h_thm : kc.frozen .thm = false := by first | with_reducible assumption | rfl) (h_pwr : kc.frozen .pwr = false := by first | with_reducible assumption | rfl) (h_ports : kc.frozen .ports = false := by first | with_reducible assumption | rfl) (h_tiles : kc.frozen .tiles = false := by first | with_reducible assumption | rfl) (h_wsa : kc.frozen .wsa = false := by first | with_reducible assumption | rfl) (h_mp : kc.frozen .mp = false := by first | with_reducible assumption | rfl) (h_out : kc.frozen .out = false := by first | with_reducible assumption | rfl) : OkO kc (execThmZoneSample zs raw isOpen isShort s) := by
  unfold execThmZoneSample
  refine okO_next (State.flagsSet_ok _ _ (foldl_ok (State.advanceTo_ok _ _ hk) ?_))
  intro t a ht
  exact State.zoneSample_ok _ _ _ _ _ ht

theorem execThermalSafeEntry_ok (s : State) (hk : Ok kc s) (h_regs : kc.frozen .regs = false := by first | with_reducible assumption | rfl) (h_glb : kc.frozen .glb = false := by first | with_reducible assumption | rfl) (h_vale : kc.frozen .vale = false := by first | with_reducible assumption | rfl) (h_qm : kc.frozen .qm = false := by first | with_reducible assumption | rfl) (h_pwr : kc.frozen .pwr = false := by first | with_reducible assumption | rfl) (h_rc : kc.frozen .rc = false := by first | with_reducible assumption | rfl) (h_wsa : kc.frozen .wsa = false := by first | with_reducible assumption | rfl) (h_out : kc.frozen .out = false := by first | with_reducible assumption | rfl) : OkO kc (execThermalSafeEntry s) := by
  unfold execThermalSafeEntry
  repeat' first
    | with_reducible assumption | with_reducible apply State.disableRails_ok | with_reducible apply State.setPower_ok
    | with_reducible apply okO_next | with_reducible apply okO_fault | with_reducible apply ok_ite | intro _ | split | dsimp only
    | with_reducible apply okF | with_reducible refine okF_glb (okF_pwr (okF_wsa (okF ?_))) | dsimp only [Ok]

theorem State.modelZone_ok (s : State) (z : Nat) (hk : Ok kc s) (h_thm : kc.frozen .thm = false := by first | with_reducible assumption | rfl) : Ok kc (State.modelZone s z) := by
  unfold State.modelZone
  repeat' first
    | with_reducible assumption | with_reducible apply State.draw_ok | with_reducible apply State.setZone_ok
    | with_reducible apply ok_ite | intro _ | split | dsimp only | with_reducible apply okF | dsimp only [Ok]

theorem thmTick_ok (s0 : State) (hk : Ok kc s0) (h_inForce : kc.frozen .inForce = false := by first | with_reducible assumption | rfl) (h_regs : kc.frozen .regs = false := by first | with_reducible assumption | rfl) (h_glb : kc.frozen .glb = false := by first | with_reducible assumption | rfl) (h_qm : kc.frozen .qm = false := by first | with_reducible assumption | rfl) (h_thm : kc.frozen .thm = false := by first | with_reducible assumption | rfl) (h_out : kc.frozen .out = false := by first | with_reducible assumption | rfl) : OkO kc (
  let s1 := ({ s0 with thm.tickAt := s0.clk }).pendLive unitThm
  let s2 := (List.range 8).foldl State.modelZone s1
  let hot := (List.range 8).filter fun z => (s2.zone z).hot
  let above := hot.filter fun z => decide (s2.thmThrottle * 16 ≤ (s2.zone z).temp)
  let k := s2.thm.step
  let s3 := if above ≠ [] ∧ k < 4 then s2.setStep (k + 1) (s2.hottest hot)
    else if hot = [] ∧ 0 < k then s2.setStep (k - 1) (s2.hottest (List.range 8))
    else s2
  .next (if s3.thm.step = 4 then s3.count (baseThm + 0xF0C) else s3)) := by
  repeat' first
    | with_reducible assumption | with_reducible apply State.count_ok | with_reducible apply State.setStep_ok
    | with_reducible apply State.modelZone_ok | with_reducible apply State.pendLive_ok | with_reducible apply foldl_ok
    | with_reducible apply okO_next | with_reducible apply ok_ite | intro _ | dsimp only | with_reducible apply okF
    | with_reducible refine okF_thm (okF ?_) | dsimp only [Ok]

theorem execThmTick_ok (s : State) (hk : Ok kc s) (h_inForce : kc.frozen .inForce = false := by first | with_reducible assumption | rfl) (h_regs : kc.frozen .regs = false := by first | with_reducible assumption | rfl) (h_clk : kc.frozen .clk = false := by first | with_reducible assumption | rfl) (h_time : kc.frozen .time = false := by first | with_reducible assumption | rfl) (h_glb : kc.frozen .glb = false := by first | with_reducible assumption | rfl) (h_qm : kc.frozen .qm = false := by first | with_reducible assumption | rfl) (h_thm : kc.frozen .thm = false := by first | with_reducible assumption | rfl) (h_out : kc.frozen .out = false := by first | with_reducible assumption | rfl) : OkO kc (execThmTick s) :=
  thmTick_ok _ (State.advanceTo_ok _ _ hk)

/-! ### Rings -/

theorem State.latchLo_ok (s : State) (path : Path) (lo v : Nat) (hk : Ok kc s) (h_regs : kc.frozen .regs = false := by first | with_reducible assumption | rfl) : Ok kc (State.latchLo s path lo v) := by
  unfold State.latchLo
  repeat' first
    | with_reducible assumption | intro _ | split | dsimp only | with_reducible apply okF | with_reducible refine okF_regs (okF ?_)
    | dsimp only [Ok]

theorem State.takeLo_ok (s : State) (path : Path) (lo cur : Nat) (hk : Ok kc s) (h_regs : kc.frozen .regs = false := by first | with_reducible assumption | rfl) : Ok kc (State.takeLo s path lo cur).2 := by
  unfold State.takeLo
  repeat' first
    | with_reducible assumption | with_reducible apply ok_ite | intro _ | split | dsimp only | with_reducible apply okF
    | with_reducible refine okF_regs (okF ?_) | dsimp only [Ok]

theorem State.badDoorbell_ok (s : State) (n x : Nat) (hk : Ok kc s) (h_regs : kc.frozen .regs = false := by first | with_reducible assumption | rfl) (h_glb : kc.frozen .glb = false := by first | with_reducible assumption | rfl) (h_qm : kc.frozen .qm = false := by first | with_reducible assumption | rfl) (h_out : kc.frozen .out = false := by first | with_reducible assumption | rfl) : Ok kc (State.badDoorbell s n x) := by
  unfold State.badDoorbell
  repeat' first
    | with_reducible assumption | with_reducible apply State.count_ok | with_reducible apply State.log_ok
    | with_reducible apply State.setRing_ok | intro _ | split | dsimp only | with_reducible apply okF | dsimp only [Ok]

theorem State.doorbell_ok (s : State) (path : Path) (n v : Nat) (hk : Ok kc s) (h_regs : kc.frozen .regs = false := by first | with_reducible assumption | rfl) (h_glb : kc.frozen .glb = false := by first | with_reducible assumption | rfl) (h_qm : kc.frozen .qm = false := by first | with_reducible assumption | rfl) (h_out : kc.frozen .out = false := by first | with_reducible assumption | rfl) : Ok kc (State.doorbell s path n v) := by
  unfold State.doorbell
  repeat' first
    | with_reducible assumption | with_reducible apply State.badDoorbell_ok | with_reducible apply State.setRing_ok
    | with_reducible apply State.signalRing_ok | with_reducible apply ok_ite | intro _ | split | dsimp only
    | with_reducible apply okF | dsimp only [Ok]

theorem execQmDoorbell_ok (path : Path) (n : Fin 4096) (value : Word) (s : State) (hk : Ok kc s) (h_regs : kc.frozen .regs = false := by first | with_reducible assumption | rfl) (h_glb : kc.frozen .glb = false := by first | with_reducible assumption | rfl) (h_qm : kc.frozen .qm = false := by first | with_reducible assumption | rfl) (h_out : kc.frozen .out = false := by first | with_reducible assumption | rfl) : OkO kc (execQmDoorbell path n value s) := by
  unfold execQmDoorbell
  repeat' first
    | with_reducible assumption | with_reducible apply State.doorbell_ok | with_reducible apply okO_next
    | with_reducible apply okO_fault | with_reducible apply ok_ite | intro _ | split | dsimp only | with_reducible apply okF
    | dsimp only [Ok]

theorem State.writeRingCfg_ok (s : State) (n v : Nat) (hk : Ok kc s) (h_qm : kc.frozen .qm = false := by first | with_reducible assumption | rfl) : Ok kc (State.writeRingCfg s n v) := by
  unfold State.writeRingCfg
  repeat' first
    | with_reducible assumption | with_reducible apply State.setRing_ok | with_reducible apply ok_ite | intro _ | split
    | dsimp only | with_reducible apply okF | dsimp only [Ok]

theorem State.writeRingBase_ok (s : State) (path : Path) (n : Nat) (hi : Bool) (v : Nat) (hk : Ok kc s) (h_regs : kc.frozen .regs = false := by first | with_reducible assumption | rfl) (h_qm : kc.frozen .qm = false := by first | with_reducible assumption | rfl) : Ok kc (State.writeRingBase s path n hi v) := by
  unfold State.writeRingBase
  repeat' first
    | with_reducible assumption | with_reducible apply State.latchLo_ok | with_reducible apply State.setRing_ok
    | with_reducible apply State.takeLo_ok | with_reducible apply ok_ite | intro _ | split | dsimp only | with_reducible apply okF
    | dsimp only [Ok]

theorem State.writeRing_ok (s : State) (path : Path) (n w v : Nat) (hk : Ok kc s) (h_regs : kc.frozen .regs = false := by first | with_reducible assumption | rfl) (h_qm : kc.frozen .qm = false := by first | with_reducible assumption | rfl) : Ok kc (State.writeRing s path n w v) := by
  unfold State.writeRing
  repeat' first
    | with_reducible assumption | with_reducible apply State.latchLo_ok | with_reducible apply State.writeRingBase_ok
    | with_reducible apply State.writeRingCfg_ok | with_reducible apply ok_ite | intro _ | split | dsimp only
    | with_reducible apply okF | dsimp only [Ok]

theorem execQmRingCfgWrite_ok (path : Path) (n : Fin 4096) (word : Fin 3) (value : Word) (s : State) (hk : Ok kc s) (h_regs : kc.frozen .regs = false := by first | with_reducible assumption | rfl) (h_qm : kc.frozen .qm = false := by first | with_reducible assumption | rfl) : OkO kc (execQmRingCfgWrite path n word value s) := by
  unfold execQmRingCfgWrite
  repeat' first
    | with_reducible assumption | with_reducible apply State.writeRing_ok | with_reducible apply okO_next
    | with_reducible apply okO_fault | with_reducible apply ok_ite | intro _ | split | dsimp only | with_reducible apply okF
    | dsimp only [Ok]

theorem State.writeEvt_ok (s : State) (path : Path) (v : Nat) (hk : Ok kc s) (h_written : kc.frozen .written = false := by first | with_reducible assumption | rfl) (h_regs : kc.frozen .regs = false := by first | with_reducible assumption | rfl) : Ok kc (State.writeEvt s path v) := by
  unfold State.writeEvt
  repeat' first
    | with_reducible assumption | with_reducible apply State.putReg_ok | with_reducible apply ok_ite | intro _ | split | dsimp only
    | with_reducible apply okF | dsimp only [Ok]

theorem execQmEvtWrite_ok (path : Path) (value : Word) (s : State) (hk : Ok kc s) (h_written : kc.frozen .written = false := by first | with_reducible assumption | rfl) (h_regs : kc.frozen .regs = false := by first | with_reducible assumption | rfl) : OkO kc (execQmEvtWrite path value s) := by
  unfold execQmEvtWrite
  repeat' first
    | with_reducible assumption | with_reducible apply State.writeEvt_ok | with_reducible apply okO_next
    | with_reducible apply okO_fault | with_reducible apply ok_ite | intro _ | split | dsimp only | with_reducible apply okF
    | dsimp only [Ok]

theorem State.clearOn_ok (s : State) (v lo hi : Nat) (hk : Ok kc s) (h_regs : kc.frozen .regs = false := by first | with_reducible assumption | rfl) : Ok kc (State.clearOn s v lo hi) := by
  unfold State.clearOn
  repeat' first
    | with_reducible assumption | with_reducible apply State.clearCnt_ok | with_reducible apply ok_ite | intro _ | split
    | dsimp only | with_reducible apply okF | dsimp only [Ok]

theorem execQmCntClr_ok (path : Path) (value : Word) (s : State) (hk : Ok kc s) (h_regs : kc.frozen .regs = false := by first | with_reducible assumption | rfl) : OkO kc (execQmCntClr path value s) := by
  unfold execQmCntClr
  repeat' first
    | with_reducible assumption | with_reducible apply State.clearOn_ok | with_reducible apply okO_next
    | with_reducible apply okO_fault | with_reducible apply ok_ite | intro _ | split | dsimp only | with_reducible apply okF
    | dsimp only [Ok]

theorem execCommandFetch_ok (src : CmdSource) (host : HostDma) (s : State) (hk : Ok kc s) (h_regs : kc.frozen .regs = false := by first | with_reducible assumption | rfl) (h_glb : kc.frozen .glb = false := by first | with_reducible assumption | rfl) (h_vale : kc.frozen .vale = false := by first | with_reducible assumption | rfl) (h_qm : kc.frozen .qm = false := by first | with_reducible assumption | rfl) (h_net : kc.frozen .net = false := by first | with_reducible assumption | rfl) (h_out : kc.frozen .out = false := by first | with_reducible assumption | rfl) : OkO kc (execCommandFetch src host s) := by
  unfold execCommandFetch
  repeat' first
    | with_reducible assumption | with_reducible apply State.fetchMbox_ok | with_reducible apply State.fetchNet_ok
    | with_reducible apply State.fetchSubmit_ok | with_reducible apply okO_next | with_reducible apply okO_fault | intro _ | split
    | dsimp only | with_reducible apply okF | dsimp only [Ok]

theorem execOverflowQueueDrain_ok (dst : CplDst) (s : State) (hk : Ok kc s) (h_regs : kc.frozen .regs = false := by first | with_reducible assumption | rfl) (h_glb : kc.frozen .glb = false := by first | with_reducible assumption | rfl) (h_vale : kc.frozen .vale = false := by first | with_reducible assumption | rfl) (h_qm : kc.frozen .qm = false := by first | with_reducible assumption | rfl) (h_net : kc.frozen .net = false := by first | with_reducible assumption | rfl) (h_out : kc.frozen .out = false := by first | with_reducible assumption | rfl) : OkO kc (execOverflowQueueDrain dst s) := by
  unfold execOverflowQueueDrain
  repeat' first
    | with_reducible assumption | with_reducible apply State.drainOvq_ok | with_reducible apply okO_next
    | with_reducible apply okO_fault | intro _ | split | dsimp only | with_reducible apply okF | dsimp only [Ok]

theorem execMsixCoalesceExpire_ok (n : Fin 4096) (s : State) (hk : Ok kc s) (h_regs : kc.frozen .regs = false := by first | with_reducible assumption | rfl) (h_clk : kc.frozen .clk = false := by first | with_reducible assumption | rfl) (h_time : kc.frozen .time = false := by first | with_reducible assumption | rfl) (h_glb : kc.frozen .glb = false := by first | with_reducible assumption | rfl) (h_qm : kc.frozen .qm = false := by first | with_reducible assumption | rfl) (h_out : kc.frozen .out = false := by first | with_reducible assumption | rfl) : OkO kc (execMsixCoalesceExpire n s) := by
  unfold execMsixCoalesceExpire
  repeat' first
    | with_reducible assumption | with_reducible apply State.advanceTo_ok | with_reducible apply State.fireRing_ok
    | with_reducible apply okO_next | with_reducible apply okO_fault | intro _ | split | dsimp only | with_reducible apply okF
    | dsimp only [Ok]

theorem State.writeVectorCtl_ok (s : State) (v x : Nat) (hk : Ok kc s) (h_written : kc.frozen .written = false := by first | with_reducible assumption | rfl) (h_regs : kc.frozen .regs = false := by first | with_reducible assumption | rfl) (h_qm : kc.frozen .qm = false := by first | with_reducible assumption | rfl) (h_out : kc.frozen .out = false := by first | with_reducible assumption | rfl) : Ok kc (State.writeVectorCtl s v x) := by
  unfold State.writeVectorCtl
  repeat' first
    | with_reducible assumption | with_reducible apply State.putReg_ok | with_reducible apply State.sendMsix_ok
    | with_reducible apply ok_ite | intro _ | split | dsimp only | with_reducible apply okF | with_reducible refine okF_qm (okF ?_)
    | dsimp only [Ok]

theorem execMsixVectorUnmask_ok (v : Fin 256) (s : State) (hk : Ok kc s) (h_written : kc.frozen .written = false := by first | with_reducible assumption | rfl) (h_regs : kc.frozen .regs = false := by first | with_reducible assumption | rfl) (h_qm : kc.frozen .qm = false := by first | with_reducible assumption | rfl) (h_out : kc.frozen .out = false := by first | with_reducible assumption | rfl) : OkO kc (execMsixVectorUnmask v s) := by
  unfold execMsixVectorUnmask
  repeat' first
    | with_reducible assumption | with_reducible apply State.whenReady_ok | with_reducible apply State.writeVectorCtl_ok
    | with_reducible apply okO_next | with_reducible apply okO_fault | intro _ | split | dsimp only | with_reducible apply okF
    | dsimp only [Ok]


/-! ### Reset -/

theorem State.tearImage_ok (s : State) (hk : Ok kc s) (h_flash : kc.frozen .flash = false := by first | with_reducible assumption | rfl) : Ok kc (State.tearImage s) := by
  unfold State.tearImage
  repeat' first
    | with_reducible assumption | with_reducible apply State.draw_ok | with_reducible apply ok_ite | intro _ | split | dsimp only
    | with_reducible apply okF | with_reducible refine okF_flash (okF ?_) | dsimp only [Ok]

theorem State.bootFrom_ok (s : State) (hk : Ok kc s) (h_glb : kc.frozen .glb = false := by first | with_reducible assumption | rfl) (h_thm : kc.frozen .thm = false := by first | with_reducible assumption | rfl) : Ok kc (State.bootFrom s) := by
  unfold State.bootFrom
  repeat' first
    | with_reducible assumption | with_reducible apply foldl_ok | with_reducible apply foldl_ok1 | with_reducible apply foldl_ok2
    | intro _ | split | dsimp only | with_reducible apply okF | with_reducible refine okF_glb (okF_thm (okF ?_)) | dsimp only [Ok]

theorem reset_sets : setsOk State.reset.regs.direct State.reset.regs.shadow State.reset.regs.live State.reset.regs.pend := by
  refine ⟨?_, ?_, ?_, ?_⟩ <;> intro x hx <;> cases hx

theorem State.fresh_ok (s0 : State) (hk : Ok kc s0) (h_written : kc.frozen .written = false := by first | with_reducible assumption | rfl) (h_inForce : kc.frozen .inForce = false := by first | with_reducible assumption | rfl) (h_regs : kc.frozen .regs = false := by first | with_reducible assumption | rfl) (h_time : kc.frozen .time = false := by first | with_reducible assumption | rfl) (h_glb : kc.frozen .glb = false := by first | with_reducible assumption | rfl) (h_dram : kc.frozen .dram = false := by first | with_reducible assumption | rfl) (h_dmc : kc.frozen .dmc = false := by first | with_reducible assumption | rfl) (h_valeMem : kc.frozen .valeMem = false := by first | with_reducible assumption | rfl) (h_vale : kc.frozen .vale = false := by first | with_reducible assumption | rfl) (h_qm : kc.frozen .qm = false := by first | with_reducible assumption | rfl) (h_net : kc.frozen .net = false := by first | with_reducible assumption | rfl) (h_thm : kc.frozen .thm = false := by first | with_reducible assumption | rfl) (h_pwr : kc.frozen .pwr = false := by first | with_reducible assumption | rfl) (h_flash : kc.frozen .flash = false := by first | with_reducible assumption | rfl) (h_rc : kc.frozen .rc = false := by first | with_reducible assumption | rfl) (h_fl : kc.frozen .fl = false := by first | with_reducible assumption | rfl) (h_ports : kc.frozen .ports = false := by first | with_reducible assumption | rfl) (h_tiles : kc.frozen .tiles = false := by first | with_reducible assumption | rfl) (h_hops : kc.frozen .hops = false := by first | with_reducible assumption | rfl) (h_film : kc.frozen .film = false := by first | with_reducible assumption | rfl) (h_wsa : kc.frozen .wsa = false := by first | with_reducible assumption | rfl) (h_sch : kc.frozen .sch = false := by first | with_reducible assumption | rfl) (h_mp : kc.frozen .mp = false := by first | with_reducible assumption | rfl) : Ok kc (State.fresh s0) := by
  have h1 : Ok kc s0.tearImage := State.tearImage_ok _ hk
  unfold State.fresh
  refine State.bootFrom_ok _ ?_
  dsimp only [Ok]
  exact okF_fresh (okF h1) rfl rfl reset_sets

theorem State.coldBoot_ok (s : State) (kind cause : Nat) (hk : Ok kc s) (h_written : kc.frozen .written = false := by first | with_reducible assumption | rfl) (h_inForce : kc.frozen .inForce = false := by first | with_reducible assumption | rfl) (h_regs : kc.frozen .regs = false := by first | with_reducible assumption | rfl) (h_time : kc.frozen .time = false := by first | with_reducible assumption | rfl) (h_glb : kc.frozen .glb = false := by first | with_reducible assumption | rfl) (h_dram : kc.frozen .dram = false := by first | with_reducible assumption | rfl) (h_dmc : kc.frozen .dmc = false := by first | with_reducible assumption | rfl) (h_valeMem : kc.frozen .valeMem = false := by first | with_reducible assumption | rfl) (h_vale : kc.frozen .vale = false := by first | with_reducible assumption | rfl) (h_qm : kc.frozen .qm = false := by first | with_reducible assumption | rfl) (h_net : kc.frozen .net = false := by first | with_reducible assumption | rfl) (h_thm : kc.frozen .thm = false := by first | with_reducible assumption | rfl) (h_pwr : kc.frozen .pwr = false := by first | with_reducible assumption | rfl) (h_flash : kc.frozen .flash = false := by first | with_reducible assumption | rfl) (h_rc : kc.frozen .rc = false := by first | with_reducible assumption | rfl) (h_fl : kc.frozen .fl = false := by first | with_reducible assumption | rfl) (h_ports : kc.frozen .ports = false := by first | with_reducible assumption | rfl) (h_tiles : kc.frozen .tiles = false := by first | with_reducible assumption | rfl) (h_hops : kc.frozen .hops = false := by first | with_reducible assumption | rfl) (h_film : kc.frozen .film = false := by first | with_reducible assumption | rfl) (h_wsa : kc.frozen .wsa = false := by first | with_reducible assumption | rfl) (h_sch : kc.frozen .sch = false := by first | with_reducible assumption | rfl) (h_mp : kc.frozen .mp = false := by first | with_reducible assumption | rfl) : Ok kc (State.coldBoot s kind cause) := by
  unfold State.coldBoot
  repeat' first
    | with_reducible assumption | with_reducible apply State.fresh_ok | with_reducible apply ok_ite | intro _ | split | dsimp only
    | with_reducible apply okF | with_reducible refine okF_glb (okF ?_) | dsimp only [Ok]

theorem State.warmBoot_ok (s : State) (entry : ResetEntry) (hk : Ok kc s) (h_written : kc.frozen .written = false := by first | with_reducible assumption | rfl) (h_inForce : kc.frozen .inForce = false := by first | with_reducible assumption | rfl) (h_regs : kc.frozen .regs = false := by first | with_reducible assumption | rfl) (h_time : kc.frozen .time = false := by first | with_reducible assumption | rfl) (h_glb : kc.frozen .glb = false := by first | with_reducible assumption | rfl) (h_dram : kc.frozen .dram = false := by first | with_reducible assumption | rfl) (h_dmc : kc.frozen .dmc = false := by first | with_reducible assumption | rfl) (h_valeMem : kc.frozen .valeMem = false := by first | with_reducible assumption | rfl) (h_vale : kc.frozen .vale = false := by first | with_reducible assumption | rfl) (h_qm : kc.frozen .qm = false := by first | with_reducible assumption | rfl) (h_net : kc.frozen .net = false := by first | with_reducible assumption | rfl) (h_thm : kc.frozen .thm = false := by first | with_reducible assumption | rfl) (h_pwr : kc.frozen .pwr = false := by first | with_reducible assumption | rfl) (h_flash : kc.frozen .flash = false := by first | with_reducible assumption | rfl) (h_rc : kc.frozen .rc = false := by first | with_reducible assumption | rfl) (h_fl : kc.frozen .fl = false := by first | with_reducible assumption | rfl) (h_ports : kc.frozen .ports = false := by first | with_reducible assumption | rfl) (h_tiles : kc.frozen .tiles = false := by first | with_reducible assumption | rfl) (h_hops : kc.frozen .hops = false := by first | with_reducible assumption | rfl) (h_film : kc.frozen .film = false := by first | with_reducible assumption | rfl) (h_wsa : kc.frozen .wsa = false := by first | with_reducible assumption | rfl) (h_sch : kc.frozen .sch = false := by first | with_reducible assumption | rfl) (h_mp : kc.frozen .mp = false := by first | with_reducible assumption | rfl) : Ok kc (State.warmBoot s entry) := by
  have h1 : Ok kc s.fresh := State.fresh_ok _ hk
  have hb := hk.bulk
  unfold State.warmBoot
  generalize s.fresh = f at h1
  dsimp only [Ok]
  exact okF_dram (okF_vale (okF_glb (okF_tiles (okF_film (okF_time (okF_qm (okF h1))))))) hb

theorem State.holdReset_ok (s : State) (entry : ResetEntry) (hk : Ok kc s) (h_clk : kc.frozen .clk = false := by first | with_reducible assumption | rfl) (h_glb : kc.frozen .glb = false := by first | with_reducible assumption | rfl) : Ok kc (State.holdReset s entry) := by
  unfold State.holdReset
  repeat' first
    | with_reducible assumption | intro _ | split | dsimp only | with_reducible apply okF
    | with_reducible refine okF_clk (okF_glb (okF ?_)) | dsimp only [Ok]

theorem execPowerOn_ok (lcbCkSel : Bool) (smbAddr : BitVec 2) (s : State) (hk : Ok kc s) (h_written : kc.frozen .written = false := by first | with_reducible assumption | rfl) (h_inForce : kc.frozen .inForce = false := by first | with_reducible assumption | rfl) (h_regs : kc.frozen .regs = false := by first | with_reducible assumption | rfl) (h_time : kc.frozen .time = false := by first | with_reducible assumption | rfl) (h_glb : kc.frozen .glb = false := by first | with_reducible assumption | rfl) (h_dram : kc.frozen .dram = false := by first | with_reducible assumption | rfl) (h_dmc : kc.frozen .dmc = false := by first | with_reducible assumption | rfl) (h_valeMem : kc.frozen .valeMem = false := by first | with_reducible assumption | rfl) (h_vale : kc.frozen .vale = false := by first | with_reducible assumption | rfl) (h_qm : kc.frozen .qm = false := by first | with_reducible assumption | rfl) (h_net : kc.frozen .net = false := by first | with_reducible assumption | rfl) (h_thm : kc.frozen .thm = false := by first | with_reducible assumption | rfl) (h_pwr : kc.frozen .pwr = false := by first | with_reducible assumption | rfl) (h_flash : kc.frozen .flash = false := by first | with_reducible assumption | rfl) (h_rc : kc.frozen .rc = false := by first | with_reducible assumption | rfl) (h_fl : kc.frozen .fl = false := by first | with_reducible assumption | rfl) (h_ports : kc.frozen .ports = false := by first | with_reducible assumption | rfl) (h_tiles : kc.frozen .tiles = false := by first | with_reducible assumption | rfl) (h_hops : kc.frozen .hops = false := by first | with_reducible assumption | rfl) (h_film : kc.frozen .film = false := by first | with_reducible assumption | rfl) (h_wsa : kc.frozen .wsa = false := by first | with_reducible assumption | rfl) (h_sch : kc.frozen .sch = false := by first | with_reducible assumption | rfl) (h_mp : kc.frozen .mp = false := by first | with_reducible assumption | rfl) : OkO kc (execPowerOn lcbCkSel smbAddr s) := by
  unfold execPowerOn
  repeat' first
    | with_reducible assumption | with_reducible apply State.coldBoot_ok | with_reducible apply okO_next
    | with_reducible apply okO_fault | intro _ | split | dsimp only | with_reducible apply okF
    | with_reducible refine okF_glb (okF ?_) | dsimp only [Ok]

theorem execPorstNLow_ok (lcbCkSel : Bool) (smbAddr : BitVec 2) (s : State) (hk : Ok kc s) (h_written : kc.frozen .written = false := by first | with_reducible assumption | rfl) (h_inForce : kc.frozen .inForce = false := by first | with_reducible assumption | rfl) (h_regs : kc.frozen .regs = false := by first | with_reducible assumption | rfl) (h_clk : kc.frozen .clk = false := by first | with_reducible assumption | rfl) (h_time : kc.frozen .time = false := by first | with_reducible assumption | rfl) (h_glb : kc.frozen .glb = false := by first | with_reducible assumption | rfl) (h_dram : kc.frozen .dram = false := by first | with_reducible assumption | rfl) (h_dmc : kc.frozen .dmc = false := by first | with_reducible assumption | rfl) (h_valeMem : kc.frozen .valeMem = false := by first | with_reducible assumption | rfl) (h_vale : kc.frozen .vale = false := by first | with_reducible assumption | rfl) (h_qm : kc.frozen .qm = false := by first | with_reducible assumption | rfl) (h_net : kc.frozen .net = false := by first | with_reducible assumption | rfl) (h_thm : kc.frozen .thm = false := by first | with_reducible assumption | rfl) (h_pwr : kc.frozen .pwr = false := by first | with_reducible assumption | rfl) (h_flash : kc.frozen .flash = false := by first | with_reducible assumption | rfl) (h_rc : kc.frozen .rc = false := by first | with_reducible assumption | rfl) (h_fl : kc.frozen .fl = false := by first | with_reducible assumption | rfl) (h_ports : kc.frozen .ports = false := by first | with_reducible assumption | rfl) (h_tiles : kc.frozen .tiles = false := by first | with_reducible assumption | rfl) (h_hops : kc.frozen .hops = false := by first | with_reducible assumption | rfl) (h_film : kc.frozen .film = false := by first | with_reducible assumption | rfl) (h_wsa : kc.frozen .wsa = false := by first | with_reducible assumption | rfl) (h_sch : kc.frozen .sch = false := by first | with_reducible assumption | rfl) (h_mp : kc.frozen .mp = false := by first | with_reducible assumption | rfl) : OkO kc (execPorstNLow lcbCkSel smbAddr s) := by
  unfold execPorstNLow
  repeat' first
    | with_reducible assumption | with_reducible apply State.advance_ok | with_reducible apply State.coldBoot_ok
    | with_reducible apply State.holdReset_ok | with_reducible apply okO_next | with_reducible apply okO_fault | intro _ | split
    | dsimp only | with_reducible apply okF | with_reducible refine okF_glb (okF ?_) | dsimp only [Ok]

theorem State.cutCapture_ok (s : State) (hk : Ok kc s) (h_glb : kc.frozen .glb = false := by first | with_reducible assumption | rfl) : Ok kc (State.cutCapture s) := by
  unfold State.cutCapture
  repeat' first
    | with_reducible assumption | with_reducible apply State.countStrike_ok | with_reducible apply State.draw_ok | intro _ | split
    | dsimp only | with_reducible apply okF | with_reducible refine okF_glb (okF ?_) | dsimp only [Ok]

theorem execRstNLow_ok (dramKept : Bool) (s : State) (hk : Ok kc s) (h_written : kc.frozen .written = false := by first | with_reducible assumption | rfl) (h_inForce : kc.frozen .inForce = false := by first | with_reducible assumption | rfl) (h_regs : kc.frozen .regs = false := by first | with_reducible assumption | rfl) (h_clk : kc.frozen .clk = false := by first | with_reducible assumption | rfl) (h_time : kc.frozen .time = false := by first | with_reducible assumption | rfl) (h_glb : kc.frozen .glb = false := by first | with_reducible assumption | rfl) (h_dram : kc.frozen .dram = false := by first | with_reducible assumption | rfl) (h_dmc : kc.frozen .dmc = false := by first | with_reducible assumption | rfl) (h_valeMem : kc.frozen .valeMem = false := by first | with_reducible assumption | rfl) (h_vale : kc.frozen .vale = false := by first | with_reducible assumption | rfl) (h_qm : kc.frozen .qm = false := by first | with_reducible assumption | rfl) (h_net : kc.frozen .net = false := by first | with_reducible assumption | rfl) (h_thm : kc.frozen .thm = false := by first | with_reducible assumption | rfl) (h_pwr : kc.frozen .pwr = false := by first | with_reducible assumption | rfl) (h_flash : kc.frozen .flash = false := by first | with_reducible assumption | rfl) (h_rc : kc.frozen .rc = false := by first | with_reducible assumption | rfl) (h_fl : kc.frozen .fl = false := by first | with_reducible assumption | rfl) (h_ports : kc.frozen .ports = false := by first | with_reducible assumption | rfl) (h_tiles : kc.frozen .tiles = false := by first | with_reducible assumption | rfl) (h_hops : kc.frozen .hops = false := by first | with_reducible assumption | rfl) (h_film : kc.frozen .film = false := by first | with_reducible assumption | rfl) (h_wsa : kc.frozen .wsa = false := by first | with_reducible assumption | rfl) (h_sch : kc.frozen .sch = false := by first | with_reducible assumption | rfl) (h_mp : kc.frozen .mp = false := by first | with_reducible assumption | rfl) : OkO kc (execRstNLow dramKept s) := by
  unfold execRstNLow
  repeat' first
    | with_reducible assumption | with_reducible apply State.advance_ok | with_reducible apply State.coldBoot_ok
    | with_reducible apply State.cutCapture_ok | with_reducible apply State.holdReset_ok | with_reducible apply State.warmBoot_ok
    | with_reducible apply okO_next | with_reducible apply okO_fault | with_reducible apply ok_ite | intro _ | split | dsimp only
    | with_reducible apply okF | dsimp only [Ok]

theorem State.enterCold_ok (s : State) (hk : Ok kc s) (h_written : kc.frozen .written = false := by first | with_reducible assumption | rfl) (h_inForce : kc.frozen .inForce = false := by first | with_reducible assumption | rfl) (h_regs : kc.frozen .regs = false := by first | with_reducible assumption | rfl) (h_time : kc.frozen .time = false := by first | with_reducible assumption | rfl) (h_glb : kc.frozen .glb = false := by first | with_reducible assumption | rfl) (h_dram : kc.frozen .dram = false := by first | with_reducible assumption | rfl) (h_dmc : kc.frozen .dmc = false := by first | with_reducible assumption | rfl) (h_valeMem : kc.frozen .valeMem = false := by first | with_reducible assumption | rfl) (h_vale : kc.frozen .vale = false := by first | with_reducible assumption | rfl) (h_qm : kc.frozen .qm = false := by first | with_reducible assumption | rfl) (h_net : kc.frozen .net = false := by first | with_reducible assumption | rfl) (h_thm : kc.frozen .thm = false := by first | with_reducible assumption | rfl) (h_pwr : kc.frozen .pwr = false := by first | with_reducible assumption | rfl) (h_flash : kc.frozen .flash = false := by first | with_reducible assumption | rfl) (h_rc : kc.frozen .rc = false := by first | with_reducible assumption | rfl) (h_fl : kc.frozen .fl = false := by first | with_reducible assumption | rfl) (h_ports : kc.frozen .ports = false := by first | with_reducible assumption | rfl) (h_tiles : kc.frozen .tiles = false := by first | with_reducible assumption | rfl) (h_hops : kc.frozen .hops = false := by first | with_reducible assumption | rfl) (h_film : kc.frozen .film = false := by first | with_reducible assumption | rfl) (h_wsa : kc.frozen .wsa = false := by first | with_reducible assumption | rfl) (h_sch : kc.frozen .sch = false := by first | with_reducible assumption | rfl) (h_mp : kc.frozen .mp = false := by first | with_reducible assumption | rfl) : Ok kc (State.enterCold s) := by
  unfold State.enterCold
  repeat' first
    | with_reducible assumption | with_reducible apply State.coldBoot_ok | intro _ | split | dsimp only | with_reducible apply okF
    | dsimp only [Ok]

theorem State.writeRstCtrl_ok (s : State) (v : Nat) (hk : Ok kc s) (h_written : kc.frozen .written = false := by first | with_reducible assumption | rfl) (h_inForce : kc.frozen .inForce = false := by first | with_reducible assumption | rfl) (h_regs : kc.frozen .regs = false := by first | with_reducible assumption | rfl) (h_time : kc.frozen .time = false := by first | with_reducible assumption | rfl) (h_glb : kc.frozen .glb = false := by first | with_reducible assumption | rfl) (h_dram : kc.frozen .dram = false := by first | with_reducible assumption | rfl) (h_dmc : kc.frozen .dmc = false := by first | with_reducible assumption | rfl) (h_valeMem : kc.frozen .valeMem = false := by first | with_reducible assumption | rfl) (h_vale : kc.frozen .vale = false := by first | with_reducible assumption | rfl) (h_qm : kc.frozen .qm = false := by first | with_reducible assumption | rfl) (h_net : kc.frozen .net = false := by first | with_reducible assumption | rfl) (h_thm : kc.frozen .thm = false := by first | with_reducible assumption | rfl) (h_pwr : kc.frozen .pwr = false := by first | with_reducible assumption | rfl) (h_flash : kc.frozen .flash = false := by first | with_reducible assumption | rfl) (h_rc : kc.frozen .rc = false := by first | with_reducible assumption | rfl) (h_fl : kc.frozen .fl = false := by first | with_reducible assumption | rfl) (h_ports : kc.frozen .ports = false := by first | with_reducible assumption | rfl) (h_tiles : kc.frozen .tiles = false := by first | with_reducible assumption | rfl) (h_hops : kc.frozen .hops = false := by first | with_reducible assumption | rfl) (h_film : kc.frozen .film = false := by first | with_reducible assumption | rfl) (h_wsa : kc.frozen .wsa = false := by first | with_reducible assumption | rfl) (h_sch : kc.frozen .sch = false := by first | with_reducible assumption | rfl) (h_mp : kc.frozen .mp = false := by first | with_reducible assumption | rfl) (h_out : kc.frozen .out = false := by first | with_reducible assumption | rfl) : Ok kc (State.writeRstCtrl s v) := by
  unfold State.writeRstCtrl
  repeat' first
    | with_reducible assumption | with_reducible apply State.beginReset_ok | with_reducible apply State.enterCold_ok
    | with_reducible apply ok_ite | intro _ | split | dsimp only | with_reducible apply okF | dsimp only [Ok]

theorem execGlbRstCtrlWarm_ok (value : Word) (s : State) (hk : Ok kc s) (h_written : kc.frozen .written = false := by first | with_reducible assumption | rfl) (h_inForce : kc.frozen .inForce = false := by first | with_reducible assumption | rfl) (h_regs : kc.frozen .regs = false := by first | with_reducible assumption | rfl) (h_time : kc.frozen .time = false := by first | with_reducible assumption | rfl) (h_glb : kc.frozen .glb = false := by first | with_reducible assumption | rfl) (h_dram : kc.frozen .dram = false := by first | with_reducible assumption | rfl) (h_dmc : kc.frozen .dmc = false := by first | with_reducible assumption | rfl) (h_valeMem : kc.frozen .valeMem = false := by first | with_reducible assumption | rfl) (h_vale : kc.frozen .vale = false := by first | with_reducible assumption | rfl) (h_qm : kc.frozen .qm = false := by first | with_reducible assumption | rfl) (h_net : kc.frozen .net = false := by first | with_reducible assumption | rfl) (h_thm : kc.frozen .thm = false := by first | with_reducible assumption | rfl) (h_pwr : kc.frozen .pwr = false := by first | with_reducible assumption | rfl) (h_flash : kc.frozen .flash = false := by first | with_reducible assumption | rfl) (h_rc : kc.frozen .rc = false := by first | with_reducible assumption | rfl) (h_fl : kc.frozen .fl = false := by first | with_reducible assumption | rfl) (h_ports : kc.frozen .ports = false := by first | with_reducible assumption | rfl) (h_tiles : kc.frozen .tiles = false := by first | with_reducible assumption | rfl) (h_hops : kc.frozen .hops = false := by first | with_reducible assumption | rfl) (h_film : kc.frozen .film = false := by first | with_reducible assumption | rfl) (h_wsa : kc.frozen .wsa = false := by first | with_reducible assumption | rfl) (h_sch : kc.frozen .sch = false := by first | with_reducible assumption | rfl) (h_mp : kc.frozen .mp = false := by first | with_reducible assumption | rfl) (h_out : kc.frozen .out = false := by first | with_reducible assumption | rfl) : OkO kc (execGlbRstCtrlWarm value s) := by
  unfold execGlbRstCtrlWarm
  repeat' first
    | with_reducible assumption | with_reducible apply State.writeRstCtrl_ok | with_reducible apply okO_next
    | with_reducible apply okO_fault | intro _ | split | dsimp only | with_reducible apply okF | dsimp only [Ok]

theorem execGlbRstCtrlCold_ok (value : Word) (s : State) (hk : Ok kc s) (h_written : kc.frozen .written = false := by first | with_reducible assumption | rfl) (h_inForce : kc.frozen .inForce = false := by first | with_reducible assumption | rfl) (h_regs : kc.frozen .regs = false := by first | with_reducible assumption | rfl) (h_time : kc.frozen .time = false := by first | with_reducible assumption | rfl) (h_glb : kc.frozen .glb = false := by first | with_reducible assumption | rfl) (h_dram : kc.frozen .dram = false := by first | with_reducible assumption | rfl) (h_dmc : kc.frozen .dmc = false := by first | with_reducible assumption | rfl) (h_valeMem : kc.frozen .valeMem = false := by first | with_reducible assumption | rfl) (h_vale : kc.frozen .vale = false := by first | with_reducible assumption | rfl) (h_qm : kc.frozen .qm = false := by first | with_reducible assumption | rfl) (h_net : kc.frozen .net = false := by first | with_reducible assumption | rfl) (h_thm : kc.frozen .thm = false := by first | with_reducible assumption | rfl) (h_pwr : kc.frozen .pwr = false := by first | with_reducible assumption | rfl) (h_flash : kc.frozen .flash = false := by first | with_reducible assumption | rfl) (h_rc : kc.frozen .rc = false := by first | with_reducible assumption | rfl) (h_fl : kc.frozen .fl = false := by first | with_reducible assumption | rfl) (h_ports : kc.frozen .ports = false := by first | with_reducible assumption | rfl) (h_tiles : kc.frozen .tiles = false := by first | with_reducible assumption | rfl) (h_hops : kc.frozen .hops = false := by first | with_reducible assumption | rfl) (h_film : kc.frozen .film = false := by first | with_reducible assumption | rfl) (h_wsa : kc.frozen .wsa = false := by first | with_reducible assumption | rfl) (h_sch : kc.frozen .sch = false := by first | with_reducible assumption | rfl) (h_mp : kc.frozen .mp = false := by first | with_reducible assumption | rfl) (h_out : kc.frozen .out = false := by first | with_reducible assumption | rfl) : OkO kc (execGlbRstCtrlCold value s) := by
  unfold execGlbRstCtrlCold
  repeat' first
    | with_reducible assumption | with_reducible apply State.writeRstCtrl_ok | with_reducible apply okO_next
    | with_reducible apply okO_fault | intro _ | split | dsimp only | with_reducible apply okF | dsimp only [Ok]

theorem execFwException_ok (core : Fin 8) (code : BitVec 32) (s : State) (hk : Ok kc s) (h_glb : kc.frozen .glb = false := by first | with_reducible assumption | rfl) (h_pwr : kc.frozen .pwr = false := by first | with_reducible assumption | rfl) (h_ports : kc.frozen .ports = false := by first | with_reducible assumption | rfl) (h_tiles : kc.frozen .tiles = false := by first | with_reducible assumption | rfl) (h_wsa : kc.frozen .wsa = false := by first | with_reducible assumption | rfl) (h_mp : kc.frozen .mp = false := by first | with_reducible assumption | rfl) (h_out : kc.frozen .out = false := by first | with_reducible assumption | rfl) : OkO kc (execFwException core code s) := by
  unfold execFwException
  repeat' first
    | with_reducible assumption | with_reducible apply State.beginReset_ok | with_reducible apply okO_next
    | with_reducible apply okO_fault | intro _ | split | dsimp only | with_reducible apply okF | dsimp only [Ok]

theorem execParityError_ok (block : BitVec 26) (s : State) (hk : Ok kc s) (h_glb : kc.frozen .glb = false := by first | with_reducible assumption | rfl) (h_pwr : kc.frozen .pwr = false := by first | with_reducible assumption | rfl) (h_ports : kc.frozen .ports = false := by first | with_reducible assumption | rfl) (h_tiles : kc.frozen .tiles = false := by first | with_reducible assumption | rfl) (h_wsa : kc.frozen .wsa = false := by first | with_reducible assumption | rfl) (h_mp : kc.frozen .mp = false := by first | with_reducible assumption | rfl) (h_out : kc.frozen .out = false := by first | with_reducible assumption | rfl) : OkO kc (execParityError block s) := by
  unfold execParityError
  repeat' first
    | with_reducible assumption | with_reducible apply State.beginReset_ok | with_reducible apply okO_next
    | with_reducible apply okO_fault | with_reducible apply ok_ite | intro _ | split | dsimp only | with_reducible apply okF
    | dsimp only [Ok]

theorem drvTimeout_ok (s1 : State) (e : ResetEntry) (hk : Ok kc s1) (h_glb : kc.frozen .glb = false := by first | with_reducible assumption | rfl) (h_vale : kc.frozen .vale = false := by first | with_reducible assumption | rfl) (h_rc : kc.frozen .rc = false := by first | with_reducible assumption | rfl) : Ok kc (
    let s2 := (List.range 8).foldl (fun st g => (List.range 12).foldl (fun st i => st.killSlot g i) st) s1
    ({ s2 with glb.entry := some { e with stage := 3 } }).railShowAll) := by
  repeat' first
    | with_reducible assumption | with_reducible apply State.railShowAll_ok | with_reducible apply State.killSlot_ok
    | with_reducible apply foldl_ok | intro _ | dsimp only | with_reducible apply okF | with_reducible refine okF_glb (okF ?_)
    | dsimp only [Ok]

theorem execWarmResetDrvTimeout_ok (s : State) (hk : Ok kc s) (h_clk : kc.frozen .clk = false := by first | with_reducible assumption | rfl) (h_time : kc.frozen .time = false := by first | with_reducible assumption | rfl) (h_glb : kc.frozen .glb = false := by first | with_reducible assumption | rfl) (h_vale : kc.frozen .vale = false := by first | with_reducible assumption | rfl) (h_rc : kc.frozen .rc = false := by first | with_reducible assumption | rfl) : OkO kc (execWarmResetDrvTimeout s) := by
  unfold execWarmResetDrvTimeout
  with_reducible apply okO_next
  split
  · split
    · exact drvTimeout_ok _ _ (State.advanceTo_ok _ _ hk)
    · exact hk
  · exact hk

theorem State.releaseFn_ok (s : State) (hk : Ok kc s) (h_rc : kc.frozen .rc = false := by first | with_reducible assumption | rfl) : Ok kc (State.releaseFn s) := by
  unfold State.releaseFn
  repeat' first
    | with_reducible assumption | with_reducible apply ok_ite | intro _ | split | dsimp only | with_reducible apply okF
    | with_reducible refine okF_rc (okF ?_) | dsimp only [Ok]

theorem execResetSelfRefresh_ok (s : State) (hk : Ok kc s) (h_regs : kc.frozen .regs = false := by first | with_reducible assumption | rfl) (h_clk : kc.frozen .clk = false := by first | with_reducible assumption | rfl) (h_glb : kc.frozen .glb = false := by first | with_reducible assumption | rfl) (h_dmc : kc.frozen .dmc = false := by first | with_reducible assumption | rfl) (h_rc : kc.frozen .rc = false := by first | with_reducible assumption | rfl) : OkO kc (execResetSelfRefresh s) := by
  unfold execResetSelfRefresh
  repeat' first
    | with_reducible assumption | with_reducible apply State.releaseFn_ok | with_reducible apply State.selfRefresh_ok
    | with_reducible apply okO_next | with_reducible apply okO_fault | with_reducible apply foldl_ok
    | with_reducible apply foldl_ok1 | with_reducible apply foldl_ok2 | with_reducible apply ok_ite | intro _ | split | dsimp only
    | with_reducible apply okF | with_reducible refine okF_clk (okF_glb (okF ?_)) | dsimp only [Ok]

theorem holdOver_ok (s1 : State) (hk : Ok kc s1) (h_written : kc.frozen .written = false := by first | with_reducible assumption | rfl) (h_inForce : kc.frozen .inForce = false := by first | with_reducible assumption | rfl) (h_regs : kc.frozen .regs = false := by first | with_reducible assumption | rfl) (h_clk : kc.frozen .clk = false := by first | with_reducible assumption | rfl) (h_time : kc.frozen .time = false := by first | with_reducible assumption | rfl) (h_glb : kc.frozen .glb = false := by first | with_reducible assumption | rfl) (h_dram : kc.frozen .dram = false := by first | with_reducible assumption | rfl) (h_dmc : kc.frozen .dmc = false := by first | with_reducible assumption | rfl) (h_valeMem : kc.frozen .valeMem = false := by first | with_reducible assumption | rfl) (h_vale : kc.frozen .vale = false := by first | with_reducible assumption | rfl) (h_qm : kc.frozen .qm = false := by first | with_reducible assumption | rfl) (h_net : kc.frozen .net = false := by first | with_reducible assumption | rfl) (h_thm : kc.frozen .thm = false := by first | with_reducible assumption | rfl) (h_pwr : kc.frozen .pwr = false := by first | with_reducible assumption | rfl) (h_flash : kc.frozen .flash = false := by first | with_reducible assumption | rfl) (h_rc : kc.frozen .rc = false := by first | with_reducible assumption | rfl) (h_fl : kc.frozen .fl = false := by first | with_reducible assumption | rfl) (h_ports : kc.frozen .ports = false := by first | with_reducible assumption | rfl) (h_tiles : kc.frozen .tiles = false := by first | with_reducible assumption | rfl) (h_hops : kc.frozen .hops = false := by first | with_reducible assumption | rfl) (h_film : kc.frozen .film = false := by first | with_reducible assumption | rfl) (h_wsa : kc.frozen .wsa = false := by first | with_reducible assumption | rfl) (h_sch : kc.frozen .sch = false := by first | with_reducible assumption | rfl) (h_mp : kc.frozen .mp = false := by first | with_reducible assumption | rfl) : Ok kc ({ s1 with glb.entry := none, glb.porst := false } : State).bootFrom := by
  refine State.bootFrom_ok _ ?_
  dsimp only [Ok]
  exact okF_glb (okF hk)

theorem execResetHoldExpire_ok (s : State) (hk : Ok kc s) (h_written : kc.frozen .written = false := by first | with_reducible assumption | rfl) (h_inForce : kc.frozen .inForce = false := by first | with_reducible assumption | rfl) (h_regs : kc.frozen .regs = false := by first | with_reducible assumption | rfl) (h_clk : kc.frozen .clk = false := by first | with_reducible assumption | rfl) (h_time : kc.frozen .time = false := by first | with_reducible assumption | rfl) (h_glb : kc.frozen .glb = false := by first | with_reducible assumption | rfl) (h_dram : kc.frozen .dram = false := by first | with_reducible assumption | rfl) (h_dmc : kc.frozen .dmc = false := by first | with_reducible assumption | rfl) (h_valeMem : kc.frozen .valeMem = false := by first | with_reducible assumption | rfl) (h_vale : kc.frozen .vale = false := by first | with_reducible assumption | rfl) (h_qm : kc.frozen .qm = false := by first | with_reducible assumption | rfl) (h_net : kc.frozen .net = false := by first | with_reducible assumption | rfl) (h_thm : kc.frozen .thm = false := by first | with_reducible assumption | rfl) (h_pwr : kc.frozen .pwr = false := by first | with_reducible assumption | rfl) (h_flash : kc.frozen .flash = false := by first | with_reducible assumption | rfl) (h_rc : kc.frozen .rc = false := by first | with_reducible assumption | rfl) (h_fl : kc.frozen .fl = false := by first | with_reducible assumption | rfl) (h_ports : kc.frozen .ports = false := by first | with_reducible assumption | rfl) (h_tiles : kc.frozen .tiles = false := by first | with_reducible assumption | rfl) (h_hops : kc.frozen .hops = false := by first | with_reducible assumption | rfl) (h_film : kc.frozen .film = false := by first | with_reducible assumption | rfl) (h_wsa : kc.frozen .wsa = false := by first | with_reducible assumption | rfl) (h_sch : kc.frozen .sch = false := by first | with_reducible assumption | rfl) (h_mp : kc.frozen .mp = false := by first | with_reducible assumption | rfl) : OkO kc (execResetHoldExpire s) := by
  unfold execResetHoldExpire
  refine okO_next ?_
  split
  · dsimp only
    split
    · exact State.warmBoot_ok _ _ (State.advanceTo_ok _ _ hk)
    · split
      · exact holdOver_ok _ (State.advanceTo_ok _ _ hk)
      · exact hk
  · exact hk

theorem execRefclkStop_ok (s : State) (hk : Ok kc s) (h_glb : kc.frozen .glb = false := by first | with_reducible assumption | rfl) : OkO kc (execRefclkStop s) := by
  unfold execRefclkStop
  repeat' first
    | with_reducible assumption | with_reducible apply okO_next | with_reducible apply okO_fault | intro _ | split | dsimp only
    | with_reducible apply okF | with_reducible refine okF_glb (okF ?_) | dsimp only [Ok]

theorem State.kick_ok (s : State) (path : Path) (v : Nat) (hk : Ok kc s) (h_glb : kc.frozen .glb = false := by first | with_reducible assumption | rfl) : Ok kc (State.kick s path v) := by
  unfold State.kick
  repeat' first
    | with_reducible assumption | with_reducible apply ok_ite | intro _ | split | dsimp only | with_reducible apply okF
    | with_reducible refine okF_glb (okF ?_) | dsimp only [Ok]

theorem execGlbWdogKick_ok (path : Path) (value : Word) (s : State) (hk : Ok kc s) (h_glb : kc.frozen .glb = false := by first | with_reducible assumption | rfl) : OkO kc (execGlbWdogKick path value s) := by
  unfold execGlbWdogKick
  repeat' first
    | with_reducible assumption | with_reducible apply State.kick_ok | with_reducible apply okO_next
    | with_reducible apply okO_fault | intro _ | split | dsimp only | with_reducible apply okF | dsimp only [Ok]

theorem watchdog_ok (s1 : State) (w : Nat) (hk : Ok kc s1) (h_glb : kc.frozen .glb = false := by first | with_reducible assumption | rfl) (h_pwr : kc.frozen .pwr = false := by first | with_reducible assumption | rfl) (h_ports : kc.frozen .ports = false := by first | with_reducible assumption | rfl) (h_tiles : kc.frozen .tiles = false := by first | with_reducible assumption | rfl) (h_wsa : kc.frozen .wsa = false := by first | with_reducible assumption | rfl) (h_mp : kc.frozen .mp = false := by first | with_reducible assumption | rfl) (h_out : kc.frozen .out = false := by first | with_reducible assumption | rfl) : Ok kc (
    let s2 := { s1 with glb.wdogLogged := true }
    if bits w 10 1 = 0 then s2.beginReset 5 0 else s2.startCapture 5 0) :=
  ok_ite (fun _ => State.beginReset_ok _ _ _ (by dsimp only [Ok]; exact okF_glb (okF hk))) fun _ => State.startCapture_ok _ _ _ (by dsimp only [Ok]; exact okF_glb (okF hk))

theorem execWatchdogExpire_ok (s : State) (hk : Ok kc s) (h_clk : kc.frozen .clk = false := by first | with_reducible assumption | rfl) (h_time : kc.frozen .time = false := by first | with_reducible assumption | rfl) (h_glb : kc.frozen .glb = false := by first | with_reducible assumption | rfl) (h_pwr : kc.frozen .pwr = false := by first | with_reducible assumption | rfl) (h_ports : kc.frozen .ports = false := by first | with_reducible assumption | rfl) (h_tiles : kc.frozen .tiles = false := by first | with_reducible assumption | rfl) (h_wsa : kc.frozen .wsa = false := by first | with_reducible assumption | rfl) (h_mp : kc.frozen .mp = false := by first | with_reducible assumption | rfl) (h_out : kc.frozen .out = false := by first | with_reducible assumption | rfl) : OkO kc (execWatchdogExpire s) := by
  unfold execWatchdogExpire
  with_reducible apply okO_next
  split
  · exact watchdog_ok _ _ (State.advanceTo_ok _ _ hk)
  · exact hk

theorem strikes_ok (t : State) (hk : Ok kc t) (h_glb : kc.frozen .glb = false := by first | with_reducible assumption | rfl) : Ok kc { t with glb.strikes := 0 } := by
  dsimp only [Ok]
  exact okF_glb (okF hk)

theorem execStrikesClear_ok (s : State) (hk : Ok kc s) (h_clk : kc.frozen .clk = false := by first | with_reducible assumption | rfl) (h_time : kc.frozen .time = false := by first | with_reducible assumption | rfl) (h_glb : kc.frozen .glb = false := by first | with_reducible assumption | rfl) : OkO kc (execStrikesClear s) := by
  unfold execStrikesClear
  with_reducible apply okO_next
  split
  · exact strikes_ok _ (State.advanceTo_ok _ _ hk)
  · exact hk

/-! ### Commit -/

theorem State.commitSch_ok (s : State) (hk : Ok kc s) (h_inForce : kc.frozen .inForce = false := by first | with_reducible assumption | rfl) (h_regs : kc.frozen .regs = false := by first | with_reducible assumption | rfl) : Ok kc (State.commitSch s).2 := by
  have hk' : Ok kc (s.clearRejected unitSch) := State.clearRejected_ok _ _ hk
  have hs := hk'.sets
  unfold State.commitSch
  split
  · dsimp only [Ok]
    exact okF_inForce (okF hk') fun hi => ⟨(hs hi).1, (hs hi).2.1, sets_tabSet (hs hi).2.2.1 _ (mem_tabGet_set (hs hi).2.1 _), (hs hi).2.2.2⟩
  · exact State.rejectCommit_ok _ _ hk

theorem State.commitBy_ok (s : State) (u : Nat) (ok : Bool) (hk : Ok kc s) (h_inForce : kc.frozen .inForce = false := by first | with_reducible assumption | rfl) (h_regs : kc.frozen .regs = false := by first | with_reducible assumption | rfl) : Ok kc (State.commitBy s u ok).2 := by
  unfold State.commitBy
  repeat' first
    | with_reducible assumption | with_reducible apply State.acceptCommit_ok | with_reducible apply State.rejectCommit_ok
    | with_reducible apply ok_ite | intro _ | split | dsimp only | with_reducible apply okF | dsimp only [Ok]

theorem State.commit_ok (s : State) (u : Nat) (hk : Ok kc s) (h_inForce : kc.frozen .inForce = false := by first | with_reducible assumption | rfl) (h_regs : kc.frozen .regs = false := by first | with_reducible assumption | rfl) (h_time : kc.frozen .time = false := by first | with_reducible assumption | rfl) : Ok kc (State.commit s u).2 := by
  unfold State.commit
  repeat' first
    | with_reducible assumption | with_reducible apply State.commitBy_ok | with_reducible apply State.commitMp_ok
    | with_reducible apply State.commitNet_ok | with_reducible apply State.commitSch_ok | with_reducible apply State.commitTime_ok
    | with_reducible apply State.rejectCommit_ok | with_reducible apply ok_ite | intro _ | split | dsimp only
    | with_reducible apply okF | dsimp only [Ok]

theorem State.writeCommit_ok (s : State) (u v : Nat) (hk : Ok kc s) (h_inForce : kc.frozen .inForce = false := by first | with_reducible assumption | rfl) (h_regs : kc.frozen .regs = false := by first | with_reducible assumption | rfl) (h_time : kc.frozen .time = false := by first | with_reducible assumption | rfl) : Ok kc (State.writeCommit s u v) := by
  unfold State.writeCommit
  repeat' first
    | with_reducible assumption | with_reducible apply State.clearRejected_ok | with_reducible apply State.commit_ok
    | with_reducible apply ok_ite | intro _ | split | dsimp only | with_reducible apply okF | dsimp only [Ok]

theorem execWsaCommit_ok (value : Word) (s : State) (hk : Ok kc s) (h_inForce : kc.frozen .inForce = false := by first | with_reducible assumption | rfl) (h_regs : kc.frozen .regs = false := by first | with_reducible assumption | rfl) (h_time : kc.frozen .time = false := by first | with_reducible assumption | rfl) : OkO kc (execWsaCommit value s) := by
  unfold execWsaCommit
  repeat' first
    | with_reducible assumption | with_reducible apply State.whenReady_ok | with_reducible apply State.writeCommit_ok
    | with_reducible apply okO_next | with_reducible apply okO_fault | intro _ | split | dsimp only | with_reducible apply okF
    | dsimp only [Ok]

theorem execSchCommit_ok (value : Word) (s : State) (hk : Ok kc s) (h_inForce : kc.frozen .inForce = false := by first | with_reducible assumption | rfl) (h_regs : kc.frozen .regs = false := by first | with_reducible assumption | rfl) (h_time : kc.frozen .time = false := by first | with_reducible assumption | rfl) : OkO kc (execSchCommit value s) := by
  unfold execSchCommit
  repeat' first
    | with_reducible assumption | with_reducible apply State.whenReady_ok | with_reducible apply State.writeCommit_ok
    | with_reducible apply okO_next | with_reducible apply okO_fault | intro _ | split | dsimp only | with_reducible apply okF
    | dsimp only [Ok]

theorem execMpCommit_ok (value : Word) (s : State) (hk : Ok kc s) (h_inForce : kc.frozen .inForce = false := by first | with_reducible assumption | rfl) (h_regs : kc.frozen .regs = false := by first | with_reducible assumption | rfl) (h_time : kc.frozen .time = false := by first | with_reducible assumption | rfl) : OkO kc (execMpCommit value s) := by
  unfold execMpCommit
  repeat' first
    | with_reducible assumption | with_reducible apply State.whenReady_ok | with_reducible apply State.writeCommit_ok
    | with_reducible apply okO_next | with_reducible apply okO_fault | intro _ | split | dsimp only | with_reducible apply okF
    | dsimp only [Ok]

theorem execTfPcommit_ok (port : Fin 32) (value : Word) (s : State) (hk : Ok kc s) (h_inForce : kc.frozen .inForce = false := by first | with_reducible assumption | rfl) (h_regs : kc.frozen .regs = false := by first | with_reducible assumption | rfl) (h_time : kc.frozen .time = false := by first | with_reducible assumption | rfl) : OkO kc (execTfPcommit port value s) := by
  unfold execTfPcommit
  repeat' first
    | with_reducible assumption | with_reducible apply State.whenReady_ok | with_reducible apply State.writeCommit_ok
    | with_reducible apply okO_next | with_reducible apply okO_fault | intro _ | split | dsimp only | with_reducible apply okF
    | dsimp only [Ok]

theorem execTimeCommit_ok (value : Word) (s : State) (hk : Ok kc s) (h_inForce : kc.frozen .inForce = false := by first | with_reducible assumption | rfl) (h_regs : kc.frozen .regs = false := by first | with_reducible assumption | rfl) (h_time : kc.frozen .time = false := by first | with_reducible assumption | rfl) : OkO kc (execTimeCommit value s) := by
  unfold execTimeCommit
  repeat' first
    | with_reducible assumption | with_reducible apply State.whenReady_ok | with_reducible apply State.writeCommit_ok
    | with_reducible apply okO_next | with_reducible apply okO_fault | intro _ | split | dsimp only | with_reducible apply okF
    | dsimp only [Ok]

theorem execRgCommit_ok (g : Fin 8) (value : Word) (s : State) (hk : Ok kc s) (h_inForce : kc.frozen .inForce = false := by first | with_reducible assumption | rfl) (h_regs : kc.frozen .regs = false := by first | with_reducible assumption | rfl) (h_time : kc.frozen .time = false := by first | with_reducible assumption | rfl) : OkO kc (execRgCommit g value s) := by
  unfold execRgCommit
  repeat' first
    | with_reducible assumption | with_reducible apply State.whenReady_ok | with_reducible apply State.writeCommit_ok
    | with_reducible apply okO_next | with_reducible apply okO_fault | intro _ | split | dsimp only | with_reducible apply okF
    | dsimp only [Ok]

theorem execRcCommit_ok (value : Word) (s : State) (hk : Ok kc s) (h_inForce : kc.frozen .inForce = false := by first | with_reducible assumption | rfl) (h_regs : kc.frozen .regs = false := by first | with_reducible assumption | rfl) (h_time : kc.frozen .time = false := by first | with_reducible assumption | rfl) : OkO kc (execRcCommit value s) := by
  unfold execRcCommit
  repeat' first
    | with_reducible assumption | with_reducible apply State.whenReady_ok | with_reducible apply State.writeCommit_ok
    | with_reducible apply okO_next | with_reducible apply okO_fault | intro _ | split | dsimp only | with_reducible apply okF
    | dsimp only [Ok]

theorem execNetCommit_ok (value : Word) (s : State) (hk : Ok kc s) (h_inForce : kc.frozen .inForce = false := by first | with_reducible assumption | rfl) (h_regs : kc.frozen .regs = false := by first | with_reducible assumption | rfl) (h_time : kc.frozen .time = false := by first | with_reducible assumption | rfl) : OkO kc (execNetCommit value s) := by
  unfold execNetCommit
  repeat' first
    | with_reducible assumption | with_reducible apply State.whenReady_ok | with_reducible apply State.writeCommit_ok
    | with_reducible apply okO_next | with_reducible apply okO_fault | intro _ | split | dsimp only | with_reducible apply okF
    | dsimp only [Ok]

theorem execThmCommit_ok (value : Word) (s : State) (hk : Ok kc s) (h_inForce : kc.frozen .inForce = false := by first | with_reducible assumption | rfl) (h_regs : kc.frozen .regs = false := by first | with_reducible assumption | rfl) (h_time : kc.frozen .time = false := by first | with_reducible assumption | rfl) : OkO kc (execThmCommit value s) := by
  unfold execThmCommit
  repeat' first
    | with_reducible assumption | with_reducible apply State.whenReady_ok | with_reducible apply State.writeCommit_ok
    | with_reducible apply okO_next | with_reducible apply okO_fault | intro _ | split | dsimp only | with_reducible apply okF
    | dsimp only [Ok]


/-! ### Vale -/

theorem State.valeAnswer_ok (s : State) (who : ValeReq) (data : List Byte) (hk : Ok kc s) (h_out : kc.frozen .out = false := by first | with_reducible assumption | rfl) : Ok kc (State.valeAnswer s who data) := by
  unfold State.valeAnswer
  repeat' first
    | with_reducible assumption | with_reducible apply State.emit_ok | intro _ | split | dsimp only | with_reducible apply okF
    | dsimp only [Ok]

theorem State.valeDeny_ok (s : State) (x : ValeAccess) (hk : Ok kc s) (h_regs : kc.frozen .regs = false := by first | with_reducible assumption | rfl) (h_vale : kc.frozen .vale = false := by first | with_reducible assumption | rfl) (h_out : kc.frozen .out = false := by first | with_reducible assumption | rfl) : Ok kc (State.valeDeny s x) := by
  unfold State.valeDeny
  repeat' first
    | with_reducible assumption | with_reducible apply State.count_ok | with_reducible apply State.valeAnswer_ok | intro _ | split
    | dsimp only | with_reducible apply okF | with_reducible refine okF_vale (okF ?_) | dsimp only [Ok]

theorem State.valeDo_ok (s0 : State) (x : ValeAccess) (hk : Ok kc s0) (h_valeMem : kc.frozen .valeMem = false := by first | with_reducible assumption | rfl) (h_vale : kc.frozen .vale = false := by first | with_reducible assumption | rfl) (h_out : kc.frozen .out = false := by first | with_reducible assumption | rfl) : Ok kc (State.valeDo s0 x) := by
  unfold State.valeDo
  extract_lets off src s
  have h1 : Ok kc s := State.setBank_ok _ _ _ hk
  clear_value s
  split
  · exact h1
  · split
    · exact State.valeAnswer_ok _ _ _ h1
    · split
      · dsimp only [Ok]; exact okF_valeMem (okF h1) (fun hi => memWf_storeEnabled (h1.mem hi))
      · dsimp only [Ok]; exact okF_valeMem (okF h1) (fun hi => memWf_store (h1.mem hi))

theorem State.valeServe_ok (s : State) (l : List (ValeAccess × Nat)) (hk : Ok kc s) (h_regs : kc.frozen .regs = false := by first | with_reducible assumption | rfl) (h_valeMem : kc.frozen .valeMem = false := by first | with_reducible assumption | rfl) (h_vale : kc.frozen .vale = false := by first | with_reducible assumption | rfl) (h_out : kc.frozen .out = false := by first | with_reducible assumption | rfl) : Ok kc (State.valeServe s l) := by
  unfold State.valeServe
  repeat' first
    | with_reducible assumption | with_reducible apply State.count_ok | with_reducible apply State.valeDeny_ok
    | with_reducible apply State.valeDo_ok | with_reducible apply foldl_ok | with_reducible apply foldl_ok1
    | with_reducible apply foldl_ok2 | with_reducible apply ok_ite | intro _ | split | dsimp only | with_reducible apply okF
    | dsimp only [Ok]

theorem execBtWindowStart_ok (s : State) (hk : Ok kc s) (h_clk : kc.frozen .clk = false := by first | with_reducible assumption | rfl) (h_time : kc.frozen .time = false := by first | with_reducible assumption | rfl) (h_glb : kc.frozen .glb = false := by first | with_reducible assumption | rfl) (h_vale : kc.frozen .vale = false := by first | with_reducible assumption | rfl) : OkO kc (execBtWindowStart s) := by
  unfold execBtWindowStart
  repeat' first
    | with_reducible assumption | with_reducible apply State.advanceTo_ok | with_reducible apply okO_next
    | with_reducible apply okO_fault | with_reducible apply ok_ite | intro _ | split | dsimp only | with_reducible apply okF
    | with_reducible refine okF_vale (okF ?_) | dsimp only [Ok]

theorem State.valeResume_ok (s : State) (hk : Ok kc s) (h_regs : kc.frozen .regs = false := by first | with_reducible assumption | rfl) (h_valeMem : kc.frozen .valeMem = false := by first | with_reducible assumption | rfl) (h_vale : kc.frozen .vale = false := by first | with_reducible assumption | rfl) (h_out : kc.frozen .out = false := by first | with_reducible assumption | rfl) : Ok kc (State.valeResume s) := by
  unfold State.valeResume
  repeat' first
    | with_reducible assumption | with_reducible apply State.valeServe_ok | intro _ | split | dsimp only | with_reducible apply okF
    | with_reducible refine okF_vale (okF ?_) | dsimp only [Ok]

theorem State.btAbort_ok (s0 : State) (hk : Ok kc s0) (h_regs : kc.frozen .regs = false := by first | with_reducible assumption | rfl) (h_clk : kc.frozen .clk = false := by first | with_reducible assumption | rfl) (h_time : kc.frozen .time = false := by first | with_reducible assumption | rfl) (h_glb : kc.frozen .glb = false := by first | with_reducible assumption | rfl) (h_vale : kc.frozen .vale = false := by first | with_reducible assumption | rfl) : Ok kc (State.btAbort s0) := by
  unfold State.btAbort
  repeat' first
    | with_reducible assumption | with_reducible apply State.advance_ok | with_reducible apply State.count_ok
    | with_reducible apply ok_ite | intro _ | split | dsimp only | with_reducible apply okF
    | with_reducible refine okF_vale (okF ?_) | dsimp only [Ok]

theorem State.btFailed_ok (s : State) (l : Fin 8) (hk : Ok kc s) (h_regs : kc.frozen .regs = false := by first | with_reducible assumption | rfl) (h_glb : kc.frozen .glb = false := by first | with_reducible assumption | rfl) (h_vale : kc.frozen .vale = false := by first | with_reducible assumption | rfl) (h_qm : kc.frozen .qm = false := by first | with_reducible assumption | rfl) (h_out : kc.frozen .out = false := by first | with_reducible assumption | rfl) : Ok kc (State.btFailed s l) := by
  unfold State.btFailed
  repeat' first
    | with_reducible assumption | with_reducible apply State.count_ok | with_reducible apply State.log_ok
    | with_reducible apply State.setBank_ok | intro _ | split | dsimp only | with_reducible apply okF
    | with_reducible refine okF_glb (okF_vale (okF ?_)) | dsimp only [Ok]

theorem execBtWindowDone_ok (fails : List (Fin 8)) (s : State) (hk : Ok kc s) (h_regs : kc.frozen .regs = false := by first | with_reducible assumption | rfl) (h_clk : kc.frozen .clk = false := by first | with_reducible assumption | rfl) (h_time : kc.frozen .time = false := by first | with_reducible assumption | rfl) (h_glb : kc.frozen .glb = false := by first | with_reducible assumption | rfl) (h_valeMem : kc.frozen .valeMem = false := by first | with_reducible assumption | rfl) (h_vale : kc.frozen .vale = false := by first | with_reducible assumption | rfl) (h_qm : kc.frozen .qm = false := by first | with_reducible assumption | rfl) (h_out : kc.frozen .out = false := by first | with_reducible assumption | rfl) : OkO kc (execBtWindowDone fails s) := by
  unfold execBtWindowDone
  repeat' first
    | with_reducible assumption | with_reducible apply State.advanceTo_ok | with_reducible apply State.btFailed_ok
    | with_reducible apply State.count_ok | with_reducible apply State.valeResume_ok | with_reducible apply okO_next
    | with_reducible apply okO_fault | with_reducible apply foldl_ok | with_reducible apply foldl_ok1
    | with_reducible apply foldl_ok2 | with_reducible apply ok_ite | intro _ | split | dsimp only | with_reducible apply okF
    | with_reducible refine okF_vale (okF ?_) | dsimp only [Ok]

theorem State.valeBank_ok (s : State) (k : Nat) (l : List ValeAccess) (hk : Ok kc s) (h_regs : kc.frozen .regs = false := by first | with_reducible assumption | rfl) (h_clk : kc.frozen .clk = false := by first | with_reducible assumption | rfl) (h_time : kc.frozen .time = false := by first | with_reducible assumption | rfl) (h_glb : kc.frozen .glb = false := by first | with_reducible assumption | rfl) (h_valeMem : kc.frozen .valeMem = false := by first | with_reducible assumption | rfl) (h_vale : kc.frozen .vale = false := by first | with_reducible assumption | rfl) (h_out : kc.frozen .out = false := by first | with_reducible assumption | rfl) : Ok kc (State.valeBank s k l) := by
  unfold State.valeBank
  repeat' first
    | with_reducible assumption | with_reducible apply State.advanceTo_ok | with_reducible apply State.btAbort_ok
    | with_reducible apply State.valeServe_ok | with_reducible apply State.wakeBank_ok | with_reducible apply ok_ite | intro _
    | split | dsimp only | with_reducible apply okF | with_reducible refine okF_vale (okF ?_) | dsimp only [Ok]

theorem State.valeAsk_ok (s : State) (l : List ValeAccess) (hk : Ok kc s) (h_regs : kc.frozen .regs = false := by first | with_reducible assumption | rfl) (h_clk : kc.frozen .clk = false := by first | with_reducible assumption | rfl) (h_time : kc.frozen .time = false := by first | with_reducible assumption | rfl) (h_glb : kc.frozen .glb = false := by first | with_reducible assumption | rfl) (h_valeMem : kc.frozen .valeMem = false := by first | with_reducible assumption | rfl) (h_vale : kc.frozen .vale = false := by first | with_reducible assumption | rfl) (h_out : kc.frozen .out = false := by first | with_reducible assumption | rfl) : Ok kc (State.valeAsk s l) := by
  unfold State.valeAsk
  repeat' first
    | with_reducible assumption | with_reducible apply State.valeAnswer_ok | with_reducible apply State.valeBank_ok
    | with_reducible apply State.valeDeny_ok | with_reducible apply foldl_ok | with_reducible apply foldl_ok1
    | with_reducible apply foldl_ok2 | intro _ | split | dsimp only | with_reducible apply okF | dsimp only [Ok]

theorem State.valeAccess_ok (s : State) (who : ValeReq) (via : ValeAlias) (off : Nat) (acc : MemAcc) (hk : Ok kc s) (h_regs : kc.frozen .regs = false := by first | with_reducible assumption | rfl) (h_clk : kc.frozen .clk = false := by first | with_reducible assumption | rfl) (h_time : kc.frozen .time = false := by first | with_reducible assumption | rfl) (h_glb : kc.frozen .glb = false := by first | with_reducible assumption | rfl) (h_valeMem : kc.frozen .valeMem = false := by first | with_reducible assumption | rfl) (h_vale : kc.frozen .vale = false := by first | with_reducible assumption | rfl) (h_out : kc.frozen .out = false := by first | with_reducible assumption | rfl) : Ok kc (State.valeAccess s who via off acc) := by
  unfold State.valeAccess
  repeat' first
    | with_reducible assumption | with_reducible apply State.valeAsk_ok | intro _ | split | dsimp only | with_reducible apply okF
    | dsimp only [Ok]

theorem execValeAliasAccess_ok (who : ValeReq) (via : ValeAlias) (off : BitVec 24) (op : ValeOp) (s : State) (hk : Ok kc s) (h_regs : kc.frozen .regs = false := by first | with_reducible assumption | rfl) (h_clk : kc.frozen .clk = false := by first | with_reducible assumption | rfl) (h_time : kc.frozen .time = false := by first | with_reducible assumption | rfl) (h_glb : kc.frozen .glb = false := by first | with_reducible assumption | rfl) (h_valeMem : kc.frozen .valeMem = false := by first | with_reducible assumption | rfl) (h_vale : kc.frozen .vale = false := by first | with_reducible assumption | rfl) (h_out : kc.frozen .out = false := by first | with_reducible assumption | rfl) : OkO kc (execValeAliasAccess who via off op s) := by
  unfold execValeAliasAccess
  repeat' first
    | with_reducible assumption | with_reducible apply State.valeAsk_ok | with_reducible apply okO_next
    | with_reducible apply okO_fault | intro _ | split | dsimp only | with_reducible apply okF | dsimp only [Ok]

theorem execValeSetWrite_ok (who : ValeReq) (off : BitVec 24) (size : Nat) (mask : Word) (s : State) (hk : Ok kc s) (h_regs : kc.frozen .regs = false := by first | with_reducible assumption | rfl) (h_clk : kc.frozen .clk = false := by first | with_reducible assumption | rfl) (h_time : kc.frozen .time = false := by first | with_reducible assumption | rfl) (h_glb : kc.frozen .glb = false := by first | with_reducible assumption | rfl) (h_valeMem : kc.frozen .valeMem = false := by first | with_reducible assumption | rfl) (h_vale : kc.frozen .vale = false := by first | with_reducible assumption | rfl) (h_out : kc.frozen .out = false := by first | with_reducible assumption | rfl) : OkO kc (execValeSetWrite who off size mask s) := by
  unfold execValeSetWrite
  repeat' first
    | with_reducible assumption | with_reducible apply State.valeAccess_ok | with_reducible apply okO_next
    | with_reducible apply okO_fault | intro _ | split | dsimp only | with_reducible apply okF | dsimp only [Ok]

theorem execValeClearWrite_ok (who : ValeReq) (off : BitVec 24) (size : Nat) (mask : Word) (s : State) (hk : Ok kc s) (h_regs : kc.frozen .regs = false := by first | with_reducible assumption | rfl) (h_clk : kc.frozen .clk = false := by first | with_reducible assumption | rfl) (h_time : kc.frozen .time = false := by first | with_reducible assumption | rfl) (h_glb : kc.frozen .glb = false := by first | with_reducible assumption | rfl) (h_valeMem : kc.frozen .valeMem = false := by first | with_reducible assumption | rfl) (h_vale : kc.frozen .vale = false := by first | with_reducible assumption | rfl) (h_out : kc.frozen .out = false := by first | with_reducible assumption | rfl) : OkO kc (execValeClearWrite who off size mask s) := by
  unfold execValeClearWrite
  repeat' first
    | with_reducible assumption | with_reducible apply State.valeAccess_ok | with_reducible apply okO_next
    | with_reducible apply okO_fault | intro _ | split | dsimp only | with_reducible apply okF | dsimp only [Ok]

theorem State.writeOwn_ok (s : State) (path : Path) (k v : Nat) (hk : Ok kc s) (h_regs : kc.frozen .regs = false := by first | with_reducible assumption | rfl) (h_clk : kc.frozen .clk = false := by first | with_reducible assumption | rfl) (h_time : kc.frozen .time = false := by first | with_reducible assumption | rfl) (h_glb : kc.frozen .glb = false := by first | with_reducible assumption | rfl) (h_valeMem : kc.frozen .valeMem = false := by first | with_reducible assumption | rfl) (h_vale : kc.frozen .vale = false := by first | with_reducible assumption | rfl) (h_out : kc.frozen .out = false := by first | with_reducible assumption | rfl) : Ok kc (State.writeOwn s path k v) := by
  unfold State.writeOwn
  repeat' first
    | with_reducible assumption | with_reducible apply State.btAbort_ok | with_reducible apply State.setBank_ok
    | with_reducible apply State.valeResume_ok | with_reducible apply State.wakeBank_ok | with_reducible apply ok_ite | intro _
    | split | dsimp only | with_reducible apply okF | with_reducible refine okF_vale (okF ?_) | dsimp only [Ok]

theorem execValeOwnWrite_ok (path : Path) (bank : Fin 64) (write : PortWrite) (s : State) (hk : Ok kc s) (h_regs : kc.frozen .regs = false := by first | with_reducible assumption | rfl) (h_clk : kc.frozen .clk = false := by first | with_reducible assumption | rfl) (h_time : kc.frozen .time = false := by first | with_reducible assumption | rfl) (h_glb : kc.frozen .glb = false := by first | with_reducible assumption | rfl) (h_valeMem : kc.frozen .valeMem = false := by first | with_reducible assumption | rfl) (h_vale : kc.frozen .vale = false := by first | with_reducible assumption | rfl) (h_out : kc.frozen .out = false := by first | with_reducible assumption | rfl) : OkO kc (execValeOwnWrite path bank write s) := by
  unfold execValeOwnWrite
  repeat' first
    | with_reducible assumption | with_reducible apply State.writeOwn_ok | with_reducible apply okO_next
    | with_reducible apply okO_fault | with_reducible apply foldl_ok | with_reducible apply foldl_ok1
    | with_reducible apply foldl_ok2 | with_reducible apply ok_ite | intro _ | split | dsimp only | with_reducible apply okF
    | dsimp only [Ok]

theorem handover_ok (t : State) (lo hi : Nat) (hk : Ok kc t) (h_valeMem : kc.frozen .valeMem = false := by first | with_reducible assumption | rfl) (h_vale : kc.frozen .vale = false := by first | with_reducible assumption | rfl) : Ok kc { t with vale.mem := memErase t.vale.mem lo hi } := by
  dsimp only [Ok]
  exact okF_valeMem (okF hk) (fun hi => memWf_erase (hk.mem hi))

theorem execValeHandoverDone_ok (bank : Fin 64) (s : State) (hk : Ok kc s) (h_regs : kc.frozen .regs = false := by first | with_reducible assumption | rfl) (h_clk : kc.frozen .clk = false := by first | with_reducible assumption | rfl) (h_time : kc.frozen .time = false := by first | with_reducible assumption | rfl) (h_glb : kc.frozen .glb = false := by first | with_reducible assumption | rfl) (h_valeMem : kc.frozen .valeMem = false := by first | with_reducible assumption | rfl) (h_vale : kc.frozen .vale = false := by first | with_reducible assumption | rfl) : OkO kc (execValeHandoverDone bank s) := by
  unfold execValeHandoverDone
  extract_lets k
  split
  · with_reducible apply okO_next
    apply State.count_ok
    apply State.setBank_ok
    with_reducible apply ok_ite
    · intro _; exact handover_ok _ _ _ (State.advance_ok _ _ (State.advanceTo_ok _ _ hk))
    · intro _; exact hk
    all_goals assumption
  · exact hk

theorem State.writeRetEn_ok (s : State) (v : Nat) (hk : Ok kc s) (h_written : kc.frozen .written = false := by first | with_reducible assumption | rfl) (h_regs : kc.frozen .regs = false := by first | with_reducible assumption | rfl) (h_vale : kc.frozen .vale = false := by first | with_reducible assumption | rfl) : Ok kc (State.writeRetEn s v) := by
  unfold State.writeRetEn
  repeat' first
    | with_reducible assumption | with_reducible apply State.putReg_ok | with_reducible apply State.wakeBank_ok
    | with_reducible apply foldl_ok | with_reducible apply foldl_ok1 | with_reducible apply foldl_ok2 | with_reducible apply ok_ite
    | intro _ | split | dsimp only | with_reducible apply okF | dsimp only [Ok]

theorem execValeRetEnWrite_ok (value : Word) (s : State) (hk : Ok kc s) (h_written : kc.frozen .written = false := by first | with_reducible assumption | rfl) (h_regs : kc.frozen .regs = false := by first | with_reducible assumption | rfl) (h_vale : kc.frozen .vale = false := by first | with_reducible assumption | rfl) : OkO kc (execValeRetEnWrite value s) := by
  unfold execValeRetEnWrite
  repeat' first
    | with_reducible assumption | with_reducible apply State.whenReady_ok | with_reducible apply State.writeRetEn_ok
    | with_reducible apply okO_next | with_reducible apply okO_fault | intro _ | split | dsimp only | with_reducible apply okF
    | dsimp only [Ok]

theorem execValeRetentionEnter_ok (bank : Fin 64) (s : State) (hk : Ok kc s) (h_clk : kc.frozen .clk = false := by first | with_reducible assumption | rfl) (h_time : kc.frozen .time = false := by first | with_reducible assumption | rfl) (h_glb : kc.frozen .glb = false := by first | with_reducible assumption | rfl) (h_vale : kc.frozen .vale = false := by first | with_reducible assumption | rfl) : OkO kc (execValeRetentionEnter bank s) := by
  unfold execValeRetentionEnter
  repeat' first
    | with_reducible assumption | with_reducible apply State.advanceTo_ok | with_reducible apply State.setBank_ok
    | with_reducible apply okO_next | with_reducible apply okO_fault | with_reducible apply ok_ite | intro _ | split | dsimp only
    | with_reducible apply okF | dsimp only [Ok]


/-! ### Window -/

theorem State.mboxIndices_ok (s : State) (m : Fin 16) (v : Nat) (hk : Ok kc s) (h_regs : kc.frozen .regs = false := by first | with_reducible assumption | rfl) (h_glb : kc.frozen .glb = false := by first | with_reducible assumption | rfl) (h_vale : kc.frozen .vale = false := by first | with_reducible assumption | rfl) (h_qm : kc.frozen .qm = false := by first | with_reducible assumption | rfl) (h_net : kc.frozen .net = false := by first | with_reducible assumption | rfl) (h_out : kc.frozen .out = false := by first | with_reducible assumption | rfl) : Ok kc (State.mboxIndices s m v) := by
  unfold State.mboxIndices
  repeat' first
    | with_reducible assumption | with_reducible apply State.drainOvq_ok | with_reducible apply State.fetchMboxes_ok
    | with_reducible apply State.mbShow_ok | with_reducible apply State.setMbox_ok | with_reducible apply ok_ite | intro _ | split
    | dsimp only | with_reducible apply okF | dsimp only [Ok]

theorem State.writeMbSup_ok (s : State) (m : Fin 16) (v : Nat) (hk : Ok kc s) (h_regs : kc.frozen .regs = false := by first | with_reducible assumption | rfl) (h_glb : kc.frozen .glb = false := by first | with_reducible assumption | rfl) (h_vale : kc.frozen .vale = false := by first | with_reducible assumption | rfl) (h_qm : kc.frozen .qm = false := by first | with_reducible assumption | rfl) (h_net : kc.frozen .net = false := by first | with_reducible assumption | rfl) (h_out : kc.frozen .out = false := by first | with_reducible assumption | rfl) : Ok kc (State.writeMbSup s m v) := by
  unfold State.writeMbSup
  repeat' first
    | with_reducible assumption | with_reducible apply State.mboxIndices_ok | with_reducible apply State.swinPut_ok | intro _
    | split | dsimp only | with_reducible apply okF | dsimp only [Ok]

theorem State.writeMbCtl_ok (s : State) (m : Fin 16) (v : Nat) (hk : Ok kc s) (h_regs : kc.frozen .regs = false := by first | with_reducible assumption | rfl) (h_glb : kc.frozen .glb = false := by first | with_reducible assumption | rfl) (h_vale : kc.frozen .vale = false := by first | with_reducible assumption | rfl) (h_qm : kc.frozen .qm = false := by first | with_reducible assumption | rfl) (h_net : kc.frozen .net = false := by first | with_reducible assumption | rfl) (h_out : kc.frozen .out = false := by first | with_reducible assumption | rfl) : Ok kc (State.writeMbCtl s m v) := by
  unfold State.writeMbCtl
  repeat' first
    | with_reducible assumption | with_reducible apply State.drainOvq_ok | with_reducible apply State.fetchMboxes_ok
    | with_reducible apply State.mbShow_ok | with_reducible apply State.mboxDone_ok | with_reducible apply State.setMbox_ok
    | with_reducible apply State.swinPut_ok | with_reducible apply ok_ite | intro _ | split | dsimp only | with_reducible apply okF
    | dsimp only [Ok]

theorem execMailboxDoorbell_ok (m : Fin 16) (value : Word) (s : State) (hk : Ok kc s) (h_regs : kc.frozen .regs = false := by first | with_reducible assumption | rfl) (h_glb : kc.frozen .glb = false := by first | with_reducible assumption | rfl) (h_vale : kc.frozen .vale = false := by first | with_reducible assumption | rfl) (h_qm : kc.frozen .qm = false := by first | with_reducible assumption | rfl) (h_net : kc.frozen .net = false := by first | with_reducible assumption | rfl) (h_out : kc.frozen .out = false := by first | with_reducible assumption | rfl) : OkO kc (execMailboxDoorbell m value s) := by
  unfold execMailboxDoorbell
  repeat' first
    | with_reducible assumption | with_reducible apply State.writeMbSup_ok | with_reducible apply okO_next
    | with_reducible apply okO_fault | with_reducible apply ok_ite | intro _ | split | dsimp only | with_reducible apply okF
    | dsimp only [Ok]

theorem execMailboxControl_ok (m : Fin 16) (value : Word) (s : State) (hk : Ok kc s) (h_regs : kc.frozen .regs = false := by first | with_reducible assumption | rfl) (h_glb : kc.frozen .glb = false := by first | with_reducible assumption | rfl) (h_vale : kc.frozen .vale = false := by first | with_reducible assumption | rfl) (h_qm : kc.frozen .qm = false := by first | with_reducible assumption | rfl) (h_net : kc.frozen .net = false := by first | with_reducible assumption | rfl) (h_out : kc.frozen .out = false := by first | with_reducible assumption | rfl) : OkO kc (execMailboxControl m value s) := by
  unfold execMailboxControl
  repeat' first
    | with_reducible assumption | with_reducible apply State.writeMbCtl_ok | with_reducible apply okO_next
    | with_reducible apply okO_fault | with_reducible apply ok_ite | intro _ | split | dsimp only | with_reducible apply okF
    | dsimp only [Ok]

theorem State.winStore_ok (s : State) (who : WinWriter) (off v : Nat) (hk : Ok kc s) (h_regs : kc.frozen .regs = false := by first | with_reducible assumption | rfl) (h_glb : kc.frozen .glb = false := by first | with_reducible assumption | rfl) (h_vale : kc.frozen .vale = false := by first | with_reducible assumption | rfl) (h_qm : kc.frozen .qm = false := by first | with_reducible assumption | rfl) (h_net : kc.frozen .net = false := by first | with_reducible assumption | rfl) (h_out : kc.frozen .out = false := by first | with_reducible assumption | rfl) : Ok kc (State.winStore s who off v) := by
  unfold State.winStore
  repeat' first
    | with_reducible assumption | with_reducible apply State.swinPut_ok | with_reducible apply State.writeMbCtl_ok
    | with_reducible apply State.writeMbSup_ok | with_reducible apply ok_ite | intro _ | split | dsimp only
    | with_reducible apply okF | dsimp only [Ok]

theorem State.winWrite_ok (s : State) (who : WinWriter) (off v : Nat) (hk : Ok kc s) (h_regs : kc.frozen .regs = false := by first | with_reducible assumption | rfl) (h_glb : kc.frozen .glb = false := by first | with_reducible assumption | rfl) (h_vale : kc.frozen .vale = false := by first | with_reducible assumption | rfl) (h_qm : kc.frozen .qm = false := by first | with_reducible assumption | rfl) (h_net : kc.frozen .net = false := by first | with_reducible assumption | rfl) (h_out : kc.frozen .out = false := by first | with_reducible assumption | rfl) : Ok kc (State.winWrite s who off v) := by
  unfold State.winWrite
  repeat' first
    | with_reducible assumption | with_reducible apply State.winStore_ok | with_reducible apply ok_ite | intro _ | split
    | dsimp only | with_reducible apply okF | with_reducible refine okF_vale (okF ?_) | dsimp only [Ok]

theorem State.collide_ok (s : State) (off : Nat) (hk : Ok kc s) (h_vale : kc.frozen .vale = false := by first | with_reducible assumption | rfl) : Ok kc (State.collide s off) := by
  unfold State.collide
  repeat' first
    | with_reducible assumption | intro _ | split | dsimp only | with_reducible apply okF | with_reducible refine okF_vale (okF ?_)
    | dsimp only [Ok]

theorem State.winCycle_ok (s : State) (who : WinWriter) (o v : Nat) (other : WinOther) (hk : Ok kc s) (h_regs : kc.frozen .regs = false := by first | with_reducible assumption | rfl) (h_glb : kc.frozen .glb = false := by first | with_reducible assumption | rfl) (h_vale : kc.frozen .vale = false := by first | with_reducible assumption | rfl) (h_qm : kc.frozen .qm = false := by first | with_reducible assumption | rfl) (h_net : kc.frozen .net = false := by first | with_reducible assumption | rfl) (h_out : kc.frozen .out = false := by first | with_reducible assumption | rfl) : Ok kc (State.winCycle s who o v other) := by
  unfold State.winCycle
  repeat' first
    | with_reducible assumption | with_reducible apply State.collide_ok | with_reducible apply State.emit_ok
    | with_reducible apply State.winWrite_ok | with_reducible apply ok_ite | intro _ | split | dsimp only
    | with_reducible apply okF | dsimp only [Ok]

theorem State.winAnswer_ok (s : State) (who : WinWriter) (data : List Byte) (hk : Ok kc s) (h_out : kc.frozen .out = false := by first | with_reducible assumption | rfl) : Ok kc (State.winAnswer s who data) := by
  unfold State.winAnswer
  repeat' first
    | with_reducible assumption | with_reducible apply State.emit_ok | intro _ | split | dsimp only | with_reducible apply okF
    | dsimp only [Ok]

theorem State.winDo_ok (s : State) (r : WinReq) (hk : Ok kc s) (h_regs : kc.frozen .regs = false := by first | with_reducible assumption | rfl) (h_glb : kc.frozen .glb = false := by first | with_reducible assumption | rfl) (h_vale : kc.frozen .vale = false := by first | with_reducible assumption | rfl) (h_qm : kc.frozen .qm = false := by first | with_reducible assumption | rfl) (h_net : kc.frozen .net = false := by first | with_reducible assumption | rfl) (h_out : kc.frozen .out = false := by first | with_reducible assumption | rfl) : Ok kc (State.winDo s r) := by
  unfold State.winDo
  repeat' first
    | with_reducible assumption | with_reducible apply State.winAnswer_ok | with_reducible apply State.winWrite_ok | intro _
    | split | dsimp only | with_reducible apply okF | dsimp only [Ok]

theorem State.winVoid_ok (s : State) (r : WinReq) (hk : Ok kc s) (h_out : kc.frozen .out = false := by first | with_reducible assumption | rfl) : Ok kc (State.winVoid s r) := by
  unfold State.winVoid
  repeat' first
    | with_reducible assumption | with_reducible apply State.winAnswer_ok | with_reducible apply ok_ite | intro _ | split
    | dsimp only | with_reducible apply okF | dsimp only [Ok]

theorem execStatusWindowWrite_ok (who : WinWriter) (off : BitVec 16) (value : Word) (cycle : WinCycle) (s : State) (hk : Ok kc s) (h_regs : kc.frozen .regs = false := by first | with_reducible assumption | rfl) (h_glb : kc.frozen .glb = false := by first | with_reducible assumption | rfl) (h_vale : kc.frozen .vale = false := by first | with_reducible assumption | rfl) (h_qm : kc.frozen .qm = false := by first | with_reducible assumption | rfl) (h_net : kc.frozen .net = false := by first | with_reducible assumption | rfl) (h_out : kc.frozen .out = false := by first | with_reducible assumption | rfl) : OkO kc (execStatusWindowWrite who off value cycle s) := by
  unfold execStatusWindowWrite
  repeat' first
    | with_reducible assumption | with_reducible apply State.count_ok | with_reducible apply State.winCycle_ok
    | with_reducible apply State.winDo_ok | with_reducible apply State.winVoid_ok | with_reducible apply okO_next
    | with_reducible apply okO_fault | with_reducible apply foldl_ok | with_reducible apply foldl_ok1
    | with_reducible apply foldl_ok2 | with_reducible apply ok_ite | intro _ | split | dsimp only | with_reducible apply okF
    | dsimp only [Ok]

theorem execHeartbeat_ok (s : State) (hk : Ok kc s) (h_glb : kc.frozen .glb = false := by first | with_reducible assumption | rfl) : OkO kc (execHeartbeat s) := by
  unfold execHeartbeat
  repeat' first
    | with_reducible assumption | with_reducible apply okO_next | with_reducible apply okO_fault | with_reducible apply ok_ite
    | intro _ | split | dsimp only | with_reducible apply okF | with_reducible refine okF_glb (okF ?_) | dsimp only [Ok]

theorem execSmbSetPointer_ok (index : BitVec 16) (s : State) (hk : Ok kc s) (h_net : kc.frozen .net = false := by first | with_reducible assumption | rfl) : OkO kc (execSmbSetPointer index s) := by
  unfold execSmbSetPointer
  repeat' first
    | with_reducible assumption | with_reducible apply okO_next | with_reducible apply okO_fault | with_reducible apply ok_ite
    | intro _ | split | dsimp only | with_reducible apply okF | with_reducible refine okF_net (okF ?_) | dsimp only [Ok]

theorem execSmbBlockRead_ok (s : State) (hk : Ok kc s) (h_net : kc.frozen .net = false := by first | with_reducible assumption | rfl) (h_out : kc.frozen .out = false := by first | with_reducible assumption | rfl) : OkO kc (execSmbBlockRead s) := by
  unfold execSmbBlockRead
  repeat' first
    | with_reducible assumption | with_reducible apply State.emit_ok | with_reducible apply okO_next
    | with_reducible apply okO_fault | intro _ | split | dsimp only | with_reducible apply okF
    | with_reducible refine okF_net (okF ?_) | dsimp only [Ok]

theorem execSmbReadId_ok (s : State) (hk : Ok kc s) (h_out : kc.frozen .out = false := by first | with_reducible assumption | rfl) : OkO kc (execSmbReadId s) := by
  unfold execSmbReadId
  repeat' first
    | with_reducible assumption | with_reducible apply State.emit_ok | with_reducible apply okO_next
    | with_reducible apply okO_fault | intro _ | split | dsimp only | with_reducible apply okF | dsimp only [Ok]


/-! ### Regs -/

theorem State.readReg_ok (s : State) (path : Path) (off : Nat) (hk : Ok kc s) (h_regs : kc.frozen .regs = false := by first | with_reducible assumption | rfl) : Ok kc (State.readReg s path off).2 := by
  unfold State.readReg
  repeat' first
    | with_reducible assumption | with_reducible apply ok_ite | intro _ | split | dsimp only | with_reducible apply okF
    | with_reducible refine okF_regs (okF ?_) | dsimp only [Ok]

theorem execRegisterRead_ok (path : Path) (off : BitVec 32) (size : Nat) (s : State) (hk : Ok kc s) (h_regs : kc.frozen .regs = false := by first | with_reducible assumption | rfl) (h_clk : kc.frozen .clk = false := by first | with_reducible assumption | rfl) (h_time : kc.frozen .time = false := by first | with_reducible assumption | rfl) (h_glb : kc.frozen .glb = false := by first | with_reducible assumption | rfl) (h_valeMem : kc.frozen .valeMem = false := by first | with_reducible assumption | rfl) (h_vale : kc.frozen .vale = false := by first | with_reducible assumption | rfl) (h_out : kc.frozen .out = false := by first | with_reducible assumption | rfl) : OkO kc (execRegisterRead path off size s) := by
  unfold execRegisterRead
  repeat' first
    | with_reducible assumption | with_reducible apply State.emit_ok | with_reducible apply State.readReg_ok
    | with_reducible apply State.valeAccess_ok | with_reducible apply okO_next | with_reducible apply okO_fault
    | with_reducible apply ok_ite | intro _ | split | dsimp only | with_reducible apply okF | dsimp only [Ok]

theorem State.putIf_ok (s : State) (ok : Bool) (off v : Nat) (hk : Ok kc s) (h_written : kc.frozen .written = false := by first | with_reducible assumption | rfl) (h_regs : kc.frozen .regs = false := by first | with_reducible assumption | rfl) : Ok kc (State.putIf s ok off v) := by
  unfold State.putIf
  repeat' first
    | with_reducible assumption | with_reducible apply State.putReg_ok | with_reducible apply ok_ite | intro _ | split | dsimp only
    | with_reducible apply okF | dsimp only [Ok]

theorem State.putPair_ok (s : State) (path : Path) (lo v : Nat) (hk : Ok kc s) (h_written : kc.frozen .written = false := by first | with_reducible assumption | rfl) (h_regs : kc.frozen .regs = false := by first | with_reducible assumption | rfl) : Ok kc (State.putPair s path lo v) := by
  unfold State.putPair
  repeat' first
    | with_reducible assumption | with_reducible apply State.putReg_ok | with_reducible apply State.takeLo_ok | intro _ | split
    | dsimp only | with_reducible apply okF | dsimp only [Ok]

theorem State.writeGlb_ok (s : State) (path : Path) (r v : Nat) (hk : Ok kc s) (h_written : kc.frozen .written = false := by first | with_reducible assumption | rfl) (h_inForce : kc.frozen .inForce = false := by first | with_reducible assumption | rfl) (h_regs : kc.frozen .regs = false := by first | with_reducible assumption | rfl) (h_time : kc.frozen .time = false := by first | with_reducible assumption | rfl) (h_glb : kc.frozen .glb = false := by first | with_reducible assumption | rfl) (h_dram : kc.frozen .dram = false := by first | with_reducible assumption | rfl) (h_dmc : kc.frozen .dmc = false := by first | with_reducible assumption | rfl) (h_valeMem : kc.frozen .valeMem = false := by first | with_reducible assumption | rfl) (h_vale : kc.frozen .vale = false := by first | with_reducible assumption | rfl) (h_qm : kc.frozen .qm = false := by first | with_reducible assumption | rfl) (h_net : kc.frozen .net = false := by first | with_reducible assumption | rfl) (h_thm : kc.frozen .thm = false := by first | with_reducible assumption | rfl) (h_pwr : kc.frozen .pwr = false := by first | with_reducible assumption | rfl) (h_flash : kc.frozen .flash = false := by first | with_reducible assumption | rfl) (h_rc : kc.frozen .rc = false := by first | with_reducible assumption | rfl) (h_fl : kc.frozen .fl = false := by first | with_reducible assumption | rfl) (h_ports : kc.frozen .ports = false := by first | with_reducible assumption | rfl) (h_tiles : kc.frozen .tiles = false := by first | with_reducible assumption | rfl) (h_hops : kc.frozen .hops = false := by first | with_reducible assumption | rfl) (h_film : kc.frozen .film = false := by first | with_reducible assumption | rfl) (h_wsa : kc.frozen .wsa = false := by first | with_reducible assumption | rfl) (h_sch : kc.frozen .sch = false := by first | with_reducible assumption | rfl) (h_mp : kc.frozen .mp = false := by first | with_reducible assumption | rfl) (h_out : kc.frozen .out = false := by first | with_reducible assumption | rfl) : Ok kc (State.writeGlb s path r v) := by
  unfold State.writeGlb
  repeat' first
    | with_reducible assumption | with_reducible apply State.kick_ok | with_reducible apply State.putIf_ok
    | with_reducible apply State.writeRstCtrl_ok | with_reducible apply ok_ite | intro _ | split | dsimp only
    | with_reducible apply okF | dsimp only [Ok]

theorem State.writeThm_ok (s : State) (r v : Nat) (hk : Ok kc s) (h_written : kc.frozen .written = false := by first | with_reducible assumption | rfl) (h_inForce : kc.frozen .inForce = false := by first | with_reducible assumption | rfl) (h_regs : kc.frozen .regs = false := by first | with_reducible assumption | rfl) (h_time : kc.frozen .time = false := by first | with_reducible assumption | rfl) : Ok kc (State.writeThm s r v) := by
  unfold State.writeThm
  repeat' first
    | with_reducible assumption | with_reducible apply State.clearOn_ok | with_reducible apply State.putReg_ok
    | with_reducible apply State.writeCommit_ok | with_reducible apply ok_ite | intro _ | split | dsimp only
    | with_reducible apply okF | dsimp only [Ok]

theorem State.clearGroup_ok (s : State) (g v : Nat) (hk : Ok kc s) (h_regs : kc.frozen .regs = false := by first | with_reducible assumption | rfl) : Ok kc (State.clearGroup s g v) := by
  unfold State.clearGroup
  repeat' first
    | with_reducible assumption | with_reducible apply State.clearCnt_ok | with_reducible apply foldl_ok
    | with_reducible apply foldl_ok1 | with_reducible apply foldl_ok2 | with_reducible apply ok_ite | intro _ | split | dsimp only
    | with_reducible apply okF | dsimp only [Ok]

theorem State.writeRgCtrl_ok (s : State) (g v : Nat) (hk : Ok kc s) (h_regs : kc.frozen .regs = false := by first | with_reducible assumption | rfl) (h_glb : kc.frozen .glb = false := by first | with_reducible assumption | rfl) (h_vale : kc.frozen .vale = false := by first | with_reducible assumption | rfl) (h_rc : kc.frozen .rc = false := by first | with_reducible assumption | rfl) (h_film : kc.frozen .film = false := by first | with_reducible assumption | rfl) (h_sch : kc.frozen .sch = false := by first | with_reducible assumption | rfl) : Ok kc (State.writeRgCtrl s g v) := by
  unfold State.writeRgCtrl
  repeat' first
    | with_reducible assumption | with_reducible apply State.modGroup_ok | with_reducible apply State.rgDown_ok
    | with_reducible apply State.rgEnable_ok | with_reducible apply State.rgUp_ok | with_reducible apply ok_ite | intro _ | split
    | dsimp only | with_reducible apply okF | dsimp only [Ok]

theorem State.writeRail_ok (s : State) (off v : Nat) (hk : Ok kc s) (h_written : kc.frozen .written = false := by first | with_reducible assumption | rfl) (h_inForce : kc.frozen .inForce = false := by first | with_reducible assumption | rfl) (h_regs : kc.frozen .regs = false := by first | with_reducible assumption | rfl) (h_time : kc.frozen .time = false := by first | with_reducible assumption | rfl) (h_glb : kc.frozen .glb = false := by first | with_reducible assumption | rfl) (h_vale : kc.frozen .vale = false := by first | with_reducible assumption | rfl) (h_rc : kc.frozen .rc = false := by first | with_reducible assumption | rfl) (h_film : kc.frozen .film = false := by first | with_reducible assumption | rfl) (h_sch : kc.frozen .sch = false := by first | with_reducible assumption | rfl) : Ok kc (State.writeRail s off v) := by
  unfold State.writeRail
  repeat' first
    | with_reducible assumption | with_reducible apply State.clearGroup_ok | with_reducible apply State.clearOn_ok
    | with_reducible apply State.modGroup_ok | with_reducible apply State.putReg_ok | with_reducible apply State.writeCommit_ok
    | with_reducible apply State.writeRgCtrl_ok | with_reducible apply ok_ite | intro _ | split | dsimp only
    | with_reducible apply okF | with_reducible refine okF_rc (okF ?_) | dsimp only [Ok]

theorem State.writeQm_ok (s : State) (path : Path) (r v : Nat) (hk : Ok kc s) (h_written : kc.frozen .written = false := by first | with_reducible assumption | rfl) (h_regs : kc.frozen .regs = false := by first | with_reducible assumption | rfl) (h_glb : kc.frozen .glb = false := by first | with_reducible assumption | rfl) (h_qm : kc.frozen .qm = false := by first | with_reducible assumption | rfl) (h_out : kc.frozen .out = false := by first | with_reducible assumption | rfl) : Ok kc (State.writeQm s path r v) := by
  unfold State.writeQm
  repeat' first
    | with_reducible assumption | with_reducible apply State.clearOn_ok | with_reducible apply State.doorbell_ok
    | with_reducible apply State.putReg_ok | with_reducible apply State.writeEvt_ok | with_reducible apply State.writeRing_ok
    | with_reducible apply State.writeVectorCtl_ok | with_reducible apply ok_ite | intro _ | split | dsimp only
    | with_reducible apply okF | with_reducible refine okF_qm (okF ?_) | dsimp only [Ok]

theorem State.writeSch_ok (s : State) (r v : Nat) (hk : Ok kc s) (h_written : kc.frozen .written = false := by first | with_reducible assumption | rfl) (h_inForce : kc.frozen .inForce = false := by first | with_reducible assumption | rfl) (h_regs : kc.frozen .regs = false := by first | with_reducible assumption | rfl) (h_time : kc.frozen .time = false := by first | with_reducible assumption | rfl) : Ok kc (State.writeSch s r v) := by
  unfold State.writeSch
  repeat' first
    | with_reducible assumption | with_reducible apply State.clearOn_ok | with_reducible apply State.putReg_ok
    | with_reducible apply State.writeCommit_ok | with_reducible apply ok_ite | intro _ | split | dsimp only
    | with_reducible apply okF | dsimp only [Ok]

theorem State.clearWsa_ok (s : State) (v : Nat) (hk : Ok kc s) (h_regs : kc.frozen .regs = false := by first | with_reducible assumption | rfl) (h_wsa : kc.frozen .wsa = false := by first | with_reducible assumption | rfl) : Ok kc (State.clearWsa s v) := by
  unfold State.clearWsa
  repeat' first
    | with_reducible assumption | with_reducible apply State.clearCnt_ok | with_reducible apply ok_ite | intro _ | split
    | dsimp only | with_reducible apply okF | with_reducible refine okF_wsa (okF ?_) | dsimp only [Ok]

theorem State.writeWsa_ok (s : State) (r v : Nat) (hk : Ok kc s) (h_written : kc.frozen .written = false := by first | with_reducible assumption | rfl) (h_inForce : kc.frozen .inForce = false := by first | with_reducible assumption | rfl) (h_regs : kc.frozen .regs = false := by first | with_reducible assumption | rfl) (h_time : kc.frozen .time = false := by first | with_reducible assumption | rfl) (h_wsa : kc.frozen .wsa = false := by first | with_reducible assumption | rfl) : Ok kc (State.writeWsa s r v) := by
  unfold State.writeWsa
  repeat' first
    | with_reducible assumption | with_reducible apply State.clearWsa_ok | with_reducible apply State.putReg_ok
    | with_reducible apply State.writeCommit_ok | with_reducible apply ok_ite | intro _ | split | dsimp only
    | with_reducible apply okF | dsimp only [Ok]

theorem State.clearMp_ok (s : State) (v : Nat) (hk : Ok kc s) (h_regs : kc.frozen .regs = false := by first | with_reducible assumption | rfl) : Ok kc (State.clearMp s v) := by
  unfold State.clearMp
  repeat' first
    | with_reducible assumption | with_reducible apply State.clearCnt_ok | with_reducible apply foldl_ok
    | with_reducible apply foldl_ok1 | with_reducible apply foldl_ok2 | with_reducible apply ok_ite | intro _ | split | dsimp only
    | with_reducible apply okF | dsimp only [Ok]

theorem State.writeMp_ok (s : State) (r v : Nat) (hk : Ok kc s) (h_written : kc.frozen .written = false := by first | with_reducible assumption | rfl) (h_inForce : kc.frozen .inForce = false := by first | with_reducible assumption | rfl) (h_regs : kc.frozen .regs = false := by first | with_reducible assumption | rfl) (h_time : kc.frozen .time = false := by first | with_reducible assumption | rfl) : Ok kc (State.writeMp s r v) := by
  unfold State.writeMp
  repeat' first
    | with_reducible assumption | with_reducible apply State.clearMp_ok | with_reducible apply State.putReg_ok
    | with_reducible apply State.writeCommit_ok | with_reducible apply ok_ite | intro _ | split | dsimp only
    | with_reducible apply okF | dsimp only [Ok]

theorem State.writeTf_ok (s : State) (off v : Nat) (hk : Ok kc s) (h_written : kc.frozen .written = false := by first | with_reducible assumption | rfl) (h_inForce : kc.frozen .inForce = false := by first | with_reducible assumption | rfl) (h_regs : kc.frozen .regs = false := by first | with_reducible assumption | rfl) (h_time : kc.frozen .time = false := by first | with_reducible assumption | rfl) (h_glb : kc.frozen .glb = false := by first | with_reducible assumption | rfl) (h_qm : kc.frozen .qm = false := by first | with_reducible assumption | rfl) (h_fl : kc.frozen .fl = false := by first | with_reducible assumption | rfl) (h_ports : kc.frozen .ports = false := by first | with_reducible assumption | rfl) (h_tiles : kc.frozen .tiles = false := by first | with_reducible assumption | rfl) (h_hops : kc.frozen .hops = false := by first | with_reducible assumption | rfl) (h_film : kc.frozen .film = false := by first | with_reducible assumption | rfl) (h_sch : kc.frozen .sch = false := by first | with_reducible assumption | rfl) (h_out : kc.frozen .out = false := by first | with_reducible assumption | rfl) : Ok kc (State.writeTf s off v) := by
  unfold State.writeTf
  repeat' first
    | with_reducible assumption | with_reducible apply State.acceptTile_ok | with_reducible apply State.clearOn_ok
    | with_reducible apply State.enumerate_ok | with_reducible apply State.forgetPort_ok | with_reducible apply State.portEnable_ok
    | with_reducible apply State.putReg_ok | with_reducible apply State.writeCommit_ok | with_reducible apply ok_ite | intro _
    | split | dsimp only | with_reducible apply okF | dsimp only [Ok]

theorem State.writeTime_ok (s : State) (r v : Nat) (hk : Ok kc s) (h_written : kc.frozen .written = false := by first | with_reducible assumption | rfl) (h_inForce : kc.frozen .inForce = false := by first | with_reducible assumption | rfl) (h_regs : kc.frozen .regs = false := by first | with_reducible assumption | rfl) (h_time : kc.frozen .time = false := by first | with_reducible assumption | rfl) : Ok kc (State.writeTime s r v) := by
  unfold State.writeTime
  repeat' first
    | with_reducible assumption | with_reducible apply State.clearOn_ok | with_reducible apply State.putReg_ok
    | with_reducible apply State.stepNowOn_ok | with_reducible apply State.writeCommit_ok | with_reducible apply ok_ite | intro _
    | split | dsimp only | with_reducible apply okF | dsimp only [Ok]

theorem State.writeDmc_ok (s : State) (off v : Nat) (hk : Ok kc s) (h_written : kc.frozen .written = false := by first | with_reducible assumption | rfl) (h_regs : kc.frozen .regs = false := by first | with_reducible assumption | rfl) (h_dmc : kc.frozen .dmc = false := by first | with_reducible assumption | rfl) (h_sch : kc.frozen .sch = false := by first | with_reducible assumption | rfl) : Ok kc (State.writeDmc s off v) := by
  unfold State.writeDmc
  repeat' first
    | with_reducible assumption | with_reducible apply State.clearOn_ok | with_reducible apply State.putIf_ok
    | with_reducible apply State.writeTrain_ok | with_reducible apply ok_ite | intro _ | split | dsimp only
    | with_reducible apply okF | dsimp only [Ok]

theorem State.clearVale_ok (s : State) (v : Nat) (hk : Ok kc s) (h_regs : kc.frozen .regs = false := by first | with_reducible assumption | rfl) (h_vale : kc.frozen .vale = false := by first | with_reducible assumption | rfl) : Ok kc (State.clearVale s v) := by
  unfold State.clearVale
  repeat' first
    | with_reducible assumption | with_reducible apply State.clearCnt_ok | with_reducible apply ok_ite | intro _ | split
    | dsimp only | with_reducible apply okF | with_reducible refine okF_vale (okF ?_) | dsimp only [Ok]

theorem State.writeVale_ok (s : State) (path : Path) (r v : Nat) (hk : Ok kc s) (h_written : kc.frozen .written = false := by first | with_reducible assumption | rfl) (h_regs : kc.frozen .regs = false := by first | with_reducible assumption | rfl) (h_clk : kc.frozen .clk = false := by first | with_reducible assumption | rfl) (h_time : kc.frozen .time = false := by first | with_reducible assumption | rfl) (h_glb : kc.frozen .glb = false := by first | with_reducible assumption | rfl) (h_valeMem : kc.frozen .valeMem = false := by first | with_reducible assumption | rfl) (h_vale : kc.frozen .vale = false := by first | with_reducible assumption | rfl) (h_out : kc.frozen .out = false := by first | with_reducible assumption | rfl) : Ok kc (State.writeVale s path r v) := by
  unfold State.writeVale
  repeat' first
    | with_reducible assumption | with_reducible apply State.clearVale_ok | with_reducible apply State.putIf_ok
    | with_reducible apply State.writeOwn_ok | with_reducible apply State.writeRetEn_ok | with_reducible apply ok_ite | intro _
    | split | dsimp only | with_reducible apply okF | with_reducible refine okF_vale (okF ?_) | dsimp only [Ok]

theorem State.writeNet_ok (s : State) (r v : Nat) (hk : Ok kc s) (h_written : kc.frozen .written = false := by first | with_reducible assumption | rfl) (h_inForce : kc.frozen .inForce = false := by first | with_reducible assumption | rfl) (h_regs : kc.frozen .regs = false := by first | with_reducible assumption | rfl) (h_time : kc.frozen .time = false := by first | with_reducible assumption | rfl) (h_net : kc.frozen .net = false := by first | with_reducible assumption | rfl) : Ok kc (State.writeNet s r v) := by
  unfold State.writeNet
  repeat' first
    | with_reducible assumption | with_reducible apply State.clearOn_ok | with_reducible apply State.putReg_ok
    | with_reducible apply State.writeCommit_ok | with_reducible apply ok_ite | intro _ | split | dsimp only
    | with_reducible apply okF | with_reducible refine okF_net (okF ?_) | dsimp only [Ok]

theorem State.saveBootcfg_ok (s : State) (rate fspl iecc bar2 prefer : Nat) (ok : Bool) (hk : Ok kc s) (h_glb : kc.frozen .glb = false := by first | with_reducible assumption | rfl) (h_flash : kc.frozen .flash = false := by first | with_reducible assumption | rfl) : Ok kc (State.saveBootcfg s rate fspl iecc bar2 prefer ok) := by
  unfold State.saveBootcfg
  repeat' first
    | with_reducible assumption | with_reducible apply ok_ite | intro _ | split | dsimp only | with_reducible apply okF
    | with_reducible refine okF_glb (okF_flash (okF ?_)) | dsimp only [Ok]

theorem State.saveDiag_ok (s : State) (ok : Bool) (hk : Ok kc s) (h_glb : kc.frozen .glb = false := by first | with_reducible assumption | rfl) (h_flash : kc.frozen .flash = false := by first | with_reducible assumption | rfl) : Ok kc (State.saveDiag s ok) := by
  unfold State.saveDiag
  repeat' first
    | with_reducible assumption | with_reducible apply State.saveBootcfg_ok | intro _ | split | dsimp only
    | with_reducible apply okF | dsimp only [Ok]

theorem bits_lt (x lo n : Nat) : bits x lo n < 2 ^ n := by
  unfold bits
  exact Nat.mod_lt _ (Nat.two_pow_pos n)

theorem State.raiseSecver_ok (s : State) (v : Nat) (hk : Ok kc s) (h_otp : kc.frozen .otp = false := by first | with_reducible assumption | rfl) : Ok kc (State.raiseSecver s v) := by
  unfold State.raiseSecver
  extract_lets n
  have hn : n < 2 ^ 6 := bits_lt v 24 6
  split
  · dsimp only [Ok]
    refine okF_otp (okF hk) fun hi => ?_
    have h2 := (hk.1.2 hi).1
    have h6 := (hk.1.2 hi).2.2.2.2
    refine ⟨Nat.le_trans h2 (Nat.le_max_left _ _), ?_⟩
    show max s.otp.minSecver n ≤ 63
    omega
  · exact hk

theorem State.writeDiag_ok (s : State) (r v : Nat) (hk : Ok kc s) (h_written : kc.frozen .written = false := by first | with_reducible assumption | rfl) (h_regs : kc.frozen .regs = false := by first | with_reducible assumption | rfl) (h_glb : kc.frozen .glb = false := by first | with_reducible assumption | rfl) (h_otp : kc.frozen .otp = false := by first | with_reducible assumption | rfl) (h_flash : kc.frozen .flash = false := by first | with_reducible assumption | rfl) : Ok kc (State.writeDiag s r v) := by
  unfold State.writeDiag
  repeat' first
    | with_reducible assumption | with_reducible apply State.draw_ok | with_reducible apply State.odoRequest_ok
    | with_reducible apply State.putIf_ok | with_reducible apply State.raiseSecver_ok | with_reducible apply State.saveDiag_ok
    | with_reducible apply ok_ite | intro _ | split | dsimp only | with_reducible apply okF
    | with_reducible refine okF_glb (okF ?_) | dsimp only [Ok]

theorem State.writePlain_ok (s : State) (path : Path) (off v : Nat) (hk : Ok kc s) (h_written : kc.frozen .written = false := by first | with_reducible assumption | rfl) (h_inForce : kc.frozen .inForce = false := by first | with_reducible assumption | rfl) (h_regs : kc.frozen .regs = false := by first | with_reducible assumption | rfl) (h_clk : kc.frozen .clk = false := by first | with_reducible assumption | rfl) (h_time : kc.frozen .time = false := by first | with_reducible assumption | rfl) (h_glb : kc.frozen .glb = false := by first | with_reducible assumption | rfl) (h_otp : kc.frozen .otp = false := by first | with_reducible assumption | rfl) (h_dram : kc.frozen .dram = false := by first | with_reducible assumption | rfl) (h_dmc : kc.frozen .dmc = false := by first | with_reducible assumption | rfl) (h_valeMem : kc.frozen .valeMem = false := by first | with_reducible assumption | rfl) (h_vale : kc.frozen .vale = false := by first | with_reducible assumption | rfl) (h_qm : kc.frozen .qm = false := by first | with_reducible assumption | rfl) (h_net : kc.frozen .net = false := by first | with_reducible assumption | rfl) (h_thm : kc.frozen .thm = false := by first | with_reducible assumption | rfl) (h_pwr : kc.frozen .pwr = false := by first | with_reducible assumption | rfl) (h_flash : kc.frozen .flash = false := by first | with_reducible assumption | rfl) (h_rc : kc.frozen .rc = false := by first | with_reducible assumption | rfl) (h_fl : kc.frozen .fl = false := by first | with_reducible assumption | rfl) (h_ports : kc.frozen .ports = false := by first | with_reducible assumption | rfl) (h_tiles : kc.frozen .tiles = false := by first | with_reducible assumption | rfl) (h_hops : kc.frozen .hops = false := by first | with_reducible assumption | rfl) (h_film : kc.frozen .film = false := by first | with_reducible assumption | rfl) (h_wsa : kc.frozen .wsa = false := by first | with_reducible assumption | rfl) (h_sch : kc.frozen .sch = false := by first | with_reducible assumption | rfl) (h_mp : kc.frozen .mp = false := by first | with_reducible assumption | rfl) (h_out : kc.frozen .out = false := by first | with_reducible assumption | rfl) : Ok kc (State.writePlain s path off v) := by
  unfold State.writePlain
  repeat' first
    | with_reducible assumption | with_reducible apply State.latchLo_ok | with_reducible apply State.putPair_ok
    | with_reducible apply State.writeDiag_ok | with_reducible apply State.writeDmc_ok | with_reducible apply State.writeGlb_ok
    | with_reducible apply State.writeMp_ok | with_reducible apply State.writeNet_ok | with_reducible apply State.writeRail_ok
    | with_reducible apply State.writeSch_ok | with_reducible apply State.writeTf_ok | with_reducible apply State.writeThm_ok
    | with_reducible apply State.writeTime_ok | with_reducible apply State.writeVale_ok | with_reducible apply State.writeWsa_ok
    | with_reducible apply ok_ite | intro _ | split | dsimp only | with_reducible apply okF | dsimp only [Ok]

theorem State.writeReg_ok (s : State) (path : Path) (off v : Nat) (hk : Ok kc s) (h_written : kc.frozen .written = false := by first | with_reducible assumption | rfl) (h_inForce : kc.frozen .inForce = false := by first | with_reducible assumption | rfl) (h_regs : kc.frozen .regs = false := by first | with_reducible assumption | rfl) (h_clk : kc.frozen .clk = false := by first | with_reducible assumption | rfl) (h_time : kc.frozen .time = false := by first | with_reducible assumption | rfl) (h_glb : kc.frozen .glb = false := by first | with_reducible assumption | rfl) (h_otp : kc.frozen .otp = false := by first | with_reducible assumption | rfl) (h_dram : kc.frozen .dram = false := by first | with_reducible assumption | rfl) (h_dmc : kc.frozen .dmc = false := by first | with_reducible assumption | rfl) (h_valeMem : kc.frozen .valeMem = false := by first | with_reducible assumption | rfl) (h_vale : kc.frozen .vale = false := by first | with_reducible assumption | rfl) (h_qm : kc.frozen .qm = false := by first | with_reducible assumption | rfl) (h_net : kc.frozen .net = false := by first | with_reducible assumption | rfl) (h_thm : kc.frozen .thm = false := by first | with_reducible assumption | rfl) (h_pwr : kc.frozen .pwr = false := by first | with_reducible assumption | rfl) (h_flash : kc.frozen .flash = false := by first | with_reducible assumption | rfl) (h_rc : kc.frozen .rc = false := by first | with_reducible assumption | rfl) (h_fl : kc.frozen .fl = false := by first | with_reducible assumption | rfl) (h_ports : kc.frozen .ports = false := by first | with_reducible assumption | rfl) (h_tiles : kc.frozen .tiles = false := by first | with_reducible assumption | rfl) (h_hops : kc.frozen .hops = false := by first | with_reducible assumption | rfl) (h_film : kc.frozen .film = false := by first | with_reducible assumption | rfl) (h_wsa : kc.frozen .wsa = false := by first | with_reducible assumption | rfl) (h_sch : kc.frozen .sch = false := by first | with_reducible assumption | rfl) (h_mp : kc.frozen .mp = false := by first | with_reducible assumption | rfl) (h_out : kc.frozen .out = false := by first | with_reducible assumption | rfl) : Ok kc (State.writeReg s path off v) := by
  unfold State.writeReg
  repeat' first
    | with_reducible assumption | with_reducible apply State.winWrite_ok | with_reducible apply State.writePlain_ok
    | with_reducible apply State.writeQm_ok | with_reducible apply ok_ite | intro _ | split | dsimp only | with_reducible apply okF
    | dsimp only [Ok]

theorem State.writeBoth_ok (s : State) (off lcb pcie : Nat) (hk : Ok kc s) (h_written : kc.frozen .written = false := by first | with_reducible assumption | rfl) (h_inForce : kc.frozen .inForce = false := by first | with_reducible assumption | rfl) (h_regs : kc.frozen .regs = false := by first | with_reducible assumption | rfl) (h_clk : kc.frozen .clk = false := by first | with_reducible assumption | rfl) (h_time : kc.frozen .time = false := by first | with_reducible assumption | rfl) (h_glb : kc.frozen .glb = false := by first | with_reducible assumption | rfl) (h_otp : kc.frozen .otp = false := by first | with_reducible assumption | rfl) (h_dram : kc.frozen .dram = false := by first | with_reducible assumption | rfl) (h_dmc : kc.frozen .dmc = false := by first | with_reducible assumption | rfl) (h_valeMem : kc.frozen .valeMem = false := by first | with_reducible assumption | rfl) (h_vale : kc.frozen .vale = false := by first | with_reducible assumption | rfl) (h_qm : kc.frozen .qm = false := by first | with_reducible assumption | rfl) (h_net : kc.frozen .net = false := by first | with_reducible assumption | rfl) (h_thm : kc.frozen .thm = false := by first | with_reducible assumption | rfl) (h_pwr : kc.frozen .pwr = false := by first | with_reducible assumption | rfl) (h_flash : kc.frozen .flash = false := by first | with_reducible assumption | rfl) (h_rc : kc.frozen .rc = false := by first | with_reducible assumption | rfl) (h_fl : kc.frozen .fl = false := by first | with_reducible assumption | rfl) (h_ports : kc.frozen .ports = false := by first | with_reducible assumption | rfl) (h_tiles : kc.frozen .tiles = false := by first | with_reducible assumption | rfl) (h_hops : kc.frozen .hops = false := by first | with_reducible assumption | rfl) (h_film : kc.frozen .film = false := by first | with_reducible assumption | rfl) (h_wsa : kc.frozen .wsa = false := by first | with_reducible assumption | rfl) (h_sch : kc.frozen .sch = false := by first | with_reducible assumption | rfl) (h_mp : kc.frozen .mp = false := by first | with_reducible assumption | rfl) (h_out : kc.frozen .out = false := by first | with_reducible assumption | rfl) : Ok kc (State.writeBoth s off lcb pcie) := by
  unfold State.writeBoth
  repeat' first
    | with_reducible assumption | with_reducible apply State.writeReg_ok | intro _ | split | dsimp only | with_reducible apply okF
    | dsimp only [Ok]

theorem execRegisterWrite_ok (path : Path) (off : BitVec 32) (size : Nat) (write : PortWrite) (s : State) (hk : Ok kc s) (h_written : kc.frozen .written = false := by first | with_reducible assumption | rfl) (h_inForce : kc.frozen .inForce = false := by first | with_reducible assumption | rfl) (h_regs : kc.frozen .regs = false := by first | with_reducible assumption | rfl) (h_clk : kc.frozen .clk = false := by first | with_reducible assumption | rfl) (h_time : kc.frozen .time = false := by first | with_reducible assumption | rfl) (h_glb : kc.frozen .glb = false := by first | with_reducible assumption | rfl) (h_otp : kc.frozen .otp = false := by first | with_reducible assumption | rfl) (h_dram : kc.frozen .dram = false := by first | with_reducible assumption | rfl) (h_dmc : kc.frozen .dmc = false := by first | with_reducible assumption | rfl) (h_valeMem : kc.frozen .valeMem = false := by first | with_reducible assumption | rfl) (h_vale : kc.frozen .vale = false := by first | with_reducible assumption | rfl) (h_qm : kc.frozen .qm = false := by first | with_reducible assumption | rfl) (h_net : kc.frozen .net = false := by first | with_reducible assumption | rfl) (h_thm : kc.frozen .thm = false := by first | with_reducible assumption | rfl) (h_pwr : kc.frozen .pwr = false := by first | with_reducible assumption | rfl) (h_flash : kc.frozen .flash = false := by first | with_reducible assumption | rfl) (h_rc : kc.frozen .rc = false := by first | with_reducible assumption | rfl) (h_fl : kc.frozen .fl = false := by first | with_reducible assumption | rfl) (h_ports : kc.frozen .ports = false := by first | with_reducible assumption | rfl) (h_tiles : kc.frozen .tiles = false := by first | with_reducible assumption | rfl) (h_hops : kc.frozen .hops = false := by first | with_reducible assumption | rfl) (h_film : kc.frozen .film = false := by first | with_reducible assumption | rfl) (h_wsa : kc.frozen .wsa = false := by first | with_reducible assumption | rfl) (h_sch : kc.frozen .sch = false := by first | with_reducible assumption | rfl) (h_mp : kc.frozen .mp = false := by first | with_reducible assumption | rfl) (h_out : kc.frozen .out = false := by first | with_reducible assumption | rfl) : OkO kc (execRegisterWrite path off size write s) := by
  unfold execRegisterWrite
  repeat' first
    | with_reducible assumption | with_reducible apply State.valeAccess_ok | with_reducible apply State.writeBoth_ok
    | with_reducible apply State.writeReg_ok | with_reducible apply okO_next | with_reducible apply okO_fault
    | with_reducible apply ok_ite | intro _ | split | dsimp only | with_reducible apply okF | dsimp only [Ok]

theorem execWsaCntClr_ok (value : Word) (s : State) (hk : Ok kc s) (h_regs : kc.frozen .regs = false := by first | with_reducible assumption | rfl) (h_wsa : kc.frozen .wsa = false := by first | with_reducible assumption | rfl) : OkO kc (execWsaCntClr value s) := by
  unfold execWsaCntClr
  repeat' first
    | with_reducible assumption | with_reducible apply State.clearWsa_ok | with_reducible apply State.whenReady_ok
    | with_reducible apply okO_next | with_reducible apply okO_fault | intro _ | split | dsimp only | with_reducible apply okF
    | dsimp only [Ok]

theorem execSchCntClr_ok (value : Word) (s : State) (hk : Ok kc s) (h_written : kc.frozen .written = false := by first | with_reducible assumption | rfl) (h_inForce : kc.frozen .inForce = false := by first | with_reducible assumption | rfl) (h_regs : kc.frozen .regs = false := by first | with_reducible assumption | rfl) (h_time : kc.frozen .time = false := by first | with_reducible assumption | rfl) : OkO kc (execSchCntClr value s) := by
  unfold execSchCntClr
  repeat' first
    | with_reducible assumption | with_reducible apply State.whenReady_ok | with_reducible apply State.writeSch_ok
    | with_reducible apply okO_next | with_reducible apply okO_fault | intro _ | split | dsimp only | with_reducible apply okF
    | dsimp only [Ok]

theorem execMpCntClr_ok (value : Word) (s : State) (hk : Ok kc s) (h_regs : kc.frozen .regs = false := by first | with_reducible assumption | rfl) : OkO kc (execMpCntClr value s) := by
  unfold execMpCntClr
  repeat' first
    | with_reducible assumption | with_reducible apply State.clearMp_ok | with_reducible apply State.whenReady_ok
    | with_reducible apply okO_next | with_reducible apply okO_fault | intro _ | split | dsimp only | with_reducible apply okF
    | dsimp only [Ok]

theorem execTfPcntClr_ok (port : Fin 32) (value : Word) (s : State) (hk : Ok kc s) (h_regs : kc.frozen .regs = false := by first | with_reducible assumption | rfl) : OkO kc (execTfPcntClr port value s) := by
  unfold execTfPcntClr
  repeat' first
    | with_reducible assumption | with_reducible apply State.clearOn_ok | with_reducible apply State.whenReady_ok
    | with_reducible apply okO_next | with_reducible apply okO_fault | intro _ | split | dsimp only | with_reducible apply okF
    | dsimp only [Ok]

theorem execTimeCntClr_ok (value : Word) (s : State) (hk : Ok kc s) (h_written : kc.frozen .written = false := by first | with_reducible assumption | rfl) (h_inForce : kc.frozen .inForce = false := by first | with_reducible assumption | rfl) (h_regs : kc.frozen .regs = false := by first | with_reducible assumption | rfl) (h_time : kc.frozen .time = false := by first | with_reducible assumption | rfl) : OkO kc (execTimeCntClr value s) := by
  unfold execTimeCntClr
  repeat' first
    | with_reducible assumption | with_reducible apply State.whenReady_ok | with_reducible apply State.writeTime_ok
    | with_reducible apply okO_next | with_reducible apply okO_fault | intro _ | split | dsimp only | with_reducible apply okF
    | dsimp only [Ok]

theorem execRgCntClr_ok (g : Fin 8) (value : Word) (s : State) (hk : Ok kc s) (h_regs : kc.frozen .regs = false := by first | with_reducible assumption | rfl) : OkO kc (execRgCntClr g value s) := by
  unfold execRgCntClr
  repeat' first
    | with_reducible assumption | with_reducible apply State.clearGroup_ok | with_reducible apply State.whenReady_ok
    | with_reducible apply okO_next | with_reducible apply okO_fault | intro _ | split | dsimp only | with_reducible apply okF
    | dsimp only [Ok]

theorem execRcCntClr_ok (value : Word) (s : State) (hk : Ok kc s) (h_regs : kc.frozen .regs = false := by first | with_reducible assumption | rfl) : OkO kc (execRcCntClr value s) := by
  unfold execRcCntClr
  repeat' first
    | with_reducible assumption | with_reducible apply State.clearOn_ok | with_reducible apply State.whenReady_ok
    | with_reducible apply okO_next | with_reducible apply okO_fault | intro _ | split | dsimp only | with_reducible apply okF
    | dsimp only [Ok]

theorem execDmcCntClr_ok (c : Fin 12) (value : Word) (s : State) (hk : Ok kc s) (h_regs : kc.frozen .regs = false := by first | with_reducible assumption | rfl) : OkO kc (execDmcCntClr c value s) := by
  unfold execDmcCntClr
  repeat' first
    | with_reducible assumption | with_reducible apply State.clearOn_ok | with_reducible apply State.whenReady_ok
    | with_reducible apply okO_next | with_reducible apply okO_fault | intro _ | split | dsimp only | with_reducible apply okF
    | dsimp only [Ok]

theorem execDmcGcntClr_ok (value : Word) (s : State) (hk : Ok kc s) (h_regs : kc.frozen .regs = false := by first | with_reducible assumption | rfl) : OkO kc (execDmcGcntClr value s) := by
  unfold execDmcGcntClr
  repeat' first
    | with_reducible assumption | with_reducible apply State.clearOn_ok | with_reducible apply State.whenReady_ok
    | with_reducible apply okO_next | with_reducible apply okO_fault | intro _ | split | dsimp only | with_reducible apply okF
    | dsimp only [Ok]

theorem execValeCntClr_ok (value : Word) (s : State) (hk : Ok kc s) (h_regs : kc.frozen .regs = false := by first | with_reducible assumption | rfl) (h_vale : kc.frozen .vale = false := by first | with_reducible assumption | rfl) : OkO kc (execValeCntClr value s) := by
  unfold execValeCntClr
  repeat' first
    | with_reducible assumption | with_reducible apply State.clearVale_ok | with_reducible apply State.whenReady_ok
    | with_reducible apply okO_next | with_reducible apply okO_fault | intro _ | split | dsimp only | with_reducible apply okF
    | dsimp only [Ok]

theorem execNetCntClr_ok (value : Word) (s : State) (hk : Ok kc s) (h_written : kc.frozen .written = false := by first | with_reducible assumption | rfl) (h_inForce : kc.frozen .inForce = false := by first | with_reducible assumption | rfl) (h_regs : kc.frozen .regs = false := by first | with_reducible assumption | rfl) (h_time : kc.frozen .time = false := by first | with_reducible assumption | rfl) (h_net : kc.frozen .net = false := by first | with_reducible assumption | rfl) : OkO kc (execNetCntClr value s) := by
  unfold execNetCntClr
  repeat' first
    | with_reducible assumption | with_reducible apply State.whenReady_ok | with_reducible apply State.writeNet_ok
    | with_reducible apply okO_next | with_reducible apply okO_fault | intro _ | split | dsimp only | with_reducible apply okF
    | dsimp only [Ok]

theorem execThmCntClr_ok (value : Word) (s : State) (hk : Ok kc s) (h_written : kc.frozen .written = false := by first | with_reducible assumption | rfl) (h_inForce : kc.frozen .inForce = false := by first | with_reducible assumption | rfl) (h_regs : kc.frozen .regs = false := by first | with_reducible assumption | rfl) (h_time : kc.frozen .time = false := by first | with_reducible assumption | rfl) : OkO kc (execThmCntClr value s) := by
  unfold execThmCntClr
  repeat' first
    | with_reducible assumption | with_reducible apply State.whenReady_ok | with_reducible apply State.writeThm_ok
    | with_reducible apply okO_next | with_reducible apply okO_fault | intro _ | split | dsimp only | with_reducible apply okF
    | dsimp only [Ok]

theorem execDiagOdoWriteNow_ok (s : State) (hk : Ok kc s) (h_glb : kc.frozen .glb = false := by first | with_reducible assumption | rfl) : OkO kc (execDiagOdoWriteNow s) := by
  unfold execDiagOdoWriteNow
  repeat' first
    | with_reducible assumption | with_reducible apply State.odoRequest_ok | with_reducible apply State.whenReady_ok
    | with_reducible apply okO_next | with_reducible apply okO_fault | intro _ | split | dsimp only | with_reducible apply okF
    | dsimp only [Ok]

theorem execDiagBootcfgSave_ok (flashOk : Bool) (s : State) (hk : Ok kc s) (h_glb : kc.frozen .glb = false := by first | with_reducible assumption | rfl) (h_flash : kc.frozen .flash = false := by first | with_reducible assumption | rfl) : OkO kc (execDiagBootcfgSave flashOk s) := by
  unfold execDiagBootcfgSave
  repeat' first
    | with_reducible assumption | with_reducible apply State.saveDiag_ok | with_reducible apply State.whenReady_ok
    | with_reducible apply okO_next | with_reducible apply okO_fault | intro _ | split | dsimp only | with_reducible apply okF
    | dsimp only [Ok]

theorem execDiagSecverRaise_ok (value : Word) (s : State) (hk : Ok kc s) (h_otp : kc.frozen .otp = false := by first | with_reducible assumption | rfl) : OkO kc (execDiagSecverRaise value s) := by
  unfold execDiagSecverRaise
  repeat' first
    | with_reducible assumption | with_reducible apply State.raiseSecver_ok | with_reducible apply State.whenReady_ok
    | with_reducible apply okO_next | with_reducible apply okO_fault | intro _ | split | dsimp only | with_reducible apply okF
    | dsimp only [Ok]


/-! ### Dump -/

theorem execFatalCaptureDone_ok (cores fw : List Host.Cell) (s : State) (hk : Ok kc s) (h_regs : kc.frozen .regs = false := by first | with_reducible assumption | rfl) (h_glb : kc.frozen .glb = false := by first | with_reducible assumption | rfl) (h_vale : kc.frozen .vale = false := by first | with_reducible assumption | rfl) (h_qm : kc.frozen .qm = false := by first | with_reducible assumption | rfl) (h_out : kc.frozen .out = false := by first | with_reducible assumption | rfl) : OkO kc (execFatalCaptureDone cores fw s) := by
  unfold execFatalCaptureDone
  repeat' first
    | with_reducible assumption | with_reducible apply State.countStrike_ok | with_reducible apply State.ctrlReach_ok
    | with_reducible apply State.logD_ok | with_reducible apply State.wakeBank_ok | with_reducible apply okO_next
    | with_reducible apply okO_fault | with_reducible apply foldl_ok | with_reducible apply foldl_ok1
    | with_reducible apply foldl_ok2 | intro _ | split | dsimp only | with_reducible apply okF
    | with_reducible refine okF_glb (okF ?_) | dsimp only [Ok]

theorem execDumpSummaryWrite_ok (flashOk : Bool) (s : State) (hk : Ok kc s) (h_glb : kc.frozen .glb = false := by first | with_reducible assumption | rfl) (h_flash : kc.frozen .flash = false := by first | with_reducible assumption | rfl) : OkO kc (execDumpSummaryWrite flashOk s) := by
  unfold execDumpSummaryWrite
  repeat' first
    | with_reducible assumption | with_reducible apply okO_next | with_reducible apply okO_fault | with_reducible apply ok_ite
    | intro _ | split | dsimp only | with_reducible apply okF | with_reducible refine okF_glb (okF_flash (okF ?_))
    | dsimp only [Ok]


/-! ### Boot -/

theorem State.checkImage_ok (s : State) (img : Option Mem) (asDelivered : ImageCheck) (hk : Ok kc s) : Ok kc (State.checkImage s img asDelivered).2 := by
  unfold State.checkImage
  repeat' first
    | with_reducible assumption | with_reducible apply State.draw_ok | with_reducible apply ok_ite | intro _ | split | dsimp only
    | with_reducible apply okF | dsimp only [Ok]

theorem State.readBootcfg_ok (s : State) (readable : Bool) (hk : Ok kc s) (h_glb : kc.frozen .glb = false := by first | with_reducible assumption | rfl) : Ok kc (State.readBootcfg s readable) := by
  unfold State.readBootcfg
  repeat' first
    | with_reducible assumption | with_reducible apply ok_ite | intro _ | split | dsimp only | with_reducible apply okF
    | with_reducible refine okF_glb (okF ?_) | dsimp only [Ok]

theorem State.showBootcfg_ok (s : State) (hk : Ok kc s) (h_written : kc.frozen .written = false := by first | with_reducible assumption | rfl) (h_regs : kc.frozen .regs = false := by first | with_reducible assumption | rfl) : Ok kc (State.showBootcfg s) := by
  unfold State.showBootcfg
  repeat' first
    | with_reducible assumption | with_reducible apply State.putReg_ok | intro _ | split | dsimp only | with_reducible apply okF
    | dsimp only [Ok]

theorem State.dramUp_ok (s : State) (f : BootFacts) (hk : Ok kc s) (h_regs : kc.frozen .regs = false := by first | with_reducible assumption | rfl) (h_glb : kc.frozen .glb = false := by first | with_reducible assumption | rfl) (h_dmc : kc.frozen .dmc = false := by first | with_reducible assumption | rfl) (h_qm : kc.frozen .qm = false := by first | with_reducible assumption | rfl) (h_net : kc.frozen .net = false := by first | with_reducible assumption | rfl) (h_out : kc.frozen .out = false := by first | with_reducible assumption | rfl) : Ok kc (State.dramUp s f) := by
  unfold State.dramUp
  repeat' first
    | with_reducible assumption | with_reducible apply State.log_ok | with_reducible apply State.setChan_ok
    | with_reducible apply foldl_ok | with_reducible apply foldl_ok1 | with_reducible apply foldl_ok2 | with_reducible apply ok_ite
    | intro _ | split | dsimp only | with_reducible apply okF | with_reducible refine okF_dmc (okF_net (okF ?_)) | dsimp only [Ok]

theorem State.scrub_ok (s : State) (hk : Ok kc s) (h_written : kc.frozen .written = false := by first | with_reducible assumption | rfl) (h_regs : kc.frozen .regs = false := by first | with_reducible assumption | rfl) (h_tiles : kc.frozen .tiles = false := by first | with_reducible assumption | rfl) (h_film : kc.frozen .film = false := by first | with_reducible assumption | rfl) : Ok kc (State.scrub s) := by
  unfold State.scrub
  repeat' first
    | with_reducible assumption | with_reducible apply State.flagUnknown_ok | with_reducible apply State.mapPsrs_ok
    | with_reducible apply State.putReg_ok | with_reducible apply foldl_ok | with_reducible apply foldl_ok1
    | with_reducible apply foldl_ok2 | with_reducible apply ok_ite | intro _ | split | dsimp only | with_reducible apply okF
    | dsimp only [Ok]

theorem State.openMboxes_ok (s : State) (hk : Ok kc s) (h_regs : kc.frozen .regs = false := by first | with_reducible assumption | rfl) (h_glb : kc.frozen .glb = false := by first | with_reducible assumption | rfl) (h_vale : kc.frozen .vale = false := by first | with_reducible assumption | rfl) (h_qm : kc.frozen .qm = false := by first | with_reducible assumption | rfl) (h_net : kc.frozen .net = false := by first | with_reducible assumption | rfl) (h_out : kc.frozen .out = false := by first | with_reducible assumption | rfl) : Ok kc (State.openMboxes s) := by
  unfold State.openMboxes
  repeat' first
    | with_reducible assumption | with_reducible apply State.mbShow_ok | with_reducible apply State.mboxIndices_ok
    | with_reducible apply State.setMbox_ok | with_reducible apply foldl_ok | with_reducible apply foldl_ok1
    | with_reducible apply foldl_ok2 | with_reducible apply ok_ite | intro _ | split | dsimp only | with_reducible apply okF
    | dsimp only [Ok]

theorem State.openNetRings_ok (s : State) (hk : Ok kc s) (h_qm : kc.frozen .qm = false := by first | with_reducible assumption | rfl) : Ok kc (State.openNetRings s) := by
  unfold State.openNetRings
  repeat' first
    | with_reducible assumption | with_reducible apply foldl_ok | with_reducible apply foldl_ok1 | with_reducible apply foldl_ok2
    | intro _ | split | dsimp only | with_reducible apply okF | with_reducible refine okF_qm (okF ?_) | dsimp only [Ok]

theorem State.logFallback_ok (s : State) (i : Nat) (c : ImageCheck) (hk : Ok kc s) (h_regs : kc.frozen .regs = false := by first | with_reducible assumption | rfl) (h_glb : kc.frozen .glb = false := by first | with_reducible assumption | rfl) (h_qm : kc.frozen .qm = false := by first | with_reducible assumption | rfl) (h_out : kc.frozen .out = false := by first | with_reducible assumption | rfl) : Ok kc (State.logFallback s i c) := by
  unfold State.logFallback
  repeat' first
    | with_reducible assumption | with_reducible apply State.logD_ok | intro _ | split | dsimp only | with_reducible apply okF
    | with_reducible refine okF_glb (okF ?_) | dsimp only [Ok]

theorem State.bootEnd_ok (s : State) (f : BootFacts) (cause : Nat) (hk : Ok kc s) (h_regs : kc.frozen .regs = false := by first | with_reducible assumption | rfl) (h_glb : kc.frozen .glb = false := by first | with_reducible assumption | rfl) (h_vale : kc.frozen .vale = false := by first | with_reducible assumption | rfl) (h_qm : kc.frozen .qm = false := by first | with_reducible assumption | rfl) (h_net : kc.frozen .net = false := by first | with_reducible assumption | rfl) (h_pwr : kc.frozen .pwr = false := by first | with_reducible assumption | rfl) (h_rc : kc.frozen .rc = false := by first | with_reducible assumption | rfl) (h_wsa : kc.frozen .wsa = false := by first | with_reducible assumption | rfl) (h_out : kc.frozen .out = false := by first | with_reducible assumption | rfl) : Ok kc (State.bootEnd s f cause) := by
  unfold State.bootEnd
  repeat' first
    | with_reducible assumption | with_reducible apply State.disableRails_ok | with_reducible apply State.logD_ok
    | with_reducible apply State.odoRequest_ok | with_reducible apply State.openMboxes_ok
    | with_reducible apply State.openNetRings_ok | with_reducible apply State.setPower_ok | with_reducible apply foldl_ok
    | with_reducible apply foldl_ok1 | with_reducible apply foldl_ok2 | with_reducible apply ok_ite | intro _ | split | dsimp only
    | with_reducible apply okF | with_reducible refine okF_glb (okF_qm (okF_net (okF_wsa (okF ?_)))) | dsimp only [Ok]

theorem State.romLog_ok (s : State) (hk : Ok kc s) (h_qm : kc.frozen .qm = false := by first | with_reducible assumption | rfl) : Ok kc (State.romLog s) := by
  unfold State.romLog
  repeat' first
    | with_reducible assumption | intro _ | split | dsimp only | with_reducible apply okF | with_reducible refine okF_qm (okF ?_)
    | dsimp only [Ok]

theorem State.restoreSummary_ok (s : State) (hk : Ok kc s) (h_glb : kc.frozen .glb = false := by first | with_reducible assumption | rfl) : Ok kc (State.restoreSummary s) := by
  unfold State.restoreSummary
  repeat' first
    | with_reducible assumption | with_reducible apply ok_ite | intro _ | split | dsimp only | with_reducible apply okF
    | with_reducible refine okF_glb (okF ?_) | dsimp only [Ok]

theorem State.loadImage_ok (s : State) (f : BootFacts) (hk : Ok kc s) (h_written : kc.frozen .written = false := by first | with_reducible assumption | rfl) (h_regs : kc.frozen .regs = false := by first | with_reducible assumption | rfl) (h_glb : kc.frozen .glb = false := by first | with_reducible assumption | rfl) (h_vale : kc.frozen .vale = false := by first | with_reducible assumption | rfl) (h_qm : kc.frozen .qm = false := by first | with_reducible assumption | rfl) (h_net : kc.frozen .net = false := by first | with_reducible assumption | rfl) (h_pwr : kc.frozen .pwr = false := by first | with_reducible assumption | rfl) (h_flash : kc.frozen .flash = false := by first | with_reducible assumption | rfl) (h_rc : kc.frozen .rc = false := by first | with_reducible assumption | rfl) (h_tiles : kc.frozen .tiles = false := by first | with_reducible assumption | rfl) (h_film : kc.frozen .film = false := by first | with_reducible assumption | rfl) (h_wsa : kc.frozen .wsa = false := by first | with_reducible assumption | rfl) (h_out : kc.frozen .out = false := by first | with_reducible assumption | rfl) : Ok kc (State.loadImage s f) := by
  unfold State.loadImage
  repeat' first
    | with_reducible assumption | with_reducible apply State.bootEnd_ok | with_reducible apply State.checkImage_ok
    | with_reducible apply State.logD_ok | with_reducible apply State.logFallback_ok | with_reducible apply State.restoreSummary_ok
    | with_reducible apply State.scrub_ok | with_reducible apply foldl_ok | with_reducible apply foldl_ok1
    | with_reducible apply foldl_ok2 | with_reducible apply ok_ite | intro _ | split | dsimp only | with_reducible apply okF
    | with_reducible refine okF_glb (okF_flash (okF ?_)) | dsimp only [Ok]

theorem State.sampleStraps_ok (s : State) (lcbCkSel : Bool) (smbAddr : BitVec 2) (hk : Ok kc s) (h_glb : kc.frozen .glb = false := by first | with_reducible assumption | rfl) (h_net : kc.frozen .net = false := by first | with_reducible assumption | rfl) : Ok kc (State.sampleStraps s lcbCkSel smbAddr) := by
  unfold State.sampleStraps
  repeat' first
    | with_reducible assumption | intro _ | split | dsimp only | with_reducible apply okF
    | with_reducible refine okF_glb (okF_net (okF ?_)) | dsimp only [Ok]

theorem execBootReady_ok (facts : BootFacts) (s : State) (hk : Ok kc s) (h_written : kc.frozen .written = false := by first | with_reducible assumption | rfl) (h_regs : kc.frozen .regs = false := by first | with_reducible assumption | rfl) (h_clk : kc.frozen .clk = false := by first | with_reducible assumption | rfl) (h_time : kc.frozen .time = false := by first | with_reducible assumption | rfl) (h_glb : kc.frozen .glb = false := by first | with_reducible assumption | rfl) (h_dmc : kc.frozen .dmc = false := by first | with_reducible assumption | rfl) (h_vale : kc.frozen .vale = false := by first | with_reducible assumption | rfl) (h_qm : kc.frozen .qm = false := by first | with_reducible assumption | rfl) (h_net : kc.frozen .net = false := by first | with_reducible assumption | rfl) (h_pwr : kc.frozen .pwr = false := by first | with_reducible assumption | rfl) (h_flash : kc.frozen .flash = false := by first | with_reducible assumption | rfl) (h_rc : kc.frozen .rc = false := by first | with_reducible assumption | rfl) (h_tiles : kc.frozen .tiles = false := by first | with_reducible assumption | rfl) (h_film : kc.frozen .film = false := by first | with_reducible assumption | rfl) (h_wsa : kc.frozen .wsa = false := by first | with_reducible assumption | rfl) (h_out : kc.frozen .out = false := by first | with_reducible assumption | rfl) : OkO kc (execBootReady facts s) := by
  unfold execBootReady
  repeat' first
    | with_reducible assumption | with_reducible apply State.advanceTo_ok | with_reducible apply State.bootEnd_ok
    | with_reducible apply State.dramUp_ok | with_reducible apply State.loadImage_ok | with_reducible apply State.readBootcfg_ok
    | with_reducible apply State.romLog_ok | with_reducible apply State.sampleStraps_ok | with_reducible apply State.showBootcfg_ok
    | with_reducible apply okO_next | with_reducible apply okO_fault | with_reducible apply ok_ite | intro _ | split | dsimp only
    | with_reducible apply okF | with_reducible refine okF_glb (okF_net (okF_flash (okF ?_))) | dsimp only [Ok]

theorem execJtagTapOperation_ok (op : JtagOp) (s : State) (hk : Ok kc s) (h_glb : kc.frozen .glb = false := by first | with_reducible assumption | rfl) (h_out : kc.frozen .out = false := by first | with_reducible assumption | rfl) : OkO kc (execJtagTapOperation op s) := by
  unfold execJtagTapOperation
  repeat' first
    | with_reducible assumption | with_reducible apply State.draw_ok | with_reducible apply State.emit_ok
    | with_reducible apply okO_next | with_reducible apply okO_fault | with_reducible apply ok_ite | intro _ | split | dsimp only
    | with_reducible apply okF | with_reducible refine okF_glb (okF ?_) | dsimp only [Ok]


end Sys2Proof.Machine
end

