-- ==== Sys2Proof/Laws/KeepCmd.lean ====
section
/-! SUPPORT. What the operations and commands of tile bridges, snapshots, the other commands and the frame loop keep (Laws/KeepBase.lean). -/

namespace Sys2Proof.Machine

set_option Elab.async false
set_option linter.all false

variable {kc : KeepCtx}

/-! ### Bridge -/

theorem State.setBr_ok (s : State) (b : BridgeId) (x : Bridge) (hk : Ok kc s) (h_bridges : kc.frozen .bridges = false := by first | with_reducible assumption | rfl) : Ok kc (State.setBr s b x) := by
  unfold State.setBr
  repeat' first
    | with_reducible assumption | with_reducible apply State.setBridge_ok | intro _ | split | dsimp only | with_reducible apply okF
    | dsimp only [Ok]

theorem State.rxBridge_ok (s : State) (b : BridgeId) (far : Bool) (hk : Ok kc s) (h_regs : kc.frozen .regs = false := by first | with_reducible assumption | rfl) (h_hops : kc.frozen .hops = false := by first | with_reducible assumption | rfl) (h_bridges : kc.frozen .bridges = false := by first | with_reducible assumption | rfl) : Ok kc (State.rxBridge s b far) := by
  unfold State.rxBridge
  repeat' first
    | with_reducible assumption | with_reducible apply State.received_ok | intro _ | split | dsimp only | with_reducible apply okF
    | dsimp only [Ok]

theorem State.forward_ok (s : State) (b : BridgeId) (bs : List Byte) (hk : Ok kc s) (h_regs : kc.frozen .regs = false := by first | with_reducible assumption | rfl) (h_hops : kc.frozen .hops = false := by first | with_reducible assumption | rfl) (h_bridges : kc.frozen .bridges = false := by first | with_reducible assumption | rfl) (h_out : kc.frozen .out = false := by first | with_reducible assumption | rfl) : Ok kc (State.forward s b bs) := by
  unfold State.forward
  repeat' first
    | with_reducible assumption | with_reducible apply State.emit_ok | with_reducible apply State.rxBridge_ok
    | with_reducible apply ok_ite | intro _ | split | dsimp only | with_reducible apply okF | dsimp only [Ok]

theorem State.trackPseq_ok (s : State) (b : BridgeId) (next : Nat) (hk : Ok kc s) (h_bridges : kc.frozen .bridges = false := by first | with_reducible assumption | rfl) (h_out : kc.frozen .out = false := by first | with_reducible assumption | rfl) : Ok kc (State.trackPseq s b next) := by
  unfold State.trackPseq
  repeat' first
    | with_reducible assumption | with_reducible apply State.sendUp_ok | with_reducible apply State.setBr_ok
    | with_reducible apply foldl_ok | with_reducible apply foldl_ok1 | with_reducible apply foldl_ok2 | with_reducible apply ok_ite
    | intro _ | split | dsimp only | with_reducible apply okF | dsimp only [Ok]

theorem State.checkReady_ok (s : State) (b : BridgeId) (hk : Ok kc s) (h_bridges : kc.frozen .bridges = false := by first | with_reducible assumption | rfl) (h_out : kc.frozen .out = false := by first | with_reducible assumption | rfl) : Ok kc (State.checkReady s b) := by
  unfold State.checkReady
  repeat' first
    | with_reducible assumption | with_reducible apply State.sendUp_ok | with_reducible apply State.setBr_ok
    | with_reducible apply ok_ite | intro _ | split | dsimp only | with_reducible apply okF | dsimp only [Ok]

theorem State.frameFits_ok (s : State) (b : BridgeId) (f : Nat) (hk : Ok kc s) : Ok kc (State.frameFits s b f).2 := by
  unfold State.frameFits
  repeat' first
    | with_reducible assumption | with_reducible apply State.draw_ok | intro _ | split | dsimp only | with_reducible apply okF
    | dsimp only [Ok]

theorem execDriveRow_ok (b : BridgeId) (p : DriveRowPkt) (s : State) (hk : Ok kc s) (h_regs : kc.frozen .regs = false := by first | with_reducible assumption | rfl) (h_hops : kc.frozen .hops = false := by first | with_reducible assumption | rfl) (h_bridges : kc.frozen .bridges = false := by first | with_reducible assumption | rfl) (h_out : kc.frozen .out = false := by first | with_reducible assumption | rfl) : OkO kc (execDriveRow b p s) := by
  unfold execDriveRow
  repeat' first
    | with_reducible assumption | with_reducible apply State.checkReady_ok | with_reducible apply State.forward_ok
    | with_reducible apply State.frameFits_ok | with_reducible apply State.setBr_ok | with_reducible apply State.trackPseq_ok
    | with_reducible apply okO_next | with_reducible apply okO_fault | with_reducible apply ok_ite | intro _ | split | dsimp only
    | with_reducible apply okF | dsimp only [Ok]

theorem execFlip_ok (b : BridgeId) (p : FlipPkt) (s : State) (hk : Ok kc s) (h_regs : kc.frozen .regs = false := by first | with_reducible assumption | rfl) (h_hops : kc.frozen .hops = false := by first | with_reducible assumption | rfl) (h_bridges : kc.frozen .bridges = false := by first | with_reducible assumption | rfl) (h_out : kc.frozen .out = false := by first | with_reducible assumption | rfl) : OkO kc (execFlip b p s) := by
  unfold execFlip
  repeat' first
    | with_reducible assumption | with_reducible apply State.checkReady_ok | with_reducible apply State.forward_ok
    | with_reducible apply State.setBr_ok | with_reducible apply State.trackPseq_ok | with_reducible apply okO_next
    | with_reducible apply okO_fault | with_reducible apply ok_ite | intro _ | split | dsimp only | with_reducible apply okF
    | dsimp only [Ok]

theorem execSeqMark_ok (b : BridgeId) (lastPseq : BitVec 32) (s : State) (hk : Ok kc s) (h_regs : kc.frozen .regs = false := by first | with_reducible assumption | rfl) (h_hops : kc.frozen .hops = false := by first | with_reducible assumption | rfl) (h_bridges : kc.frozen .bridges = false := by first | with_reducible assumption | rfl) (h_out : kc.frozen .out = false := by first | with_reducible assumption | rfl) : OkO kc (execSeqMark b lastPseq s) := by
  unfold execSeqMark
  repeat' first
    | with_reducible assumption | with_reducible apply State.forward_ok | with_reducible apply State.trackPseq_ok
    | with_reducible apply okO_next | with_reducible apply okO_fault | intro _ | split | dsimp only | with_reducible apply okF
    | dsimp only [Ok]

theorem execEnum_ok (b : BridgeId) (far : Bool) (p : EnumPkt) (facts : TileFacts) (s : State) (hk : Ok kc s) (h_regs : kc.frozen .regs = false := by first | with_reducible assumption | rfl) (h_hops : kc.frozen .hops = false := by first | with_reducible assumption | rfl) (h_bridges : kc.frozen .bridges = false := by first | with_reducible assumption | rfl) (h_out : kc.frozen .out = false := by first | with_reducible assumption | rfl) : OkO kc (execEnum b far p facts s) := by
  unfold execEnum
  repeat' first
    | with_reducible assumption | with_reducible apply State.emit_ok | with_reducible apply State.rxBridge_ok
    | with_reducible apply State.sendUp_ok | with_reducible apply State.setBr_ok | with_reducible apply okO_next
    | with_reducible apply okO_fault | with_reducible apply ok_ite | intro _ | split | dsimp only | with_reducible apply okF
    | dsimp only [Ok]

theorem State.sendDelayResp_ok (s : State) (b : BridgeId) (pos probeId turn : Nat) (hk : Ok kc s) (h_out : kc.frozen .out = false := by first | with_reducible assumption | rfl) : Ok kc (State.sendDelayResp s b pos probeId turn) := by
  unfold State.sendDelayResp
  repeat' first
    | with_reducible assumption | with_reducible apply State.draw_ok | with_reducible apply State.emit_ok
    | with_reducible apply foldl_ok | with_reducible apply foldl_ok1 | with_reducible apply foldl_ok2 | intro _ | split
    | dsimp only | with_reducible apply okF | dsimp only [Ok]

theorem execDelayProbe_ok (b : BridgeId) (addr : BitVec 8) (probeId turn : BitVec 32) (s : State) (hk : Ok kc s) (h_regs : kc.frozen .regs = false := by first | with_reducible assumption | rfl) (h_hops : kc.frozen .hops = false := by first | with_reducible assumption | rfl) (h_bridges : kc.frozen .bridges = false := by first | with_reducible assumption | rfl) (h_out : kc.frozen .out = false := by first | with_reducible assumption | rfl) : OkO kc (execDelayProbe b addr probeId turn s) := by
  unfold execDelayProbe
  repeat' first
    | with_reducible assumption | with_reducible apply State.forward_ok | with_reducible apply State.sendDelayResp_ok
    | with_reducible apply okO_next | with_reducible apply okO_fault | with_reducible apply ok_ite | intro _ | split | dsimp only
    | with_reducible apply okF | dsimp only [Ok]

theorem execDelaySet_ok (b : BridgeId) (addr : BitVec 8) (delay : BitVec 32) (s : State) (hk : Ok kc s) (h_regs : kc.frozen .regs = false := by first | with_reducible assumption | rfl) (h_hops : kc.frozen .hops = false := by first | with_reducible assumption | rfl) (h_bridges : kc.frozen .bridges = false := by first | with_reducible assumption | rfl) (h_out : kc.frozen .out = false := by first | with_reducible assumption | rfl) : OkO kc (execDelaySet b addr delay s) := by
  unfold execDelaySet
  repeat' first
    | with_reducible assumption | with_reducible apply State.forward_ok | with_reducible apply State.setBr_ok
    | with_reducible apply okO_next | with_reducible apply okO_fault | with_reducible apply ok_ite | intro _ | split | dsimp only
    | with_reducible apply okF | dsimp only [Ok]

theorem State.dutyAt_ok (s : State) (b : BridgeId) (k t : Nat) (hk : Ok kc s) : Ok kc (State.dutyAt s b k t).2 := by
  unfold State.dutyAt
  repeat' first
    | with_reducible assumption | with_reducible apply State.draw_ok | with_reducible apply ok_ite | intro _ | split | dsimp only
    | with_reducible apply okF | dsimp only [Ok]

theorem ok_ite2 {α : Type} {c : Prop} [Decidable c] {a b : α × State} (ha : Ok kc a.2) (hb : Ok kc b.2) :
    Ok kc (if c then a else b).2 := by
  split
  · exact ha
  · exact hb

theorem State.dutyOf_ok (s : State) (b : BridgeId) (k : Nat) (hk : Ok kc s) : Ok kc (State.dutyOf s b k).2 := by
  unfold State.dutyOf
  exact ok_ite2 hk (ok_ite2 hk (snd_ok (State.draw_ok s _ hk)))

theorem State.longPulse_ok (s : State) (b : BridgeId) (k : Nat) (hk : Ok kc s) : Ok kc (State.longPulse s b k).2 := by
  unfold State.longPulse
  dsimp only
  split
  · exact hk
  · exact State.dutyAt_ok _ _ _ _ (State.dutyAt_ok _ _ _ _ hk)

theorem State.noteJudged_ok (s : State) (b : BridgeId) (hk : Ok kc s) (h_regs : kc.frozen .regs = false := by first | with_reducible assumption | rfl) (h_glb : kc.frozen .glb = false := by first | with_reducible assumption | rfl) (h_qm : kc.frozen .qm = false := by first | with_reducible assumption | rfl) (h_rc : kc.frozen .rc = false := by first | with_reducible assumption | rfl) (h_bridges : kc.frozen .bridges = false := by first | with_reducible assumption | rfl) (h_out : kc.frozen .out = false := by first | with_reducible assumption | rfl) : Ok kc (State.noteJudged s b) := by
  unfold State.noteJudged
  repeat' first
    | with_reducible assumption | with_reducible apply State.judge_ok | with_reducible apply State.longPulse_ok
    | with_reducible apply State.setBr_ok | with_reducible apply foldl_ok | with_reducible apply foldl_ok1
    | with_reducible apply foldl_ok2 | with_reducible apply ok_ite | intro _ | split | dsimp only | with_reducible apply okF
    | dsimp only [Ok]

theorem State.flEffect_ok (s : State) (b : BridgeId) (c : Nat × List Byte) (hk : Ok kc s) (h_regs : kc.frozen .regs = false := by first | with_reducible assumption | rfl) (h_glb : kc.frozen .glb = false := by first | with_reducible assumption | rfl) (h_qm : kc.frozen .qm = false := by first | with_reducible assumption | rfl) (h_rc : kc.frozen .rc = false := by first | with_reducible assumption | rfl) (h_bridges : kc.frozen .bridges = false := by first | with_reducible assumption | rfl) (h_out : kc.frozen .out = false := by first | with_reducible assumption | rfl) : Ok kc (State.flEffect s b c) := by
  unfold State.flEffect
  repeat' first
    | with_reducible assumption | with_reducible apply State.dutyOf_ok | with_reducible apply State.judge_ok
    | with_reducible apply State.setBr_ok | with_reducible apply foldl_ok | with_reducible apply foldl_ok1
    | with_reducible apply foldl_ok2 | with_reducible apply ok_ite | intro _ | split | dsimp only | with_reducible apply okF
    | dsimp only [Ok]

theorem State.performFlip_ok (s : State) (b : BridgeId) (wfn : Nat) (predicted : Bool) (hk : Ok kc s) (h_regs : kc.frozen .regs = false := by first | with_reducible assumption | rfl) (h_glb : kc.frozen .glb = false := by first | with_reducible assumption | rfl) (h_qm : kc.frozen .qm = false := by first | with_reducible assumption | rfl) (h_rc : kc.frozen .rc = false := by first | with_reducible assumption | rfl) (h_bridges : kc.frozen .bridges = false := by first | with_reducible assumption | rfl) (h_out : kc.frozen .out = false := by first | with_reducible assumption | rfl) : Ok kc (State.performFlip s b wfn predicted) := by
  unfold State.performFlip
  repeat' first
    | with_reducible assumption | with_reducible apply State.flEffect_ok | with_reducible apply State.noteJudged_ok
    | with_reducible apply State.setBr_ok | with_reducible apply foldl_ok | with_reducible apply foldl_ok1
    | with_reducible apply foldl_ok2 | with_reducible apply ok_ite | intro _ | split | dsimp only | with_reducible apply okF
    | dsimp only [Ok]

theorem State.dropReport_ok (s : State) (b : BridgeId) (pos wfn : Nat) (missed : Bool) (hk : Ok kc s) (h_bridges : kc.frozen .bridges = false := by first | with_reducible assumption | rfl) (h_out : kc.frozen .out = false := by first | with_reducible assumption | rfl) : Ok kc (State.dropReport s b pos wfn missed) := by
  unfold State.dropReport
  repeat' first
    | with_reducible assumption | with_reducible apply State.sendUp_ok | with_reducible apply State.setBr_ok | intro _ | split
    | dsimp only | with_reducible apply okF | dsimp only [Ok]

theorem execTileFlip_ok (b : BridgeId) (s : State) (hk : Ok kc s) (h_regs : kc.frozen .regs = false := by first | with_reducible assumption | rfl) (h_clk : kc.frozen .clk = false := by first | with_reducible assumption | rfl) (h_time : kc.frozen .time = false := by first | with_reducible assumption | rfl) (h_glb : kc.frozen .glb = false := by first | with_reducible assumption | rfl) (h_qm : kc.frozen .qm = false := by first | with_reducible assumption | rfl) (h_rc : kc.frozen .rc = false := by first | with_reducible assumption | rfl) (h_bridges : kc.frozen .bridges = false := by first | with_reducible assumption | rfl) (h_out : kc.frozen .out = false := by first | with_reducible assumption | rfl) : OkO kc (execTileFlip b s) := by
  unfold execTileFlip
  repeat' first
    | with_reducible assumption | with_reducible apply State.advanceTo_ok | with_reducible apply State.dropReport_ok
    | with_reducible apply State.performFlip_ok | with_reducible apply State.setBr_ok | with_reducible apply okO_next
    | with_reducible apply okO_fault | with_reducible apply ok_ite | intro _ | split | dsimp only | with_reducible apply okF
    | dsimp only [Ok]

theorem dutyStep_ok (b : BridgeId) (l : List Nat) (z : Nat × State) (hk : Ok kc z.2) :
    Ok kc (l.foldl (fun (q : Nat × State) k => let d := q.2.dutyOf b k; (q.1 + d.1, d.2)) z).2 := by
  with_reducible apply foldl_ok2 hk
  intro z a h
  exact snd_ok (State.dutyOf_ok z.2 b a h)

theorem meanEnd_ok (on : List Nat) (z : Nat × State) (hk : Ok kc z.2) : Ok kc (
    if on = [] then (0, z.2)
    else if z.1 % on.length = 0 then (z.1 / on.length, z.2)
    else let d := z.2.draw 2; (z.1 / on.length + d.1, d.2)).2 := by
  exact ok_ite2 (snd_ok hk) (ok_ite2 (snd_ok hk) (snd_ok (State.draw_ok z.2 2 hk)))

theorem State.meanDuty_ok (s : State) (b : BridgeId) (hk : Ok kc s) : Ok kc (State.meanDuty s b).2 := by
  unfold State.meanDuty
  exact meanEnd_ok _ _ (dutyStep_ok b _ (0, s) hk)

theorem State.sendTelemetry_ok (s : State) (b : BridgeId) (m : TelMeas) (hk : Ok kc s) (h_regs : kc.frozen .regs = false := by first | with_reducible assumption | rfl) (h_glb : kc.frozen .glb = false := by first | with_reducible assumption | rfl) (h_qm : kc.frozen .qm = false := by first | with_reducible assumption | rfl) (h_rc : kc.frozen .rc = false := by first | with_reducible assumption | rfl) (h_bridges : kc.frozen .bridges = false := by first | with_reducible assumption | rfl) (h_out : kc.frozen .out = false := by first | with_reducible assumption | rfl) : Ok kc (State.sendTelemetry s b m) := by
  unfold State.sendTelemetry
  repeat' first
    | with_reducible assumption | with_reducible apply State.meanDuty_ok | with_reducible apply State.noteJudged_ok
    | with_reducible apply State.sendUp_ok | with_reducible apply State.setBr_ok | intro _ | split | dsimp only
    | with_reducible apply okF | dsimp only [Ok]

theorem execTelemetryPeriod_ok (b : BridgeId) (m : TelMeas) (s : State) (hk : Ok kc s) (h_regs : kc.frozen .regs = false := by first | with_reducible assumption | rfl) (h_clk : kc.frozen .clk = false := by first | with_reducible assumption | rfl) (h_time : kc.frozen .time = false := by first | with_reducible assumption | rfl) (h_glb : kc.frozen .glb = false := by first | with_reducible assumption | rfl) (h_qm : kc.frozen .qm = false := by first | with_reducible assumption | rfl) (h_rc : kc.frozen .rc = false := by first | with_reducible assumption | rfl) (h_bridges : kc.frozen .bridges = false := by first | with_reducible assumption | rfl) (h_out : kc.frozen .out = false := by first | with_reducible assumption | rfl) : OkO kc (execTelemetryPeriod b m s) := by
  unfold execTelemetryPeriod
  repeat' first
    | with_reducible assumption | with_reducible apply State.advanceTo_ok | with_reducible apply State.sendTelemetry_ok
    | with_reducible apply State.setBr_ok | with_reducible apply okO_next | with_reducible apply okO_fault
    | with_reducible apply ok_ite | intro _ | split | dsimp only | with_reducible apply okF | dsimp only [Ok]

theorem State.tileCommand_ok (s : State) (b : BridgeId) (addr tag op : Nat) (param : List Byte) (f : State → State × Nat × List Byte) (hk : Ok kc s)
    (hf : ∀ t, Ok kc t → Ok kc (f t).1) (h_regs : kc.frozen .regs = false := by first | with_reducible assumption | rfl) (h_hops : kc.frozen .hops = false := by first | with_reducible assumption | rfl) (h_bridges : kc.frozen .bridges = false := by first | with_reducible assumption | rfl) (h_out : kc.frozen .out = false := by first | with_reducible assumption | rfl) : Ok kc (State.tileCommand s b addr tag op param f) := by
  unfold State.tileCommand
  repeat' first
    | with_reducible assumption | with_reducible apply State.sendUp_ok | with_reducible apply State.setBr_ok
    | with_reducible apply State.forward_ok | with_reducible apply hf | split | dsimp only

theorem execTcNop_ok (b : BridgeId) (head : TcHead) (s : State) (hk : Ok kc s) (h_regs : kc.frozen .regs = false := by first | with_reducible assumption | rfl) (h_hops : kc.frozen .hops = false := by first | with_reducible assumption | rfl) (h_bridges : kc.frozen .bridges = false := by first | with_reducible assumption | rfl) (h_out : kc.frozen .out = false := by first | with_reducible assumption | rfl) : OkO kc (execTcNop b head s) := by
  unfold execTcNop
  repeat' first
    | with_reducible assumption | with_reducible apply State.tileCommand_ok | with_reducible apply okO_next
    | with_reducible apply okO_fault | intro _ | split | dsimp only | with_reducible apply okF | dsimp only [Ok]

theorem execTcTelNow_ok (b : BridgeId) (head : TcHead) (m : TelMeas) (s : State) (hk : Ok kc s) (h_regs : kc.frozen .regs = false := by first | with_reducible assumption | rfl) (h_glb : kc.frozen .glb = false := by first | with_reducible assumption | rfl) (h_qm : kc.frozen .qm = false := by first | with_reducible assumption | rfl) (h_rc : kc.frozen .rc = false := by first | with_reducible assumption | rfl) (h_hops : kc.frozen .hops = false := by first | with_reducible assumption | rfl) (h_bridges : kc.frozen .bridges = false := by first | with_reducible assumption | rfl) (h_out : kc.frozen .out = false := by first | with_reducible assumption | rfl) : OkO kc (execTcTelNow b head m s) := by
  unfold execTcTelNow
  repeat' first
    | with_reducible assumption | with_reducible apply State.sendTelemetry_ok | with_reducible apply State.tileCommand_ok
    | with_reducible apply okO_next | with_reducible apply okO_fault | intro _ | split | dsimp only | with_reducible apply okF
    | dsimp only [Ok]

theorem execTcPanelOn_ok (b : BridgeId) (head : TcHead) (s : State) (hk : Ok kc s) (h_regs : kc.frozen .regs = false := by first | with_reducible assumption | rfl) (h_hops : kc.frozen .hops = false := by first | with_reducible assumption | rfl) (h_bridges : kc.frozen .bridges = false := by first | with_reducible assumption | rfl) (h_out : kc.frozen .out = false := by first | with_reducible assumption | rfl) : OkO kc (execTcPanelOn b head s) := by
  unfold execTcPanelOn
  repeat' first
    | with_reducible assumption | with_reducible apply State.setBr_ok | with_reducible apply State.tileCommand_ok
    | with_reducible apply okO_next | with_reducible apply okO_fault | intro _ | split | dsimp only | with_reducible apply okF
    | dsimp only [Ok]

theorem execTcPanelOff_ok (b : BridgeId) (head : TcHead) (s : State) (hk : Ok kc s) (h_regs : kc.frozen .regs = false := by first | with_reducible assumption | rfl) (h_hops : kc.frozen .hops = false := by first | with_reducible assumption | rfl) (h_bridges : kc.frozen .bridges = false := by first | with_reducible assumption | rfl) (h_out : kc.frozen .out = false := by first | with_reducible assumption | rfl) : OkO kc (execTcPanelOff b head s) := by
  unfold execTcPanelOff
  repeat' first
    | with_reducible assumption | with_reducible apply State.setBr_ok | with_reducible apply State.tileCommand_ok
    | with_reducible apply okO_next | with_reducible apply okO_fault | intro _ | split | dsimp only | with_reducible apply okF
    | dsimp only [Ok]

theorem execTcClearCounters_ok (b : BridgeId) (head : TcHead) (s : State) (hk : Ok kc s) (h_regs : kc.frozen .regs = false := by first | with_reducible assumption | rfl) (h_hops : kc.frozen .hops = false := by first | with_reducible assumption | rfl) (h_bridges : kc.frozen .bridges = false := by first | with_reducible assumption | rfl) (h_out : kc.frozen .out = false := by first | with_reducible assumption | rfl) : OkO kc (execTcClearCounters b head s) := by
  unfold execTcClearCounters
  repeat' first
    | with_reducible assumption | with_reducible apply State.setBr_ok | with_reducible apply State.tileCommand_ok
    | with_reducible apply okO_next | with_reducible apply okO_fault | intro _ | split | dsimp only | with_reducible apply okF
    | dsimp only [Ok]

theorem execTcIdentify_ok (b : BridgeId) (head : TcHead) (param : List Byte) (s : State) (hk : Ok kc s) (h_regs : kc.frozen .regs = false := by first | with_reducible assumption | rfl) (h_hops : kc.frozen .hops = false := by first | with_reducible assumption | rfl) (h_bridges : kc.frozen .bridges = false := by first | with_reducible assumption | rfl) (h_out : kc.frozen .out = false := by first | with_reducible assumption | rfl) : OkO kc (execTcIdentify b head param s) := by
  unfold execTcIdentify
  repeat' first
    | with_reducible assumption | with_reducible apply State.setBr_ok | with_reducible apply State.tileCommand_ok
    | with_reducible apply okO_next | with_reducible apply okO_fault | with_reducible apply ok_ite | intro _ | split | dsimp only
    | with_reducible apply okF | dsimp only [Ok]

theorem execTcResetBridge_ok (b : BridgeId) (head : TcHead) (s : State) (hk : Ok kc s) (h_regs : kc.frozen .regs = false := by first | with_reducible assumption | rfl) (h_glb : kc.frozen .glb = false := by first | with_reducible assumption | rfl) (h_qm : kc.frozen .qm = false := by first | with_reducible assumption | rfl) (h_ports : kc.frozen .ports = false := by first | with_reducible assumption | rfl) (h_tiles : kc.frozen .tiles = false := by first | with_reducible assumption | rfl) (h_hops : kc.frozen .hops = false := by first | with_reducible assumption | rfl) (h_bridges : kc.frozen .bridges = false := by first | with_reducible assumption | rfl) (h_film : kc.frozen .film = false := by first | with_reducible assumption | rfl) (h_sch : kc.frozen .sch = false := by first | with_reducible assumption | rfl) (h_out : kc.frozen .out = false := by first | with_reducible assumption | rfl) : OkO kc (execTcResetBridge b head s) := by
  unfold execTcResetBridge
  repeat' first
    | with_reducible assumption | with_reducible apply State.cutDomain_ok | with_reducible apply State.noteBreak_ok
    | with_reducible apply State.setBr_ok | with_reducible apply State.setHop_ok | with_reducible apply State.tileCommand_ok
    | with_reducible apply okO_next | with_reducible apply okO_fault | with_reducible apply ok_ite | intro _ | split | dsimp only
    | with_reducible apply okF | dsimp only [Ok]

theorem State.flQueue_ok (s : State) (b : BridgeId) (op : Nat) (param : List Byte) (hk : Ok kc s) (h_bridges : kc.frozen .bridges = false := by first | with_reducible assumption | rfl) : Ok kc (State.flQueue s b op param) := by
  unfold State.flQueue
  repeat' first
    | with_reducible assumption | with_reducible apply State.setBr_ok | intro _ | split | dsimp only | with_reducible apply okF
    | dsimp only [Ok]

theorem execTcFlSet_ok (b : BridgeId) (head : TcHead) (param : List Byte) (s : State) (hk : Ok kc s) (h_regs : kc.frozen .regs = false := by first | with_reducible assumption | rfl) (h_hops : kc.frozen .hops = false := by first | with_reducible assumption | rfl) (h_bridges : kc.frozen .bridges = false := by first | with_reducible assumption | rfl) (h_out : kc.frozen .out = false := by first | with_reducible assumption | rfl) : OkO kc (execTcFlSet b head param s) := by
  unfold execTcFlSet
  repeat' first
    | with_reducible assumption | with_reducible apply State.flQueue_ok | with_reducible apply State.tileCommand_ok
    | with_reducible apply okO_next | with_reducible apply okO_fault | with_reducible apply ok_ite | intro _ | split | dsimp only
    | with_reducible apply okF | dsimp only [Ok]

theorem execTcFlConfig_ok (b : BridgeId) (head : TcHead) (param : List Byte) (s : State) (hk : Ok kc s) (h_regs : kc.frozen .regs = false := by first | with_reducible assumption | rfl) (h_hops : kc.frozen .hops = false := by first | with_reducible assumption | rfl) (h_bridges : kc.frozen .bridges = false := by first | with_reducible assumption | rfl) (h_out : kc.frozen .out = false := by first | with_reducible assumption | rfl) : OkO kc (execTcFlConfig b head param s) := by
  unfold execTcFlConfig
  repeat' first
    | with_reducible assumption | with_reducible apply State.flQueue_ok | with_reducible apply State.tileCommand_ok
    | with_reducible apply okO_next | with_reducible apply okO_fault | with_reducible apply ok_ite | intro _ | split | dsimp only
    | with_reducible apply okF | dsimp only [Ok]

theorem execTcFlDiag_ok (b : BridgeId) (head : TcHead) (param : List Byte) (s : State) (hk : Ok kc s) (h_regs : kc.frozen .regs = false := by first | with_reducible assumption | rfl) (h_hops : kc.frozen .hops = false := by first | with_reducible assumption | rfl) (h_bridges : kc.frozen .bridges = false := by first | with_reducible assumption | rfl) (h_out : kc.frozen .out = false := by first | with_reducible assumption | rfl) : OkO kc (execTcFlDiag b head param s) := by
  unfold execTcFlDiag
  repeat' first
    | with_reducible assumption | with_reducible apply State.flQueue_ok | with_reducible apply State.tileCommand_ok
    | with_reducible apply okO_next | with_reducible apply okO_fault | with_reducible apply ok_ite | intro _ | split | dsimp only
    | with_reducible apply okF | dsimp only [Ok]

theorem flReadStep_ok (b : BridgeId) (g : Nat → List Byte) (l : List Nat) (z : List Byte × State) (hk : Ok kc z.2) (h_regs : kc.frozen .regs = false := by first | with_reducible assumption | rfl) :
    Ok kc (l.foldl (fun (q : List Byte × State) k =>
      let d := q.2.dutyOf b k
      (q.1 ++ leBytes 2 d.1 ++ g k, d.2)) z).2 := by
  with_reducible apply foldl_ok2 hk
  intro z a h
  exact snd_ok (State.dutyOf_ok z.2 b a h)

theorem execTcFlRead_ok (b : BridgeId) (head : TcHead) (s : State) (hk : Ok kc s) (h_regs : kc.frozen .regs = false := by first | with_reducible assumption | rfl) (h_hops : kc.frozen .hops = false := by first | with_reducible assumption | rfl) (h_bridges : kc.frozen .bridges = false := by first | with_reducible assumption | rfl) (h_out : kc.frozen .out = false := by first | with_reducible assumption | rfl) : OkO kc (execTcFlRead b head s) := by
  unfold execTcFlRead
  with_reducible apply okO_next
  apply State.tileCommand_ok _ _ _ _ _ _ _ hk
  intro t ht
  exact fst_ok (flReadStep_ok b (fun k => leBytes 2 ((t.br b).string k).target) (List.range 16) ([], t) ht)

theorem execTileOpcodeUnknown_ok (b : BridgeId) (head : TcHead) (what : TcOther) (s : State) (hk : Ok kc s) (h_regs : kc.frozen .regs = false := by first | with_reducible assumption | rfl) (h_hops : kc.frozen .hops = false := by first | with_reducible assumption | rfl) (h_bridges : kc.frozen .bridges = false := by first | with_reducible assumption | rfl) (h_out : kc.frozen .out = false := by first | with_reducible assumption | rfl) : OkO kc (execTileOpcodeUnknown b head what s) := by
  unfold execTileOpcodeUnknown
  repeat' first
    | with_reducible assumption | with_reducible apply State.tileCommand_ok | with_reducible apply okO_next
    | with_reducible apply okO_fault | with_reducible apply ok_ite | intro _ | split | dsimp only | with_reducible apply okF
    | dsimp only [Ok]


/-! ### Snap -/

theorem State.spaceRead_ok (s : State) (space addr len : Nat) (dma : HostDma) (hk : Ok kc s) (h_regs : kc.frozen .regs = false := by first | with_reducible assumption | rfl) (h_dmc : kc.frozen .dmc = false := by first | with_reducible assumption | rfl) : Ok kc (State.spaceRead s space addr len dma).2 := by
  unfold State.spaceRead
  repeat' first
    | with_reducible assumption | with_reducible apply State.dmaErr_ok | with_reducible apply State.reachBar2_ok
    | with_reducible apply ok_ite | intro _ | split | dsimp only | with_reducible apply okF | dsimp only [Ok]

theorem State.spaceWrite_ok (s : State) (space addr : Nat) (bs : List Byte) (dma : HostDma) (hk : Ok kc s) (h_regs : kc.frozen .regs = false := by first | with_reducible assumption | rfl) (h_dram : kc.frozen .dram = false := by first | with_reducible assumption | rfl) (h_dmc : kc.frozen .dmc = false := by first | with_reducible assumption | rfl) (h_out : kc.frozen .out = false := by first | with_reducible assumption | rfl) : Ok kc (State.spaceWrite s space addr bs dma).2 := by
  unfold State.spaceWrite
  repeat' first
    | with_reducible assumption | with_reducible apply State.bar2Store_ok | with_reducible apply State.dmaErr_ok
    | with_reducible apply State.emit_ok | with_reducible apply State.reachBar2_ok | with_reducible apply ok_ite | intro _ | split
    | dsimp only | with_reducible apply okF | dsimp only [Ok]

theorem State.startMove_ok (s : State) (grp : RunGroup) (org : Origin) (tag op : Nat) (p : List Byte) (space addr len : Nat) (hk : Ok kc s) (h_regs : kc.frozen .regs = false := by first | with_reducible assumption | rfl) (h_glb : kc.frozen .glb = false := by first | with_reducible assumption | rfl) (h_vale : kc.frozen .vale = false := by first | with_reducible assumption | rfl) (h_qm : kc.frozen .qm = false := by first | with_reducible assumption | rfl) (h_net : kc.frozen .net = false := by first | with_reducible assumption | rfl) (h_out : kc.frozen .out = false := by first | with_reducible assumption | rfl) : Ok kc (State.startMove s grp org tag op p space addr len) := by
  unfold State.startMove
  repeat' first
    | with_reducible assumption | with_reducible apply State.errCmd_ok | with_reducible apply State.startRun_ok
    | with_reducible apply ok_ite | intro _ | split | dsimp only | with_reducible apply okF | dsimp only [Ok]

theorem execFilmLoad_ok (src : CmdSource) (s : State) (hk : Ok kc s) (h_regs : kc.frozen .regs = false := by first | with_reducible assumption | rfl) (h_glb : kc.frozen .glb = false := by first | with_reducible assumption | rfl) (h_vale : kc.frozen .vale = false := by first | with_reducible assumption | rfl) (h_qm : kc.frozen .qm = false := by first | with_reducible assumption | rfl) (h_net : kc.frozen .net = false := by first | with_reducible assumption | rfl) (h_out : kc.frozen .out = false := by first | with_reducible assumption | rfl) : OkO kc (execFilmLoad src s) := by
  unfold execFilmLoad
  repeat' first
    | with_reducible assumption | with_reducible apply State.errCmd_ok | with_reducible apply State.runCmdOf_ok
    | with_reducible apply State.startMove_ok | with_reducible apply okO_next | with_reducible apply okO_fault
    | with_reducible apply ok_ite | intro _ | split | dsimp only | with_reducible apply okF | dsimp only [Ok]

theorem State.endFilmLoad_ok (s0 : State) (r : Running) (bs : List Byte) (hk : Ok kc s0) (h_regs : kc.frozen .regs = false := by first | with_reducible assumption | rfl) (h_glb : kc.frozen .glb = false := by first | with_reducible assumption | rfl) (h_vale : kc.frozen .vale = false := by first | with_reducible assumption | rfl) (h_qm : kc.frozen .qm = false := by first | with_reducible assumption | rfl) (h_net : kc.frozen .net = false := by first | with_reducible assumption | rfl) (h_film : kc.frozen .film = false := by first | with_reducible assumption | rfl) (h_out : kc.frozen .out = false := by first | with_reducible assumption | rfl) : Ok kc (State.endFilmLoad s0 r bs) := by
  unfold State.endFilmLoad
  repeat' first
    | with_reducible assumption | with_reducible apply State.ctrlReach_ok | with_reducible apply State.doneAtFlip_ok
    | with_reducible apply State.endRun_ok | with_reducible apply ok_ite | intro _ | split | dsimp only | with_reducible apply okF
    | with_reducible refine okF_qm (okF_film (okF ?_)) | dsimp only [Ok]

theorem execFilmBind_ok (src : CmdSource) (s : State) (hk : Ok kc s) (h_regs : kc.frozen .regs = false := by first | with_reducible assumption | rfl) (h_glb : kc.frozen .glb = false := by first | with_reducible assumption | rfl) (h_vale : kc.frozen .vale = false := by first | with_reducible assumption | rfl) (h_qm : kc.frozen .qm = false := by first | with_reducible assumption | rfl) (h_net : kc.frozen .net = false := by first | with_reducible assumption | rfl) (h_film : kc.frozen .film = false := by first | with_reducible assumption | rfl) (h_out : kc.frozen .out = false := by first | with_reducible assumption | rfl) : OkO kc (execFilmBind src s) := by
  unfold execFilmBind
  repeat' first
    | with_reducible assumption | with_reducible apply State.doneAtFlip_ok | with_reducible apply State.errCmd_ok
    | with_reducible apply State.runCmd_ok | with_reducible apply okO_next | with_reducible apply okO_fault
    | with_reducible apply foldl_ok | with_reducible apply foldl_ok1 | with_reducible apply foldl_ok2 | with_reducible apply ok_ite
    | intro _ | split | dsimp only | with_reducible apply okF | with_reducible refine okF_film (okF ?_) | dsimp only [Ok]

theorem execSnapshotSave_ok (src : CmdSource) (s : State) (hk : Ok kc s) (h_regs : kc.frozen .regs = false := by first | with_reducible assumption | rfl) (h_glb : kc.frozen .glb = false := by first | with_reducible assumption | rfl) (h_vale : kc.frozen .vale = false := by first | with_reducible assumption | rfl) (h_qm : kc.frozen .qm = false := by first | with_reducible assumption | rfl) (h_net : kc.frozen .net = false := by first | with_reducible assumption | rfl) (h_film : kc.frozen .film = false := by first | with_reducible assumption | rfl) (h_out : kc.frozen .out = false := by first | with_reducible assumption | rfl) : OkO kc (execSnapshotSave src s) := by
  unfold execSnapshotSave
  repeat' first
    | with_reducible assumption | with_reducible apply State.errCmd_ok | with_reducible apply State.runCmdOf_ok
    | with_reducible apply State.startRun_ok | with_reducible apply okO_next | with_reducible apply okO_fault
    | with_reducible apply ok_ite | intro _ | split | dsimp only | with_reducible apply okF
    | with_reducible refine okF_film (okF ?_) | dsimp only [Ok]

theorem State.endSnapshotSave_ok (s0 : State) (r : Running) (dma : HostDma) (hk : Ok kc s0) (h_regs : kc.frozen .regs = false := by first | with_reducible assumption | rfl) (h_glb : kc.frozen .glb = false := by first | with_reducible assumption | rfl) (h_dram : kc.frozen .dram = false := by first | with_reducible assumption | rfl) (h_dmc : kc.frozen .dmc = false := by first | with_reducible assumption | rfl) (h_vale : kc.frozen .vale = false := by first | with_reducible assumption | rfl) (h_qm : kc.frozen .qm = false := by first | with_reducible assumption | rfl) (h_net : kc.frozen .net = false := by first | with_reducible assumption | rfl) (h_film : kc.frozen .film = false := by first | with_reducible assumption | rfl) (h_out : kc.frozen .out = false := by first | with_reducible assumption | rfl) : Ok kc (State.endSnapshotSave s0 r dma) := by
  unfold State.endSnapshotSave
  repeat' first
    | with_reducible assumption | with_reducible apply State.endRun_ok | with_reducible apply State.grantReq_ok
    | with_reducible apply State.spaceWrite_ok | with_reducible apply State.touchPlanes_ok | with_reducible apply ok_ite | intro _
    | split | dsimp only | with_reducible apply okF | with_reducible refine okF_film (okF ?_) | dsimp only [Ok]

theorem execSnapshotRestore_ok (start : RestoreStart) (s : State) (hk : Ok kc s) (h_regs : kc.frozen .regs = false := by first | with_reducible assumption | rfl) (h_glb : kc.frozen .glb = false := by first | with_reducible assumption | rfl) (h_dmc : kc.frozen .dmc = false := by first | with_reducible assumption | rfl) (h_vale : kc.frozen .vale = false := by first | with_reducible assumption | rfl) (h_qm : kc.frozen .qm = false := by first | with_reducible assumption | rfl) (h_net : kc.frozen .net = false := by first | with_reducible assumption | rfl) (h_film : kc.frozen .film = false := by first | with_reducible assumption | rfl) (h_out : kc.frozen .out = false := by first | with_reducible assumption | rfl) : OkO kc (execSnapshotRestore start s) := by
  unfold execSnapshotRestore
  repeat' first
    | with_reducible assumption | with_reducible apply State.errCmd_ok | with_reducible apply State.grantBar2_ok
    | with_reducible apply State.holdReq_ok | with_reducible apply State.runCmdOf_ok | with_reducible apply State.spaceRead_ok
    | with_reducible apply State.startRun_ok | with_reducible apply okO_next | with_reducible apply okO_fault
    | with_reducible apply ok_ite | intro _ | split | dsimp only | with_reducible apply okF
    | with_reducible refine okF_film (okF ?_) | dsimp only [Ok]

theorem State.restorePixel_ok (s : State) (b : List Byte) (i off w h : Nat) (full fits : Bool) (x y : Nat) (hk : Ok kc s) (h_film : kc.frozen .film = false := by first | with_reducible assumption | rfl) : Ok kc (State.restorePixel s b i off w h full fits x y) := by
  unfold State.restorePixel
  repeat' first
    | with_reducible assumption | with_reducible apply State.setPsr_ok | with_reducible apply State.setTarget_ok
    | with_reducible apply ok_ite | intro _ | split | dsimp only | with_reducible apply okF | dsimp only [Ok]

theorem State.restoreTile_ok (s : State) (b e : List Byte) (full : Bool) (hk : Ok kc s) (h_tiles : kc.frozen .tiles = false := by first | with_reducible assumption | rfl) (h_film : kc.frozen .film = false := by first | with_reducible assumption | rfl) : Ok kc (State.restoreTile s b e full) := by
  unfold State.restoreTile
  repeat' first
    | with_reducible assumption | with_reducible apply State.modTile_ok | with_reducible apply State.restorePixel_ok
    | with_reducible apply foldl_ok | with_reducible apply foldl_ok1 | with_reducible apply foldl_ok2 | with_reducible apply ok_ite
    | intro _ | split | dsimp only | with_reducible apply okF | dsimp only [Ok]

theorem State.endSnapshotRestore_ok (s0 : State) (r : Running) (b : List Byte) (hk : Ok kc s0) (h_regs : kc.frozen .regs = false := by first | with_reducible assumption | rfl) (h_glb : kc.frozen .glb = false := by first | with_reducible assumption | rfl) (h_dmc : kc.frozen .dmc = false := by first | with_reducible assumption | rfl) (h_vale : kc.frozen .vale = false := by first | with_reducible assumption | rfl) (h_qm : kc.frozen .qm = false := by first | with_reducible assumption | rfl) (h_net : kc.frozen .net = false := by first | with_reducible assumption | rfl) (h_tiles : kc.frozen .tiles = false := by first | with_reducible assumption | rfl) (h_film : kc.frozen .film = false := by first | with_reducible assumption | rfl) (h_out : kc.frozen .out = false := by first | with_reducible assumption | rfl) : Ok kc (State.endSnapshotRestore s0 r b) := by
  unfold State.endSnapshotRestore
  repeat' first
    | with_reducible assumption | with_reducible apply State.endRun_ok | with_reducible apply State.grantReq_ok
    | with_reducible apply State.restoreTile_ok | with_reducible apply State.touchPlanes_ok | with_reducible apply foldl_ok
    | with_reducible apply foldl_ok1 | with_reducible apply foldl_ok2 | with_reducible apply ok_ite | intro _ | split | dsimp only
    | with_reducible apply okF | with_reducible refine okF_film (okF ?_) | dsimp only [Ok]


/-! ### Cmds -/

theorem execNop_ok (src : CmdSource) (s : State) (hk : Ok kc s) (h_regs : kc.frozen .regs = false := by first | with_reducible assumption | rfl) (h_glb : kc.frozen .glb = false := by first | with_reducible assumption | rfl) (h_vale : kc.frozen .vale = false := by first | with_reducible assumption | rfl) (h_qm : kc.frozen .qm = false := by first | with_reducible assumption | rfl) (h_net : kc.frozen .net = false := by first | with_reducible assumption | rfl) (h_out : kc.frozen .out = false := by first | with_reducible assumption | rfl) : OkO kc (execNop src s) := by
  unfold execNop
  repeat' first
    | with_reducible assumption | with_reducible apply State.okCmd_ok | with_reducible apply State.runCmd_ok
    | with_reducible apply okO_next | with_reducible apply okO_fault | intro _ | split | dsimp only | with_reducible apply okF
    | dsimp only [Ok]

theorem execPlacementWrite_ok (src : CmdSource) (s : State) (hk : Ok kc s) (h_written : kc.frozen .written = false := by first | with_reducible assumption | rfl) (h_regs : kc.frozen .regs = false := by first | with_reducible assumption | rfl) (h_glb : kc.frozen .glb = false := by first | with_reducible assumption | rfl) (h_vale : kc.frozen .vale = false := by first | with_reducible assumption | rfl) (h_qm : kc.frozen .qm = false := by first | with_reducible assumption | rfl) (h_net : kc.frozen .net = false := by first | with_reducible assumption | rfl) (h_out : kc.frozen .out = false := by first | with_reducible assumption | rfl) : OkO kc (execPlacementWrite src s) := by
  unfold execPlacementWrite
  repeat' first
    | with_reducible assumption | with_reducible apply State.okCmd_ok | with_reducible apply State.putReg_ok
    | with_reducible apply State.runCmd_ok | with_reducible apply okO_next | with_reducible apply okO_fault
    | with_reducible apply foldl_ok | with_reducible apply foldl_ok1 | with_reducible apply foldl_ok2 | intro _ | split
    | dsimp only | with_reducible apply okF | dsimp only [Ok]

theorem execConfigCommit_ok (src : CmdSource) (s : State) (hk : Ok kc s) (h_inForce : kc.frozen .inForce = false := by first | with_reducible assumption | rfl) (h_regs : kc.frozen .regs = false := by first | with_reducible assumption | rfl) (h_time : kc.frozen .time = false := by first | with_reducible assumption | rfl) (h_glb : kc.frozen .glb = false := by first | with_reducible assumption | rfl) (h_vale : kc.frozen .vale = false := by first | with_reducible assumption | rfl) (h_qm : kc.frozen .qm = false := by first | with_reducible assumption | rfl) (h_net : kc.frozen .net = false := by first | with_reducible assumption | rfl) (h_out : kc.frozen .out = false := by first | with_reducible assumption | rfl) : OkO kc (execConfigCommit src s) := by
  unfold execConfigCommit
  repeat' first
    | with_reducible assumption | with_reducible apply State.commit_ok | with_reducible apply State.errCmd_ok
    | with_reducible apply State.okCmd_ok | with_reducible apply State.runCmd_ok | with_reducible apply okO_next
    | with_reducible apply okO_fault | with_reducible apply ok_ite | intro _ | split | dsimp only | with_reducible apply okF
    | dsimp only [Ok]

theorem execPowerSet_ok (src : CmdSource) (s : State) (hk : Ok kc s) (h_regs : kc.frozen .regs = false := by first | with_reducible assumption | rfl) (h_glb : kc.frozen .glb = false := by first | with_reducible assumption | rfl) (h_dmc : kc.frozen .dmc = false := by first | with_reducible assumption | rfl) (h_vale : kc.frozen .vale = false := by first | with_reducible assumption | rfl) (h_qm : kc.frozen .qm = false := by first | with_reducible assumption | rfl) (h_net : kc.frozen .net = false := by first | with_reducible assumption | rfl) (h_pwr : kc.frozen .pwr = false := by first | with_reducible assumption | rfl) (h_rc : kc.frozen .rc = false := by first | with_reducible assumption | rfl) (h_wsa : kc.frozen .wsa = false := by first | with_reducible assumption | rfl) (h_out : kc.frozen .out = false := by first | with_reducible assumption | rfl) : OkO kc (execPowerSet src s) := by
  unfold execPowerSet
  repeat' first
    | with_reducible assumption | with_reducible apply State.beginExit_ok | with_reducible apply State.countRefused_ok
    | with_reducible apply State.errCmd_ok | with_reducible apply State.okCmd_ok | with_reducible apply State.runCmd_ok
    | with_reducible apply State.startRun_ok | with_reducible apply okO_next | with_reducible apply okO_fault
    | with_reducible apply ok_ite | intro _ | split | dsimp only | with_reducible apply okF
    | with_reducible refine okF_pwr (okF ?_) | dsimp only [Ok]

theorem State.keepBlock_ok (s : State) (op : Nat) (p : List Byte) (hk : Ok kc s) (h_fl : kc.frozen .fl = false := by first | with_reducible assumption | rfl) : Ok kc (State.keepBlock s op p) := by
  unfold State.keepBlock
  repeat' first
    | with_reducible assumption | intro _ | split | dsimp only | with_reducible apply okF | with_reducible refine okF_fl (okF ?_)
    | dsimp only [Ok]

theorem execFlGlobalWrite_ok (src : CmdSource) (s : State) (hk : Ok kc s) (h_regs : kc.frozen .regs = false := by first | with_reducible assumption | rfl) (h_glb : kc.frozen .glb = false := by first | with_reducible assumption | rfl) (h_vale : kc.frozen .vale = false := by first | with_reducible assumption | rfl) (h_qm : kc.frozen .qm = false := by first | with_reducible assumption | rfl) (h_net : kc.frozen .net = false := by first | with_reducible assumption | rfl) (h_fl : kc.frozen .fl = false := by first | with_reducible assumption | rfl) (h_out : kc.frozen .out = false := by first | with_reducible assumption | rfl) : OkO kc (execFlGlobalWrite src s) := by
  unfold execFlGlobalWrite
  repeat' first
    | with_reducible assumption | with_reducible apply State.keepBlock_ok | with_reducible apply State.okCmd_ok
    | with_reducible apply State.runCmd_ok | with_reducible apply okO_next | with_reducible apply okO_fault | intro _ | split
    | dsimp only | with_reducible apply okF | dsimp only [Ok]

theorem execFlZoneWrite_ok (src : CmdSource) (s : State) (hk : Ok kc s) (h_regs : kc.frozen .regs = false := by first | with_reducible assumption | rfl) (h_glb : kc.frozen .glb = false := by first | with_reducible assumption | rfl) (h_vale : kc.frozen .vale = false := by first | with_reducible assumption | rfl) (h_qm : kc.frozen .qm = false := by first | with_reducible assumption | rfl) (h_net : kc.frozen .net = false := by first | with_reducible assumption | rfl) (h_fl : kc.frozen .fl = false := by first | with_reducible assumption | rfl) (h_out : kc.frozen .out = false := by first | with_reducible assumption | rfl) : OkO kc (execFlZoneWrite src s) := by
  unfold execFlZoneWrite
  repeat' first
    | with_reducible assumption | with_reducible apply State.keepBlock_ok | with_reducible apply State.okCmd_ok
    | with_reducible apply State.runCmd_ok | with_reducible apply okO_next | with_reducible apply okO_fault | intro _ | split
    | dsimp only | with_reducible apply okF | dsimp only [Ok]

theorem execFlTileBind_ok (src : CmdSource) (s : State) (hk : Ok kc s) (h_regs : kc.frozen .regs = false := by first | with_reducible assumption | rfl) (h_glb : kc.frozen .glb = false := by first | with_reducible assumption | rfl) (h_vale : kc.frozen .vale = false := by first | with_reducible assumption | rfl) (h_qm : kc.frozen .qm = false := by first | with_reducible assumption | rfl) (h_net : kc.frozen .net = false := by first | with_reducible assumption | rfl) (h_fl : kc.frozen .fl = false := by first | with_reducible assumption | rfl) (h_out : kc.frozen .out = false := by first | with_reducible assumption | rfl) : OkO kc (execFlTileBind src s) := by
  unfold execFlTileBind
  repeat' first
    | with_reducible assumption | with_reducible apply State.keepBlock_ok | with_reducible apply State.okCmd_ok
    | with_reducible apply State.runCmd_ok | with_reducible apply okO_next | with_reducible apply okO_fault | intro _ | split
    | dsimp only | with_reducible apply okF | dsimp only [Ok]

theorem execFlStatusRead_ok (src : CmdSource) (s : State) (hk : Ok kc s) (h_regs : kc.frozen .regs = false := by first | with_reducible assumption | rfl) (h_glb : kc.frozen .glb = false := by first | with_reducible assumption | rfl) (h_vale : kc.frozen .vale = false := by first | with_reducible assumption | rfl) (h_qm : kc.frozen .qm = false := by first | with_reducible assumption | rfl) (h_net : kc.frozen .net = false := by first | with_reducible assumption | rfl) (h_out : kc.frozen .out = false := by first | with_reducible assumption | rfl) : OkO kc (execFlStatusRead src s) := by
  unfold execFlStatusRead
  repeat' first
    | with_reducible assumption | with_reducible apply State.errCmd_ok | with_reducible apply State.okCmd_ok
    | with_reducible apply State.runCmd_ok | with_reducible apply okO_next | with_reducible apply okO_fault
    | with_reducible apply ok_ite | intro _ | split | dsimp only | with_reducible apply okF | dsimp only [Ok]

theorem execRegRead_ok (src : CmdSource) (s : State) (hk : Ok kc s) (h_regs : kc.frozen .regs = false := by first | with_reducible assumption | rfl) (h_glb : kc.frozen .glb = false := by first | with_reducible assumption | rfl) (h_vale : kc.frozen .vale = false := by first | with_reducible assumption | rfl) (h_qm : kc.frozen .qm = false := by first | with_reducible assumption | rfl) (h_net : kc.frozen .net = false := by first | with_reducible assumption | rfl) (h_out : kc.frozen .out = false := by first | with_reducible assumption | rfl) : OkO kc (execRegRead src s) := by
  unfold execRegRead
  repeat' first
    | with_reducible assumption | with_reducible apply State.okCmd_ok | with_reducible apply State.readReg_ok
    | with_reducible apply State.runCmd_ok | with_reducible apply okO_next | with_reducible apply okO_fault | intro _ | split
    | dsimp only | with_reducible apply okF | dsimp only [Ok]

theorem execRegWrite_ok (src : CmdSource) (s : State) (hk : Ok kc s) (h_written : kc.frozen .written = false := by first | with_reducible assumption | rfl) (h_inForce : kc.frozen .inForce = false := by first | with_reducible assumption | rfl) (h_regs : kc.frozen .regs = false := by first | with_reducible assumption | rfl) (h_clk : kc.frozen .clk = false := by first | with_reducible assumption | rfl) (h_time : kc.frozen .time = false := by first | with_reducible assumption | rfl) (h_glb : kc.frozen .glb = false := by first | with_reducible assumption | rfl) (h_otp : kc.frozen .otp = false := by first | with_reducible assumption | rfl) (h_dram : kc.frozen .dram = false := by first | with_reducible assumption | rfl) (h_dmc : kc.frozen .dmc = false := by first | with_reducible assumption | rfl) (h_valeMem : kc.frozen .valeMem = false := by first | with_reducible assumption | rfl) (h_vale : kc.frozen .vale = false := by first | with_reducible assumption | rfl) (h_qm : kc.frozen .qm = false := by first | with_reducible assumption | rfl) (h_net : kc.frozen .net = false := by first | with_reducible assumption | rfl) (h_thm : kc.frozen .thm = false := by first | with_reducible assumption | rfl) (h_pwr : kc.frozen .pwr = false := by first | with_reducible assumption | rfl) (h_flash : kc.frozen .flash = false := by first | with_reducible assumption | rfl) (h_rc : kc.frozen .rc = false := by first | with_reducible assumption | rfl) (h_fl : kc.frozen .fl = false := by first | with_reducible assumption | rfl) (h_ports : kc.frozen .ports = false := by first | with_reducible assumption | rfl) (h_tiles : kc.frozen .tiles = false := by first | with_reducible assumption | rfl) (h_hops : kc.frozen .hops = false := by first | with_reducible assumption | rfl) (h_film : kc.frozen .film = false := by first | with_reducible assumption | rfl) (h_wsa : kc.frozen .wsa = false := by first | with_reducible assumption | rfl) (h_sch : kc.frozen .sch = false := by first | with_reducible assumption | rfl) (h_mp : kc.frozen .mp = false := by first | with_reducible assumption | rfl) (h_out : kc.frozen .out = false := by first | with_reducible assumption | rfl) : OkO kc (execRegWrite src s) := by
  unfold execRegWrite
  repeat' first
    | with_reducible assumption | with_reducible apply State.okCmd_ok | with_reducible apply State.runCmd_ok
    | with_reducible apply State.writeReg_ok | with_reducible apply okO_next | with_reducible apply okO_fault
    | with_reducible apply ok_ite | intro _ | split | dsimp only | with_reducible apply okF | dsimp only [Ok]

theorem execBar2Write_ok (src : CmdSource) (s : State) (hk : Ok kc s) (h_regs : kc.frozen .regs = false := by first | with_reducible assumption | rfl) (h_glb : kc.frozen .glb = false := by first | with_reducible assumption | rfl) (h_dram : kc.frozen .dram = false := by first | with_reducible assumption | rfl) (h_dmc : kc.frozen .dmc = false := by first | with_reducible assumption | rfl) (h_vale : kc.frozen .vale = false := by first | with_reducible assumption | rfl) (h_qm : kc.frozen .qm = false := by first | with_reducible assumption | rfl) (h_net : kc.frozen .net = false := by first | with_reducible assumption | rfl) (h_out : kc.frozen .out = false := by first | with_reducible assumption | rfl) : OkO kc (execBar2Write src s) := by
  unfold execBar2Write
  repeat' first
    | with_reducible assumption | with_reducible apply State.bar2Store_ok | with_reducible apply State.errCmd_ok
    | with_reducible apply State.grantBar2_ok | with_reducible apply State.holdReq_ok | with_reducible apply State.okCmd_ok
    | with_reducible apply State.runCmd_ok | with_reducible apply okO_next | with_reducible apply okO_fault
    | with_reducible apply ok_ite | intro _ | split | dsimp only | with_reducible apply okF | dsimp only [Ok]

theorem execBar2Read_ok (src : CmdSource) (s : State) (hk : Ok kc s) (h_regs : kc.frozen .regs = false := by first | with_reducible assumption | rfl) (h_glb : kc.frozen .glb = false := by first | with_reducible assumption | rfl) (h_dmc : kc.frozen .dmc = false := by first | with_reducible assumption | rfl) (h_vale : kc.frozen .vale = false := by first | with_reducible assumption | rfl) (h_qm : kc.frozen .qm = false := by first | with_reducible assumption | rfl) (h_net : kc.frozen .net = false := by first | with_reducible assumption | rfl) (h_out : kc.frozen .out = false := by first | with_reducible assumption | rfl) : OkO kc (execBar2Read src s) := by
  unfold execBar2Read
  repeat' first
    | with_reducible assumption | with_reducible apply State.errCmd_ok | with_reducible apply State.grantBar2_ok
    | with_reducible apply State.holdReq_ok | with_reducible apply State.okCmd_ok | with_reducible apply State.runCmd_ok
    | with_reducible apply okO_next | with_reducible apply okO_fault | with_reducible apply ok_ite | intro _ | split | dsimp only
    | with_reducible apply okF | dsimp only [Ok]

theorem execDumpRelease_ok (src : CmdSource) (s : State) (hk : Ok kc s) (h_regs : kc.frozen .regs = false := by first | with_reducible assumption | rfl) (h_glb : kc.frozen .glb = false := by first | with_reducible assumption | rfl) (h_vale : kc.frozen .vale = false := by first | with_reducible assumption | rfl) (h_qm : kc.frozen .qm = false := by first | with_reducible assumption | rfl) (h_net : kc.frozen .net = false := by first | with_reducible assumption | rfl) (h_flash : kc.frozen .flash = false := by first | with_reducible assumption | rfl) (h_out : kc.frozen .out = false := by first | with_reducible assumption | rfl) : OkO kc (execDumpRelease src s) := by
  unfold execDumpRelease
  repeat' first
    | with_reducible assumption | with_reducible apply State.errCmd_ok | with_reducible apply State.okCmd_ok
    | with_reducible apply State.runCmd_ok | with_reducible apply okO_next | with_reducible apply okO_fault
    | with_reducible apply ok_ite | intro _ | split | dsimp only | with_reducible apply okF
    | with_reducible refine okF_glb (okF_flash (okF ?_)) | dsimp only [Ok]

theorem execFwSelect_ok (src : CmdSource) (s : State) (hk : Ok kc s) (h_regs : kc.frozen .regs = false := by first | with_reducible assumption | rfl) (h_glb : kc.frozen .glb = false := by first | with_reducible assumption | rfl) (h_vale : kc.frozen .vale = false := by first | with_reducible assumption | rfl) (h_qm : kc.frozen .qm = false := by first | with_reducible assumption | rfl) (h_net : kc.frozen .net = false := by first | with_reducible assumption | rfl) (h_flash : kc.frozen .flash = false := by first | with_reducible assumption | rfl) (h_out : kc.frozen .out = false := by first | with_reducible assumption | rfl) : OkO kc (execFwSelect src s) := by
  unfold execFwSelect
  repeat' first
    | with_reducible assumption | with_reducible apply State.errCmd_ok | with_reducible apply State.okCmd_ok
    | with_reducible apply State.runCmd_ok | with_reducible apply State.saveBootcfg_ok | with_reducible apply okO_next
    | with_reducible apply okO_fault | with_reducible apply ok_ite | intro _ | split | dsimp only | with_reducible apply okF
    | dsimp only [Ok]

theorem execReset_ok (src : CmdSource) (s : State) (hk : Ok kc s) (h_written : kc.frozen .written = false := by first | with_reducible assumption | rfl) (h_inForce : kc.frozen .inForce = false := by first | with_reducible assumption | rfl) (h_regs : kc.frozen .regs = false := by first | with_reducible assumption | rfl) (h_clk : kc.frozen .clk = false := by first | with_reducible assumption | rfl) (h_time : kc.frozen .time = false := by first | with_reducible assumption | rfl) (h_glb : kc.frozen .glb = false := by first | with_reducible assumption | rfl) (h_dram : kc.frozen .dram = false := by first | with_reducible assumption | rfl) (h_dmc : kc.frozen .dmc = false := by first | with_reducible assumption | rfl) (h_valeMem : kc.frozen .valeMem = false := by first | with_reducible assumption | rfl) (h_vale : kc.frozen .vale = false := by first | with_reducible assumption | rfl) (h_qm : kc.frozen .qm = false := by first | with_reducible assumption | rfl) (h_net : kc.frozen .net = false := by first | with_reducible assumption | rfl) (h_thm : kc.frozen .thm = false := by first | with_reducible assumption | rfl) (h_pwr : kc.frozen .pwr = false := by first | with_reducible assumption | rfl) (h_flash : kc.frozen .flash = false := by first | with_reducible assumption | rfl) (h_rc : kc.frozen .rc = false := by first | with_reducible assumption | rfl) (h_fl : kc.frozen .fl = false := by first | with_reducible assumption | rfl) (h_ports : kc.frozen .ports = false := by first | with_reducible assumption | rfl) (h_tiles : kc.frozen .tiles = false := by first | with_reducible assumption | rfl) (h_hops : kc.frozen .hops = false := by first | with_reducible assumption | rfl) (h_film : kc.frozen .film = false := by first | with_reducible assumption | rfl) (h_wsa : kc.frozen .wsa = false := by first | with_reducible assumption | rfl) (h_sch : kc.frozen .sch = false := by first | with_reducible assumption | rfl) (h_mp : kc.frozen .mp = false := by first | with_reducible assumption | rfl) (h_out : kc.frozen .out = false := by first | with_reducible assumption | rfl) : OkO kc (execReset src s) := by
  unfold execReset
  repeat' first
    | with_reducible assumption | with_reducible apply State.advance_ok | with_reducible apply State.beginReset_ok
    | with_reducible apply State.enterCold_ok | with_reducible apply State.okCmd_ok | with_reducible apply State.runCmd_ok
    | with_reducible apply okO_next | with_reducible apply okO_fault | with_reducible apply ok_ite | intro _ | split | dsimp only
    | with_reducible apply okF | dsimp only [Ok]

theorem execNetKeySet_ok (src : CmdSource) (s : State) (hk : Ok kc s) (h_regs : kc.frozen .regs = false := by first | with_reducible assumption | rfl) (h_glb : kc.frozen .glb = false := by first | with_reducible assumption | rfl) (h_vale : kc.frozen .vale = false := by first | with_reducible assumption | rfl) (h_qm : kc.frozen .qm = false := by first | with_reducible assumption | rfl) (h_net : kc.frozen .net = false := by first | with_reducible assumption | rfl) (h_flash : kc.frozen .flash = false := by first | with_reducible assumption | rfl) (h_out : kc.frozen .out = false := by first | with_reducible assumption | rfl) : OkO kc (execNetKeySet src s) := by
  unfold execNetKeySet
  repeat' first
    | with_reducible assumption | with_reducible apply State.okCmd_ok | with_reducible apply State.runCmd_ok
    | with_reducible apply State.setKey_ok | with_reducible apply okO_next | with_reducible apply okO_fault | intro _ | split
    | dsimp only | with_reducible apply okF | dsimp only [Ok]

theorem execEventLogRead_ok (src : CmdSource) (s : State) (hk : Ok kc s) (h_regs : kc.frozen .regs = false := by first | with_reducible assumption | rfl) (h_glb : kc.frozen .glb = false := by first | with_reducible assumption | rfl) (h_vale : kc.frozen .vale = false := by first | with_reducible assumption | rfl) (h_qm : kc.frozen .qm = false := by first | with_reducible assumption | rfl) (h_net : kc.frozen .net = false := by first | with_reducible assumption | rfl) (h_out : kc.frozen .out = false := by first | with_reducible assumption | rfl) : OkO kc (execEventLogRead src s) := by
  unfold execEventLogRead
  repeat' first
    | with_reducible assumption | with_reducible apply State.runCmdOf_ok | with_reducible apply State.startMove_ok
    | with_reducible apply okO_next | with_reducible apply okO_fault | intro _ | split | dsimp only | with_reducible apply okF
    | dsimp only [Ok]

theorem execDumpRead_ok (src : CmdSource) (s : State) (hk : Ok kc s) (h_regs : kc.frozen .regs = false := by first | with_reducible assumption | rfl) (h_glb : kc.frozen .glb = false := by first | with_reducible assumption | rfl) (h_vale : kc.frozen .vale = false := by first | with_reducible assumption | rfl) (h_qm : kc.frozen .qm = false := by first | with_reducible assumption | rfl) (h_net : kc.frozen .net = false := by first | with_reducible assumption | rfl) (h_out : kc.frozen .out = false := by first | with_reducible assumption | rfl) : OkO kc (execDumpRead src s) := by
  unfold execDumpRead
  repeat' first
    | with_reducible assumption | with_reducible apply State.errCmd_ok | with_reducible apply State.runCmdOf_ok
    | with_reducible apply State.startMove_ok | with_reducible apply okO_next | with_reducible apply okO_fault
    | with_reducible apply ok_ite | intro _ | split | dsimp only | with_reducible apply okF | dsimp only [Ok]

theorem execOdometerRead_ok (src : CmdSource) (s : State) (hk : Ok kc s) (h_regs : kc.frozen .regs = false := by first | with_reducible assumption | rfl) (h_glb : kc.frozen .glb = false := by first | with_reducible assumption | rfl) (h_vale : kc.frozen .vale = false := by first | with_reducible assumption | rfl) (h_qm : kc.frozen .qm = false := by first | with_reducible assumption | rfl) (h_net : kc.frozen .net = false := by first | with_reducible assumption | rfl) (h_out : kc.frozen .out = false := by first | with_reducible assumption | rfl) : OkO kc (execOdometerRead src s) := by
  unfold execOdometerRead
  repeat' first
    | with_reducible assumption | with_reducible apply State.errCmd_ok | with_reducible apply State.runCmdOf_ok
    | with_reducible apply State.startMove_ok | with_reducible apply okO_next | with_reducible apply okO_fault | intro _ | split
    | dsimp only | with_reducible apply okF | dsimp only [Ok]

theorem State.endReadback_ok (s : State) (r : Running) (space addr : Nat) (dma : HostDma) (hk : Ok kc s) (h_regs : kc.frozen .regs = false := by first | with_reducible assumption | rfl) (h_glb : kc.frozen .glb = false := by first | with_reducible assumption | rfl) (h_dram : kc.frozen .dram = false := by first | with_reducible assumption | rfl) (h_dmc : kc.frozen .dmc = false := by first | with_reducible assumption | rfl) (h_vale : kc.frozen .vale = false := by first | with_reducible assumption | rfl) (h_qm : kc.frozen .qm = false := by first | with_reducible assumption | rfl) (h_net : kc.frozen .net = false := by first | with_reducible assumption | rfl) (h_out : kc.frozen .out = false := by first | with_reducible assumption | rfl) : Ok kc (State.endReadback s r space addr dma) := by
  unfold State.endReadback
  repeat' first
    | with_reducible assumption | with_reducible apply State.endRun_ok | with_reducible apply State.spaceWrite_ok
    | with_reducible apply ok_ite | intro _ | split | dsimp only | with_reducible apply okF | dsimp only [Ok]

theorem execFwWrite_ok (src : CmdSource) (s : State) (hk : Ok kc s) (h_regs : kc.frozen .regs = false := by first | with_reducible assumption | rfl) (h_glb : kc.frozen .glb = false := by first | with_reducible assumption | rfl) (h_vale : kc.frozen .vale = false := by first | with_reducible assumption | rfl) (h_qm : kc.frozen .qm = false := by first | with_reducible assumption | rfl) (h_net : kc.frozen .net = false := by first | with_reducible assumption | rfl) (h_out : kc.frozen .out = false := by first | with_reducible assumption | rfl) : OkO kc (execFwWrite src s) := by
  unfold execFwWrite
  repeat' first
    | with_reducible assumption | with_reducible apply State.errCmd_ok | with_reducible apply State.runCmdOf_ok
    | with_reducible apply State.startMove_ok | with_reducible apply okO_next | with_reducible apply okO_fault
    | with_reducible apply ok_ite | intro _ | split | dsimp only | with_reducible apply okF | dsimp only [Ok]

theorem State.setImage_ok (s : State) (i : Nat) (m : Mem) (hk : Ok kc s) (h_flash : kc.frozen .flash = false := by first | with_reducible assumption | rfl) : Ok kc (State.setImage s i m) := by
  unfold State.setImage
  repeat' first
    | with_reducible assumption | with_reducible apply ok_ite | intro _ | split | dsimp only | with_reducible apply okF
    | with_reducible refine okF_flash (okF ?_) | dsimp only [Ok]

theorem State.endFwWrite_ok (s : State) (r : Running) (bs : List Byte) (hk : Ok kc s) (h_regs : kc.frozen .regs = false := by first | with_reducible assumption | rfl) (h_glb : kc.frozen .glb = false := by first | with_reducible assumption | rfl) (h_vale : kc.frozen .vale = false := by first | with_reducible assumption | rfl) (h_qm : kc.frozen .qm = false := by first | with_reducible assumption | rfl) (h_net : kc.frozen .net = false := by first | with_reducible assumption | rfl) (h_flash : kc.frozen .flash = false := by first | with_reducible assumption | rfl) (h_out : kc.frozen .out = false := by first | with_reducible assumption | rfl) : Ok kc (State.endFwWrite s r bs) := by
  unfold State.endFwWrite
  repeat' first
    | with_reducible assumption | with_reducible apply State.draw_ok | with_reducible apply State.endRun_ok
    | with_reducible apply State.setImage_ok | with_reducible apply ok_ite | intro _ | split | dsimp only
    | with_reducible apply okF | dsimp only [Ok]

theorem State.abortRun_ok (s : State) (r : Running) (status : Nat) (hk : Ok kc s) (h_regs : kc.frozen .regs = false := by first | with_reducible assumption | rfl) (h_glb : kc.frozen .glb = false := by first | with_reducible assumption | rfl) (h_vale : kc.frozen .vale = false := by first | with_reducible assumption | rfl) (h_qm : kc.frozen .qm = false := by first | with_reducible assumption | rfl) (h_net : kc.frozen .net = false := by first | with_reducible assumption | rfl) (h_film : kc.frozen .film = false := by first | with_reducible assumption | rfl) (h_out : kc.frozen .out = false := by first | with_reducible assumption | rfl) : Ok kc (State.abortRun s r status) := by
  unfold State.abortRun
  repeat' first
    | with_reducible assumption | with_reducible apply State.endRun_ok | with_reducible apply ok_ite | intro _ | split | dsimp only
    | with_reducible apply okF | with_reducible refine okF_film (okF ?_) | dsimp only [Ok]

theorem State.endSource_ok (s : State) (r : Running) (bs : List Byte) (hk : Ok kc s) (h_regs : kc.frozen .regs = false := by first | with_reducible assumption | rfl) (h_glb : kc.frozen .glb = false := by first | with_reducible assumption | rfl) (h_dmc : kc.frozen .dmc = false := by first | with_reducible assumption | rfl) (h_vale : kc.frozen .vale = false := by first | with_reducible assumption | rfl) (h_qm : kc.frozen .qm = false := by first | with_reducible assumption | rfl) (h_net : kc.frozen .net = false := by first | with_reducible assumption | rfl) (h_flash : kc.frozen .flash = false := by first | with_reducible assumption | rfl) (h_tiles : kc.frozen .tiles = false := by first | with_reducible assumption | rfl) (h_film : kc.frozen .film = false := by first | with_reducible assumption | rfl) (h_out : kc.frozen .out = false := by first | with_reducible assumption | rfl) : Ok kc (State.endSource s r bs) := by
  unfold State.endSource
  repeat' first
    | with_reducible assumption | with_reducible apply State.endFilmLoad_ok | with_reducible apply State.endFwWrite_ok
    | with_reducible apply State.endSnapshotRestore_ok | with_reducible apply ok_ite | intro _ | split | dsimp only
    | with_reducible apply okF | dsimp only [Ok]

theorem State.finishRun_ok (s : State) (r : Running) (dma : HostDma) (hk : Ok kc s) (h_regs : kc.frozen .regs = false := by first | with_reducible assumption | rfl) (h_glb : kc.frozen .glb = false := by first | with_reducible assumption | rfl) (h_dram : kc.frozen .dram = false := by first | with_reducible assumption | rfl) (h_dmc : kc.frozen .dmc = false := by first | with_reducible assumption | rfl) (h_vale : kc.frozen .vale = false := by first | with_reducible assumption | rfl) (h_qm : kc.frozen .qm = false := by first | with_reducible assumption | rfl) (h_net : kc.frozen .net = false := by first | with_reducible assumption | rfl) (h_flash : kc.frozen .flash = false := by first | with_reducible assumption | rfl) (h_tiles : kc.frozen .tiles = false := by first | with_reducible assumption | rfl) (h_film : kc.frozen .film = false := by first | with_reducible assumption | rfl) (h_out : kc.frozen .out = false := by first | with_reducible assumption | rfl) : Ok kc (State.finishRun s r dma) := by
  unfold State.finishRun
  repeat' first
    | with_reducible assumption | with_reducible apply State.abortRun_ok | with_reducible apply State.endReadback_ok
    | with_reducible apply State.endSnapshotSave_ok | with_reducible apply State.endSource_ok
    | with_reducible apply State.grantReq_ok | with_reducible apply State.holdReq_ok | with_reducible apply State.spaceRead_ok
    | with_reducible apply ok_ite | intro _ | split | dsimp only | with_reducible apply okF | dsimp only [Ok]

theorem execLongRunningComplete_ok (grp : RunGroup) (dma : HostDma) (s : State) (hk : Ok kc s) (h_regs : kc.frozen .regs = false := by first | with_reducible assumption | rfl) (h_glb : kc.frozen .glb = false := by first | with_reducible assumption | rfl) (h_dram : kc.frozen .dram = false := by first | with_reducible assumption | rfl) (h_dmc : kc.frozen .dmc = false := by first | with_reducible assumption | rfl) (h_vale : kc.frozen .vale = false := by first | with_reducible assumption | rfl) (h_qm : kc.frozen .qm = false := by first | with_reducible assumption | rfl) (h_net : kc.frozen .net = false := by first | with_reducible assumption | rfl) (h_flash : kc.frozen .flash = false := by first | with_reducible assumption | rfl) (h_tiles : kc.frozen .tiles = false := by first | with_reducible assumption | rfl) (h_film : kc.frozen .film = false := by first | with_reducible assumption | rfl) (h_out : kc.frozen .out = false := by first | with_reducible assumption | rfl) : OkO kc (execLongRunningComplete grp dma s) := by
  unfold execLongRunningComplete
  repeat' first
    | with_reducible assumption | with_reducible apply State.finishRun_ok | with_reducible apply okO_next
    | with_reducible apply okO_fault | intro _ | split | dsimp only | with_reducible apply okF | dsimp only [Ok]

theorem execDmaTimeout_ok (grp : RunGroup) (s : State) (hk : Ok kc s) (h_regs : kc.frozen .regs = false := by first | with_reducible assumption | rfl) (h_glb : kc.frozen .glb = false := by first | with_reducible assumption | rfl) (h_vale : kc.frozen .vale = false := by first | with_reducible assumption | rfl) (h_qm : kc.frozen .qm = false := by first | with_reducible assumption | rfl) (h_net : kc.frozen .net = false := by first | with_reducible assumption | rfl) (h_film : kc.frozen .film = false := by first | with_reducible assumption | rfl) (h_out : kc.frozen .out = false := by first | with_reducible assumption | rfl) : OkO kc (execDmaTimeout grp s) := by
  unfold execDmaTimeout
  repeat' first
    | with_reducible assumption | with_reducible apply State.abortRun_ok | with_reducible apply State.dmaErr_ok
    | with_reducible apply okO_next | with_reducible apply okO_fault | intro _ | split | dsimp only | with_reducible apply okF
    | dsimp only [Ok]

theorem reservedOk_keep {t : Tab Word} (h : reservedOk t) (p : Nat → Bool) : reservedOk (tabKeep p t) :=
  fun e he => h e (List.mem_filter.mp he).1

theorem execPcieReset_ok (link : PcieLink) (s : State) (hk : Ok kc s) (h_written : kc.frozen .written = false := by first | with_reducible assumption | rfl) (h_regs : kc.frozen .regs = false := by first | with_reducible assumption | rfl) (h_glb : kc.frozen .glb = false := by first | with_reducible assumption | rfl) (h_vale : kc.frozen .vale = false := by first | with_reducible assumption | rfl) (h_qm : kc.frozen .qm = false := by first | with_reducible assumption | rfl) (h_net : kc.frozen .net = false := by first | with_reducible assumption | rfl) (h_film : kc.frozen .film = false := by first | with_reducible assumption | rfl) (h_out : kc.frozen .out = false := by first | with_reducible assumption | rfl) : OkO kc (execPcieReset link s) := by
  unfold execPcieReset
  with_reducible apply okO_next
  with_reducible apply foldl_ok
  · have hs := hk.sets
    dsimp only [Ok]
    exact okF_written (okF_qm (okF_net (okF hk))) fun hi => ⟨reservedOk_keep (hs hi).1 _, (hs hi).2⟩
  · intro st r h
    exact State.abortRun_ok _ r 7 (State.dmaErr_ok _ h)

/-! ### Frame -/

theorem State.railLive_ok (s : State) (g : Nat) (hk : Ok kc s) (h_inForce : kc.frozen .inForce = false := by first | with_reducible assumption | rfl) (h_regs : kc.frozen .regs = false := by first | with_reducible assumption | rfl) (h_rc : kc.frozen .rc = false := by first | with_reducible assumption | rfl) : Ok kc (State.railLive s g) := by
  unfold State.railLive
  repeat' first
    | with_reducible assumption | with_reducible apply State.pendLive_ok | with_reducible apply State.slewSlot_ok
    | with_reducible apply foldl_ok | with_reducible apply foldl_ok1 | with_reducible apply foldl_ok2 | with_reducible apply ok_ite
    | intro _ | split | dsimp only | with_reducible apply okF | dsimp only [Ok]

theorem State.portLive_ok (s : State) (p : Nat) (hk : Ok kc s) (h_inForce : kc.frozen .inForce = false := by first | with_reducible assumption | rfl) (h_regs : kc.frozen .regs = false := by first | with_reducible assumption | rfl) (h_glb : kc.frozen .glb = false := by first | with_reducible assumption | rfl) (h_qm : kc.frozen .qm = false := by first | with_reducible assumption | rfl) (h_ports : kc.frozen .ports = false := by first | with_reducible assumption | rfl) (h_tiles : kc.frozen .tiles = false := by first | with_reducible assumption | rfl) (h_film : kc.frozen .film = false := by first | with_reducible assumption | rfl) (h_sch : kc.frozen .sch = false := by first | with_reducible assumption | rfl) (h_out : kc.frozen .out = false := by first | with_reducible assumption | rfl) : Ok kc (State.portLive s p) := by
  unfold State.portLive
  repeat' first
    | with_reducible assumption | with_reducible apply State.enumerate_ok | with_reducible apply State.loseTile_ok
    | with_reducible apply State.modPort_ok | with_reducible apply State.modTile_ok | with_reducible apply State.pendLive_ok
    | with_reducible apply State.startEnum_ok | with_reducible apply foldl_ok | with_reducible apply foldl_ok1
    | with_reducible apply foldl_ok2 | with_reducible apply ok_ite | intro _ | split | dsimp only | with_reducible apply okF
    | dsimp only [Ok]

theorem State.setsLive_ok (s : State) (hk : Ok kc s) (h_inForce : kc.frozen .inForce = false := by first | with_reducible assumption | rfl) (h_regs : kc.frozen .regs = false := by first | with_reducible assumption | rfl) (h_glb : kc.frozen .glb = false := by first | with_reducible assumption | rfl) (h_qm : kc.frozen .qm = false := by first | with_reducible assumption | rfl) (h_net : kc.frozen .net = false := by first | with_reducible assumption | rfl) (h_rc : kc.frozen .rc = false := by first | with_reducible assumption | rfl) (h_ports : kc.frozen .ports = false := by first | with_reducible assumption | rfl) (h_tiles : kc.frozen .tiles = false := by first | with_reducible assumption | rfl) (h_film : kc.frozen .film = false := by first | with_reducible assumption | rfl) (h_sch : kc.frozen .sch = false := by first | with_reducible assumption | rfl) (h_mp : kc.frozen .mp = false := by first | with_reducible assumption | rfl) (h_out : kc.frozen .out = false := by first | with_reducible assumption | rfl) : Ok kc (State.setsLive s) := by
  unfold State.setsLive
  repeat' first
    | with_reducible assumption | with_reducible apply State.mpLive_ok | with_reducible apply State.netLive_ok
    | with_reducible apply State.pendLive_ok | with_reducible apply State.portLive_ok | with_reducible apply State.railLive_ok
    | with_reducible apply foldl_ok | with_reducible apply foldl_ok1 | with_reducible apply foldl_ok2 | intro _ | split
    | dsimp only | with_reducible apply okF | dsimp only [Ok]

theorem State.rebindTile_ok (s : State) (i : Nat) (hk : Ok kc s) (h_regs : kc.frozen .regs = false := by first | with_reducible assumption | rfl) (h_dmc : kc.frozen .dmc = false := by first | with_reducible assumption | rfl) (h_tiles : kc.frozen .tiles = false := by first | with_reducible assumption | rfl) (h_film : kc.frozen .film = false := by first | with_reducible assumption | rfl) : Ok kc (State.rebindTile s i) := by
  unfold State.rebindTile
  repeat' first
    | with_reducible assumption | with_reducible apply State.flagUnknown_ok | with_reducible apply State.tileUnknown_ok
    | with_reducible apply State.touchPlanes_ok | with_reducible apply ok_ite | intro _ | split | dsimp only
    | with_reducible apply okF | with_reducible refine okF_film (okF ?_) | dsimp only [Ok]

theorem State.pkgFlip_ok (s : State) (hk : Ok kc s) (h_regs : kc.frozen .regs = false := by first | with_reducible assumption | rfl) (h_dmc : kc.frozen .dmc = false := by first | with_reducible assumption | rfl) (h_tiles : kc.frozen .tiles = false := by first | with_reducible assumption | rfl) (h_film : kc.frozen .film = false := by first | with_reducible assumption | rfl) (h_wsa : kc.frozen .wsa = false := by first | with_reducible assumption | rfl) : Ok kc (State.pkgFlip s) := by
  unfold State.pkgFlip
  repeat' first
    | with_reducible assumption | with_reducible apply State.rebindTile_ok | with_reducible apply foldl_ok
    | with_reducible apply foldl_ok1 | with_reducible apply foldl_ok2 | intro _ | split | dsimp only | with_reducible apply okF
    | with_reducible refine okF_film (okF_wsa (okF ?_)) | dsimp only [Ok]

theorem State.unknownFlip_ok (s : State) (hk : Ok kc s) (h_regs : kc.frozen .regs = false := by first | with_reducible assumption | rfl) (h_dmc : kc.frozen .dmc = false := by first | with_reducible assumption | rfl) (h_tiles : kc.frozen .tiles = false := by first | with_reducible assumption | rfl) (h_film : kc.frozen .film = false := by first | with_reducible assumption | rfl) : Ok kc (State.unknownFlip s) := by
  unfold State.unknownFlip
  repeat' first
    | with_reducible assumption | with_reducible apply State.flagIfActive_ok | with_reducible apply State.tileUnknown_ok
    | with_reducible apply State.touchPlanes_ok | with_reducible apply foldl_ok | with_reducible apply foldl_ok1
    | with_reducible apply foldl_ok2 | with_reducible apply ok_ite | intro _ | split | dsimp only | with_reducible apply okF
    | with_reducible refine okF_film (okF ?_) | dsimp only [Ok]

theorem State.tempFlip_ok (s : State) (hk : Ok kc s) (h_film : kc.frozen .film = false := by first | with_reducible assumption | rfl) (h_wsa : kc.frozen .wsa = false := by first | with_reducible assumption | rfl) : Ok kc (State.tempFlip s) := by
  unfold State.tempFlip
  repeat' first
    | with_reducible assumption | with_reducible apply foldl_ok | with_reducible apply foldl_ok1 | with_reducible apply foldl_ok2
    | intro _ | split | dsimp only | with_reducible apply okF | with_reducible refine okF_film (okF_wsa (okF ?_)) | dsimp only [Ok]

theorem State.throttleFlip_ok (s : State) (hk : Ok kc s) (h_wsa : kc.frozen .wsa = false := by first | with_reducible assumption | rfl) : Ok kc (State.throttleFlip s) := by
  unfold State.throttleFlip
  repeat' first
    | with_reducible assumption | intro _ | split | dsimp only | with_reducible apply okF | with_reducible refine okF_wsa (okF ?_)
    | dsimp only [Ok]

theorem State.withholdFlip_ok (s : State) (hk : Ok kc s) (h_regs : kc.frozen .regs = false := by first | with_reducible assumption | rfl) (h_vale : kc.frozen .vale = false := by first | with_reducible assumption | rfl) (h_rc : kc.frozen .rc = false := by first | with_reducible assumption | rfl) : Ok kc (State.withholdFlip s) := by
  unfold State.withholdFlip
  repeat' first
    | with_reducible assumption | with_reducible apply State.count_ok | with_reducible apply State.modGroup_ok
    | with_reducible apply State.railShow_ok | with_reducible apply foldl_ok | with_reducible apply foldl_ok1
    | with_reducible apply foldl_ok2 | with_reducible apply ok_ite | intro _ | split | dsimp only | with_reducible apply okF
    | dsimp only [Ok]

theorem State.sessFlip_ok (s : State) (hk : Ok kc s) (h_sch : kc.frozen .sch = false := by first | with_reducible assumption | rfl) : Ok kc (State.sessFlip s) := by
  unfold State.sessFlip
  repeat' first
    | with_reducible assumption | with_reducible apply State.modSess_ok | with_reducible apply foldl_ok
    | with_reducible apply foldl_ok1 | with_reducible apply foldl_ok2 | with_reducible apply ok_ite | intro _ | split | dsimp only
    | with_reducible apply okF | dsimp only [Ok]

theorem State.railFlip_ok (s : State) (hk : Ok kc s) (h_regs : kc.frozen .regs = false := by first | with_reducible assumption | rfl) (h_glb : kc.frozen .glb = false := by first | with_reducible assumption | rfl) (h_vale : kc.frozen .vale = false := by first | with_reducible assumption | rfl) (h_pwr : kc.frozen .pwr = false := by first | with_reducible assumption | rfl) (h_rc : kc.frozen .rc = false := by first | with_reducible assumption | rfl) (h_film : kc.frozen .film = false := by first | with_reducible assumption | rfl) (h_sch : kc.frozen .sch = false := by first | with_reducible assumption | rfl) : Ok kc (State.railFlip s) := by
  unfold State.railFlip
  repeat' first
    | with_reducible assumption | with_reducible apply State.plateauRails_ok | with_reducible apply State.shutAll_ok
    | with_reducible apply ok_ite | intro _ | split | dsimp only | with_reducible apply okF | dsimp only [Ok]

theorem State.beginFrame_ok (s : State) (hk : Ok kc s) (h_wsa : kc.frozen .wsa = false := by first | with_reducible assumption | rfl) (h_sch : kc.frozen .sch = false := by first | with_reducible assumption | rfl) : Ok kc (State.beginFrame s) := by
  unfold State.beginFrame
  repeat' first
    | with_reducible assumption | intro _ | split | dsimp only | with_reducible apply okF
    | with_reducible refine okF_wsa (okF_sch (okF ?_)) | dsimp only [Ok]

theorem State.pathsFlip_ok (s : State) (hk : Ok kc s) (h_regs : kc.frozen .regs = false := by first | with_reducible assumption | rfl) (h_mp : kc.frozen .mp = false := by first | with_reducible assumption | rfl) : Ok kc (State.pathsFlip s) := by
  unfold State.pathsFlip
  repeat' first
    | with_reducible assumption | with_reducible apply State.sweepSeen_ok | with_reducible apply foldl_ok
    | with_reducible apply foldl_ok1 | with_reducible apply foldl_ok2 | with_reducible apply ok_ite | intro _ | split | dsimp only
    | with_reducible apply okF | dsimp only [Ok]

theorem State.atFlip_ok (s : State) (hk : Ok kc s) (h_inForce : kc.frozen .inForce = false := by first | with_reducible assumption | rfl) (h_regs : kc.frozen .regs = false := by first | with_reducible assumption | rfl) (h_glb : kc.frozen .glb = false := by first | with_reducible assumption | rfl) (h_dmc : kc.frozen .dmc = false := by first | with_reducible assumption | rfl) (h_vale : kc.frozen .vale = false := by first | with_reducible assumption | rfl) (h_qm : kc.frozen .qm = false := by first | with_reducible assumption | rfl) (h_net : kc.frozen .net = false := by first | with_reducible assumption | rfl) (h_pwr : kc.frozen .pwr = false := by first | with_reducible assumption | rfl) (h_rc : kc.frozen .rc = false := by first | with_reducible assumption | rfl) (h_ports : kc.frozen .ports = false := by first | with_reducible assumption | rfl) (h_tiles : kc.frozen .tiles = false := by first | with_reducible assumption | rfl) (h_film : kc.frozen .film = false := by first | with_reducible assumption | rfl) (h_wsa : kc.frozen .wsa = false := by first | with_reducible assumption | rfl) (h_sch : kc.frozen .sch = false := by first | with_reducible assumption | rfl) (h_mp : kc.frozen .mp = false := by first | with_reducible assumption | rfl) (h_out : kc.frozen .out = false := by first | with_reducible assumption | rfl) : Ok kc (State.atFlip s) := by
  unfold State.atFlip
  repeat' first
    | with_reducible assumption | with_reducible apply State.beginFrame_ok | with_reducible apply State.flipDone_ok
    | with_reducible apply State.pathsFlip_ok | with_reducible apply State.pkgFlip_ok | with_reducible apply State.railFlip_ok
    | with_reducible apply State.sessFlip_ok | with_reducible apply State.setsLive_ok | with_reducible apply State.startRenders_ok
    | with_reducible apply State.tempFlip_ok | with_reducible apply State.tfFlip_ok | with_reducible apply State.throttleFlip_ok
    | with_reducible apply State.unknownFlip_ok | with_reducible apply State.withholdFlip_ok | with_reducible apply ok_ite
    | intro _ | split | dsimp only | with_reducible apply okF | dsimp only [Ok]

theorem State.flip_ok (s : State) (hk : Ok kc s) (h_inForce : kc.frozen .inForce = false := by first | with_reducible assumption | rfl) (h_regs : kc.frozen .regs = false := by first | with_reducible assumption | rfl) (h_clk : kc.frozen .clk = false := by first | with_reducible assumption | rfl) (h_time : kc.frozen .time = false := by first | with_reducible assumption | rfl) (h_glb : kc.frozen .glb = false := by first | with_reducible assumption | rfl) (h_dmc : kc.frozen .dmc = false := by first | with_reducible assumption | rfl) (h_vale : kc.frozen .vale = false := by first | with_reducible assumption | rfl) (h_qm : kc.frozen .qm = false := by first | with_reducible assumption | rfl) (h_net : kc.frozen .net = false := by first | with_reducible assumption | rfl) (h_thm : kc.frozen .thm = false := by first | with_reducible assumption | rfl) (h_pwr : kc.frozen .pwr = false := by first | with_reducible assumption | rfl) (h_rc : kc.frozen .rc = false := by first | with_reducible assumption | rfl) (h_ports : kc.frozen .ports = false := by first | with_reducible assumption | rfl) (h_tiles : kc.frozen .tiles = false := by first | with_reducible assumption | rfl) (h_film : kc.frozen .film = false := by first | with_reducible assumption | rfl) (h_wsa : kc.frozen .wsa = false := by first | with_reducible assumption | rfl) (h_sch : kc.frozen .sch = false := by first | with_reducible assumption | rfl) (h_mp : kc.frozen .mp = false := by first | with_reducible assumption | rfl) (h_out : kc.frozen .out = false := by first | with_reducible assumption | rfl) : Ok kc (State.flip s) := by
  unfold State.flip
  repeat' first
    | with_reducible assumption | with_reducible apply State.atFlip_ok | with_reducible apply State.endRenders_ok
    | with_reducible apply State.timeFlip_ok | intro _ | split | dsimp only | with_reducible apply okF
    | with_reducible refine okF_glb (okF ?_) | dsimp only [Ok]

theorem execFlipTick_ok (s : State) (hk : Ok kc s) (h_inForce : kc.frozen .inForce = false := by first | with_reducible assumption | rfl) (h_regs : kc.frozen .regs = false := by first | with_reducible assumption | rfl) (h_clk : kc.frozen .clk = false := by first | with_reducible assumption | rfl) (h_time : kc.frozen .time = false := by first | with_reducible assumption | rfl) (h_glb : kc.frozen .glb = false := by first | with_reducible assumption | rfl) (h_dmc : kc.frozen .dmc = false := by first | with_reducible assumption | rfl) (h_vale : kc.frozen .vale = false := by first | with_reducible assumption | rfl) (h_qm : kc.frozen .qm = false := by first | with_reducible assumption | rfl) (h_net : kc.frozen .net = false := by first | with_reducible assumption | rfl) (h_thm : kc.frozen .thm = false := by first | with_reducible assumption | rfl) (h_pwr : kc.frozen .pwr = false := by first | with_reducible assumption | rfl) (h_rc : kc.frozen .rc = false := by first | with_reducible assumption | rfl) (h_ports : kc.frozen .ports = false := by first | with_reducible assumption | rfl) (h_tiles : kc.frozen .tiles = false := by first | with_reducible assumption | rfl) (h_film : kc.frozen .film = false := by first | with_reducible assumption | rfl) (h_wsa : kc.frozen .wsa = false := by first | with_reducible assumption | rfl) (h_sch : kc.frozen .sch = false := by first | with_reducible assumption | rfl) (h_mp : kc.frozen .mp = false := by first | with_reducible assumption | rfl) (h_out : kc.frozen .out = false := by first | with_reducible assumption | rfl) : OkO kc (execFlipTick s) := by
  unfold execFlipTick
  repeat' first
    | with_reducible assumption | with_reducible apply State.flip_ok | with_reducible apply okO_next
    | with_reducible apply okO_fault | with_reducible apply ok_ite | intro _ | split | dsimp only | with_reducible apply okF
    | dsimp only [Ok]

theorem execTimeStep_ok (s : State) (hk : Ok kc s) (h_inForce : kc.frozen .inForce = false := by first | with_reducible assumption | rfl) (h_regs : kc.frozen .regs = false := by first | with_reducible assumption | rfl) (h_clk : kc.frozen .clk = false := by first | with_reducible assumption | rfl) (h_time : kc.frozen .time = false := by first | with_reducible assumption | rfl) (h_glb : kc.frozen .glb = false := by first | with_reducible assumption | rfl) (h_dmc : kc.frozen .dmc = false := by first | with_reducible assumption | rfl) (h_vale : kc.frozen .vale = false := by first | with_reducible assumption | rfl) (h_qm : kc.frozen .qm = false := by first | with_reducible assumption | rfl) (h_net : kc.frozen .net = false := by first | with_reducible assumption | rfl) (h_thm : kc.frozen .thm = false := by first | with_reducible assumption | rfl) (h_pwr : kc.frozen .pwr = false := by first | with_reducible assumption | rfl) (h_rc : kc.frozen .rc = false := by first | with_reducible assumption | rfl) (h_ports : kc.frozen .ports = false := by first | with_reducible assumption | rfl) (h_tiles : kc.frozen .tiles = false := by first | with_reducible assumption | rfl) (h_film : kc.frozen .film = false := by first | with_reducible assumption | rfl) (h_wsa : kc.frozen .wsa = false := by first | with_reducible assumption | rfl) (h_sch : kc.frozen .sch = false := by first | with_reducible assumption | rfl) (h_mp : kc.frozen .mp = false := by first | with_reducible assumption | rfl) (h_out : kc.frozen .out = false := by first | with_reducible assumption | rfl) : OkO kc (execTimeStep s) := by
  unfold execTimeStep
  repeat' first
    | with_reducible assumption | with_reducible apply State.flip_ok | with_reducible apply okO_next
    | with_reducible apply okO_fault | with_reducible apply ok_ite | intro _ | split | dsimp only | with_reducible apply okF
    | dsimp only [Ok]

theorem execAgeTick_ok (s : State) (hk : Ok kc s) (h_film : kc.frozen .film = false := by first | with_reducible assumption | rfl) (h_sch : kc.frozen .sch = false := by first | with_reducible assumption | rfl) : OkO kc (execAgeTick s) := by
  unfold execAgeTick
  repeat' first
    | with_reducible assumption | with_reducible apply okO_next | with_reducible apply okO_fault | with_reducible apply ok_ite
    | intro _ | split | dsimp only | with_reducible apply okF | with_reducible refine okF_film (okF_sch (okF ?_)) | dsimp only [Ok]

theorem State.entryStep_ok (s : State) (hk : Ok kc s) (h_pwr : kc.frozen .pwr = false := by first | with_reducible assumption | rfl) : Ok kc (State.entryStep s) := by
  unfold State.entryStep
  repeat' first
    | with_reducible assumption | with_reducible apply ok_ite | intro _ | split | dsimp only | with_reducible apply okF
    | with_reducible refine okF_pwr (okF ?_) | dsimp only [Ok]

theorem State.showInSafe_ok (s : State) (hk : Ok kc s) (h_vale : kc.frozen .vale = false := by first | with_reducible assumption | rfl) (h_tiles : kc.frozen .tiles = false := by first | with_reducible assumption | rfl) : Ok kc (State.showInSafe s) := by
  unfold State.showInSafe
  repeat' first
    | with_reducible assumption | with_reducible apply State.showTiles_ok | with_reducible apply ok_ite | intro _ | split
    | dsimp only | with_reducible apply okF | dsimp only [Ok]

theorem execGuardBegin_ok (s : State) (hk : Ok kc s) (h_regs : kc.frozen .regs = false := by first | with_reducible assumption | rfl) (h_clk : kc.frozen .clk = false := by first | with_reducible assumption | rfl) (h_time : kc.frozen .time = false := by first | with_reducible assumption | rfl) (h_glb : kc.frozen .glb = false := by first | with_reducible assumption | rfl) (h_dmc : kc.frozen .dmc = false := by first | with_reducible assumption | rfl) (h_vale : kc.frozen .vale = false := by first | with_reducible assumption | rfl) (h_qm : kc.frozen .qm = false := by first | with_reducible assumption | rfl) (h_pwr : kc.frozen .pwr = false := by first | with_reducible assumption | rfl) (h_ports : kc.frozen .ports = false := by first | with_reducible assumption | rfl) (h_tiles : kc.frozen .tiles = false := by first | with_reducible assumption | rfl) (h_film : kc.frozen .film = false := by first | with_reducible assumption | rfl) (h_wsa : kc.frozen .wsa = false := by first | with_reducible assumption | rfl) (h_sch : kc.frozen .sch = false := by first | with_reducible assumption | rfl) (h_out : kc.frozen .out = false := by first | with_reducible assumption | rfl) : OkO kc (execGuardBegin s) := by
  unfold execGuardBegin
  split
  · exact okO_next hk
  · exact okO_next (State.showInSafe_ok _ (State.dmcGuard_ok _ (State.entryStep_ok _ (State.tfGuard_ok _ (State.wsaGuard_ok _
      (State.advanceWall_ok _ _ hk))))))

theorem execWsaGuardHandoff_ok (s : State) (hk : Ok kc s) (h_regs : kc.frozen .regs = false := by first | with_reducible assumption | rfl) (h_glb : kc.frozen .glb = false := by first | with_reducible assumption | rfl) (h_qm : kc.frozen .qm = false := by first | with_reducible assumption | rfl) (h_rc : kc.frozen .rc = false := by first | with_reducible assumption | rfl) (h_wsa : kc.frozen .wsa = false := by first | with_reducible assumption | rfl) (h_out : kc.frozen .out = false := by first | with_reducible assumption | rfl) : OkO kc (execWsaGuardHandoff s) := by
  unfold execWsaGuardHandoff
  repeat' first
    | with_reducible assumption | with_reducible apply State.latchCharge_ok | with_reducible apply State.takePrediction_ok
    | with_reducible apply okO_next | with_reducible apply okO_fault | with_reducible apply foldl_ok
    | with_reducible apply foldl_ok1 | with_reducible apply foldl_ok2 | with_reducible apply ok_ite | intro _ | split | dsimp only
    | with_reducible apply okF | with_reducible refine okF_wsa (okF ?_) | dsimp only [Ok]


end Sys2Proof.Machine
end

