-- ==== Sys2Proof/Laws/State.lean ====
section
/-! SUPPORT. What each named update of the state leaves as it was, field by field, and what a record reads after it. -/

namespace Sys2Proof.Machine

/-! ### setRing -/

@[simp] theorem State.setRing_regs (s : State) (n : Nat) (r : Ring) : (s.setRing n r).regs = s.regs := rfl
@[simp] theorem State.setRing_time (s : State) (n : Nat) (r : Ring) : (s.setRing n r).time = s.time := rfl
@[simp] theorem State.setRing_net (s : State) (n : Nat) (r : Ring) : (s.setRing n r).net = s.net := rfl
@[simp] theorem State.setRing_thm (s : State) (n : Nat) (r : Ring) : (s.setRing n r).thm = s.thm := rfl
@[simp] theorem State.setRing_pwr (s : State) (n : Nat) (r : Ring) : (s.setRing n r).pwr = s.pwr := rfl
@[simp] theorem State.setRing_glb (s : State) (n : Nat) (r : Ring) : (s.setRing n r).glb = s.glb := rfl
@[simp] theorem State.setRing_flash (s : State) (n : Nat) (r : Ring) : (s.setRing n r).flash = s.flash := rfl
@[simp] theorem State.setRing_otp (s : State) (n : Nat) (r : Ring) : (s.setRing n r).otp = s.otp := rfl
@[simp] theorem State.setRing_rc (s : State) (n : Nat) (r : Ring) : (s.setRing n r).rc = s.rc := rfl
@[simp] theorem State.setRing_fl (s : State) (n : Nat) (r : Ring) : (s.setRing n r).fl = s.fl := rfl
@[simp] theorem State.setRing_dmc (s : State) (n : Nat) (r : Ring) : (s.setRing n r).dmc = s.dmc := rfl
@[simp] theorem State.setRing_vale (s : State) (n : Nat) (r : Ring) : (s.setRing n r).vale = s.vale := rfl
@[simp] theorem State.setRing_ports (s : State) (n : Nat) (r : Ring) : (s.setRing n r).ports = s.ports := rfl
@[simp] theorem State.setRing_tiles (s : State) (n : Nat) (r : Ring) : (s.setRing n r).tiles = s.tiles := rfl
@[simp] theorem State.setRing_hops (s : State) (n : Nat) (r : Ring) : (s.setRing n r).hops = s.hops := rfl
@[simp] theorem State.setRing_bridges (s : State) (n : Nat) (r : Ring) : (s.setRing n r).bridges = s.bridges := rfl
@[simp] theorem State.setRing_film (s : State) (n : Nat) (r : Ring) : (s.setRing n r).film = s.film := rfl
@[simp] theorem State.setRing_wsa (s : State) (n : Nat) (r : Ring) : (s.setRing n r).wsa = s.wsa := rfl
@[simp] theorem State.setRing_sch (s : State) (n : Nat) (r : Ring) : (s.setRing n r).sch = s.sch := rfl
@[simp] theorem State.setRing_mp (s : State) (n : Nat) (r : Ring) : (s.setRing n r).mp = s.mp := rfl
@[simp] theorem State.setRing_clk (s : State) (n : Nat) (r : Ring) : (s.setRing n r).clk = s.clk := rfl
@[simp] theorem State.setRing_free (s : State) (n : Nat) (r : Ring) : (s.setRing n r).free = s.free := rfl
@[simp] theorem State.setRing_out (s : State) (n : Nat) (r : Ring) : (s.setRing n r).out = s.out := rfl
@[simp] theorem State.setRing_pending (s : State) (n : Nat) (r : Ring) : (s.setRing n r).pending = s.pending := rfl
@[simp] theorem State.ring_setRing_same (s : State) (n : Nat) (r : Ring) : (s.setRing n r).ring n = r := tabGet_set_same
theorem State.ring_setRing_other (s : State) (n : Nat) (r : Ring) {q : Nat} (hq : q ≠ n) : (s.setRing n r).ring q = s.ring q := tabGet_set_other hq

/-! ### setPeer -/

@[simp] theorem State.setPeer_regs (s : State) (j : Nat) (p : Peer) : (s.setPeer j p).regs = s.regs := rfl
@[simp] theorem State.setPeer_time (s : State) (j : Nat) (p : Peer) : (s.setPeer j p).time = s.time := rfl
@[simp] theorem State.setPeer_qm (s : State) (j : Nat) (p : Peer) : (s.setPeer j p).qm = s.qm := rfl
@[simp] theorem State.setPeer_thm (s : State) (j : Nat) (p : Peer) : (s.setPeer j p).thm = s.thm := rfl
@[simp] theorem State.setPeer_pwr (s : State) (j : Nat) (p : Peer) : (s.setPeer j p).pwr = s.pwr := rfl
@[simp] theorem State.setPeer_glb (s : State) (j : Nat) (p : Peer) : (s.setPeer j p).glb = s.glb := rfl
@[simp] theorem State.setPeer_flash (s : State) (j : Nat) (p : Peer) : (s.setPeer j p).flash = s.flash := rfl
@[simp] theorem State.setPeer_otp (s : State) (j : Nat) (p : Peer) : (s.setPeer j p).otp = s.otp := rfl
@[simp] theorem State.setPeer_rc (s : State) (j : Nat) (p : Peer) : (s.setPeer j p).rc = s.rc := rfl
@[simp] theorem State.setPeer_fl (s : State) (j : Nat) (p : Peer) : (s.setPeer j p).fl = s.fl := rfl
@[simp] theorem State.setPeer_dmc (s : State) (j : Nat) (p : Peer) : (s.setPeer j p).dmc = s.dmc := rfl
@[simp] theorem State.setPeer_vale (s : State) (j : Nat) (p : Peer) : (s.setPeer j p).vale = s.vale := rfl
@[simp] theorem State.setPeer_ports (s : State) (j : Nat) (p : Peer) : (s.setPeer j p).ports = s.ports := rfl
@[simp] theorem State.setPeer_tiles (s : State) (j : Nat) (p : Peer) : (s.setPeer j p).tiles = s.tiles := rfl
@[simp] theorem State.setPeer_hops (s : State) (j : Nat) (p : Peer) : (s.setPeer j p).hops = s.hops := rfl
@[simp] theorem State.setPeer_bridges (s : State) (j : Nat) (p : Peer) : (s.setPeer j p).bridges = s.bridges := rfl
@[simp] theorem State.setPeer_film (s : State) (j : Nat) (p : Peer) : (s.setPeer j p).film = s.film := rfl
@[simp] theorem State.setPeer_wsa (s : State) (j : Nat) (p : Peer) : (s.setPeer j p).wsa = s.wsa := rfl
@[simp] theorem State.setPeer_sch (s : State) (j : Nat) (p : Peer) : (s.setPeer j p).sch = s.sch := rfl
@[simp] theorem State.setPeer_mp (s : State) (j : Nat) (p : Peer) : (s.setPeer j p).mp = s.mp := rfl
@[simp] theorem State.setPeer_clk (s : State) (j : Nat) (p : Peer) : (s.setPeer j p).clk = s.clk := rfl
@[simp] theorem State.setPeer_free (s : State) (j : Nat) (p : Peer) : (s.setPeer j p).free = s.free := rfl
@[simp] theorem State.setPeer_out (s : State) (j : Nat) (p : Peer) : (s.setPeer j p).out = s.out := rfl
@[simp] theorem State.setPeer_pending (s : State) (j : Nat) (p : Peer) : (s.setPeer j p).pending = s.pending := rfl
@[simp] theorem State.peer_setPeer_same (s : State) (j : Nat) (p : Peer) : (s.setPeer j p).peer j = p := tabGet_set_same
theorem State.peer_setPeer_other (s : State) (j : Nat) (p : Peer) {q : Nat} (hq : q ≠ j) : (s.setPeer j p).peer q = s.peer q := tabGet_set_other hq

/-! ### setMbox -/

@[simp] theorem State.setMbox_regs (s : State) (m : Nat) (b : Mbox) : (s.setMbox m b).regs = s.regs := rfl
@[simp] theorem State.setMbox_time (s : State) (m : Nat) (b : Mbox) : (s.setMbox m b).time = s.time := rfl
@[simp] theorem State.setMbox_qm (s : State) (m : Nat) (b : Mbox) : (s.setMbox m b).qm = s.qm := rfl
@[simp] theorem State.setMbox_thm (s : State) (m : Nat) (b : Mbox) : (s.setMbox m b).thm = s.thm := rfl
@[simp] theorem State.setMbox_pwr (s : State) (m : Nat) (b : Mbox) : (s.setMbox m b).pwr = s.pwr := rfl
@[simp] theorem State.setMbox_glb (s : State) (m : Nat) (b : Mbox) : (s.setMbox m b).glb = s.glb := rfl
@[simp] theorem State.setMbox_flash (s : State) (m : Nat) (b : Mbox) : (s.setMbox m b).flash = s.flash := rfl
@[simp] theorem State.setMbox_otp (s : State) (m : Nat) (b : Mbox) : (s.setMbox m b).otp = s.otp := rfl
@[simp] theorem State.setMbox_rc (s : State) (m : Nat) (b : Mbox) : (s.setMbox m b).rc = s.rc := rfl
@[simp] theorem State.setMbox_fl (s : State) (m : Nat) (b : Mbox) : (s.setMbox m b).fl = s.fl := rfl
@[simp] theorem State.setMbox_dmc (s : State) (m : Nat) (b : Mbox) : (s.setMbox m b).dmc = s.dmc := rfl
@[simp] theorem State.setMbox_vale (s : State) (m : Nat) (b : Mbox) : (s.setMbox m b).vale = s.vale := rfl
@[simp] theorem State.setMbox_ports (s : State) (m : Nat) (b : Mbox) : (s.setMbox m b).ports = s.ports := rfl
@[simp] theorem State.setMbox_tiles (s : State) (m : Nat) (b : Mbox) : (s.setMbox m b).tiles = s.tiles := rfl
@[simp] theorem State.setMbox_hops (s : State) (m : Nat) (b : Mbox) : (s.setMbox m b).hops = s.hops := rfl
@[simp] theorem State.setMbox_bridges (s : State) (m : Nat) (b : Mbox) : (s.setMbox m b).bridges = s.bridges := rfl
@[simp] theorem State.setMbox_film (s : State) (m : Nat) (b : Mbox) : (s.setMbox m b).film = s.film := rfl
@[simp] theorem State.setMbox_wsa (s : State) (m : Nat) (b : Mbox) : (s.setMbox m b).wsa = s.wsa := rfl
@[simp] theorem State.setMbox_sch (s : State) (m : Nat) (b : Mbox) : (s.setMbox m b).sch = s.sch := rfl
@[simp] theorem State.setMbox_mp (s : State) (m : Nat) (b : Mbox) : (s.setMbox m b).mp = s.mp := rfl
@[simp] theorem State.setMbox_clk (s : State) (m : Nat) (b : Mbox) : (s.setMbox m b).clk = s.clk := rfl
@[simp] theorem State.setMbox_free (s : State) (m : Nat) (b : Mbox) : (s.setMbox m b).free = s.free := rfl
@[simp] theorem State.setMbox_out (s : State) (m : Nat) (b : Mbox) : (s.setMbox m b).out = s.out := rfl
@[simp] theorem State.setMbox_pending (s : State) (m : Nat) (b : Mbox) : (s.setMbox m b).pending = s.pending := rfl
@[simp] theorem State.mbox_setMbox_same (s : State) (m : Nat) (b : Mbox) : (s.setMbox m b).mbox m = b := tabGet_set_same
theorem State.mbox_setMbox_other (s : State) (m : Nat) (b : Mbox) {q : Nat} (hq : q ≠ m) : (s.setMbox m b).mbox q = s.mbox q := tabGet_set_other hq

/-! ### setGroup -/

@[simp] theorem State.setGroup_regs (s : State) (g : Nat) (x : Group) : (s.setGroup g x).regs = s.regs := rfl
@[simp] theorem State.setGroup_time (s : State) (g : Nat) (x : Group) : (s.setGroup g x).time = s.time := rfl
@[simp] theorem State.setGroup_qm (s : State) (g : Nat) (x : Group) : (s.setGroup g x).qm = s.qm := rfl
@[simp] theorem State.setGroup_net (s : State) (g : Nat) (x : Group) : (s.setGroup g x).net = s.net := rfl
@[simp] theorem State.setGroup_thm (s : State) (g : Nat) (x : Group) : (s.setGroup g x).thm = s.thm := rfl
@[simp] theorem State.setGroup_pwr (s : State) (g : Nat) (x : Group) : (s.setGroup g x).pwr = s.pwr := rfl
@[simp] theorem State.setGroup_glb (s : State) (g : Nat) (x : Group) : (s.setGroup g x).glb = s.glb := rfl
@[simp] theorem State.setGroup_flash (s : State) (g : Nat) (x : Group) : (s.setGroup g x).flash = s.flash := rfl
@[simp] theorem State.setGroup_otp (s : State) (g : Nat) (x : Group) : (s.setGroup g x).otp = s.otp := rfl
@[simp] theorem State.setGroup_fl (s : State) (g : Nat) (x : Group) : (s.setGroup g x).fl = s.fl := rfl
@[simp] theorem State.setGroup_dmc (s : State) (g : Nat) (x : Group) : (s.setGroup g x).dmc = s.dmc := rfl
@[simp] theorem State.setGroup_vale (s : State) (g : Nat) (x : Group) : (s.setGroup g x).vale = s.vale := rfl
@[simp] theorem State.setGroup_ports (s : State) (g : Nat) (x : Group) : (s.setGroup g x).ports = s.ports := rfl
@[simp] theorem State.setGroup_tiles (s : State) (g : Nat) (x : Group) : (s.setGroup g x).tiles = s.tiles := rfl
@[simp] theorem State.setGroup_hops (s : State) (g : Nat) (x : Group) : (s.setGroup g x).hops = s.hops := rfl
@[simp] theorem State.setGroup_bridges (s : State) (g : Nat) (x : Group) : (s.setGroup g x).bridges = s.bridges := rfl
@[simp] theorem State.setGroup_film (s : State) (g : Nat) (x : Group) : (s.setGroup g x).film = s.film := rfl
@[simp] theorem State.setGroup_wsa (s : State) (g : Nat) (x : Group) : (s.setGroup g x).wsa = s.wsa := rfl
@[simp] theorem State.setGroup_sch (s : State) (g : Nat) (x : Group) : (s.setGroup g x).sch = s.sch := rfl
@[simp] theorem State.setGroup_mp (s : State) (g : Nat) (x : Group) : (s.setGroup g x).mp = s.mp := rfl
@[simp] theorem State.setGroup_clk (s : State) (g : Nat) (x : Group) : (s.setGroup g x).clk = s.clk := rfl
@[simp] theorem State.setGroup_free (s : State) (g : Nat) (x : Group) : (s.setGroup g x).free = s.free := rfl
@[simp] theorem State.setGroup_out (s : State) (g : Nat) (x : Group) : (s.setGroup g x).out = s.out := rfl
@[simp] theorem State.setGroup_pending (s : State) (g : Nat) (x : Group) : (s.setGroup g x).pending = s.pending := rfl
@[simp] theorem State.group_setGroup_same (s : State) (g : Nat) (x : Group) : (s.setGroup g x).group g = x := tabGet_set_same
theorem State.group_setGroup_other (s : State) (g : Nat) (x : Group) {q : Nat} (hq : q ≠ g) : (s.setGroup g x).group q = s.group q := tabGet_set_other hq

/-! ### setZone -/

@[simp] theorem State.setZone_regs (s : State) (z : Nat) (x : Zone) : (s.setZone z x).regs = s.regs := rfl
@[simp] theorem State.setZone_time (s : State) (z : Nat) (x : Zone) : (s.setZone z x).time = s.time := rfl
@[simp] theorem State.setZone_qm (s : State) (z : Nat) (x : Zone) : (s.setZone z x).qm = s.qm := rfl
@[simp] theorem State.setZone_net (s : State) (z : Nat) (x : Zone) : (s.setZone z x).net = s.net := rfl
@[simp] theorem State.setZone_pwr (s : State) (z : Nat) (x : Zone) : (s.setZone z x).pwr = s.pwr := rfl
@[simp] theorem State.setZone_glb (s : State) (z : Nat) (x : Zone) : (s.setZone z x).glb = s.glb := rfl
@[simp] theorem State.setZone_flash (s : State) (z : Nat) (x : Zone) : (s.setZone z x).flash = s.flash := rfl
@[simp] theorem State.setZone_otp (s : State) (z : Nat) (x : Zone) : (s.setZone z x).otp = s.otp := rfl
@[simp] theorem State.setZone_rc (s : State) (z : Nat) (x : Zone) : (s.setZone z x).rc = s.rc := rfl
@[simp] theorem State.setZone_fl (s : State) (z : Nat) (x : Zone) : (s.setZone z x).fl = s.fl := rfl
@[simp] theorem State.setZone_dmc (s : State) (z : Nat) (x : Zone) : (s.setZone z x).dmc = s.dmc := rfl
@[simp] theorem State.setZone_vale (s : State) (z : Nat) (x : Zone) : (s.setZone z x).vale = s.vale := rfl
@[simp] theorem State.setZone_ports (s : State) (z : Nat) (x : Zone) : (s.setZone z x).ports = s.ports := rfl
@[simp] theorem State.setZone_tiles (s : State) (z : Nat) (x : Zone) : (s.setZone z x).tiles = s.tiles := rfl
@[simp] theorem State.setZone_hops (s : State) (z : Nat) (x : Zone) : (s.setZone z x).hops = s.hops := rfl
@[simp] theorem State.setZone_bridges (s : State) (z : Nat) (x : Zone) : (s.setZone z x).bridges = s.bridges := rfl
@[simp] theorem State.setZone_film (s : State) (z : Nat) (x : Zone) : (s.setZone z x).film = s.film := rfl
@[simp] theorem State.setZone_wsa (s : State) (z : Nat) (x : Zone) : (s.setZone z x).wsa = s.wsa := rfl
@[simp] theorem State.setZone_sch (s : State) (z : Nat) (x : Zone) : (s.setZone z x).sch = s.sch := rfl
@[simp] theorem State.setZone_mp (s : State) (z : Nat) (x : Zone) : (s.setZone z x).mp = s.mp := rfl
@[simp] theorem State.setZone_clk (s : State) (z : Nat) (x : Zone) : (s.setZone z x).clk = s.clk := rfl
@[simp] theorem State.setZone_free (s : State) (z : Nat) (x : Zone) : (s.setZone z x).free = s.free := rfl
@[simp] theorem State.setZone_out (s : State) (z : Nat) (x : Zone) : (s.setZone z x).out = s.out := rfl
@[simp] theorem State.setZone_pending (s : State) (z : Nat) (x : Zone) : (s.setZone z x).pending = s.pending := rfl
@[simp] theorem State.zone_setZone_same (s : State) (z : Nat) (x : Zone) : (s.setZone z x).zone z = x := tabGet_set_same
theorem State.zone_setZone_other (s : State) (z : Nat) (x : Zone) {q : Nat} (hq : q ≠ z) : (s.setZone z x).zone q = s.zone q := tabGet_set_other hq

/-! ### setFlZone -/

@[simp] theorem State.setFlZone_regs (s : State) (z : Nat) (x : FlZone) : (s.setFlZone z x).regs = s.regs := rfl
@[simp] theorem State.setFlZone_time (s : State) (z : Nat) (x : FlZone) : (s.setFlZone z x).time = s.time := rfl
@[simp] theorem State.setFlZone_qm (s : State) (z : Nat) (x : FlZone) : (s.setFlZone z x).qm = s.qm := rfl
@[simp] theorem State.setFlZone_net (s : State) (z : Nat) (x : FlZone) : (s.setFlZone z x).net = s.net := rfl
@[simp] theorem State.setFlZone_thm (s : State) (z : Nat) (x : FlZone) : (s.setFlZone z x).thm = s.thm := rfl
@[simp] theorem State.setFlZone_pwr (s : State) (z : Nat) (x : FlZone) : (s.setFlZone z x).pwr = s.pwr := rfl
@[simp] theorem State.setFlZone_glb (s : State) (z : Nat) (x : FlZone) : (s.setFlZone z x).glb = s.glb := rfl
@[simp] theorem State.setFlZone_flash (s : State) (z : Nat) (x : FlZone) : (s.setFlZone z x).flash = s.flash := rfl
@[simp] theorem State.setFlZone_otp (s : State) (z : Nat) (x : FlZone) : (s.setFlZone z x).otp = s.otp := rfl
@[simp] theorem State.setFlZone_rc (s : State) (z : Nat) (x : FlZone) : (s.setFlZone z x).rc = s.rc := rfl
@[simp] theorem State.setFlZone_dmc (s : State) (z : Nat) (x : FlZone) : (s.setFlZone z x).dmc = s.dmc := rfl
@[simp] theorem State.setFlZone_vale (s : State) (z : Nat) (x : FlZone) : (s.setFlZone z x).vale = s.vale := rfl
@[simp] theorem State.setFlZone_ports (s : State) (z : Nat) (x : FlZone) : (s.setFlZone z x).ports = s.ports := rfl
@[simp] theorem State.setFlZone_tiles (s : State) (z : Nat) (x : FlZone) : (s.setFlZone z x).tiles = s.tiles := rfl
@[simp] theorem State.setFlZone_hops (s : State) (z : Nat) (x : FlZone) : (s.setFlZone z x).hops = s.hops := rfl
@[simp] theorem State.setFlZone_bridges (s : State) (z : Nat) (x : FlZone) : (s.setFlZone z x).bridges = s.bridges := rfl
@[simp] theorem State.setFlZone_film (s : State) (z : Nat) (x : FlZone) : (s.setFlZone z x).film = s.film := rfl
@[simp] theorem State.setFlZone_wsa (s : State) (z : Nat) (x : FlZone) : (s.setFlZone z x).wsa = s.wsa := rfl
@[simp] theorem State.setFlZone_sch (s : State) (z : Nat) (x : FlZone) : (s.setFlZone z x).sch = s.sch := rfl
@[simp] theorem State.setFlZone_mp (s : State) (z : Nat) (x : FlZone) : (s.setFlZone z x).mp = s.mp := rfl
@[simp] theorem State.setFlZone_clk (s : State) (z : Nat) (x : FlZone) : (s.setFlZone z x).clk = s.clk := rfl
@[simp] theorem State.setFlZone_free (s : State) (z : Nat) (x : FlZone) : (s.setFlZone z x).free = s.free := rfl
@[simp] theorem State.setFlZone_out (s : State) (z : Nat) (x : FlZone) : (s.setFlZone z x).out = s.out := rfl
@[simp] theorem State.setFlZone_pending (s : State) (z : Nat) (x : FlZone) : (s.setFlZone z x).pending = s.pending := rfl
@[simp] theorem State.flZone_setFlZone_same (s : State) (z : Nat) (x : FlZone) : (s.setFlZone z x).flZone z = x := tabGet_set_same
theorem State.flZone_setFlZone_other (s : State) (z : Nat) (x : FlZone) {q : Nat} (hq : q ≠ z) : (s.setFlZone z x).flZone q = s.flZone q := tabGet_set_other hq

/-! ### setFlTile -/

@[simp] theorem State.setFlTile_regs (s : State) (i : Nat) (x : FlTile) : (s.setFlTile i x).regs = s.regs := rfl
@[simp] theorem State.setFlTile_time (s : State) (i : Nat) (x : FlTile) : (s.setFlTile i x).time = s.time := rfl
@[simp] theorem State.setFlTile_qm (s : State) (i : Nat) (x : FlTile) : (s.setFlTile i x).qm = s.qm := rfl
@[simp] theorem State.setFlTile_net (s : State) (i : Nat) (x : FlTile) : (s.setFlTile i x).net = s.net := rfl
@[simp] theorem State.setFlTile_thm (s : State) (i : Nat) (x : FlTile) : (s.setFlTile i x).thm = s.thm := rfl
@[simp] theorem State.setFlTile_pwr (s : State) (i : Nat) (x : FlTile) : (s.setFlTile i x).pwr = s.pwr := rfl
@[simp] theorem State.setFlTile_glb (s : State) (i : Nat) (x : FlTile) : (s.setFlTile i x).glb = s.glb := rfl
@[simp] theorem State.setFlTile_flash (s : State) (i : Nat) (x : FlTile) : (s.setFlTile i x).flash = s.flash := rfl
@[simp] theorem State.setFlTile_otp (s : State) (i : Nat) (x : FlTile) : (s.setFlTile i x).otp = s.otp := rfl
@[simp] theorem State.setFlTile_rc (s : State) (i : Nat) (x : FlTile) : (s.setFlTile i x).rc = s.rc := rfl
@[simp] theorem State.setFlTile_dmc (s : State) (i : Nat) (x : FlTile) : (s.setFlTile i x).dmc = s.dmc := rfl
@[simp] theorem State.setFlTile_vale (s : State) (i : Nat) (x : FlTile) : (s.setFlTile i x).vale = s.vale := rfl
@[simp] theorem State.setFlTile_ports (s : State) (i : Nat) (x : FlTile) : (s.setFlTile i x).ports = s.ports := rfl
@[simp] theorem State.setFlTile_tiles (s : State) (i : Nat) (x : FlTile) : (s.setFlTile i x).tiles = s.tiles := rfl
@[simp] theorem State.setFlTile_hops (s : State) (i : Nat) (x : FlTile) : (s.setFlTile i x).hops = s.hops := rfl
@[simp] theorem State.setFlTile_bridges (s : State) (i : Nat) (x : FlTile) : (s.setFlTile i x).bridges = s.bridges := rfl
@[simp] theorem State.setFlTile_film (s : State) (i : Nat) (x : FlTile) : (s.setFlTile i x).film = s.film := rfl
@[simp] theorem State.setFlTile_wsa (s : State) (i : Nat) (x : FlTile) : (s.setFlTile i x).wsa = s.wsa := rfl
@[simp] theorem State.setFlTile_sch (s : State) (i : Nat) (x : FlTile) : (s.setFlTile i x).sch = s.sch := rfl
@[simp] theorem State.setFlTile_mp (s : State) (i : Nat) (x : FlTile) : (s.setFlTile i x).mp = s.mp := rfl
@[simp] theorem State.setFlTile_clk (s : State) (i : Nat) (x : FlTile) : (s.setFlTile i x).clk = s.clk := rfl
@[simp] theorem State.setFlTile_free (s : State) (i : Nat) (x : FlTile) : (s.setFlTile i x).free = s.free := rfl
@[simp] theorem State.setFlTile_out (s : State) (i : Nat) (x : FlTile) : (s.setFlTile i x).out = s.out := rfl
@[simp] theorem State.setFlTile_pending (s : State) (i : Nat) (x : FlTile) : (s.setFlTile i x).pending = s.pending := rfl
@[simp] theorem State.flTile_setFlTile_same (s : State) (i : Nat) (x : FlTile) : (s.setFlTile i x).flTile i = x := tabGet_set_same
theorem State.flTile_setFlTile_other (s : State) (i : Nat) (x : FlTile) {q : Nat} (hq : q ≠ i) : (s.setFlTile i x).flTile q = s.flTile q := tabGet_set_other hq

/-! ### setChan -/

@[simp] theorem State.setChan_regs (s : State) (c : Nat) (x : Chan) : (s.setChan c x).regs = s.regs := rfl
@[simp] theorem State.setChan_time (s : State) (c : Nat) (x : Chan) : (s.setChan c x).time = s.time := rfl
@[simp] theorem State.setChan_qm (s : State) (c : Nat) (x : Chan) : (s.setChan c x).qm = s.qm := rfl
@[simp] theorem State.setChan_net (s : State) (c : Nat) (x : Chan) : (s.setChan c x).net = s.net := rfl
@[simp] theorem State.setChan_thm (s : State) (c : Nat) (x : Chan) : (s.setChan c x).thm = s.thm := rfl
@[simp] theorem State.setChan_pwr (s : State) (c : Nat) (x : Chan) : (s.setChan c x).pwr = s.pwr := rfl
@[simp] theorem State.setChan_glb (s : State) (c : Nat) (x : Chan) : (s.setChan c x).glb = s.glb := rfl
@[simp] theorem State.setChan_flash (s : State) (c : Nat) (x : Chan) : (s.setChan c x).flash = s.flash := rfl
@[simp] theorem State.setChan_otp (s : State) (c : Nat) (x : Chan) : (s.setChan c x).otp = s.otp := rfl
@[simp] theorem State.setChan_rc (s : State) (c : Nat) (x : Chan) : (s.setChan c x).rc = s.rc := rfl
@[simp] theorem State.setChan_fl (s : State) (c : Nat) (x : Chan) : (s.setChan c x).fl = s.fl := rfl
@[simp] theorem State.setChan_vale (s : State) (c : Nat) (x : Chan) : (s.setChan c x).vale = s.vale := rfl
@[simp] theorem State.setChan_ports (s : State) (c : Nat) (x : Chan) : (s.setChan c x).ports = s.ports := rfl
@[simp] theorem State.setChan_tiles (s : State) (c : Nat) (x : Chan) : (s.setChan c x).tiles = s.tiles := rfl
@[simp] theorem State.setChan_hops (s : State) (c : Nat) (x : Chan) : (s.setChan c x).hops = s.hops := rfl
@[simp] theorem State.setChan_bridges (s : State) (c : Nat) (x : Chan) : (s.setChan c x).bridges = s.bridges := rfl
@[simp] theorem State.setChan_film (s : State) (c : Nat) (x : Chan) : (s.setChan c x).film = s.film := rfl
@[simp] theorem State.setChan_wsa (s : State) (c : Nat) (x : Chan) : (s.setChan c x).wsa = s.wsa := rfl
@[simp] theorem State.setChan_sch (s : State) (c : Nat) (x : Chan) : (s.setChan c x).sch = s.sch := rfl
@[simp] theorem State.setChan_mp (s : State) (c : Nat) (x : Chan) : (s.setChan c x).mp = s.mp := rfl
@[simp] theorem State.setChan_clk (s : State) (c : Nat) (x : Chan) : (s.setChan c x).clk = s.clk := rfl
@[simp] theorem State.setChan_free (s : State) (c : Nat) (x : Chan) : (s.setChan c x).free = s.free := rfl
@[simp] theorem State.setChan_out (s : State) (c : Nat) (x : Chan) : (s.setChan c x).out = s.out := rfl
@[simp] theorem State.setChan_pending (s : State) (c : Nat) (x : Chan) : (s.setChan c x).pending = s.pending := rfl
@[simp] theorem State.chan_setChan_same (s : State) (c : Nat) (x : Chan) : (s.setChan c x).chan c = x := tabGet_set_same
theorem State.chan_setChan_other (s : State) (c : Nat) (x : Chan) {q : Nat} (hq : q ≠ c) : (s.setChan c x).chan q = s.chan q := tabGet_set_other hq

/-! ### setBank -/

@[simp] theorem State.setBank_regs (s : State) (k : Nat) (x : Bank) : (s.setBank k x).regs = s.regs := rfl
@[simp] theorem State.setBank_time (s : State) (k : Nat) (x : Bank) : (s.setBank k x).time = s.time := rfl
@[simp] theorem State.setBank_qm (s : State) (k : Nat) (x : Bank) : (s.setBank k x).qm = s.qm := rfl
@[simp] theorem State.setBank_net (s : State) (k : Nat) (x : Bank) : (s.setBank k x).net = s.net := rfl
@[simp] theorem State.setBank_thm (s : State) (k : Nat) (x : Bank) : (s.setBank k x).thm = s.thm := rfl
@[simp] theorem State.setBank_pwr (s : State) (k : Nat) (x : Bank) : (s.setBank k x).pwr = s.pwr := rfl
@[simp] theorem State.setBank_glb (s : State) (k : Nat) (x : Bank) : (s.setBank k x).glb = s.glb := rfl
@[simp] theorem State.setBank_flash (s : State) (k : Nat) (x : Bank) : (s.setBank k x).flash = s.flash := rfl
@[simp] theorem State.setBank_otp (s : State) (k : Nat) (x : Bank) : (s.setBank k x).otp = s.otp := rfl
@[simp] theorem State.setBank_rc (s : State) (k : Nat) (x : Bank) : (s.setBank k x).rc = s.rc := rfl
@[simp] theorem State.setBank_fl (s : State) (k : Nat) (x : Bank) : (s.setBank k x).fl = s.fl := rfl
@[simp] theorem State.setBank_dmc (s : State) (k : Nat) (x : Bank) : (s.setBank k x).dmc = s.dmc := rfl
@[simp] theorem State.setBank_ports (s : State) (k : Nat) (x : Bank) : (s.setBank k x).ports = s.ports := rfl
@[simp] theorem State.setBank_tiles (s : State) (k : Nat) (x : Bank) : (s.setBank k x).tiles = s.tiles := rfl
@[simp] theorem State.setBank_hops (s : State) (k : Nat) (x : Bank) : (s.setBank k x).hops = s.hops := rfl
@[simp] theorem State.setBank_bridges (s : State) (k : Nat) (x : Bank) : (s.setBank k x).bridges = s.bridges := rfl
@[simp] theorem State.setBank_film (s : State) (k : Nat) (x : Bank) : (s.setBank k x).film = s.film := rfl
@[simp] theorem State.setBank_wsa (s : State) (k : Nat) (x : Bank) : (s.setBank k x).wsa = s.wsa := rfl
@[simp] theorem State.setBank_sch (s : State) (k : Nat) (x : Bank) : (s.setBank k x).sch = s.sch := rfl
@[simp] theorem State.setBank_mp (s : State) (k : Nat) (x : Bank) : (s.setBank k x).mp = s.mp := rfl
@[simp] theorem State.setBank_clk (s : State) (k : Nat) (x : Bank) : (s.setBank k x).clk = s.clk := rfl
@[simp] theorem State.setBank_free (s : State) (k : Nat) (x : Bank) : (s.setBank k x).free = s.free := rfl
@[simp] theorem State.setBank_out (s : State) (k : Nat) (x : Bank) : (s.setBank k x).out = s.out := rfl
@[simp] theorem State.setBank_pending (s : State) (k : Nat) (x : Bank) : (s.setBank k x).pending = s.pending := rfl
@[simp] theorem State.bank_setBank_same (s : State) (k : Nat) (x : Bank) : (s.setBank k x).bank k = x := tabGet_set_same
theorem State.bank_setBank_other (s : State) (k : Nat) (x : Bank) {q : Nat} (hq : q ≠ k) : (s.setBank k x).bank q = s.bank q := tabGet_set_other hq

/-! ### setPort -/

@[simp] theorem State.setPort_regs (s : State) (p : Nat) (x : Port) : (s.setPort p x).regs = s.regs := rfl
@[simp] theorem State.setPort_time (s : State) (p : Nat) (x : Port) : (s.setPort p x).time = s.time := rfl
@[simp] theorem State.setPort_qm (s : State) (p : Nat) (x : Port) : (s.setPort p x).qm = s.qm := rfl
@[simp] theorem State.setPort_net (s : State) (p : Nat) (x : Port) : (s.setPort p x).net = s.net := rfl
@[simp] theorem State.setPort_thm (s : State) (p : Nat) (x : Port) : (s.setPort p x).thm = s.thm := rfl
@[simp] theorem State.setPort_pwr (s : State) (p : Nat) (x : Port) : (s.setPort p x).pwr = s.pwr := rfl
@[simp] theorem State.setPort_glb (s : State) (p : Nat) (x : Port) : (s.setPort p x).glb = s.glb := rfl
@[simp] theorem State.setPort_flash (s : State) (p : Nat) (x : Port) : (s.setPort p x).flash = s.flash := rfl
@[simp] theorem State.setPort_otp (s : State) (p : Nat) (x : Port) : (s.setPort p x).otp = s.otp := rfl
@[simp] theorem State.setPort_rc (s : State) (p : Nat) (x : Port) : (s.setPort p x).rc = s.rc := rfl
@[simp] theorem State.setPort_fl (s : State) (p : Nat) (x : Port) : (s.setPort p x).fl = s.fl := rfl
@[simp] theorem State.setPort_dmc (s : State) (p : Nat) (x : Port) : (s.setPort p x).dmc = s.dmc := rfl
@[simp] theorem State.setPort_vale (s : State) (p : Nat) (x : Port) : (s.setPort p x).vale = s.vale := rfl
@[simp] theorem State.setPort_tiles (s : State) (p : Nat) (x : Port) : (s.setPort p x).tiles = s.tiles := rfl
@[simp] theorem State.setPort_hops (s : State) (p : Nat) (x : Port) : (s.setPort p x).hops = s.hops := rfl
@[simp] theorem State.setPort_bridges (s : State) (p : Nat) (x : Port) : (s.setPort p x).bridges = s.bridges := rfl
@[simp] theorem State.setPort_film (s : State) (p : Nat) (x : Port) : (s.setPort p x).film = s.film := rfl
@[simp] theorem State.setPort_wsa (s : State) (p : Nat) (x : Port) : (s.setPort p x).wsa = s.wsa := rfl
@[simp] theorem State.setPort_sch (s : State) (p : Nat) (x : Port) : (s.setPort p x).sch = s.sch := rfl
@[simp] theorem State.setPort_mp (s : State) (p : Nat) (x : Port) : (s.setPort p x).mp = s.mp := rfl
@[simp] theorem State.setPort_clk (s : State) (p : Nat) (x : Port) : (s.setPort p x).clk = s.clk := rfl
@[simp] theorem State.setPort_free (s : State) (p : Nat) (x : Port) : (s.setPort p x).free = s.free := rfl
@[simp] theorem State.setPort_out (s : State) (p : Nat) (x : Port) : (s.setPort p x).out = s.out := rfl
@[simp] theorem State.setPort_pending (s : State) (p : Nat) (x : Port) : (s.setPort p x).pending = s.pending := rfl
@[simp] theorem State.port_setPort_same (s : State) (p : Nat) (x : Port) : (s.setPort p x).port p = x := tabGet_set_same
theorem State.port_setPort_other (s : State) (p : Nat) (x : Port) {q : Nat} (hq : q ≠ p) : (s.setPort p x).port q = s.port q := tabGet_set_other hq

/-! ### setTile -/

@[simp] theorem State.setTile_regs (s : State) (i : Nat) (x : TileSlot) : (s.setTile i x).regs = s.regs := rfl
@[simp] theorem State.setTile_time (s : State) (i : Nat) (x : TileSlot) : (s.setTile i x).time = s.time := rfl
@[simp] theorem State.setTile_qm (s : State) (i : Nat) (x : TileSlot) : (s.setTile i x).qm = s.qm := rfl
@[simp] theorem State.setTile_net (s : State) (i : Nat) (x : TileSlot) : (s.setTile i x).net = s.net := rfl
@[simp] theorem State.setTile_thm (s : State) (i : Nat) (x : TileSlot) : (s.setTile i x).thm = s.thm := rfl
@[simp] theorem State.setTile_pwr (s : State) (i : Nat) (x : TileSlot) : (s.setTile i x).pwr = s.pwr := rfl
@[simp] theorem State.setTile_glb (s : State) (i : Nat) (x : TileSlot) : (s.setTile i x).glb = s.glb := rfl
@[simp] theorem State.setTile_flash (s : State) (i : Nat) (x : TileSlot) : (s.setTile i x).flash = s.flash := rfl
@[simp] theorem State.setTile_otp (s : State) (i : Nat) (x : TileSlot) : (s.setTile i x).otp = s.otp := rfl
@[simp] theorem State.setTile_rc (s : State) (i : Nat) (x : TileSlot) : (s.setTile i x).rc = s.rc := rfl
@[simp] theorem State.setTile_fl (s : State) (i : Nat) (x : TileSlot) : (s.setTile i x).fl = s.fl := rfl
@[simp] theorem State.setTile_dmc (s : State) (i : Nat) (x : TileSlot) : (s.setTile i x).dmc = s.dmc := rfl
@[simp] theorem State.setTile_vale (s : State) (i : Nat) (x : TileSlot) : (s.setTile i x).vale = s.vale := rfl
@[simp] theorem State.setTile_ports (s : State) (i : Nat) (x : TileSlot) : (s.setTile i x).ports = s.ports := rfl
@[simp] theorem State.setTile_hops (s : State) (i : Nat) (x : TileSlot) : (s.setTile i x).hops = s.hops := rfl
@[simp] theorem State.setTile_bridges (s : State) (i : Nat) (x : TileSlot) : (s.setTile i x).bridges = s.bridges := rfl
@[simp] theorem State.setTile_film (s : State) (i : Nat) (x : TileSlot) : (s.setTile i x).film = s.film := rfl
@[simp] theorem State.setTile_wsa (s : State) (i : Nat) (x : TileSlot) : (s.setTile i x).wsa = s.wsa := rfl
@[simp] theorem State.setTile_sch (s : State) (i : Nat) (x : TileSlot) : (s.setTile i x).sch = s.sch := rfl
@[simp] theorem State.setTile_mp (s : State) (i : Nat) (x : TileSlot) : (s.setTile i x).mp = s.mp := rfl
@[simp] theorem State.setTile_clk (s : State) (i : Nat) (x : TileSlot) : (s.setTile i x).clk = s.clk := rfl
@[simp] theorem State.setTile_free (s : State) (i : Nat) (x : TileSlot) : (s.setTile i x).free = s.free := rfl
@[simp] theorem State.setTile_out (s : State) (i : Nat) (x : TileSlot) : (s.setTile i x).out = s.out := rfl
@[simp] theorem State.setTile_pending (s : State) (i : Nat) (x : TileSlot) : (s.setTile i x).pending = s.pending := rfl
@[simp] theorem State.tile_setTile_same (s : State) (i : Nat) (x : TileSlot) : (s.setTile i x).tile i = x := tabGet_set_same
theorem State.tile_setTile_other (s : State) (i : Nat) (x : TileSlot) {q : Nat} (hq : q ≠ i) : (s.setTile i x).tile q = s.tile q := tabGet_set_other hq

/-! ### setHop -/

@[simp] theorem State.setHop_regs (s : State) (h : Nat) (x : Hop) : (s.setHop h x).regs = s.regs := rfl
@[simp] theorem State.setHop_time (s : State) (h : Nat) (x : Hop) : (s.setHop h x).time = s.time := rfl
@[simp] theorem State.setHop_qm (s : State) (h : Nat) (x : Hop) : (s.setHop h x).qm = s.qm := rfl
@[simp] theorem State.setHop_net (s : State) (h : Nat) (x : Hop) : (s.setHop h x).net = s.net := rfl
@[simp] theorem State.setHop_thm (s : State) (h : Nat) (x : Hop) : (s.setHop h x).thm = s.thm := rfl
@[simp] theorem State.setHop_pwr (s : State) (h : Nat) (x : Hop) : (s.setHop h x).pwr = s.pwr := rfl
@[simp] theorem State.setHop_glb (s : State) (h : Nat) (x : Hop) : (s.setHop h x).glb = s.glb := rfl
@[simp] theorem State.setHop_flash (s : State) (h : Nat) (x : Hop) : (s.setHop h x).flash = s.flash := rfl
@[simp] theorem State.setHop_otp (s : State) (h : Nat) (x : Hop) : (s.setHop h x).otp = s.otp := rfl
@[simp] theorem State.setHop_rc (s : State) (h : Nat) (x : Hop) : (s.setHop h x).rc = s.rc := rfl
@[simp] theorem State.setHop_fl (s : State) (h : Nat) (x : Hop) : (s.setHop h x).fl = s.fl := rfl
@[simp] theorem State.setHop_dmc (s : State) (h : Nat) (x : Hop) : (s.setHop h x).dmc = s.dmc := rfl
@[simp] theorem State.setHop_vale (s : State) (h : Nat) (x : Hop) : (s.setHop h x).vale = s.vale := rfl
@[simp] theorem State.setHop_ports (s : State) (h : Nat) (x : Hop) : (s.setHop h x).ports = s.ports := rfl
@[simp] theorem State.setHop_tiles (s : State) (h : Nat) (x : Hop) : (s.setHop h x).tiles = s.tiles := rfl
@[simp] theorem State.setHop_bridges (s : State) (h : Nat) (x : Hop) : (s.setHop h x).bridges = s.bridges := rfl
@[simp] theorem State.setHop_film (s : State) (h : Nat) (x : Hop) : (s.setHop h x).film = s.film := rfl
@[simp] theorem State.setHop_wsa (s : State) (h : Nat) (x : Hop) : (s.setHop h x).wsa = s.wsa := rfl
@[simp] theorem State.setHop_sch (s : State) (h : Nat) (x : Hop) : (s.setHop h x).sch = s.sch := rfl
@[simp] theorem State.setHop_mp (s : State) (h : Nat) (x : Hop) : (s.setHop h x).mp = s.mp := rfl
@[simp] theorem State.setHop_clk (s : State) (h : Nat) (x : Hop) : (s.setHop h x).clk = s.clk := rfl
@[simp] theorem State.setHop_free (s : State) (h : Nat) (x : Hop) : (s.setHop h x).free = s.free := rfl
@[simp] theorem State.setHop_out (s : State) (h : Nat) (x : Hop) : (s.setHop h x).out = s.out := rfl
@[simp] theorem State.setHop_pending (s : State) (h : Nat) (x : Hop) : (s.setHop h x).pending = s.pending := rfl
@[simp] theorem State.hop_setHop_same (s : State) (h : Nat) (x : Hop) : (s.setHop h x).hop h = x := tabGet_set_same
theorem State.hop_setHop_other (s : State) (h : Nat) (x : Hop) {q : Nat} (hq : q ≠ h) : (s.setHop h x).hop q = s.hop q := tabGet_set_other hq

/-! ### setBridge -/

@[simp] theorem State.setBridge_regs (s : State) (b : Nat) (x : Bridge) : (s.setBridge b x).regs = s.regs := rfl
@[simp] theorem State.setBridge_time (s : State) (b : Nat) (x : Bridge) : (s.setBridge b x).time = s.time := rfl
@[simp] theorem State.setBridge_qm (s : State) (b : Nat) (x : Bridge) : (s.setBridge b x).qm = s.qm := rfl
@[simp] theorem State.setBridge_net (s : State) (b : Nat) (x : Bridge) : (s.setBridge b x).net = s.net := rfl
@[simp] theorem State.setBridge_thm (s : State) (b : Nat) (x : Bridge) : (s.setBridge b x).thm = s.thm := rfl
@[simp] theorem State.setBridge_pwr (s : State) (b : Nat) (x : Bridge) : (s.setBridge b x).pwr = s.pwr := rfl
@[simp] theorem State.setBridge_glb (s : State) (b : Nat) (x : Bridge) : (s.setBridge b x).glb = s.glb := rfl
@[simp] theorem State.setBridge_flash (s : State) (b : Nat) (x : Bridge) : (s.setBridge b x).flash = s.flash := rfl
@[simp] theorem State.setBridge_otp (s : State) (b : Nat) (x : Bridge) : (s.setBridge b x).otp = s.otp := rfl
@[simp] theorem State.setBridge_rc (s : State) (b : Nat) (x : Bridge) : (s.setBridge b x).rc = s.rc := rfl
@[simp] theorem State.setBridge_fl (s : State) (b : Nat) (x : Bridge) : (s.setBridge b x).fl = s.fl := rfl
@[simp] theorem State.setBridge_dmc (s : State) (b : Nat) (x : Bridge) : (s.setBridge b x).dmc = s.dmc := rfl
@[simp] theorem State.setBridge_vale (s : State) (b : Nat) (x : Bridge) : (s.setBridge b x).vale = s.vale := rfl
@[simp] theorem State.setBridge_ports (s : State) (b : Nat) (x : Bridge) : (s.setBridge b x).ports = s.ports := rfl
@[simp] theorem State.setBridge_tiles (s : State) (b : Nat) (x : Bridge) : (s.setBridge b x).tiles = s.tiles := rfl
@[simp] theorem State.setBridge_hops (s : State) (b : Nat) (x : Bridge) : (s.setBridge b x).hops = s.hops := rfl
@[simp] theorem State.setBridge_film (s : State) (b : Nat) (x : Bridge) : (s.setBridge b x).film = s.film := rfl
@[simp] theorem State.setBridge_wsa (s : State) (b : Nat) (x : Bridge) : (s.setBridge b x).wsa = s.wsa := rfl
@[simp] theorem State.setBridge_sch (s : State) (b : Nat) (x : Bridge) : (s.setBridge b x).sch = s.sch := rfl
@[simp] theorem State.setBridge_mp (s : State) (b : Nat) (x : Bridge) : (s.setBridge b x).mp = s.mp := rfl
@[simp] theorem State.setBridge_clk (s : State) (b : Nat) (x : Bridge) : (s.setBridge b x).clk = s.clk := rfl
@[simp] theorem State.setBridge_free (s : State) (b : Nat) (x : Bridge) : (s.setBridge b x).free = s.free := rfl
@[simp] theorem State.setBridge_out (s : State) (b : Nat) (x : Bridge) : (s.setBridge b x).out = s.out := rfl
@[simp] theorem State.setBridge_pending (s : State) (b : Nat) (x : Bridge) : (s.setBridge b x).pending = s.pending := rfl
@[simp] theorem State.bridge_setBridge_same (s : State) (b : Nat) (x : Bridge) : (s.setBridge b x).bridge b = x := tabGet_set_same
theorem State.bridge_setBridge_other (s : State) (b : Nat) (x : Bridge) {q : Nat} (hq : q ≠ b) : (s.setBridge b x).bridge q = s.bridge q := tabGet_set_other hq

/-! ### setSess -/

@[simp] theorem State.setSess_regs (s : State) (n : Nat) (x : Option Sess) : (s.setSess n x).regs = s.regs := rfl
@[simp] theorem State.setSess_time (s : State) (n : Nat) (x : Option Sess) : (s.setSess n x).time = s.time := rfl
@[simp] theorem State.setSess_qm (s : State) (n : Nat) (x : Option Sess) : (s.setSess n x).qm = s.qm := rfl
@[simp] theorem State.setSess_net (s : State) (n : Nat) (x : Option Sess) : (s.setSess n x).net = s.net := rfl
@[simp] theorem State.setSess_thm (s : State) (n : Nat) (x : Option Sess) : (s.setSess n x).thm = s.thm := rfl
@[simp] theorem State.setSess_pwr (s : State) (n : Nat) (x : Option Sess) : (s.setSess n x).pwr = s.pwr := rfl
@[simp] theorem State.setSess_glb (s : State) (n : Nat) (x : Option Sess) : (s.setSess n x).glb = s.glb := rfl
@[simp] theorem State.setSess_flash (s : State) (n : Nat) (x : Option Sess) : (s.setSess n x).flash = s.flash := rfl
@[simp] theorem State.setSess_otp (s : State) (n : Nat) (x : Option Sess) : (s.setSess n x).otp = s.otp := rfl
@[simp] theorem State.setSess_rc (s : State) (n : Nat) (x : Option Sess) : (s.setSess n x).rc = s.rc := rfl
@[simp] theorem State.setSess_fl (s : State) (n : Nat) (x : Option Sess) : (s.setSess n x).fl = s.fl := rfl
@[simp] theorem State.setSess_dmc (s : State) (n : Nat) (x : Option Sess) : (s.setSess n x).dmc = s.dmc := rfl
@[simp] theorem State.setSess_vale (s : State) (n : Nat) (x : Option Sess) : (s.setSess n x).vale = s.vale := rfl
@[simp] theorem State.setSess_ports (s : State) (n : Nat) (x : Option Sess) : (s.setSess n x).ports = s.ports := rfl
@[simp] theorem State.setSess_tiles (s : State) (n : Nat) (x : Option Sess) : (s.setSess n x).tiles = s.tiles := rfl
@[simp] theorem State.setSess_hops (s : State) (n : Nat) (x : Option Sess) : (s.setSess n x).hops = s.hops := rfl
@[simp] theorem State.setSess_bridges (s : State) (n : Nat) (x : Option Sess) : (s.setSess n x).bridges = s.bridges := rfl
@[simp] theorem State.setSess_film (s : State) (n : Nat) (x : Option Sess) : (s.setSess n x).film = s.film := rfl
@[simp] theorem State.setSess_wsa (s : State) (n : Nat) (x : Option Sess) : (s.setSess n x).wsa = s.wsa := rfl
@[simp] theorem State.setSess_mp (s : State) (n : Nat) (x : Option Sess) : (s.setSess n x).mp = s.mp := rfl
@[simp] theorem State.setSess_clk (s : State) (n : Nat) (x : Option Sess) : (s.setSess n x).clk = s.clk := rfl
@[simp] theorem State.setSess_free (s : State) (n : Nat) (x : Option Sess) : (s.setSess n x).free = s.free := rfl
@[simp] theorem State.setSess_out (s : State) (n : Nat) (x : Option Sess) : (s.setSess n x).out = s.out := rfl
@[simp] theorem State.setSess_pending (s : State) (n : Nat) (x : Option Sess) : (s.setSess n x).pending = s.pending := rfl
@[simp] theorem State.sess_setSess_same (s : State) (n : Nat) (x : Option Sess) : (s.setSess n x).sess n = x := tabGet_set_same
theorem State.sess_setSess_other (s : State) (n : Nat) (x : Option Sess) {q : Nat} (hq : q ≠ n) : (s.setSess n x).sess q = s.sess q := tabGet_set_other hq

/-! ### setSrc -/

@[simp] theorem State.setSrc_regs (s : State) (n : Nat) (x : SrcS) : (s.setSrc n x).regs = s.regs := rfl
@[simp] theorem State.setSrc_time (s : State) (n : Nat) (x : SrcS) : (s.setSrc n x).time = s.time := rfl
@[simp] theorem State.setSrc_qm (s : State) (n : Nat) (x : SrcS) : (s.setSrc n x).qm = s.qm := rfl
@[simp] theorem State.setSrc_net (s : State) (n : Nat) (x : SrcS) : (s.setSrc n x).net = s.net := rfl
@[simp] theorem State.setSrc_thm (s : State) (n : Nat) (x : SrcS) : (s.setSrc n x).thm = s.thm := rfl
@[simp] theorem State.setSrc_pwr (s : State) (n : Nat) (x : SrcS) : (s.setSrc n x).pwr = s.pwr := rfl
@[simp] theorem State.setSrc_glb (s : State) (n : Nat) (x : SrcS) : (s.setSrc n x).glb = s.glb := rfl
@[simp] theorem State.setSrc_flash (s : State) (n : Nat) (x : SrcS) : (s.setSrc n x).flash = s.flash := rfl
@[simp] theorem State.setSrc_otp (s : State) (n : Nat) (x : SrcS) : (s.setSrc n x).otp = s.otp := rfl
@[simp] theorem State.setSrc_rc (s : State) (n : Nat) (x : SrcS) : (s.setSrc n x).rc = s.rc := rfl
@[simp] theorem State.setSrc_fl (s : State) (n : Nat) (x : SrcS) : (s.setSrc n x).fl = s.fl := rfl
@[simp] theorem State.setSrc_dmc (s : State) (n : Nat) (x : SrcS) : (s.setSrc n x).dmc = s.dmc := rfl
@[simp] theorem State.setSrc_vale (s : State) (n : Nat) (x : SrcS) : (s.setSrc n x).vale = s.vale := rfl
@[simp] theorem State.setSrc_ports (s : State) (n : Nat) (x : SrcS) : (s.setSrc n x).ports = s.ports := rfl
@[simp] theorem State.setSrc_tiles (s : State) (n : Nat) (x : SrcS) : (s.setSrc n x).tiles = s.tiles := rfl
@[simp] theorem State.setSrc_hops (s : State) (n : Nat) (x : SrcS) : (s.setSrc n x).hops = s.hops := rfl
@[simp] theorem State.setSrc_bridges (s : State) (n : Nat) (x : SrcS) : (s.setSrc n x).bridges = s.bridges := rfl
@[simp] theorem State.setSrc_film (s : State) (n : Nat) (x : SrcS) : (s.setSrc n x).film = s.film := rfl
@[simp] theorem State.setSrc_wsa (s : State) (n : Nat) (x : SrcS) : (s.setSrc n x).wsa = s.wsa := rfl
@[simp] theorem State.setSrc_sch (s : State) (n : Nat) (x : SrcS) : (s.setSrc n x).sch = s.sch := rfl
@[simp] theorem State.setSrc_clk (s : State) (n : Nat) (x : SrcS) : (s.setSrc n x).clk = s.clk := rfl
@[simp] theorem State.setSrc_free (s : State) (n : Nat) (x : SrcS) : (s.setSrc n x).free = s.free := rfl
@[simp] theorem State.setSrc_out (s : State) (n : Nat) (x : SrcS) : (s.setSrc n x).out = s.out := rfl
@[simp] theorem State.setSrc_pending (s : State) (n : Nat) (x : SrcS) : (s.setSrc n x).pending = s.pending := rfl
@[simp] theorem State.src_setSrc_same (s : State) (n : Nat) (x : SrcS) : (s.setSrc n x).src n = x := tabGet_set_same
theorem State.src_setSrc_other (s : State) (n : Nat) (x : SrcS) {q : Nat} (hq : q ≠ n) : (s.setSrc n x).src q = s.src q := tabGet_set_other hq

/-! ### setCluster -/

@[simp] theorem State.setCluster_regs (s : State) (n : Nat) (x : Cluster) : (s.setCluster n x).regs = s.regs := rfl
@[simp] theorem State.setCluster_time (s : State) (n : Nat) (x : Cluster) : (s.setCluster n x).time = s.time := rfl
@[simp] theorem State.setCluster_qm (s : State) (n : Nat) (x : Cluster) : (s.setCluster n x).qm = s.qm := rfl
@[simp] theorem State.setCluster_net (s : State) (n : Nat) (x : Cluster) : (s.setCluster n x).net = s.net := rfl
@[simp] theorem State.setCluster_thm (s : State) (n : Nat) (x : Cluster) : (s.setCluster n x).thm = s.thm := rfl
@[simp] theorem State.setCluster_pwr (s : State) (n : Nat) (x : Cluster) : (s.setCluster n x).pwr = s.pwr := rfl
@[simp] theorem State.setCluster_glb (s : State) (n : Nat) (x : Cluster) : (s.setCluster n x).glb = s.glb := rfl
@[simp] theorem State.setCluster_flash (s : State) (n : Nat) (x : Cluster) : (s.setCluster n x).flash = s.flash := rfl
@[simp] theorem State.setCluster_otp (s : State) (n : Nat) (x : Cluster) : (s.setCluster n x).otp = s.otp := rfl
@[simp] theorem State.setCluster_rc (s : State) (n : Nat) (x : Cluster) : (s.setCluster n x).rc = s.rc := rfl
@[simp] theorem State.setCluster_fl (s : State) (n : Nat) (x : Cluster) : (s.setCluster n x).fl = s.fl := rfl
@[simp] theorem State.setCluster_dmc (s : State) (n : Nat) (x : Cluster) : (s.setCluster n x).dmc = s.dmc := rfl
@[simp] theorem State.setCluster_vale (s : State) (n : Nat) (x : Cluster) : (s.setCluster n x).vale = s.vale := rfl
@[simp] theorem State.setCluster_ports (s : State) (n : Nat) (x : Cluster) : (s.setCluster n x).ports = s.ports := rfl
@[simp] theorem State.setCluster_tiles (s : State) (n : Nat) (x : Cluster) : (s.setCluster n x).tiles = s.tiles := rfl
@[simp] theorem State.setCluster_hops (s : State) (n : Nat) (x : Cluster) : (s.setCluster n x).hops = s.hops := rfl
@[simp] theorem State.setCluster_bridges (s : State) (n : Nat) (x : Cluster) : (s.setCluster n x).bridges = s.bridges := rfl
@[simp] theorem State.setCluster_film (s : State) (n : Nat) (x : Cluster) : (s.setCluster n x).film = s.film := rfl
@[simp] theorem State.setCluster_mp (s : State) (n : Nat) (x : Cluster) : (s.setCluster n x).mp = s.mp := rfl
@[simp] theorem State.setCluster_sch (s : State) (n : Nat) (x : Cluster) : (s.setCluster n x).sch = s.sch := rfl
@[simp] theorem State.setCluster_clk (s : State) (n : Nat) (x : Cluster) : (s.setCluster n x).clk = s.clk := rfl
@[simp] theorem State.setCluster_free (s : State) (n : Nat) (x : Cluster) : (s.setCluster n x).free = s.free := rfl
@[simp] theorem State.setCluster_out (s : State) (n : Nat) (x : Cluster) : (s.setCluster n x).out = s.out := rfl
@[simp] theorem State.setCluster_pending (s : State) (n : Nat) (x : Cluster) : (s.setCluster n x).pending = s.pending := rfl
@[simp] theorem State.cluster_setCluster_same (s : State) (n : Nat) (x : Cluster) : (s.setCluster n x).cluster n = x := tabGet_set_same
theorem State.cluster_setCluster_other (s : State) (n : Nat) (x : Cluster) {q : Nat} (hq : q ≠ n) : (s.setCluster n x).cluster q = s.cluster q := tabGet_set_other hq

/-! ### setSlot -/

@[simp] theorem State.setSlot_regs (s : State) (g i : Nat) (x : Slot) : (s.setSlot g i x).regs = s.regs := rfl
@[simp] theorem State.setSlot_time (s : State) (g i : Nat) (x : Slot) : (s.setSlot g i x).time = s.time := rfl
@[simp] theorem State.setSlot_qm (s : State) (g i : Nat) (x : Slot) : (s.setSlot g i x).qm = s.qm := rfl
@[simp] theorem State.setSlot_net (s : State) (g i : Nat) (x : Slot) : (s.setSlot g i x).net = s.net := rfl
@[simp] theorem State.setSlot_thm (s : State) (g i : Nat) (x : Slot) : (s.setSlot g i x).thm = s.thm := rfl
@[simp] theorem State.setSlot_pwr (s : State) (g i : Nat) (x : Slot) : (s.setSlot g i x).pwr = s.pwr := rfl
@[simp] theorem State.setSlot_glb (s : State) (g i : Nat) (x : Slot) : (s.setSlot g i x).glb = s.glb := rfl
@[simp] theorem State.setSlot_flash (s : State) (g i : Nat) (x : Slot) : (s.setSlot g i x).flash = s.flash := rfl
@[simp] theorem State.setSlot_otp (s : State) (g i : Nat) (x : Slot) : (s.setSlot g i x).otp = s.otp := rfl
@[simp] theorem State.setSlot_fl (s : State) (g i : Nat) (x : Slot) : (s.setSlot g i x).fl = s.fl := rfl
@[simp] theorem State.setSlot_dmc (s : State) (g i : Nat) (x : Slot) : (s.setSlot g i x).dmc = s.dmc := rfl
@[simp] theorem State.setSlot_vale (s : State) (g i : Nat) (x : Slot) : (s.setSlot g i x).vale = s.vale := rfl
@[simp] theorem State.setSlot_ports (s : State) (g i : Nat) (x : Slot) : (s.setSlot g i x).ports = s.ports := rfl
@[simp] theorem State.setSlot_tiles (s : State) (g i : Nat) (x : Slot) : (s.setSlot g i x).tiles = s.tiles := rfl
@[simp] theorem State.setSlot_hops (s : State) (g i : Nat) (x : Slot) : (s.setSlot g i x).hops = s.hops := rfl
@[simp] theorem State.setSlot_bridges (s : State) (g i : Nat) (x : Slot) : (s.setSlot g i x).bridges = s.bridges := rfl
@[simp] theorem State.setSlot_film (s : State) (g i : Nat) (x : Slot) : (s.setSlot g i x).film = s.film := rfl
@[simp] theorem State.setSlot_wsa (s : State) (g i : Nat) (x : Slot) : (s.setSlot g i x).wsa = s.wsa := rfl
@[simp] theorem State.setSlot_sch (s : State) (g i : Nat) (x : Slot) : (s.setSlot g i x).sch = s.sch := rfl
@[simp] theorem State.setSlot_mp (s : State) (g i : Nat) (x : Slot) : (s.setSlot g i x).mp = s.mp := rfl
@[simp] theorem State.setSlot_clk (s : State) (g i : Nat) (x : Slot) : (s.setSlot g i x).clk = s.clk := rfl
@[simp] theorem State.setSlot_free (s : State) (g i : Nat) (x : Slot) : (s.setSlot g i x).free = s.free := rfl
@[simp] theorem State.setSlot_out (s : State) (g i : Nat) (x : Slot) : (s.setSlot g i x).out = s.out := rfl
@[simp] theorem State.setSlot_pending (s : State) (g i : Nat) (x : Slot) : (s.setSlot g i x).pending = s.pending := rfl

/-! ### emit -/

@[simp] theorem State.emit_regs (s : State) (o : Out) : (s.emit o).regs = s.regs := rfl
@[simp] theorem State.emit_time (s : State) (o : Out) : (s.emit o).time = s.time := rfl
@[simp] theorem State.emit_qm (s : State) (o : Out) : (s.emit o).qm = s.qm := rfl
@[simp] theorem State.emit_net (s : State) (o : Out) : (s.emit o).net = s.net := rfl
@[simp] theorem State.emit_thm (s : State) (o : Out) : (s.emit o).thm = s.thm := rfl
@[simp] theorem State.emit_pwr (s : State) (o : Out) : (s.emit o).pwr = s.pwr := rfl
@[simp] theorem State.emit_glb (s : State) (o : Out) : (s.emit o).glb = s.glb := rfl
@[simp] theorem State.emit_flash (s : State) (o : Out) : (s.emit o).flash = s.flash := rfl
@[simp] theorem State.emit_otp (s : State) (o : Out) : (s.emit o).otp = s.otp := rfl
@[simp] theorem State.emit_rc (s : State) (o : Out) : (s.emit o).rc = s.rc := rfl
@[simp] theorem State.emit_fl (s : State) (o : Out) : (s.emit o).fl = s.fl := rfl
@[simp] theorem State.emit_dmc (s : State) (o : Out) : (s.emit o).dmc = s.dmc := rfl
@[simp] theorem State.emit_vale (s : State) (o : Out) : (s.emit o).vale = s.vale := rfl
@[simp] theorem State.emit_ports (s : State) (o : Out) : (s.emit o).ports = s.ports := rfl
@[simp] theorem State.emit_tiles (s : State) (o : Out) : (s.emit o).tiles = s.tiles := rfl
@[simp] theorem State.emit_hops (s : State) (o : Out) : (s.emit o).hops = s.hops := rfl
@[simp] theorem State.emit_bridges (s : State) (o : Out) : (s.emit o).bridges = s.bridges := rfl
@[simp] theorem State.emit_film (s : State) (o : Out) : (s.emit o).film = s.film := rfl
@[simp] theorem State.emit_wsa (s : State) (o : Out) : (s.emit o).wsa = s.wsa := rfl
@[simp] theorem State.emit_sch (s : State) (o : Out) : (s.emit o).sch = s.sch := rfl
@[simp] theorem State.emit_mp (s : State) (o : Out) : (s.emit o).mp = s.mp := rfl
@[simp] theorem State.emit_clk (s : State) (o : Out) : (s.emit o).clk = s.clk := rfl
@[simp] theorem State.emit_free (s : State) (o : Out) : (s.emit o).free = s.free := rfl
@[simp] theorem State.emit_pending (s : State) (o : Out) : (s.emit o).pending = s.pending := rfl

/-! ### bump -/

@[simp] theorem State.bump_regs (s : State) : s.bump.regs = s.regs := rfl
@[simp] theorem State.bump_time (s : State) : s.bump.time = s.time := rfl
@[simp] theorem State.bump_qm (s : State) : s.bump.qm = s.qm := rfl
@[simp] theorem State.bump_net (s : State) : s.bump.net = s.net := rfl
@[simp] theorem State.bump_thm (s : State) : s.bump.thm = s.thm := rfl
@[simp] theorem State.bump_pwr (s : State) : s.bump.pwr = s.pwr := rfl
@[simp] theorem State.bump_glb (s : State) : s.bump.glb = s.glb := rfl
@[simp] theorem State.bump_flash (s : State) : s.bump.flash = s.flash := rfl
@[simp] theorem State.bump_otp (s : State) : s.bump.otp = s.otp := rfl
@[simp] theorem State.bump_rc (s : State) : s.bump.rc = s.rc := rfl
@[simp] theorem State.bump_fl (s : State) : s.bump.fl = s.fl := rfl
@[simp] theorem State.bump_dmc (s : State) : s.bump.dmc = s.dmc := rfl
@[simp] theorem State.bump_vale (s : State) : s.bump.vale = s.vale := rfl
@[simp] theorem State.bump_ports (s : State) : s.bump.ports = s.ports := rfl
@[simp] theorem State.bump_tiles (s : State) : s.bump.tiles = s.tiles := rfl
@[simp] theorem State.bump_hops (s : State) : s.bump.hops = s.hops := rfl
@[simp] theorem State.bump_bridges (s : State) : s.bump.bridges = s.bridges := rfl
@[simp] theorem State.bump_film (s : State) : s.bump.film = s.film := rfl
@[simp] theorem State.bump_wsa (s : State) : s.bump.wsa = s.wsa := rfl
@[simp] theorem State.bump_sch (s : State) : s.bump.sch = s.sch := rfl
@[simp] theorem State.bump_mp (s : State) : s.bump.mp = s.mp := rfl
@[simp] theorem State.bump_clk (s : State) : s.bump.clk = s.clk := rfl
@[simp] theorem State.bump_out (s : State) : s.bump.out = s.out := rfl
@[simp] theorem State.bump_pending (s : State) : s.bump.pending = s.pending := rfl

/-! ### acceptCommit -/

@[simp] theorem State.acceptCommit_time (s : State) (u : Nat) : (s.acceptCommit u).time = s.time := rfl
@[simp] theorem State.acceptCommit_qm (s : State) (u : Nat) : (s.acceptCommit u).qm = s.qm := rfl
@[simp] theorem State.acceptCommit_net (s : State) (u : Nat) : (s.acceptCommit u).net = s.net := rfl
@[simp] theorem State.acceptCommit_thm (s : State) (u : Nat) : (s.acceptCommit u).thm = s.thm := rfl
@[simp] theorem State.acceptCommit_pwr (s : State) (u : Nat) : (s.acceptCommit u).pwr = s.pwr := rfl
@[simp] theorem State.acceptCommit_glb (s : State) (u : Nat) : (s.acceptCommit u).glb = s.glb := rfl
@[simp] theorem State.acceptCommit_flash (s : State) (u : Nat) : (s.acceptCommit u).flash = s.flash := rfl
@[simp] theorem State.acceptCommit_otp (s : State) (u : Nat) : (s.acceptCommit u).otp = s.otp := rfl
@[simp] theorem State.acceptCommit_rc (s : State) (u : Nat) : (s.acceptCommit u).rc = s.rc := rfl
@[simp] theorem State.acceptCommit_fl (s : State) (u : Nat) : (s.acceptCommit u).fl = s.fl := rfl
@[simp] theorem State.acceptCommit_dmc (s : State) (u : Nat) : (s.acceptCommit u).dmc = s.dmc := rfl
@[simp] theorem State.acceptCommit_vale (s : State) (u : Nat) : (s.acceptCommit u).vale = s.vale := rfl
@[simp] theorem State.acceptCommit_ports (s : State) (u : Nat) : (s.acceptCommit u).ports = s.ports := rfl
@[simp] theorem State.acceptCommit_tiles (s : State) (u : Nat) : (s.acceptCommit u).tiles = s.tiles := rfl
@[simp] theorem State.acceptCommit_hops (s : State) (u : Nat) : (s.acceptCommit u).hops = s.hops := rfl
@[simp] theorem State.acceptCommit_bridges (s : State) (u : Nat) : (s.acceptCommit u).bridges = s.bridges := rfl
@[simp] theorem State.acceptCommit_film (s : State) (u : Nat) : (s.acceptCommit u).film = s.film := rfl
@[simp] theorem State.acceptCommit_wsa (s : State) (u : Nat) : (s.acceptCommit u).wsa = s.wsa := rfl
@[simp] theorem State.acceptCommit_sch (s : State) (u : Nat) : (s.acceptCommit u).sch = s.sch := rfl
@[simp] theorem State.acceptCommit_mp (s : State) (u : Nat) : (s.acceptCommit u).mp = s.mp := rfl
@[simp] theorem State.acceptCommit_clk (s : State) (u : Nat) : (s.acceptCommit u).clk = s.clk := rfl
@[simp] theorem State.acceptCommit_free (s : State) (u : Nat) : (s.acceptCommit u).free = s.free := rfl
@[simp] theorem State.acceptCommit_out (s : State) (u : Nat) : (s.acceptCommit u).out = s.out := rfl
@[simp] theorem State.acceptCommit_pending (s : State) (u : Nat) : (s.acceptCommit u).pending = s.pending := rfl

/-! ### rejectCommit -/

@[simp] theorem State.rejectCommit_time (s : State) (u : Nat) : (s.rejectCommit u).time = s.time := rfl
@[simp] theorem State.rejectCommit_qm (s : State) (u : Nat) : (s.rejectCommit u).qm = s.qm := rfl
@[simp] theorem State.rejectCommit_net (s : State) (u : Nat) : (s.rejectCommit u).net = s.net := rfl
@[simp] theorem State.rejectCommit_thm (s : State) (u : Nat) : (s.rejectCommit u).thm = s.thm := rfl
@[simp] theorem State.rejectCommit_pwr (s : State) (u : Nat) : (s.rejectCommit u).pwr = s.pwr := rfl
@[simp] theorem State.rejectCommit_glb (s : State) (u : Nat) : (s.rejectCommit u).glb = s.glb := rfl
@[simp] theorem State.rejectCommit_flash (s : State) (u : Nat) : (s.rejectCommit u).flash = s.flash := rfl
@[simp] theorem State.rejectCommit_otp (s : State) (u : Nat) : (s.rejectCommit u).otp = s.otp := rfl
@[simp] theorem State.rejectCommit_rc (s : State) (u : Nat) : (s.rejectCommit u).rc = s.rc := rfl
@[simp] theorem State.rejectCommit_fl (s : State) (u : Nat) : (s.rejectCommit u).fl = s.fl := rfl
@[simp] theorem State.rejectCommit_dmc (s : State) (u : Nat) : (s.rejectCommit u).dmc = s.dmc := rfl
@[simp] theorem State.rejectCommit_vale (s : State) (u : Nat) : (s.rejectCommit u).vale = s.vale := rfl
@[simp] theorem State.rejectCommit_ports (s : State) (u : Nat) : (s.rejectCommit u).ports = s.ports := rfl
@[simp] theorem State.rejectCommit_tiles (s : State) (u : Nat) : (s.rejectCommit u).tiles = s.tiles := rfl
@[simp] theorem State.rejectCommit_hops (s : State) (u : Nat) : (s.rejectCommit u).hops = s.hops := rfl
@[simp] theorem State.rejectCommit_bridges (s : State) (u : Nat) : (s.rejectCommit u).bridges = s.bridges := rfl
@[simp] theorem State.rejectCommit_film (s : State) (u : Nat) : (s.rejectCommit u).film = s.film := rfl
@[simp] theorem State.rejectCommit_wsa (s : State) (u : Nat) : (s.rejectCommit u).wsa = s.wsa := rfl
@[simp] theorem State.rejectCommit_sch (s : State) (u : Nat) : (s.rejectCommit u).sch = s.sch := rfl
@[simp] theorem State.rejectCommit_mp (s : State) (u : Nat) : (s.rejectCommit u).mp = s.mp := rfl
@[simp] theorem State.rejectCommit_clk (s : State) (u : Nat) : (s.rejectCommit u).clk = s.clk := rfl
@[simp] theorem State.rejectCommit_free (s : State) (u : Nat) : (s.rejectCommit u).free = s.free := rfl
@[simp] theorem State.rejectCommit_out (s : State) (u : Nat) : (s.rejectCommit u).out = s.out := rfl
@[simp] theorem State.rejectCommit_pending (s : State) (u : Nat) : (s.rejectCommit u).pending = s.pending := rfl

/-! ### clearRejected -/

@[simp] theorem State.clearRejected_time (s : State) (u : Nat) : (s.clearRejected u).time = s.time := rfl
@[simp] theorem State.clearRejected_qm (s : State) (u : Nat) : (s.clearRejected u).qm = s.qm := rfl
@[simp] theorem State.clearRejected_net (s : State) (u : Nat) : (s.clearRejected u).net = s.net := rfl
@[simp] theorem State.clearRejected_thm (s : State) (u : Nat) : (s.clearRejected u).thm = s.thm := rfl
@[simp] theorem State.clearRejected_pwr (s : State) (u : Nat) : (s.clearRejected u).pwr = s.pwr := rfl
@[simp] theorem State.clearRejected_glb (s : State) (u : Nat) : (s.clearRejected u).glb = s.glb := rfl
@[simp] theorem State.clearRejected_flash (s : State) (u : Nat) : (s.clearRejected u).flash = s.flash := rfl
@[simp] theorem State.clearRejected_otp (s : State) (u : Nat) : (s.clearRejected u).otp = s.otp := rfl
@[simp] theorem State.clearRejected_rc (s : State) (u : Nat) : (s.clearRejected u).rc = s.rc := rfl
@[simp] theorem State.clearRejected_fl (s : State) (u : Nat) : (s.clearRejected u).fl = s.fl := rfl
@[simp] theorem State.clearRejected_dmc (s : State) (u : Nat) : (s.clearRejected u).dmc = s.dmc := rfl
@[simp] theorem State.clearRejected_vale (s : State) (u : Nat) : (s.clearRejected u).vale = s.vale := rfl
@[simp] theorem State.clearRejected_ports (s : State) (u : Nat) : (s.clearRejected u).ports = s.ports := rfl
@[simp] theorem State.clearRejected_tiles (s : State) (u : Nat) : (s.clearRejected u).tiles = s.tiles := rfl
@[simp] theorem State.clearRejected_hops (s : State) (u : Nat) : (s.clearRejected u).hops = s.hops := rfl
@[simp] theorem State.clearRejected_bridges (s : State) (u : Nat) : (s.clearRejected u).bridges = s.bridges := rfl
@[simp] theorem State.clearRejected_film (s : State) (u : Nat) : (s.clearRejected u).film = s.film := rfl
@[simp] theorem State.clearRejected_wsa (s : State) (u : Nat) : (s.clearRejected u).wsa = s.wsa := rfl
@[simp] theorem State.clearRejected_sch (s : State) (u : Nat) : (s.clearRejected u).sch = s.sch := rfl
@[simp] theorem State.clearRejected_mp (s : State) (u : Nat) : (s.clearRejected u).mp = s.mp := rfl
@[simp] theorem State.clearRejected_clk (s : State) (u : Nat) : (s.clearRejected u).clk = s.clk := rfl
@[simp] theorem State.clearRejected_free (s : State) (u : Nat) : (s.clearRejected u).free = s.free := rfl
@[simp] theorem State.clearRejected_out (s : State) (u : Nat) : (s.clearRejected u).out = s.out := rfl
@[simp] theorem State.clearRejected_pending (s : State) (u : Nat) : (s.clearRejected u).pending = s.pending := rfl

/-! ### count -/

@[simp] theorem State.count_time (s : State) (o k : Nat) : (s.count o k).time = s.time := rfl
@[simp] theorem State.count_qm (s : State) (o k : Nat) : (s.count o k).qm = s.qm := rfl
@[simp] theorem State.count_net (s : State) (o k : Nat) : (s.count o k).net = s.net := rfl
@[simp] theorem State.count_thm (s : State) (o k : Nat) : (s.count o k).thm = s.thm := rfl
@[simp] theorem State.count_pwr (s : State) (o k : Nat) : (s.count o k).pwr = s.pwr := rfl
@[simp] theorem State.count_glb (s : State) (o k : Nat) : (s.count o k).glb = s.glb := rfl
@[simp] theorem State.count_flash (s : State) (o k : Nat) : (s.count o k).flash = s.flash := rfl
@[simp] theorem State.count_otp (s : State) (o k : Nat) : (s.count o k).otp = s.otp := rfl
@[simp] theorem State.count_rc (s : State) (o k : Nat) : (s.count o k).rc = s.rc := rfl
@[simp] theorem State.count_fl (s : State) (o k : Nat) : (s.count o k).fl = s.fl := rfl
@[simp] theorem State.count_dmc (s : State) (o k : Nat) : (s.count o k).dmc = s.dmc := rfl
@[simp] theorem State.count_vale (s : State) (o k : Nat) : (s.count o k).vale = s.vale := rfl
@[simp] theorem State.count_ports (s : State) (o k : Nat) : (s.count o k).ports = s.ports := rfl
@[simp] theorem State.count_tiles (s : State) (o k : Nat) : (s.count o k).tiles = s.tiles := rfl
@[simp] theorem State.count_hops (s : State) (o k : Nat) : (s.count o k).hops = s.hops := rfl
@[simp] theorem State.count_bridges (s : State) (o k : Nat) : (s.count o k).bridges = s.bridges := rfl
@[simp] theorem State.count_film (s : State) (o k : Nat) : (s.count o k).film = s.film := rfl
@[simp] theorem State.count_wsa (s : State) (o k : Nat) : (s.count o k).wsa = s.wsa := rfl
@[simp] theorem State.count_sch (s : State) (o k : Nat) : (s.count o k).sch = s.sch := rfl
@[simp] theorem State.count_mp (s : State) (o k : Nat) : (s.count o k).mp = s.mp := rfl
@[simp] theorem State.count_clk (s : State) (o k : Nat) : (s.count o k).clk = s.clk := rfl
@[simp] theorem State.count_free (s : State) (o k : Nat) : (s.count o k).free = s.free := rfl
@[simp] theorem State.count_out (s : State) (o k : Nat) : (s.count o k).out = s.out := rfl
@[simp] theorem State.count_pending (s : State) (o k : Nat) : (s.count o k).pending = s.pending := rfl

/-! ### clearCnt -/

@[simp] theorem State.clearCnt_time (s : State) (a b : Nat) : (s.clearCnt a b).time = s.time := rfl
@[simp] theorem State.clearCnt_qm (s : State) (a b : Nat) : (s.clearCnt a b).qm = s.qm := rfl
@[simp] theorem State.clearCnt_net (s : State) (a b : Nat) : (s.clearCnt a b).net = s.net := rfl
@[simp] theorem State.clearCnt_thm (s : State) (a b : Nat) : (s.clearCnt a b).thm = s.thm := rfl
@[simp] theorem State.clearCnt_pwr (s : State) (a b : Nat) : (s.clearCnt a b).pwr = s.pwr := rfl
@[simp] theorem State.clearCnt_glb (s : State) (a b : Nat) : (s.clearCnt a b).glb = s.glb := rfl
@[simp] theorem State.clearCnt_flash (s : State) (a b : Nat) : (s.clearCnt a b).flash = s.flash := rfl
@[simp] theorem State.clearCnt_otp (s : State) (a b : Nat) : (s.clearCnt a b).otp = s.otp := rfl
@[simp] theorem State.clearCnt_rc (s : State) (a b : Nat) : (s.clearCnt a b).rc = s.rc := rfl
@[simp] theorem State.clearCnt_fl (s : State) (a b : Nat) : (s.clearCnt a b).fl = s.fl := rfl
@[simp] theorem State.clearCnt_dmc (s : State) (a b : Nat) : (s.clearCnt a b).dmc = s.dmc := rfl
@[simp] theorem State.clearCnt_vale (s : State) (a b : Nat) : (s.clearCnt a b).vale = s.vale := rfl
@[simp] theorem State.clearCnt_ports (s : State) (a b : Nat) : (s.clearCnt a b).ports = s.ports := rfl
@[simp] theorem State.clearCnt_tiles (s : State) (a b : Nat) : (s.clearCnt a b).tiles = s.tiles := rfl
@[simp] theorem State.clearCnt_hops (s : State) (a b : Nat) : (s.clearCnt a b).hops = s.hops := rfl
@[simp] theorem State.clearCnt_bridges (s : State) (a b : Nat) : (s.clearCnt a b).bridges = s.bridges := rfl
@[simp] theorem State.clearCnt_film (s : State) (a b : Nat) : (s.clearCnt a b).film = s.film := rfl
@[simp] theorem State.clearCnt_wsa (s : State) (a b : Nat) : (s.clearCnt a b).wsa = s.wsa := rfl
@[simp] theorem State.clearCnt_sch (s : State) (a b : Nat) : (s.clearCnt a b).sch = s.sch := rfl
@[simp] theorem State.clearCnt_mp (s : State) (a b : Nat) : (s.clearCnt a b).mp = s.mp := rfl
@[simp] theorem State.clearCnt_clk (s : State) (a b : Nat) : (s.clearCnt a b).clk = s.clk := rfl
@[simp] theorem State.clearCnt_free (s : State) (a b : Nat) : (s.clearCnt a b).free = s.free := rfl
@[simp] theorem State.clearCnt_out (s : State) (a b : Nat) : (s.clearCnt a b).out = s.out := rfl
@[simp] theorem State.clearCnt_pending (s : State) (a b : Nat) : (s.clearCnt a b).pending = s.pending := rfl

/-! ### putReg: a write stores in one set, and in nothing else -/

@[simp] theorem State.putReg_time (s : State) (a v : Nat) : (s.putReg a v).time = s.time := by unfold State.putReg; dsimp only; split <;> rfl
@[simp] theorem State.putReg_qm (s : State) (a v : Nat) : (s.putReg a v).qm = s.qm := by unfold State.putReg; dsimp only; split <;> rfl
@[simp] theorem State.putReg_net (s : State) (a v : Nat) : (s.putReg a v).net = s.net := by unfold State.putReg; dsimp only; split <;> rfl
@[simp] theorem State.putReg_thm (s : State) (a v : Nat) : (s.putReg a v).thm = s.thm := by unfold State.putReg; dsimp only; split <;> rfl
@[simp] theorem State.putReg_pwr (s : State) (a v : Nat) : (s.putReg a v).pwr = s.pwr := by unfold State.putReg; dsimp only; split <;> rfl
@[simp] theorem State.putReg_glb (s : State) (a v : Nat) : (s.putReg a v).glb = s.glb := by unfold State.putReg; dsimp only; split <;> rfl
@[simp] theorem State.putReg_flash (s : State) (a v : Nat) : (s.putReg a v).flash = s.flash := by unfold State.putReg; dsimp only; split <;> rfl
@[simp] theorem State.putReg_otp (s : State) (a v : Nat) : (s.putReg a v).otp = s.otp := by unfold State.putReg; dsimp only; split <;> rfl
@[simp] theorem State.putReg_rc (s : State) (a v : Nat) : (s.putReg a v).rc = s.rc := by unfold State.putReg; dsimp only; split <;> rfl
@[simp] theorem State.putReg_fl (s : State) (a v : Nat) : (s.putReg a v).fl = s.fl := by unfold State.putReg; dsimp only; split <;> rfl
@[simp] theorem State.putReg_dmc (s : State) (a v : Nat) : (s.putReg a v).dmc = s.dmc := by unfold State.putReg; dsimp only; split <;> rfl
@[simp] theorem State.putReg_vale (s : State) (a v : Nat) : (s.putReg a v).vale = s.vale := by unfold State.putReg; dsimp only; split <;> rfl
@[simp] theorem State.putReg_ports (s : State) (a v : Nat) : (s.putReg a v).ports = s.ports := by unfold State.putReg; dsimp only; split <;> rfl
@[simp] theorem State.putReg_tiles (s : State) (a v : Nat) : (s.putReg a v).tiles = s.tiles := by unfold State.putReg; dsimp only; split <;> rfl
@[simp] theorem State.putReg_hops (s : State) (a v : Nat) : (s.putReg a v).hops = s.hops := by unfold State.putReg; dsimp only; split <;> rfl
@[simp] theorem State.putReg_bridges (s : State) (a v : Nat) : (s.putReg a v).bridges = s.bridges := by unfold State.putReg; dsimp only; split <;> rfl
@[simp] theorem State.putReg_film (s : State) (a v : Nat) : (s.putReg a v).film = s.film := by unfold State.putReg; dsimp only; split <;> rfl
@[simp] theorem State.putReg_wsa (s : State) (a v : Nat) : (s.putReg a v).wsa = s.wsa := by unfold State.putReg; dsimp only; split <;> rfl
@[simp] theorem State.putReg_sch (s : State) (a v : Nat) : (s.putReg a v).sch = s.sch := by unfold State.putReg; dsimp only; split <;> rfl
@[simp] theorem State.putReg_mp (s : State) (a v : Nat) : (s.putReg a v).mp = s.mp := by unfold State.putReg; dsimp only; split <;> rfl
@[simp] theorem State.putReg_clk (s : State) (a v : Nat) : (s.putReg a v).clk = s.clk := by unfold State.putReg; dsimp only; split <;> rfl
@[simp] theorem State.putReg_free (s : State) (a v : Nat) : (s.putReg a v).free = s.free := by unfold State.putReg; dsimp only; split <;> rfl
@[simp] theorem State.putReg_out (s : State) (a v : Nat) : (s.putReg a v).out = s.out := by unfold State.putReg; dsimp only; split <;> rfl
@[simp] theorem State.putReg_pending (s : State) (a v : Nat) : (s.putReg a v).pending = s.pending := by unfold State.putReg; dsimp only; split <;> rfl

end Sys2Proof.Machine
end

