-- ==== Sys2Proof/Tests/Slice0.lean ====
section
/-! SUPPORT. Tests on single commands and small states: the ill-formed commands, the worked examples of the spec, and for each statement
states and operands that meet its hypotheses, clause by clause. -/

namespace Sys2Proof.Tests

open Sys2Proof.Machine

-- Each theorem is one evaluation by the kernel: one after the other, so that they do not add up in memory.
set_option Elab.async false

/-! ### Small states -/

/-- A device that has booted and drives the wall: READY, HOLD, the WSA not gated, the host's memory reached. -/
def up : State :=
  { State.reset with
    glb.ready := true, pwr.state := .hold, wsa.gated := false, qm.fetching := true, net.pcie.bme := true, flash.ok := true }

/-- `s` with a register in force holding `v`. -/
def live (s : State) (off v : Nat) : State :=
  match unitOf off with
  | some u => { s with regs.live := tabSet [] s.regs.live u (regPut (s.liveSet u) off v) }
  | none => s.putReg off v

/-- `up` with a tile of 64 columns and one row UP at the first position of port 0, whose first hop is UP. -/
def tiled : State :=
  let s := (up.setPort 0 { Port.init with enable := true, state := .up, epoch := 1, chainLen := 1 }).setHop 0 { Hop.init with step := .up, sync := true }
  s.setTile 0 { TileSlot.init with serial := 7, bound := true, state := 2, epoch := 1, width := 64, height := 1, newWidth := 64, newHeight := 1 }

/-- `tiled` whose tile bridge knows its position. -/
def bridged : State := tiled.setBr ⟨0, 0⟩ { Bridge.init with pos := some 0, epoch := 1 }

/-- One drive row of the tile of `tiled`. -/
def row0 : Row := ⟨0, 0, 0, [0], 1, [], 0, 0⟩

/-! ### Witnesses: for each statement with hypotheses, states and operands that meet those of each of its clauses -/

theorem test_w_other_accesses : (0xFFFFFF : BitVec 32).toNat < 0x1000000 ∧ (0xFFFFFF : BitVec 32).toNat % 4 ≠ 0 ∧
    (0 : BitVec 32).toNat < 0x1000000 ∧ 8 ≠ 4 ∧ 0x4000000 ≤ (0x4000000 : BitVec 32).toNat := by decide

theorem test_w_step_takes_the_front : ({ up with pending := [.heartbeat] } : State).pending = .heartbeat :: [] := rfl

theorem test_w_empty_queue : up.pending = [] := rfl

theorem test_w_next_state : exec .heartbeat State.reset = .next State.reset := rfl

theorem test_w_invariant : memWf up.dmc.bulk ∧ memWf up.vale.mem ∧ up.regs.reservedOk ∧ up.otp.minSecver ≤ 63 := by
  simp [up, State.reset, RegFile.reservedOk, reservedOk, RegFile.init, DmcS.init, ValeS.init, OtpS.init, memWf, tabOk]

theorem test_w_vale_denied : up.reached = true ∧ aliasTakes .pcie .normal 0 (.read 64) = true ∧ (up.bank 0).owner ≠ reqOwner .pcie ∧
    aliasTakes .pcie .normal 0x4003F (.write [some 1]) = true := by decide

theorem test_w_vale_granted : up.reached = true ∧ up.valeOwned .pcie 56 = true ∧ up.vale.btActive = false ∧
    aliasTakes .pcie .normal 0xE00000 (.read 64) = true ∧ aliasTakes .pcie .normal 0xE00000 (.write ([1, 2].map some)) = true ∧
    (reqPath .pcie).isSome = true ∧ 0xE00000 % 4 = 0 ∧ (reqPath .sch).isSome = false ∧
    ({ up with wsa.inGuard := true } : State).valeOwned .sch 19 = true ∧ up.valeOwned .sch 19 = false ∧
    aliasTakes .sch .normal 0x4C0000 (.write ([1].map some)) = true ∧
    up.valeOwned (.core 0 false) 53 = true ∧ ((0 : Fin 8) < 7) ∧ reqOwner (.core 0 false) = 1 := by decide

theorem test_w_ring_entry : 0 < 2 ^ 4 ∧ up.net.pcie.bme = true ∧ (up.ring 256).irqEn = false := by decide

theorem test_w_ring_held : (Ring.init 0).cons < 65536 ∧ 65535 < 65536 ∧
    ({ Ring.init 0 with prod := 65535 } : Ring).prod = idxAdd (Ring.init 0).cons 65535 := by decide

theorem test_w_channel_address : 0 < 0x80000000 ∧ 0x80000000 % 65536 = 0 := by decide

theorem test_w_code_weights : (1 ≤ 3 ∧ 3 ≤ 3) ∧ (⟨true, 0, []⟩ : Pkg).table = true := by decide

theorem test_w_ledger_range : -2047 ≤ (2047 : Int) ∧ (2047 : Int) ≤ 2047 := by decide

theorem test_w_appearance_axis : (⟨false, 128, [(42, 64)]⟩ : Pkg).u 42 1 = 64 ∧ ((3, 1, 1) : Lab).2 = ((5, 1, 1) : Lab).2 := by decide +kernel

def points : List (Nat × Nat) := [(0, 1), (1, 2), (2, 3), (3, 4), (4, 5), (5, 6)]

theorem test_w_daylight : points.length = 6 ∧ (∀ j, j < 6 → ∀ i, i < j → (points.getD i (0, 0)).1 < (points.getD j (0, 0)).1) ∧
    0 ≤ (points.getD 0 (0, 0)).1 ∧ (points.getD 5 (0, 0)).1 ≤ 5 ∧ (points.getD 4 (0, 0)).1 ≤ 4 ∧ 4 < (points.getD 5 (0, 0)).1 := by decide

theorem test_w_flip_times : 0 < 1 ∧ 0 ≤ 0 := by decide

theorem test_w_advance_to_a_wall_time : ({ up with time.wall := 0 } : State).time.eps = 0 ∧
    ({ up with time.wall := 0 } : State).time.wall < 1 * 2 ^ 32 ∧ 1 * 2 ^ 32 + 5368709120 < 2 ^ 96 := by decide

/-- `tiled` with the first hop of port 0 in a step. -/
def hopIn (x : HopStep) : State := tiled.setHop 0 { Hop.init with step := x, sync := true }

theorem test_w_hop_bring_up : (hopIn .detect).inStep (.port 0) .detect = true ∧ (hopIn .detect).hopEnabled (.port 0) = true ∧
    (hopIn .adapt).inStep (.port 0) .adapt = true ∧ (hopIn .frame).inStep (.port 0) .frame = true ∧
    (hopIn .handshake).inStep (.port 0) .handshake = true ∧ (hopIn .up).inStep (.port 0) .up = true ∧
    ((hopIn .adapt).hop (hopKey (.port 0))).step.limit = some (msC 15) := by decide +kernel

theorem test_w_hop_of_a_bridge : tiled.inStep (.bridge ⟨0, 0⟩ false) .detect = true ∧ tiled.hopEnabled (.bridge ⟨0, 0⟩ false) = true ∧
    tiled.hopEnabled (.bridge ⟨0, 0⟩ true) = false := by decide +kernel

/-- The 16th lost codeword of `h` within 1 ms at clock `n` would take a side that is UP out of it. -/
def lostOut (h : Hop) (n : Nat) : Bool :=
  decide (h.step = .up) && decide (15 ≤ (h.lostCw.filter fun x => decide (n < x + msC 1)).length)

theorem test_w_receiver_errors : lostOut ((hopIn .handshake).hop (hopKey (recvSide (.port 0)))) 0 = false ∧
    lostOut ((hopIn .up).hop (hopKey (recvSide (.port 0)))) 0 = false ∧ lostOut { Hop.init with step := .up, lostCw := List.replicate 15 0 } 0 = true ∧
    ((hopIn .up).hop (hopKey (recvSide (.port 0)))).sync = true ∧ tiled.upstreamSide ⟨0, 0⟩ false = true ∧
    lostOut (tiled.hop (hopKey (recvSide (.bridge ⟨0, 0⟩ false)))) 0 = false := by decide +kernel

/-- `tiled` with one row released on port 0. -/
def rowReady : State := tiled.setPort 0 { tiled.port 0 with released := [row0] }

/-- `tiled` in the guard. -/
def guarded : State := { tiled with wsa.inGuard := true }

theorem test_w_tile_engine_sends : rowReady.glb.refclkStopped = false ∧ (rowReady.port (0 : Fin 32).val).released = row0 :: [] ∧
    rowReady.frameLoop = true ∧ rowReady.wsa.stopped = false ∧ rowReady.portHopUp 0 = true ∧
    (rowReady.setHop 0 Hop.init).portHopUp 0 = false ∧ ((rowReady.setHop 0 Hop.init).port 0).released = row0 :: [] ∧
    guarded.frameLoop = true ∧ guarded.wsa.inGuard = true ∧ guarded.wsa.stopped = false ∧ guarded.portFlips 0 = true ∧
    (guarded.port 0).released = [] ∧ (guarded.port 0).flipAt = none ∧ guarded.pwr.transit = .none := by decide +kernel

theorem test_w_tile_engine_copies_marks_probes :
    let s := tiled.setPort 0 { tiled.port 0 with flipAt := some 0, nextPseq := 1 }
    (s.port 0).flipAt = some 0 ∧ (s.port 0).flipCopied = false ∧ s.portHopUp 0 = true ∧ (s.port 0).nextPseq ≠ (s.port 0).mark ∧
    s.frameLoop = true ∧ s.tfActive = true ∧ s.tileUp (0 : Fin 1024).val = true ∧ (s.tile 0).batch = false ∧
    ((s.setTile 0 { s.tile 0 with batch := true }).tile 0).batch = true ∧ (s.setTile 0 { s.tile 0 with batch := true }).tileUp 0 = true := by
  refine ⟨?_, ?_, ?_, ?_, ?_, ?_, ?_, ?_, ?_, ?_⟩ <;> decide +kernel

/-- A tile command packet of opcode 1 (TC_NOP) with TAG 5 and no parameters. -/
def nopPkt : List Byte := leBytes 2 1 ++ leBytes 2 5 ++ zeroBytes 60

/-- `tiled` whose TILE_CMD ring holds one packet, and whose TILE_TEL ring has room. -/
def asked : State := (tiled.setRing 512 { Ring.init 512 with en := true, prod := 1 }).setRing 1536 { Ring.init 1536 with en := true }

theorem test_w_tile_command_fetch : asked.tfActive = true ∧ asked.wsa.inGuard = false ∧ asked.qm.fetching = true ∧
    (asked.ring (512 + (0 : Fin 1024).val)).en = true ∧ (asked.ring 1536).en = true ∧ 0 < (asked.ring 1536).free ∧
    (asked.tile 0).cmds.length < 4 ∧ asked.net.pcie.bme = true ∧ nopPkt.length = 64 * (1 + fieldB nopPkt 4 1) ∧
    1 + fieldB nopPkt 4 1 ≤ (asked.ring 512).held ∧ tilePktOk nopPkt = true ∧ fieldB nopPkt 0 2 ≠ 16 ∧ fieldB nopPkt 0 2 ≠ 18 ∧
    asked.tileUp 0 = true := by decide +kernel

/-- `tiled` with one tile command outstanding, sent `n` times. -/
def waits (n : Nat) : State := tiled.setTile 0 { tiled.tile 0 with cmds := [⟨5, 1, [], 0, n, 0, false⟩] }

theorem test_w_tile_command_answer : (waits 1).tileAt 0 (0 : BitVec 8).toNat = some 0 ∧ (waits 1).cmdOf 0 (5 : BitVec 16).toNat = some ⟨5, 1, [], 0, 1, 0, false⟩ ∧
    ((waits 1).ring 1536).en = false ∧ (waits 1).tileUp 0 = true ∧ (waits 1).wsa.inGuard = false ∧
    (waits 2).cmdOf 0 5 = some ⟨5, 1, [], 0, 2, 0, false⟩ ∧ 2 ≠ 1 ∧ (waits 1).wsa.stopped = false ∧
    ({ waits 1 with wsa.stopped := true } : State).wsa.stopped = true ∧ ({ waits 1 with wsa.inGuard := true } : State).wsa.inGuard = true := by
  decide +kernel

/-- A row of `tiled` sent under PSEQ 0 and held in the journal. -/
def sent0 : SentRow := ⟨row0, 0, [0], 0, 0, true⟩

/-- `tiled` with that row sent. -/
def rowSent : State := tiled.setPort 0 { tiled.port 0 with sent := [sent0], nextPseq := 1 }

theorem test_w_row_nak : ((rowSent.port 0).sent.find? fun r => r.pseqs.contains (0 : BitVec 32).toNat) = some sent0 ∧ sent0.held = true ∧
    (0 : BitVec 8).toNat ≤ sent0.pos ∧ (rowSent.port 0).named.contains (0 : BitVec 32).toNat = false ∧
    rowSent.time.wfn < sent0.row.frame ∧ rowSent.wsa.stopped = false ∧ rowSent.inJournal { sent0 with held := false } = true ∧
    (rowSent.port 0).held < 64 := by decide +kernel

theorem test_w_reports_and_telemetry : tiled.tileAt 0 (0 : BitVec 8).toNat = some 0 ∧
    (⟨0, 0, true, false, 0, []⟩ : DropReport).missed = true ∧
    -640 ≤ sext 16 (0xFD80 : BitVec 16).toNat ∧ sext 16 (0x0640 : BitVec 16).toNat ≤ 1600 := by decide +kernel

/-- `tiled` while its chain is enumerated. -/
def counting (phase : Nat) : State := tiled.setPort 0 { tiled.port 0 with enumRun := some ⟨1, 0, [], 0, phase⟩ }

theorem test_w_desc : ((counting 0).port (0 : Fin 32).val).enumRun = some ⟨1, 0, [], 0, 0⟩ ∧ 1 = (1 : BitVec 32).toNat ∧ (0 : BitVec 8).toNat < 32 ∧
    (counting 0).slotFor 0 (7 : BitVec 64).toNat 0 = some 0 := by decide +kernel

/-- `tiled` with a probe outstanding, the first of `n`. -/
def probing (n : Nat) : State := tiled.setTile 0 { tiled.tile 0 with probe := some (0, 1), probes := n, batch := true }

theorem test_w_delay_resp : (probing 2).tileAt 0 0 = some 0 ∧ ((probing 2).tile 0).probe = some (0, 1) ∧
    ((0 : BitVec 32).toNat + 4294967296 - (0, 1).1) % 4294967296 < (0, 1).2 ∧ 10 + (20 : BitVec 32).toNat + (0 : BitVec 32).toNat ≤ 150030 ∧
    150030 ≤ 10 + (20 : BitVec 32).toNat + (0 : BitVec 32).toNat + 150000 ∧ ((probing 2).tile 0).batch = true ∧ 2 ≤ ((probing 2).tile 0).probes ∧
    ((probing 1).tile 0).probes = 1 := by decide +kernel

theorem test_w_hop_down : 0 ∈ tiled.domain 0 ∧ (0 : BitVec 8).toNat ≤ (tiled.tile 0).pos ∧ (tiled.tile 0).state = 2 := by decide +kernel

/-- `counting` on a pair that is looped. -/
def looped : State := live (counting 1) (tfOff 0 4) 32

theorem test_w_port_controls : ((counting 0).port 0).enumRun = some ⟨1, 0, [], 0, 0⟩ ∧ 0 ≠ 1 ∧
    (looped.port ((1 : Fin 32).val / 2 * 2)).enumRun = some ⟨1, 0, [], 0, 1⟩ ∧ looped.loopOn (1 : Fin 32).val = true ∧ (1 : Fin 32).val % 2 = 1 ∧
    (32 : BitVec 8).toNat ≤ 32 ∧ tiled.reached = true ∧ tiled.loopOn 0 = false ∧ tiled.portHopUp 0 = true := by decide +kernel

theorem test_w_port_degraded_forget_accept :
    let s := tiled.setPort 0 { tiled.port 0 with deg := true, degFrames := 255 * 1024, state := .degraded }
    (s.port 0).deg = true ∧ s.liveF (tfOff 0 4) 24 8 * 1024 ≤ (s.port 0).degFrames ∧ (s.port 0).state = .degraded ∧
    (∀ k, k < 32 → up.tileUp ((0 : Fin 32).val * 32 + k) = false) ∧ up.reached = true ∧
    ((up.setTile 3 { TileSlot.init with awaits := 5 }).tile (0 * 32 + (3 : Fin 32).val)).awaits ≠ 0 := by
  refine ⟨?_, ?_, ?_, ?_, ?_, ?_⟩ <;> decide +kernel

theorem test_w_bridge_stream : let s := bridged.setBr ⟨0, 0⟩ { Bridge.init with pos := some 0, nextWfn := some 65537, nextPseq := some 1 }
    (s.br ⟨0, 0⟩).pos = some 0 ∧ (s.br ⟨0, 0⟩).nextWfn = some 65537 ∧ 65537 % 65536 = (1 : BitVec 16).toNat ∧ (0 : BitVec 8).toNat = 0 ∧
    (31 : BitVec 8).toNat ≠ 0 ∧ 65537 % 65536 ≠ (0 : BitVec 16).toNat ∧ (s.br ⟨0, 0⟩).sched = none ∧ (s.br ⟨0, 0⟩).nextPseq = some 1 ∧
    (((5 : BitVec 32).toNat + 1) % 4294967296 + 4294967296 - 1) % 4294967296 < 2147483648 := by
  refine ⟨?_, ?_, ?_, ?_, ?_, ?_, ?_, ?_, ?_⟩ <;> decide +kernel

theorem test_w_bridge_enum_probe : (31 : BitVec 8).toNat < 32 ∧ 32 ≤ (32 : BitVec 8).toNat ∧
    (bridged.br ⟨0, 0⟩).pos = some (0 : BitVec 8).toNat ∧ (bridged.br ⟨0, 0⟩).pos ≠ some (1 : BitVec 8).toNat := by decide +kernel

/-- `bridged` with the flips of its tile at a point: scheduled or not, predicting or not, `n` predicted already. -/
def flips (sched : Option (Nat × Nat × Bool × Nat)) (can : Bool) (n : Nat) : State :=
  bridged.setBr ⟨0, 0⟩ { Bridge.init with pos := some 0, epoch := 1, sched := sched, canPredict := can, predicted := n }

theorem test_w_tile_flips : ((flips (some (1, 0, false, 0)) false 0).br ⟨0, 0⟩).pos = some 0 ∧
    ((flips (some (1, 0, false, 0)) false 0).br ⟨0, 0⟩).sched = some (1, 0, false, 0) ∧
    ((flips none true 2).br ⟨0, 0⟩).sched = none ∧ ((flips none true 2).br ⟨0, 0⟩).canPredict = true ∧
    ((flips none true 2).br ⟨0, 0⟩).predicted < 3 ∧ 3 ≤ ((flips none true 3).br ⟨0, 0⟩).predicted ∧
    ((flips none false 0).br ⟨0, 0⟩).canPredict = false ∧ bridged.bridgeUp ⟨0, 0⟩ = true ∧ (bridged.br ⟨0, 0⟩).quiet = false := by decide +kernel

theorem test_w_tile_command_effects : (bridged.br ⟨0, 0⟩).pos = some (0 : BitVec 8).toNat ∧ bridged.storedRsp ⟨0, 0⟩ (5 : BitVec 16).toNat = none ∧
    (bridged.setBr ⟨0, 0⟩ { Bridge.init with pos := some 0, tags := [(5, 0, 0, [])] }).storedRsp ⟨0, 0⟩ 5 = some (5, 0, 0, []) ∧
    (bridged.br ⟨0, 0⟩).pos ≠ some (1 : BitVec 8).toNat ∧ (0 : BitVec 16).toNat ∉ [1, 2, 3, 4, 5, 6, 7, 16, 17, 18, 19] := by decide +kernel

theorem test_w_tile_command_params : ([] : List Byte).length ≠ 1 ∧ (zeroBytes 8).length = 8 ∧ (leBytes 2 40 ++ zeroBytes 70).length = 72 ∧
    40 ≤ fieldB (leBytes 2 40 ++ zeroBytes 70) 0 2 ∧ fieldB (leBytes 2 1000 ++ zeroBytes 70) 0 2 ≤ 1000 ∧ (zeroBytes 4).length = 4 ∧
    fieldB (leBytes 2 39 ++ zeroBytes 70) 0 2 < 40 ∧ 1000 < fieldB (leBytes 2 1001 ++ zeroBytes 70) 0 2 := by decide +kernel

/-- `up` with slot 0 of group 0 as given. -/
def slotted (x : Slot) : State := up.setSlot 0 0 x

theorem test_w_rail_slot_timers : let s := live (slotted { Slot.init with state := .waitDep }) (slotOff 0 0 4) 0
    s.depsSince (0 : Fin 8).val (0 : Fin 12).val = some 0 ∧ (s.slot 0 0).state = .waitDep ∧ s.slotExt 0 0 = false ∧
    (live s (slotOff 0 0 0) 3).slotExt 0 0 = true ∧ ((slotted { Slot.init with state := .ramp }).slot 0 0).state = .ramp ∧
    (live (slotted { Slot.init with state := .ramp }) (slotOff 0 0 0) (128 + 5 * 512)).reaction 0 0 = 1 ∧ s.drvHeld = false ∧
    ({ s with pwr.state := .safe } : State).drvHeld = true ∧ ({ s with pwr.state := .safe } : State).depsSince 0 0 = some 0 := by
  refine ⟨?_, ?_, ?_, ?_, ?_, ?_, ?_, ?_, ?_⟩ <;> decide +kernel

theorem test_w_rail_slot_qualify_retry : let q := slotted { Slot.init with state := .qualify, wasOut := false }
    let r := slotted { Slot.init with state := .retry, phase := .offTime }
    (q.slot 0 0).state = .qualify ∧ (q.slot 0 0).wasOut = false ∧ (r.slot 0 0).state = .retry ∧ (r.slot 0 0).phase = .offTime := by
  refine ⟨?_, ?_, ?_, ?_⟩ <;> decide +kernel

theorem test_w_rail_slot_good_discharge : ((slotted { Slot.init with state := .good }).slot 0 0).state = .good ∧
    ((slotted { Slot.init with state := .discharge, stopRamp := false }).slot 0 0).state = .discharge ∧
    ((slotted { Slot.init with state := .discharge, stopRamp := false }).slot 0 0).stopRamp = false ∧
    (live (slotted { Slot.init with state := .discharge }) (slotOff 0 0 0) 3).sensed 0 0 = false := by decide +kernel

/-- `up` with slot 0 of group 0 enabled, with filters that count and VFS 4,095. -/
def enabled : State := live (live up (slotOff 0 0 0) 0x04040001) (slotOff 0 0 8) 0x0FFF0000

theorem test_w_rail_sample : enabled.slotEn (0 : Fin 8).val (0 : Fin 12).val = true ∧ (enabled.slot 0 0).state = .off ∧ (enabled.slot 0 0).drv = false ∧
    0 < enabled.rf 0 0 0 24 8 ∧ 0 < enabled.rf 0 0 0 16 8 ∧ enabled.sensed 0 0 = true ∧
    enabled.vfs 0 0 * adcCode 7 % 4095 = 0 := by decide +kernel

/-- R426: the codes of the ends of a ball's range and beyond them, and of half of it, between codes 2,047 and 2,048. -/
theorem test_adc_code : adcCode 0 = 0 ∧ adcCode (-1) = 0 ∧ adcCode 1200000 = 4095 ∧ adcCode 1500000 = 4095 ∧ adcCode 600000 = 2048 ∧
    adcCode 599999 = 2047 ∧ sext 32 (-1 : BitVec 32).toNat ≤ 0 ∧ 1200000 ≤ sext 32 (1500000 : BitVec 32).toNat := by decide +kernel

theorem test_w_control_loop : -134217728 ≤ (0 : Int) ∧ (0 : Int) ≤ 134217727 ∧ ({ Slot.init with duty := enabled.rf 0 0 0x24 0 12 } : Slot).duty = enabled.rf 0 0 0x24 0 12 ∧
    0 < ((5 : Int).natAbs * 4095 + (enabled.vfs 0 0).natAbs / 2) / max 1 (enabled.vfs 0 0).natAbs ∧ ({ Slot.init with duty := 0 } : Slot).duty = 0 ∧
    ((5 : Int).natAbs * 4095 + (enabled.vfs 0 0).natAbs / 2) / max 1 (enabled.vfs 0 0).natAbs < 4095 ∧
    0 < ({ Slot.init with duty := 7 } : Slot).duty ∧ 7 < (live enabled (slotOff 0 0 0x24) 8).rf 0 0 0x24 0 12 := by decide +kernel

/-- A session of priority 0 on the 64 by 1 pixels of the tile of `tiled`, in a state. -/
def sess0 (st : Nat) : Sess := { newSess { reqOf [] with kind := 0, w := 64, h := 1 } (.submit 0) (.complete 0) 1 1 with state := st }

/-- `tiled` with tile 0 in the tile map and that session in slot 0. -/
def booked (st : Nat) : State := (live tiled (tslotOff 0 12) 4).setSess 0 (some (sess0 st))

theorem test_w_down_refused : (booked 3).reached = true ∧ (booked 3).inMap 0 = true ∧ (booked 3).tileRg 0 = (0 : Fin 8).val ∧
    (booked 3).sch.slots = [(0, some (sess0 3))] ∧ 3 ≤ (sess0 3).state ∧ (sess0 6).state ≤ 6 ∧
    (booked 3).regionTouches (sess0 3).req 0 = true ∧ (booked 6).regionTouches (sess0 6).req 0 = true := by decide +kernel

theorem test_w_down_refused_owned : ({ booked 3 with film.psr := [(0, 0)] } : State).tileOwned 0 = true := by decide +kernel

/-- `up` with rail group 0 in a state, FAULT_N high for as long as REARM asks. -/
def grouped (x : GState) : State :=
  let s := { up with clk := 1000000000 }
  s.setGroup 0 { Group.init with state := x, enable := true }

theorem test_w_rail_group_controls : ((grouped .disabled).group (0 : Fin 8).val).state = .disabled ∧ (grouped .disabled).reached = true ∧
    ((grouped .stopping).group 0).state = .stopping ∧ ((grouped .tripped).group 0).state = .tripped ∧
    ((grouped .off).group 0).state = .off ∧ (grouped .off).fnHigh = true ∧ (grouped .off).rc.vinLow = false ∧
    (grouped .off).railsBarred = false ∧ (grouped .disabled).pwr.state ≠ .safe ∧ ({ grouped .disabled with pwr.state := .safe } : State).pwr.state = .safe ∧
    ({ grouped .off with pwr.state := .safe } : State).railsBarred = true ∧ ({ grouped .off with rc.vinLow := true } : State).rc.vinLow = true ∧
    ((grouped .up).group 0).state = .up ∧ (grouped .up).groupBusy 0 = false := by decide +kernel

theorem test_w_rail_group_timers :
    let s := (grouped .tripped).setGroup 0 { Group.init with state := .tripped, enable := true, upPending := true }
    (s.group 0).state = .tripped ∧ (s.group 0).upPending = true ∧ s.fnHigh = true ∧ s.rc.vinLow = false ∧ s.railsBarred = false ∧
    (s.group 0).tripAt + msC (s.liveF (baseRail 0 + 0x14) 0 10) ≤ s.clk ∧
    ((slotted { Slot.init with ffNext := some 1 }).slot 0 0).ffNext.isSome = true := by
  refine ⟨?_, ?_, ?_, ?_, ?_, ?_, ?_⟩ <;> decide +kernel

theorem test_w_fault_n : ({ up with rc.fnDriving := true } : State).rc.fnDriving = true ∧
    (∀ g, g < 8 → (up.group g).fnCause = true → (up.group g).state = .tripped) ∧
    ({ up with rc.fnReleased := some 0 } : State).rc.fnReleased = some 0 ∧ up.rc.fnLine = true ∧
    ({ up with rc.fnLine := false } : State).rc.fnLine = false ∧ ({ up with rc.fnLine := false } : State).rc.fnStuckLow ≠ some up.rc.fnLowAt ∧
    up.rc.fnDriving = false ∧ (live up (baseRail 0 + 4) 2).liveB (baseRail 0 + 4) 1 = true ∧ up.rc.vinLow = false ∧ up.railsBarred = false ∧
    ((up.setGroup 0 { Group.init with state := .off, enable := true, upPending := true }).group 0).upPending = true ∧
    ((up.setGroup 0 { Group.init with state := .off, enable := true, upPending := true }).group 0).state = .off ∧
    usC (up.liveF 0x30E0C 16 16 * 10) ≤ (grouped .off).clk := by decide +kernel

/-- `up` with an input supply that is measured: FS 20,000 mV, OK 11,000, LOW 10,000, COLL 8,000. -/
def powered : State := live (live up 0x30E00 (20000 + 11000 * 65536)) 0x30E04 (10000 + 8000 * 65536)

/-- Half of the ball's range is 10 V here: 599,700 µV is just below LOW, 480,000 µV is COLL. -/
theorem test_w_input_supply : powered.vinFs ≠ 0 ∧ adcCode 599700 * powered.vinFs < powered.vinLowTh * 4095 ∧ powered.rc.vinLow = false ∧
    powered.vinOk * 4095 ≤ adcCode 661000 * powered.vinFs ∧ ({ powered with rc.vinLow := true } : State).rc.vinLow = true ∧
    ({ powered with rc.collapsed := true } : State).rc.collapsed = true ∧ adcCode 0 * powered.vinFs % 4095 = 0 ∧
    sext 32 (479999 : BitVec 32).toNat * (powered.vinFs : Int) < ((powered.vinColl * 1200000 : Nat) : Int) ∧
    ((powered.vinColl * 1200000 : Nat) : Int) ≤ sext 32 (480000 : BitVec 32).toNat * (powered.vinFs : Int) ∧ up.vinFs = 0 := by decide +kernel

/-- `up` whose zone 0 has had two samples at or above SHUTDOWN. -/
def nearShut : State := up.setZone 0 { up.zone 0 with shutRun := 2, raw := 2399 }

theorem test_w_shutdown_flag : (match exec (.thmZoneSample [0] [0x0960] [false] [false]) nearShut with | .next _ => true | _ => false) = true ∧
    ((up.setZone 0 { up.zone 0 with shut := true }).zone 0).shut = true ∧ (nearShut.zone 0).fkind = 0 ∧
    (nearShut.zone 0).raw ≠ sext 16 (0x0960 : BitVec 16).toNat ∧ (nearShut.zone 0).shut = false ∧
    (flagStep (nearShut.zone 0).shut (nearShut.zone 0).shutRun (sext 16 (0x0960 : BitVec 16).toNat) nearShut.thmShutdown nearShut.thmHyst).1 = true ∧
    nearShut.pwr.state ≠ .boot ∧ nearShut.pwr.state ≠ .safe ∧ nearShut.thm.shutdown = none := by decide +kernel

theorem test_w_flag_samples : 0 ≤ (2 : Int) ∧ (0 : Int) ≤ 0 ∧ (85 : Int) * 16 ≤ 1360 ∧ 1327 < (85 - 2 : Int) * 16 ∧
    (85 - 2 : Int) * 16 ≤ 1359 ∧ 1359 < (85 : Int) * 16 := by decide

theorem test_w_thermal_monitor : (up.zone (0 : Fin 8).val).fkind = 0 ∧ -640 ≤ sext 16 (0x0960 : BitVec 16).toNat ∧ sext 16 (0x0960 : BitVec 16).toNat ≤ 2400 ∧
    (up.zone 0).raw ≠ sext 16 (0x0960 : BitVec 16).toNat ∧ up.pendSet unitThm = none ∧ (∀ z, z < 8 → (up.zone z).hot = false) ∧
    ((up.setZone 3 { up.zone 3 with hot := true, temp := 2000 }).zone 3).hot = true ∧
    (up.setZone 3 { up.zone 3 with hot := true, temp := 2000 }).thmThrottle * 16 ≤ 2000 := by decide +kernel

theorem test_w_safe_entry : let s := { up with thm.shutdown := some (0, 0), time.wfn := 2 }
    s.thm.shutdown = some (0, 0) ∧ 0 + 2 ≤ s.time.wfn ∧ s.railsOff = true ∧ s.pwr.state ≠ .safe ∧ s.glb.entry = none ∧
    ({ s with glb.entry := some ⟨.warm, 2, 0, 0, 0, 0, 2, 1⟩ } : State).glb.entry.isSome = true := by
  refine ⟨?_, ?_, ?_, ?_, ?_, ?_⟩ <;> decide +kernel

/-- `up` on its way into or out of PLATEAU. -/
def moving (x : Transit) : State := { up with pwr.transit := x }

/-- `up` with CH0 and CH1 trained at FSP-L. -/
def lowTrained (x : Transit) : State :=
  ((moving x).setChan 0 { Chan.init with state := .active, fsplTrained := true }).setChan 1 { Chan.init with state := .active, fsplTrained := true }

theorem test_w_plateau_transitions : (lowTrained .entryOff).pwr.transit = .entryOff ∧ (lowTrained .entryOff).railsOff = true ∧
    (lowTrained .entryOff).switchRefused 1 = none ∧ (moving .entryOff).switchRefused 1 = some 13 ∧ ((moving .entryOff).chan 0).fsp ≠ 1 ∧
    (moving .entryDram).pwr.transit = .entryDram ∧ (moving .entryDram).dmc.switching = none ∧
    (moving .exitRails).pwr.transit = .exitRails ∧ (moving .exitRails).dmc.switching = none ∧ ({ moving .exitRails with wsa.inGuard := true } : State).wsa.inGuard = true ∧
    (moving .exitRails).exitRailsDone = true := by decide +kernel

/-- `up` with channel `c` ACTIVE and otherwise as given. -/
def chanIn (c : Nat) (x : Chan) : State := { up with dmc.ranks := 1 }.setChan c { x with state := .active }

theorem test_w_refresh_timers : ((chanIn 2 Chan.init).chan 2).state = .active ∧ (chanIn 2 Chan.init).rankKeys.contains (2 * (1 : Fin 2).val + (0 : Fin 2).val) = true ∧
    2 ≤ (2 : Fin 12).val ∧ ((chanIn 2 { Chan.init with debt := [(2, 6)] }).chan 2).debtOf 2 < 7 ∧
    7 ≤ ((chanIn 2 { Chan.init with debt := [(2, 7)] }).chan 2).debtOf 2 ∧ (1 : Fin 12).val < 2 ∧ ((chanIn 1 Chan.init).chan 1).state = .active ∧
    -((chanIn 2 Chan.init).pullin 2) < ((chanIn 2 Chan.init).chan 2).debtOf 2 := by decide +kernel

theorem test_w_channel_timers : ((chanIn 2 Chan.init).chan 2).pd0 = false ∧ ((chanIn 2 Chan.init).chan 2).debtOf 0 ≤ 0 ∧
    ((chanIn 2 Chan.init).chan 2).debtOf 2 ≤ 0 ∧ ((chanIn 2 { Chan.init with awake := true }).chan 2).awake = true ∧
    ({ chanIn 2 { Chan.init with awake := true } with dmc.bulkSr := true } : State).dmc.bulkSr = true ∧
    (0 : Fin 2).val ∉ ((chanIn 2 Chan.init).chan 2).trkDue ∧ ({ up with dmc.switching := some 1 } : State).dmc.switching = some 1 ∧
    ({ up with dmc.switching := some 0 } : State).dmc.switching = some 0 ∧ (1500 : BitVec 16).toNat ≤ 1500 := by decide +kernel

theorem test_w_training_and_ecc : ({ up with pwr.state := .plateau } : State).reached = true ∧ up.pwr.state ≠ .plateau ∧ up.dmc.train = none ∧
    up.snapshotRuns = false ∧ up.sessionsRun = false ∧ ({ up with dmc.train := some ([2], 0) } : State).dmc.train = some ([2], 0) ∧
    up.eccOn (up.eccRegion (0 : Fin 12).val 0) = false ∧
    ({ up with dmc.iecc := 1, dmc.filled := 1 } : State).eccOn (up.eccRegion (0 : Fin 12).val 0) = true ∧ up.eccRegion 0 0 = 0 := by decide +kernel

/-- `up` with every channel ACTIVE. -/
def awake : State := (List.range 12).foldl (fun s c => s.setChan c { Chan.init with state := .active }) up

theorem test_w_bar2_access : up.bar2Size < (0xFFFFFFFFF : BitVec 36).toNat + MemAcc.len (.read 1) ∧
    (0x3FFFFFC0 : BitVec 36).toNat + MemAcc.len (.read 64) ≤ awake.bar2Size ∧
    (0x3FFFFFC0 : BitVec 36).toNat + MemAcc.len (.write ([1, 2].map some)) ≤ awake.bar2Size ∧
    ∀ c, c ∈ awake.bar2Chans 0x3FFFFFC0 64 → (awake.chan c).state = .active ∨ (awake.chan c).state = .selfRefresh := by decide +kernel

theorem test_w_vale_ownership : up.reached = true ∧ 53 ≤ (53 : Fin 64).val ∧ (11 : Word).toNat % 8 ≤ 3 ∧ (up.bank 56).pending = none ∧
    (5 : Word).toNat % 8 ≤ 5 ∧ 4 ≤ (5 : Word).toNat % 8 ∧ 6 ≤ (14 : Word).toNat % 8 ∧ (52 : Fin 64).val < 53 ∧
    (up.bank 56).owner = pathOwner .pcie ∧ ((up.setBank 56 { up.bank 56 with owner := 3 }).bank 56).owner = pathOwner .lcb ∧
    (up.bank 53).owner = pathOwner .firmware ∧ (up.bank 56).owner ≠ pathOwner .lcb ∧ (up.bank 56).owner ≠ 0 ∧
    (up.bank 56).owner = 2 ∧ up.vale.waiting = [] ∧ ((up.setBank 53 { up.bank 53 with owner := 0 }).bank 53).owner = 0 ∧
    (up.bank 63).owner ≠ 0 ∧ (up.bank 63).owner ≠ 2 ∧
    ((up.setBank 56 { up.bank 56 with pending := some (3, true) }).bank 56).pending = some (3, true) := by decide +kernel

theorem test_w_vale_retention : let s := live up (baseVale + 0x104) 1
    valeDirect s 0x104 ((53 : Fin 64).val - 53) 1 = 1 ∧ s.retains 53 = false ∧ (s.bank 53).pending = none ∧ s.vale.btActive = false := by
  refine ⟨?_, ?_, ?_, ?_⟩ <;> decide +kernel

/-- `up` with the background test enabled on bank 53 and, on `on`, its first window open. -/
def testing (on : Bool) : State :=
  { live (live up (baseVale + 0x110) 1) (baseVale + 0x118) (1 <<< 21) with vale.btActive := on, vale.btBank := 53, vale.btWin := 0 }

theorem test_w_vale_test : valeDirect (testing false) 0x110 0 1 = 1 ∧ (testing false).vale.btActive = false ∧
    (testing false).testable 53 = true ∧ (testing true).vale.btActive = true ∧ (testing true).vale.waiting = [] ∧
    (testing true).inWindow ⟨.core 0 true, .normal, 0xD40000, .read 64⟩ = true ∧
    aliasTakes (.core 0 true) .normal 0xD40000 (.read 64) = true ∧ (testing true).valeOwned (.core 0 true) 53 = true ∧
    (testing true).retains 53 = false ∧ valeDirect (testing true) 0x110 1 1 = 0 := by decide +kernel

theorem test_w_status_window : (0x7FFC : BitVec 16).toNat < 0x8000 ∧ (0x7FFC : BitVec 16).toNat % 4 = 0 ∧ (0x7FFF : BitVec 16).toNat % 4 ≠ 0 ∧
    (0x8040 : BitVec 16).toNat % 4 = 0 ∧ up.mirror (0x1000 / 4) = none ∧ winAssigned (0x1000 / 4 * 4) = true ∧
    winAssigned (0x4000 / 4 * 4) = false ∧ up.ccHeld = false ∧ 0x8000 ≤ (0x8040 : BitVec 16).toNat ∧ mbAssigned (0x8040 / 4 * 4) = true ∧
    0x40 ≤ 0x8040 % 0x800 ∧ up.glb.ready = true ∧ State.reset.glb.ready = false := by decide +kernel

/-- `up` with mailbox 0 open. -/
def boxed : State := up.setMbox 0 { Mbox.init with en := true, live := true }

theorem test_w_mailbox : boxed.ccHeld = false ∧ (boxed.mbox (0 : Fin 16).val).live = true ∧
    ((boxed.mbox 0).cplProd + 65536 - (8 : Word).toNat / 65536) % 65536 ≤ ((boxed.mbox 0).cplProd + 65536 - (boxed.mbox 0).cplCons) % 65536 ∧
    ((8 : Word).toNat % 65536 + 65536 - (boxed.mbox 0).cmdCons) % 65536 ≤ 8 ∧ ((8 : Word).toNat % 65536 + 65536 - (boxed.mbox 0).cmdProd) % 65536 ≤ 8 ∧
    8 < ((9 : Word).toNat % 65536 + 65536 - (boxed.mbox 0).cmdCons) % 65536 ∧ (up.mbox 0).en = false ∧ up.glb.ready = true ∧
    (1 : Word).toNat % 2 = 1 ∧ (2 : Word).toNat % 2 = 0 ∧ (16383 : BitVec 16).toNat < 16384 := by decide +kernel

/-- `up` with Ethernet port 0 enabled at address 1, and its command port 2 open. -/
def netted : State := live (live (live up (baseNet + 0x10) 2) (portOff 0 8) 1) (baseNet + 0x14) (2 + 65536)

theorem test_w_port_answers : netted.frameTaken (0 : Fin 16).val none = true ∧ (1 : BitVec 32).toNat = netted.portIp 0 ∧
    frameFits none 9174 = true ∧ frameFits none 9175 = false ∧ 2 ≤ (2 : Fin 4).val ∧ netPortOn netted.live 0 = true ∧
    frameFits none 0 = true ∧ netted.glb.rom = false ∧ netted.datagramShaped ⟨0, none, 0, 0, 0, 1, 2, []⟩ = false := by decide +kernel

/-- `netted` with a receiver on port 0, for the group 5, of source 0, which is a stream. -/
def receiving : State :=
  { live (live (live netted (baseNet + 0x400) 5) (baseNet + 0x404) (1 <<< 24)) (baseMp + 0x1000) 1 with time.state := .locked }

theorem test_w_groups_and_polls : receiving.groupsOn 0 ≠ [] ∧
    bits ((live up (baseNet + 0x600) 128).live (baseNet + 0x600 + (0 : Fin 8).val * 16)) 7 1 = 1 ∧
    2 ≤ (tabGet Pmb.init [(0, { Pmb.init with fails := 2 })] 0).fails := by decide +kernel

/-- A key of 32 bytes of zero. -/
def key0 : List Byte := zeroBytes 32

/-- A command datagram of one packet from peer 0, with SEQ 1, before its tag. -/
def signed0 : List Byte := leBytes 4 0x50434D4C ++ [1, 0, 0, 1] ++ leBytes 8 1 ++ zeroBytes 64

/-- `netted` with peer 0 enabled at address 9 and keyed, one completion entry waiting for it. -/
def peered : State :=
  let s := (live (live netted (baseNet + 0x1000) 9) (baseNet + 0x1004) 65536).setPeer 0 { Peer.init with key := some key0 }
  { s.setRing 2560 { Ring.init 2560 with en := true, log2 := 8 } with qm.netOut := [(0, [zeroBytes 64])] }

/-- That datagram with its tag, made with `f`. -/
def datagram (tag : List Byte) : Datagram := ⟨0, none, 0, 9, 3, 1, 2, signed0 ++ tag⟩

theorem test_w_datagram : let d := datagram (zeroBytes 32)
    peered.frameTaken d.port.val d.vid = true ∧ d.dstIp.toNat = peered.portIp d.port.val ∧ peered.glb.rom = false ∧
    peered.datagramShaped d = true ∧ peered.datagramFrom d (fieldB d.payload 5 1 % 256) = true ∧
    (peered.peer (fieldB d.payload 5 1 % 256)).key = some key0 ∧ (peered.peer (fieldB d.payload 5 1 % 256)).last < fieldB d.payload 8 8 ∧
    (peered.ring 2560).held + fieldB d.payload 7 1 ≤ (peered.ring 2560).size ∧ tabGet [] peered.qm.netOut 0 ≠ [] := by
  refine ⟨?_, ?_, ?_, ?_, ?_, ?_, ?_, ?_, ?_⟩ <;> decide +kernel

/-- The next hop of the peer's completions: on link, its MAC known or not; through the gateway where it is not on link; none without one. -/
theorem test_w_completion_hop : peered.nextHop (peered.peer 0).retPort (peered.peer 0).retIp = some 0 ∧
    tabGet none peered.net.arp (arpKey 0 0) = none ∧
    tabGet none ({ peered with net.arp := [(arpKey 0 0, some 5)] } : State).net.arp (arpKey 0 0) = some 5 ∧
    (peered.setPeer 0 { Peer.init with key := some key0, retIp := 256 }).nextHop 0 256 = none ∧
    (peered.peer 0).key = some key0 := by
  refine ⟨?_, ?_, ?_, ?_, ?_⟩ <;> decide +kernel

theorem test_w_datagram_tag : let d := datagram (hmac key0 signed0)
    hmac key0 (d.payload.take (16 + 64 * fieldB d.payload 7 1)) = d.payload.drop (16 + 64 * fieldB d.payload 7 1) ∧
    peered.datagramShaped d = true ∧ peered.datagramFrom d (fieldB d.payload 5 1 % 256) = true := by
  refine ⟨?_, ?_, ?_⟩ <;> decide +kernel

theorem test_hmac_rfc4231_case2 : hmac [0x4a, 0x65, 0x66, 0x65]
    [0x77, 0x68, 0x61, 0x74, 0x20, 0x64, 0x6f, 0x20, 0x79, 0x61, 0x20, 0x77, 0x61, 0x6e, 0x74, 0x20, 0x66, 0x6f, 0x72, 0x20, 0x6e, 0x6f, 0x74, 0x68, 0x69, 0x6e, 0x67, 0x3f] =
    [0x5b, 0xdc, 0xc1, 0x46, 0xbf, 0x60, 0x75, 0x4e, 0x6a, 0x04, 0x24, 0x26, 0x08, 0x95, 0x75, 0xc7, 0x5a, 0x00, 0x3f, 0x08, 0x9d, 0x27, 0x39, 0x83, 0x9d, 0xec, 0x58, 0xb9, 0x64, 0xec, 0x38, 0x43] := by decide +kernel

/-- `up` whose wall time comes from PTP on port 0, with master 1. -/
def ptp (st : TimeState) : State := { live (live up baseTime 1) (baseTime + 0x50) 0 with time.state := st, time.master := some 1 }

theorem test_w_ptp_sync : (ptp .locked).ptpPort (0 : Fin 16).val = true ∧ (0 : BitVec 8).toNat = (ptp .locked).ptpDomain ∧
    (ptp .locked).time.master = some (1 : BitVec 80).toNat ∧ -7 ≤ (-7 : Int) ∧ (0 : Int) ≤ 0 ∧
    ((500 * 65536 : Int)).natAbs ≤ 500 * 65536 ∧ ({ ptp .locked with time.bad := 2 } : State).time.bad = 2 ∧ 500 * 65536 < (500 * 65536 + 1 : Int).natAbs ∧
    ({ ptp .acquiring with time.good := 15 } : State).time.good = 15 ∧ (-50 * 65536 : Int).natAbs ≤ 50 * 65536 ∧ (ptp .lost).time.state = .lost ∧
    1000 * 65536 < (-1000 * 65536 - 1 : Int).natAbs := by decide +kernel

theorem test_w_ptp_messages : (254 : BitVec 16).toNat < 255 ∧ (ptp .locked).timeSrc = 1 ∧
    ({ ptp .locked with time.syncDiff := some 3, time.delayT3 := some 4 } : State).time.syncDiff = some 3 ∧
    ({ ptp .locked with time.syncDiff := some 3, time.delayT3 := some 4 } : State).time.delayT3 = some 4 ∧
    (0 : BitVec 16).toNat = (ptp .locked).time.delaySeq ∧
    (([⟨1, 0, [], 0, [0], 0⟩] : List Foreign).find? fun g => g.source = 1) = some ⟨1, 0, [], 0, [0], 0⟩ := by decide +kernel

/-- `up` as a follower of wall sync. -/
def follower (st : TimeState) : State := { live up baseTime 2 with time.state := st, time.wsMiss := 3 }

/-- The message of a marker of frame 1 at second 0. -/
def markerMsg : List Byte := let m := zeroBytes 8 ++ leBytes 6 1 ++ zeroBytes 9; m ++ leBytes 2 (crc16 m)

theorem test_w_markers : (follower .holdover).time.state = .holdover ∧ (follower .stepPending).time.state = .stepPending ∧ up.reached = true ∧
    ({ follower .acquiring with time.acqValid := true } : State).time.state = .acquiring ∧
    ({ follower .acquiring with time.acqValid := true } : State).time.acqValid = true ∧
    (follower .locked).timeSrc = 2 ∧ 3 ≤ (follower .locked).time.wsMiss ∧ (follower .locked).markerOk ⟨0, 0, 0, []⟩ = false ∧
    (follower .locked).markerOk ⟨100000000, 800000, 0, markerMsg⟩ = true ∧ (follower .locked).time.state = .locked ∧
    ((0 : Int) - (((follower .locked).liveF (baseTime + 0x70) 16 16 * 1073741824 : Nat) : Int) -
      ((fieldB markerMsg 0 8 * 4294967296 : Nat) : Int)).natAbs ≤ 100 * 4294967296 := by decide +kernel

theorem test_w_frame_events : up.glb.refclkStopped = false ∧ up.time.state ≠ .stepPending ∧
    ({ up with time.state := .stepPending } : State).stepDue = true ∧ ({ up with time.wfn := 64 } : State).time.wfn % 64 = 0 ∧
    ({ up with time.wfn := 64 } : State).time.wfn / 64 ≠ up.film.tick ∧ up.frameLoop = true ∧ up.wsa.gated = false ∧
    up.wsa.inGuard = false ∧ up.pwr.state ≠ .boot ∧ (moving .entryFlip).pwr.transit = .entryFlip := by decide +kernel

theorem test_w_guard_events : guarded.frameLoop = true ∧ guarded.wsa.inGuard = true ∧ guarded.wsa.handed = false ∧ guarded.sch.guardDone = false ∧
    ({ guarded with wsa.handed := true } : State).wsa.handed = true := by decide +kernel

/-- A package of no content. -/
def pkg0 : Pkg := ⟨false, 0, []⟩

/-- The bundle of the one row of tile 0. -/
def bundle0 : Bundle := ⟨0, 0, [(0, [0])], 1⟩

/-- `tiled` with the tile bound to slot 0, and cluster 0 of the one group as given. -/
def working (c : Cluster) : State :=
  { { tiled with film.bind := [(0, 1)], film.pkgs := [(0, some pkg0)], wsa.groups := [⟨0, 0, 48, [bundle0]⟩] } with wsa.clusters := [(0, c)] }

theorem test_w_bundle_take : (working { Cluster.init with group := some 0 }).synthRuns = true ∧
    ((working { Cluster.init with group := some 0 }).cluster (0 : Fin 48).val).bundle = none ∧
    ((working { Cluster.init with group := some 0 }).cluster 0).switched = false ∧
    ((working { Cluster.init with group := some 0 }).cluster 0).group = some 0 ∧
    ((working { Cluster.init with group := some 0 }).wsa.groups.find? fun h => h.slot = 0) = some ⟨0, 0, 48, bundle0 :: []⟩ := by decide +kernel

/-- `working` with the bundle in the cluster's hand. -/
def inHand : State := working { Cluster.init with group := some 0, bundle := some bundle0 }

theorem test_w_pixel_evaluate : inHand.tilePkg (0 : Fin 1024).val = some pkg0 ∧ inHand.synthRuns = true ∧
    ((inHand.cluster 0).segs 0 0).contains ((63 : Fin 16384).val / 64) = true ∧ (63 : Fin 16384).val < inHand.tileW 0 ∧
    inHand.pixDone 0 0 63 0 = false ∧ inHand.rowPending 0 0 = false ∧ inHand.rowStalled 0 = false ∧
    ({ inHand with wsa.inGuard := true } : State).synthRuns = false ∧ ({ inHand with wsa.fixup := [sent0] } : State).rowPending 0 0 = true := by
  decide +kernel

theorem test_w_fixup : let s := { inHand with wsa.fixup := [sent0] }
    (s.wsa.fixup.find? fun q => q.row.covers (0 : Fin 1024).val (0 : Fin 65536).val (0 : Fin 256).val) = some sent0 ∧ s.synthRuns = true ∧
    ((s.cluster 0).segs 0 0).contains 0 = true ∧ s.tilePkg 0 = some pkg0 ∧ s.rowStalled 0 = false ∧
    (s.setPort 0 { s.port 0 with released := [row0], txDone := 10000000000 }).rowStalled 0 = true := by
  refine ⟨?_, ?_, ?_, ?_, ?_, ?_⟩ <;> decide +kernel

theorem test_w_age_sweep : let s := booked 3
    s.frameLoop = true ∧ s.wsa.gated = false ∧ s.wsa.inGuard = false ∧ s.glb.refclkStopped = false ∧ s.planesHeld = false ∧ s.inMap 0 = true ∧
    s.actBit 0 0 0 = false ∧ (0 : Fin 65536).val < s.tileH 0 ∧ (0 : Fin 256).val < segsPerRow (s.tileW 0) ∧
    ({ s with film.snapTiles := [0] } : State).film.snapTiles.contains 0 = true ∧ s.film.snapTiles.contains 0 = false ∧ (s.tile 0).fill ≠ 2 ∧
    (s.setChan 2 { Chan.init with state := .training }).planesHeld = true ∧
    (s.setChan 2 { Chan.init with state := .training }).film = s.film := by
  refine ⟨?_, ?_, ?_, ?_, ?_, ?_, ?_, ?_, ?_, ?_, ?_, ?_, ?_, ?_⟩ <;> decide +kernel

/-- A render of session slot 0. -/
def render0 : Render := ⟨0, 1, reqOf [], 1, [], [], false, []⟩

theorem test_w_render_and_fill : ([render0].find? fun q => q.slot = (0 : Fin 1023).val) = some render0 ∧ up.planesHeld = false ∧
    (up.setChan 2 { Chan.init with state := .training }).planesHeld = true ∧
    (up.setSess 0 (some { sess0 5 with order := 1 })).sess 0 = some { sess0 5 with order := 1 } ∧ render0.order = 1 ∧ up.sess 0 = none ∧
    ((tiled.setTile 0 { tiled.tile 0 with fill := 1 }).tile 0).fill = 1 ∧ (tiled.tile 0).awaits ≠ 8 ∧
    (tiled.setTile 0 { tiled.tile 0 with fill := 1 }).fillBlocked 0 = false ∧ tiled.film.snapTiles.contains 0 = false ∧
    ((tiled.setTile 0 { tiled.tile 0 with fill := 2 }).tile 0).fill = 2 := by decide +kernel

/-- A packet of the stream of `receiving`, with one sample row. -/
def rtp0 : RtpPkt := ⟨0, none, 5, 0, 0, 0, false, 0, [⟨false, 0, 0, [0, 0]⟩]⟩

theorem test_w_rtp_packet : frameFits rtp0.vid (rtpSize rtp0) = true ∧ netPortOn receiving.live rtp0.port.val = true ∧
    receiving.frameTaken rtp0.port.val rtp0.vid = true ∧ receiving.frameLoop = true ∧ receiving.rxTakes (0 : Fin 16).val rtp0 = true ∧
    ∀ n : Fin 16, netted.rxTakes n.val rtp0 = false := by decide +kernel

/-- A packet of a command with TAG 7 and parameters `p` (R319). -/
def cmdPkt (op : Nat) (p : List Byte) : List Byte :=
  let e := if 48 < p.length then cdiv (p.length - 48) 64 else 0
  leBytes 2 op ++ leBytes 2 7 ++ [BitVec.ofNat 8 e, 0] ++ leBytes 2 p.length ++ zeroBytes 8 ++ p ++ zeroBytes (64 * (1 + e) - 16 - p.length)

/-- `s` with a command fetched from SUBMIT ring 0. -/
def fetched (s : State) (op : Nat) (p : List Byte) : State := { s with qm.fetched := [⟨.submit 0, .complete 0, cmdPkt op p⟩] }

/-- That command is at the head of its source, may start, is well formed and is served. -/
def starts (s : State) (op : Nat) (p : List Byte) : Bool :=
  match (fetched s op p).headCmd (.submit 0) with
  | some c => (fetched s op p).mayStart c && decide (c.badStatus = none) && ((fetched s op p).takeCmd c).served c.opcode && decide (c.opcode = op)
  | none => false

/-- SESSION_OPEN of the 64 by 1 pixels of the tile of `tiled`, from source 0. -/
def openParam : List Byte := zeroBytes 12 ++ leBytes 4 64 ++ leBytes 4 1 ++ zeroBytes 22 ++ leBytes 2 1 ++ zeroBytes 4

theorem test_w_nop_and_open : starts up 0 [] = true ∧ starts (live tiled (tslotOff 0 12) 4) 16 openParam = true ∧
    (fetched tiled 16 openParam).opensWait = false ∧ (fetched tiled 16 openParam).opensBefore (.submit 0) = [] ∧
    (live tiled (tslotOff 0 12) 4).openRefused (reqOf openParam) = none ∧ tiled.freeSlot = some 0 ∧
    (fetched guarded 16 openParam).opensWait = true ∧ starts guarded 16 openParam = true := by decide +kernel

/-- An open STREAM that runs. -/
def stream0 : Sess := { sess0 5 with req := { (sess0 5).req with kind := 1 } }

theorem test_w_cancel_and_close : starts up 17 (zeroBytes 4) = true ∧ (booked 3).ownSess (.submit 0) 0 = some (sess0 3) ∧ (sess0 3).state ≤ 3 ∧
    (booked 5).ownSess (.submit 0) 0 = some (sess0 5) ∧ 4 ≤ (sess0 5).state ∧ (sess0 5).state ≤ 5 ∧ starts up 18 (zeroBytes 4) = true ∧
    (tiled.setSess 0 (some stream0)).ownSess (.submit 0) 0 = some stream0 ∧ stream0.openStream = true ∧ stream0.closeReq = false ∧
    stream0.live = true ∧ up.sch.guardDone = false ∧ ({ up with sch.guardDone := true } : State).sch.guardDone = true := by decide +kernel

theorem test_w_film_bind : starts up 33 (zeroBytes 4 ++ [1] ++ zeroBytes 3) = true ∧ (inHand.pkgNow 0).isSome = true ∧
    ∀ i, i < 0 + 1 → inHand.tileBusy i false = false := by decide +kernel

theorem test_w_placement_commits : starts up 48 (zeroBytes 68) = true ∧ starts up 49 (zeroBytes 4) = true ∧ (up.commit (blockUnit 4 0)).1 = true ∧
    starts up 49 [4, 0, 0, 0] = true ∧ starts up 49 [1, 0, 0, 0] = true ∧ (up.commit (blockUnit 1 0)).1 = true := by decide +kernel

/-- Parameters of FL_GLOBAL_WRITE: a constant curve, a period of 1 s. -/
def flGlobal0 : List Byte := zeroBytes 6 ++ leBytes 2 1 ++ zeroBytes 36

/-- Parameters of FL_ZONE_WRITE: zone 0 in mode AMBIENT, AHYST 1, a rising curve. -/
def flZone0 : List Byte := [0, 3] ++ zeroBytes 10 ++ leBytes 2 1 ++ zeroBytes 6 ++ (List.range 6).flatMap fun j => leBytes 2 j ++ leBytes 2 7

theorem test_w_frontlight_commands : starts up 96 flGlobal0 = true ∧ starts up 97 flZone0 = true ∧
    starts up 98 (zeroBytes 2 ++ leBytes 2 1 ++ zeroBytes 4) = true ∧ starts up 99 (zeroBytes 4) = true ∧ (booked 3).inMap 0 = true := by decide +kernel

theorem test_w_access_commands : starts up 112 (zeroBytes 4) = true ∧ starts up 113 (leBytes 4 0x10020 ++ leBytes 4 0) = true ∧
    (up.writeReg (.command (.submit 0)) 0x10020 0).pwr.state ≠ .boot ∧ starts up 114 (zeroBytes 9) = true ∧
    fieldB (zeroBytes 9) 0 8 + ((zeroBytes 9).length - 8) ≤ up.bar2Size ∧ awake.bar2Held 0 1 = false ∧
    (awake.setChan 2 { Chan.init with state := .training }).bar2Held 0 1 = true ∧ (awake.setChan 2 { Chan.init with state := .training }).bar2Held 0 16 = true ∧
    fieldB (zeroBytes 8 ++ leBytes 4 16) 0 8 + fieldB (zeroBytes 8 ++ leBytes 4 16) 8 4 ≤ awake.bar2Size ∧
    starts up 115 (zeroBytes 8 ++ leBytes 4 16) = true := by decide +kernel

/-- A dump of no content. -/
def dump0 : Dump := ⟨4, false, false, false, 0, 0, 0, 0, 0, 0, 0, 0, 0, [], [], [], [], [], [], [], [], []⟩

theorem test_w_system_commands : starts up 130 [] = true ∧ ({ up with glb.dump := some dump0 } : State).glb.dump.isSome = true ∧
    starts up 145 (zeroBytes 4) = true ∧ up.copyOk 0 = true ∧ up.flash.ok = true ∧ ({ State.reset with flash.ok := false } : State).flash.ok = false ∧
    starts up 146 (zeroBytes 4) = true ∧ starts up 146 [1, 0, 0, 0] = true ∧ starts up 160 (zeroBytes 40) = true := by decide +kernel

theorem test_w_film_load_snapshots : starts up 32 (zeroBytes 16) = true ∧ up.slotBusy 0 = false ∧ up.spaceOk 0 0 0 = true ∧ up.grpRuns .film = false ∧
    starts up 64 (zeroBytes 2 ++ leBytes 2 1 ++ zeroBytes 12 ++ leBytes 8 0x100000) = true ∧ (live tiled (tslotOff 0 12) 4).rangeTiles 0 1 = [0] ∧
    (live tiled (tslotOff 0 12) 4).tileBusy 0 true = false ∧ (live tiled (tslotOff 0 12) 4).imageSize [0] ≤ 0x100000 ∧
    up.grpRuns .snapshot = false ∧ starts up 65 (zeroBytes 24) = true ∧ starts up 65 ([0, 1] ++ zeroBytes 22) = true ∧ up.spaceOk 1 0 0 = true ∧
    up.net.pcie.bme = true ∧ awake.bar2Held 0 (headSize (awake.bar2Bytes 0 256)) = false ∧
    (awake.setChan 2 { Chan.init with state := .training }).bar2Held 0 (headSize (awake.bar2Bytes 0 256)) = true := by decide +kernel

theorem test_w_power_set : starts up 80 [2, 0, 0, 0] = true ∧ starts up 80 [4, 0, 0, 0] = true ∧ up.grpRuns .powerSet = false ∧ up.pwr.transit = .none ∧
    (lowTrained .none).entryRefused = none ∧ ({ up with pwr.state := .plateau } : State).pwr.state = .plateau ∧
    ({ up with pwr.state := .plateau } : State).exitRefused = none ∧
    (({ up with pwr.state := .plateau } : State).setChan 0 { Chan.init with fsp := 1, state := .training }).exitRefused = some 12 := by decide +kernel

/-- `up` with one odometer record in the flash. -/
def recorded : State :=
  { up with flash.odo := [(0, some (withCrc 12 (leBytes 4 0x444F4D4C ++ leBytes 2 1 ++ zeroBytes 10)))], glb.dump := some dump0 }

theorem test_w_readback : starts up 128 (zeroBytes 4 ++ leBytes 2 1 ++ zeroBytes 10) = true ∧ up.spaceOk 0 0 (256 * (up.logRange 0 1).length) = true ∧
    up.grpRuns .readback = false ∧ starts up 129 (zeroBytes 24) = true ∧ recorded.heldDump.isSome = true ∧
    up.spaceOk 0 0 (dumpSpan (zeroBytes 24)).2 = true ∧ starts up 131 (zeroBytes 16) = true ∧ recorded.odoBytes 0 = some [] ∧
    up.spaceOk 0 0 ([] : List Byte).length = true := by decide +kernel

theorem test_w_fw_write : starts up 144 [1, 0] = false ∧ starts up 144 ([1, 0] ++ zeroBytes 14) = true ∧ up.glb.image ≠ 1 ∧
    ({ up with glb.rom := true } : State).glb.rom = true ∧ up.grpRuns .fwWrite = false := by decide +kernel

/-- `up` with a FILM_LOAD of 4 bytes from SPACE 0 running. -/
def loading : State := { up with qm.running := [⟨.film, ⟨.submit 0, .complete 0⟩, 7, 32, zeroBytes 4 ++ leBytes 4 4 ++ zeroBytes 8⟩] }

theorem test_w_long_running_end : (loading.runOf .film).map (fun r => (r.opcode, r.source)) = some (32, some (0, 0, 4)) ∧
    loading.planesHeld = false ∧ dmaFits 0 4 (.ok (zeroBytes 4)) = true ∧ (loading.spaceRead 0 0 4 (.ok (zeroBytes 4))).1 = some (zeroBytes 4) := by
  decide +kernel

/-- `up` with SUBMIT ring 0 and COMPLETE ring 0 enabled, one packet waiting. -/
def ringed : State :=
  (up.setRing 0 { Ring.init 0 with en := true, prod := 1, log2 := 8 }).setRing 256 { Ring.init 256 with en := true, log2 := 8 }

theorem test_w_rings : ringed.reached = true ∧ Path.pcie ≠ .lcb ∧ (255 : Fin 4096).val < 256 ∧ (ringed.ring (0 : Fin 4096).val).en = true ∧
    (ringed.ring 0).dbOk 0 ((256 : Word).toNat % 65536) = true ∧ (2559 : Fin 4096).val < 2560 ∧ (1 : Fin 3).val < 2 ∧
    (ringed.ring (256 + bits (0 : Word).toNat 0 8)).en = true ∧ (up.ring (256 + bits (256 : Word).toNat 0 8)).en = false ∧
    bits (256 : Word).toNat 8 1 = 1 := by decide +kernel

/-- A ring whose descriptor is written: enabled, and what the write changes or keeps; not enabled, and what an enable asks for. -/
theorem test_w_ring_descriptors : (ringed.ring 0).en = true ∧ bits (9 + 16 : Word).toNat 0 4 ≠ (ringed.ring 0).log2 ∧
    bits (8 : Word).toNat 0 4 = (ringed.ring 0).log2 ∧ bits (8 : Word).toNat 8 8 = (ringed.ring 0).vec ∧ bits (8 : Word).toNat 24 8 = (ringed.ring 0).pair ∧
    bits (8 : Word).toNat 4 1 = 0 ∧ ringed.mayDisable 256 = false ∧ (ringed.ring 256).en = true ∧ ringed.mayDisable 0 = true ∧
    (ringed.ring 1).en = false ∧ bits (8 + 16 : Word).toNat 4 1 = 1 ∧ (ringed.ring 1).base.toNat % 4096 = 0 ∧ 4 ≤ bits (8 + 16 : Word).toNat 0 4 ∧
    (ringed.ring (256 + bits (8 + 16 : Word).toNat 24 8)).en = true ∧ ¬ 4 ≤ bits (3 + 16 : Word).toNat 0 4 := by decide +kernel

theorem test_w_fetch_and_interrupts : ringed.mayFetch (.submit 0) = true ∧ ringed.turnRing = some (0 : Fin 256).val ∧ ringed.turnRing ≠ some 1 ∧
    ({ ringed with net.pcie.bme := false } : State).net.pcie.bme = false ∧ ({ ringed with net.pcie.bme := false } : State).turnRing = some 0 ∧ ringed.net.pcie.bme = true ∧
    1 + fieldB (cmdPkt 0 []) 4 1 ≤ (ringed.ring 0).held ∧ (cmdPkt 0 []).length = 64 * (1 + fieldB (cmdPkt 0 []) 4 1) ∧ 0 < (ringed.ring 0).held ∧
    ringed.dstOpen (.complete 0) = true ∧ 0 < ringed.dstFree (.complete 0) ∧ ({ ringed with qm.ovq := [(.complete 0, [])] } : State).qm.ovq = [(.complete 0, [])] ∧
    ((up.setRing 256 { Ring.init 256 with due := some 5 }).ring (256 : Fin 4096).val).due = some 5 ∧
    (9 : Fin 256).val ∈ ({ up with qm.pba := [9] } : State).qm.pba ∧ ringed.qm.running.filter Running.usesDma = [] := by decide +kernel

/-- `tiled` whose frontlight zone 0 is AMBIENT with the host's reading 100, at the level `n`. -/
def daylight (n : Nat) : State :=
  tiled.setFlZone 0 { FlZone.init with mode := 3, ambSrc := 1, hostLux := 100, daylight := points, ahyst := 6, target := n }

theorem test_w_frontlight : (daylight 0).flActive = true ∧ (daylight 0).ambientOf (0 : Fin 16).val = some 100 ∧ ((daylight 0).flZone 0).mode = 3 ∧
    daylightLevel ((daylight 0).flZone 0).daylight 100 = 6 ∧ ((daylight 0).flZone 0).ahyst ≤ max 6 ((daylight 0).flZone 0).target - min 6 ((daylight 0).flZone 0).target ∧
    max 6 ((daylight 1).flZone 0).target - min 6 ((daylight 1).flZone 0).target < ((daylight 1).flZone 0).ahyst ∧
    ((daylight 0).flZone 0).want = some (0, false) := by decide +kernel

/-- `tiled` with frontlight strings on its tile in a zone of mode MANUAL, and the engine's record of it as given. -/
def lit (x : FlTile) : State :=
  ((tiled.setTile 0 { tiled.tile 0 with flStrings := 1 }).setFlZone 0 { FlZone.init with mode := 2 }).setFlTile 0 x

theorem test_w_frontlight_segments : (lit { FlTile.init with segs := [⟨7, 10, false⟩] }).flMaySend (0 : Fin 1024).val = true ∧
    ((lit { FlTile.init with segs := [⟨7, 10, false⟩] }).flTile 0).out = .none ∧ ((lit FlTile.init).tile 0).cmds.length < 4 ∧
    ((lit { FlTile.init with segs := [⟨7, 10, false⟩] }).flTile 0).resume = [] ∧ ((lit { FlTile.init with segs := [⟨7, 10, false⟩] }).flTile 0).offOwed = [] ∧
    ((lit { FlTile.init with segs := [⟨7, 10, false⟩] }).flTile 0).segs = ⟨7, 10, false⟩ :: [] ∧
    ((List.range 16).filterMap ((lit { FlTile.init with short := [(3, some 5)] }).diagDue 0)).min?.isSome = true := by decide +kernel

/-- `up` with a value written to a register of a shadow set. -/
def shadowed (off v : Nat) : State := up.putReg off v

/-- The shadow registers of `up` with the PMBus address 8 for each regulator, none enabled. -/
def addressed : Tab (Tab Word) := ((List.range 8).foldl (fun s n => s.putReg (baseNet + 0x600 + n * 16) 8) up).regs.shadow

theorem test_w_commits : up.reached = true ∧ bits (1 : Word).toNat 0 1 = 1 ∧ up.pendSet unitWsa = none ∧ up.wsaSetOk = true ∧ up.mpSetOk = true ∧
    up.timeSetOk = true ∧ ({ up with regs.shadow := addressed } : State).netSetOk = true ∧ up.thmSetOk = true ∧ up.rcSetOk = true ∧ up.railSetOk (7 : Fin 8).val = true ∧
    up.tfSetOk (31 : Fin 32).val = true ∧ up.pendSet unitSch = none ∧ up.schSetOk = true := by decide +kernel

theorem test_w_commits_refused : ({ up with regs.pend := [(unitTime, some [])] } : State).pendSet unitTime = some [] ∧
    (shadowed (baseMp + 0x1004) 1).pendSet unitMp = none ∧ (shadowed (baseTime + 0x40) 0).timeSetOk = false ∧
    (shadowed (baseSch + 0x400) 0).schSetOk = false := by decide +kernel

theorem test_w_register_accesses : (0xFFFFFC : BitVec 32).toNat < 0x1000000 ∧ (0xFFFFFC : BitVec 32).toNat % 4 = 0 ∧
    (0x3FFFFFF : BitVec 32).toNat < 0x4000000 ∧ oneBits 0x10020 = 0 ∧ 0x1000000 ≤ (0x1000000 : BitVec 32).toNat ∧
    up.reaches .pcie 0x90100 = true ∧ pairLo 0x10020 = none ∧ pairLo 0x90100 = some 0x90100 ∧ pairLo 0x90104 = some 0x90100 ∧ 0x90100 ≠ 0x90104 ∧
    tabGet none ({ up with regs.cap := [(pathKey .pcie, some (0x90100, 5))] } : State).regs.cap (pathKey .pcie) = some (0x90100, 5) ∧
    0x70000 ≤ (0x90100 : BitVec 32).toNat := by decide +kernel

/-- `up` on its way into a warm reset. -/
def entering (stage : Nat) : State := { up with glb.entry := some ⟨.warm, 2, 0, 0, 0, 0, 2, stage⟩ }

/-- Facts of a board whose boot takes 1 ms. -/
def board : BootFacts :=
  ⟨1, true, [], [], 0x1840EF, 24, true, ⟨0, 1, 1⟩, ⟨0, 1, 1⟩, [], ⟨5, 8, true, false, false, 0, 0, 0, 0⟩, true, 2, 1000⟩

theorem test_w_resets : up.glb.entry = none ∧ up.glb.capture = none ∧ bits (0xA400 : Word).toNat 8 8 ≠ 0xA5 ∧ bits (0xA502 : Word).toNat 8 8 = 0xA5 ∧
    bits (0xA502 : Word).toNat 1 1 = 1 ∧ bits (0xA501 : Word).toNat 1 1 = 0 ∧ bits (0xA501 : Word).toNat 0 1 = 1 ∧
    (entering 1).glb.entry.map (fun e => e.stage) = some 1 ∧ (entering 3).glb.capture = none ∧ (entering 4).glb.entry.map (fun e => e.stage) = some 4 ∧
    (entering 5).glb.entry.map (fun e => e.stage) = some 5 ∧ up.groupsDown = true ∧ ({ entering 1 with time.wfn := 2 } : State).groupsDown = true ∧
    up.glb.refclkStopped = false ∧ State.reset.glb.bootKind = .cold ∧ ({ State.reset with glb.bootKind := .warm } : State).glb.bootKind ≠ .cold ∧
    up.runOf .fwWrite = none ∧ ({ up with glb.capture := some ⟨4, 0, 0, 0, 2, 0⟩ } : State).glb.capture.isSome = true ∧
    up.pwr.state = .hold ∧ State.reset.pwr.state = .boot ∧ State.reset.glb.ready = false ∧ State.reset.glb.entry = none ∧
    ({ board with failH := [11] } : BootFacts).failH ≠ [] := by decide +kernel

/-- `up` with a fatal error captured. -/
def captured : State := { up with glb.capture := some ⟨4, 0, 0, 0, 2, 0⟩ }

theorem test_w_fatal_errors : up.glb.entry = none ∧ up.glb.capture = none ∧ up.glb.dump = none ∧ parityBase (0x80000 : BitVec 26).toNat = true ∧
    up.glb.ready = true ∧ up.glb.wdogLogged = false ∧ bits (1 : Word).toNat 0 1 = 1 ∧ Path.pcie ≠ .firmware ∧
    captured.glb.capture.map (fun c => c.cause) = some 4 ∧ ({ recorded with glb.summaryDue := true } : State).glb.dump = some dump0 ∧
    up.glb.rom = false := by decide +kernel

theorem test_w_records : ({ up with pwr.state := .run } : State).pwr.state = .run ∧ ({ up with glb.odoDue := [7] } : State).odoNextReason = some 7 ∧
    up.glb.odoSlot < 256 ∧ up.glb.odoRetry = false ∧ ({ up with glb.odoErase := true } : State).glb.odoErase = true ∧
    ({ up with glb.odoErase := true, glb.odoEraseRetry := true } : State).glb.odoEraseRetry = true ∧
    bits (0 : Word).toNat 24 6 ≤ up.glb.secver ∧ up.glb.secver < bits (0x3F000000 : Word).toNat 24 6 ∧
    ({ up with glb.tap := 1 } : State).glb.tap = 1 ∧ ({ up with glb.tap := 0 } : State).glb.tap = 0 ∧ ({ up with glb.tap := 3 } : State).glb.tap = 3 := by
  decide +kernel

/-! ### WellFormed: for each check an ill-formed command, refused -/

theorem test_wf_marker_short : (Instr.wallSyncMarker ⟨0, 0, 0, []⟩).wf = false := by decide
theorem test_wf_drive_row_empty : (Instr.driveRow ⟨0, 0⟩ ⟨0, false, 0, 0, 0, 0, 0, []⟩).wf = false := by decide
theorem test_wf_flip_rows : (Instr.flip ⟨0, 0⟩ ⟨0, 0, 0, false, false, 0, 0, 0, []⟩).wf = false := by decide
theorem test_wf_drop_report_ranges : (Instr.dropReport 0 ⟨0, 0, false, true, 0, List.replicate 33 (0, 1)⟩).wf = false := by decide
theorem test_wf_tile_rsp_long : (Instr.tileRsp 0 0 0 0 (zeroBytes 273) .failed).wf = false := by decide +kernel
theorem test_wf_telemetry_strings : (Instr.telemetryPeriod ⟨0, 0⟩ ⟨true, 0, 0, 0, 0, 0, 0, true, List.replicate 17 (0, 0)⟩).wf = false := by decide
theorem test_wf_telemetry_value : (Instr.tcTelNow ⟨0, 0⟩ ⟨0, 0⟩ ⟨true, 0, 0, 0, 0, 0, 0, true, [(65536, 0)]⟩).wf = false := by decide
theorem test_wf_tile_param_long : (Instr.tcIdentify ⟨0, 0⟩ ⟨0, 0⟩ (zeroBytes 273)).wf = false ∧
    (Instr.tcFlSet ⟨0, 0⟩ ⟨0, 0⟩ (zeroBytes 273)).wf = false ∧ (Instr.tcFlConfig ⟨0, 0⟩ ⟨0, 0⟩ (zeroBytes 273)).wf = false ∧
    (Instr.tcFlDiag ⟨0, 0⟩ ⟨0, 0⟩ (zeroBytes 273)).wf = false ∧ (Instr.tileOpcodeUnknown ⟨0, 0⟩ ⟨0, 0⟩ ⟨99, zeroBytes 273⟩).wf = false := by decide +kernel
theorem test_wf_no_access : (Instr.bar2Access 0 (.read 0)).wf = false ∧ (Instr.valeAliasAccess .pcie .normal 0 ⟨.write [], []⟩).wf = false ∧
    (Instr.valeSetWrite .pcie 0 0 0).wf = false ∧ (Instr.valeClearWrite .pcie 0 0 0).wf = false ∧
    (Instr.registerWrite .pcie 0 0 ⟨0, none⟩).wf = false ∧ (Instr.registerRead .pcie 0 4097).wf = false := by decide
theorem test_wf_rail_samples : (Instr.railPwmPeriod 0 [1] [] [] [true]).wf = false := by decide
theorem test_wf_ptp_interval : (Instr.ptpSync ⟨0, 0, 0, 0, 0, 200⟩).wf = false ∧ (Instr.ptpAnnounce ⟨0, 0, 0, 0, 0, 0, 0, 0, 0, 0, -129⟩).wf = false ∧
    (Instr.ptpDelayResp ⟨0, 0, 0, 0, 0, 128⟩).wf = false := by decide
theorem test_wf_rtp_no_rows : (Instr.rtpPacket ⟨0, none, 0, 0, 0, 0, false, 0, []⟩).wf = false := by decide
theorem test_wf_frames_long : (Instr.icmpEcho 0 none 0 0 0 (zeroBytes 9217)).wf = false ∧
    (Instr.commandDatagram ⟨0, none, 0, 0, 0, 0, 0, zeroBytes 9217⟩).wf = false := by decide +kernel
theorem test_wf_stall_long : (Instr.setPointSwitch 1501).wf = false := by decide
theorem test_wf_board : (Instr.bootReady { board with density := 3 }).wf = false := by decide
theorem test_wf_capture_place : (Instr.fatalCaptureDone [(0, 1)] []).wf = false ∧ (Instr.fatalCaptureDone [] [(0x4000000, 1)]).wf = false := by decide
theorem test_wf_shift_nothing : (Instr.jtagTapOperation (.shiftDr [])).wf = false := by decide

/-! ### The spec's worked examples -/

/-- The film package of the example of 02_film_state.md: knots at 20 and 30 degrees, codes 3 and 7. -/
def examplePkg : Pkg :=
  let code (k c : Nat) (a b0 b1 : Nat) : Mem :=
    let o := 0x200 + (k * 8 + c) * 40
    let w (e v : Nat) : Mem := [(o + 2 * e, BitVec.ofNat 8 v), (o + 2 * e + 1, BitVec.ofNat 8 (v / 256))]
    w 0 a ++ w 5 a ++ w 10 16384 ++ w 15 16384 ++ w 16 b0 ++ w 17 b1
  ⟨false, 0x8200, code 0 3 13107 3113 164 ++ code 0 7 13107 164 3113 ++ code 1 3 11469 4669 246 ++ code 1 7 11469 246 4669⟩

/-- R40, R41, R42 on the numbers of 02_film_state.md: the first frame with code 3, and the first with code 7. -/
theorem test_example_film_model : trimFactor (-4) = 37449 ∧ examplePkg.coef (0, 115) 3 0 = 12371 ∧ examplePkg.coef (0, 115) 3 16 = 3812 ∧
    examplePkg.coef (0, 115) 3 17 = 201 ∧ examplePkg.modelStep (0, 115) 37449 (20, 230, 128, 64) 3 = (82, 169, 128, 64) ∧
    examplePkg.modelStep (0, 115) 37449 (183, 71, 128, 64) 7 = (135, 119, 128, 64) := by decide +kernel

/-- 10_dram.md: where bulk address 0x1_2345_6A40 lies, with ranks of 0x1_0000_0000 bytes. -/
theorem test_example_bulk_address : bulkMap 0x123456A40 = (8, 0x1D208A40) ∧ (chanLoc 0x100000000 8 0x1D208A40).byte = 0x40 ∧
    (chanLoc 0x100000000 8 0x1D208A40).subchannel = 0 ∧ (chanLoc 0x100000000 8 0x1D208A40).group = 1 ∧ (chanLoc 0x100000000 8 0x1D208A40).bank = 1 ∧
    (chanLoc 0x100000000 8 0x1D208A40).slice = 4 ∧ (chanLoc 0x100000000 8 0x1D208A40).row = 7456 ∧ (chanLoc 0x100000000 8 0x1D208A40).rank = 0 := by
  decide +kernel

/-- 07_frame_timing.md: flip times at 85 Hz, and after a change to 60 Hz. -/
theorem test_example_flip_times : flipTimeAt 0 0 85 144500000000 = 1700000000000000000 ∧ flipTimeAt 0 0 85 144500000169 = 1700000001988235294 ∧
    flipTimeAt 0 0 85 144500000170 = 1700000002000000000 ∧
    flipTimeAt 1700000002000000000 144500000170 60 144500000171 = 1700000002016666666 ∧
    flipTimeAt 1700000002000000000 144500000170 60 144500000173 = 1700000002050000000 := by decide +kernel

/-- 09_frontlight.md: the curve at LEVEL 400. -/
theorem test_example_frontlight_curve : State.reset.flCurve 400 = 744 := by decide +kernel

/-- 12_commands.md: the PHASE of entry 40 of a ring of 64 entries. -/
theorem test_example_phase : phaseBit 6 40 = 1 := by decide

/-- 05_mapping.md: MP_LAYERCAP at 85 Hz. -/
theorem test_example_layer_cap : up.mpLayerCap = 135529411 := by decide +kernel

/-! ### Steps -/

/-- R207: the flip tick begins the next frame. -/
theorem test_step_flip_tick : (match exec .flipTick up with | .next t => t.time.wfn | _ => 0) = 1 := by decide +kernel

/-- R302: a write of VALE_OWN by a path that is not the owner's is refused. -/
theorem test_step_own_refused : (match exec (.valeOwnWrite .lcb 56 ⟨3, none⟩) up with | .next t => t.vale.refused | _ => false) = true := by decide +kernel

/-- R301: the clear alias stores w and not m. -/
theorem test_step_vale_clear : (match exec (.valeClearWrite .pcie 0xE00000 4 0x0F) ({ up with vale.mem := [(0xE00000, 0x3C)] } : State) with
    | .next t => memLe t.vale.mem 0xE00000 4 | _ => 0) = 0x30 := by decide +kernel

/-- R8: of an LCB and a PCIe write of one cycle the PCIe value stands. -/
theorem test_step_same_cycle : (match exec (.registerWrite .lcb 0x10020 4 ⟨20, some 30⟩) up with | .next t => bits (t.shadow 0x10020) 0 10 | _ => 0) = 30 := by
  decide +kernel

end Sys2Proof.Tests
end

section
/-! PROOFS. Every step keeps the invariant (O7), and the state after reset meets it (O8). -/

namespace Sys2Proof.Machine

/-- The parts of the state that a command does not touch. -/
def untouched (c : Instr) (p : StatePart) : Bool := decide (p ∉ touches c)

/-- Every command keeps the queue, the parts that it does not touch and, where the context asks for it, the invariant: each case is
the keep lemma of that command. -/
theorem exec_ok (c : Instr) {q : List Instr} {inv : Bool} {m : Nat} {s₀ s : State} (hk : Ok ⟨q, inv, m, s₀, untouched c⟩ s) :
    OkO ⟨q, inv, m, s₀, untouched c⟩ (exec c s) := by
  cases c with
  | flipTick => exact execFlipTick_ok _ hk
  | ageTick => exact execAgeTick_ok _ hk
  | guardBegin => exact execGuardBegin_ok _ hk
  | wsaGuardHandoff => exact execWsaGuardHandoff_ok _ hk
  | schGuardProcess => exact execSchGuardProcess_ok _ hk
  | bundleTake _ => exact execBundleTake_ok _ _ hk
  | pixelEvaluate _ _ _ _ => exact execPixelEvaluate_ok _ _ _ _ _ hk
  | droppedRowFixup _ _ _ _ => exact execDroppedRowFixup_ok _ _ _ _ _ hk
  | ageSweepSegment _ _ _ => exact execAgeSweepSegment_ok _ _ _ _ hk
  | driveRowSend _ => exact execDriveRowSend_ok _ _ hk
  | flipSend _ => exact execFlipSend_ok _ _ hk
  | flipCopySend _ => exact execFlipCopySend_ok _ _ hk
  | seqMarkTimer _ => exact execSeqMarkTimer_ok _ _ hk
  | rowNak _ _ _ _ => exact execRowNak_ok _ _ _ _ _ hk
  | frameReady _ _ _ => exact execFrameReady_ok _ _ _ _ hk
  | dropReport _ _ => exact execDropReport_ok _ _ _ hk
  | desc _ _ => exact execDesc_ok _ _ _ hk
  | delayResp _ _ _ _ _ _ _ => exact execDelayResp_ok _ _ _ _ _ _ _ _ hk
  | tileRsp _ _ _ _ _ _ => exact execTileRsp_ok _ _ _ _ _ _ _ hk
  | telemetry _ _ => exact execTelemetry_ok _ _ _ hk
  | hopDown _ _ _ => exact execHopDown_ok _ _ _ _ hk
  | linkState _ _ => exact execLinkState_ok _ _ _ hk
  | enumLoopArrival _ _ _ => exact execEnumLoopArrival_ok _ _ _ _ hk
  | packetTypeDiscard _ => exact execPacketTypeDiscard_ok _ _ hk
  | fecCodewordLost _ => exact execFecCodewordLost_ok _ _ hk
  | enumWaitExpire _ => exact execEnumWaitExpire_ok _ _ hk
  | delayProbePeriod _ => exact execDelayProbePeriod_ok _ _ hk
  | degradedExit _ => exact execDegradedExit_ok _ _ hk
  | tileCmdFetch _ _ => exact execTileCmdFetch_ok _ _ _ hk
  | tileCmdTimeout _ _ => exact execTileCmdTimeout_ok _ _ _ hk
  | hopSignalDetected _ => exact execHopSignalDetected_ok _ _ hk
  | hopBlockLock _ => exact execHopBlockLock_ok _ _ hk
  | hopFrameLock _ => exact execHopFrameLock_ok _ _ hk
  | hopStepTimeout _ => exact execHopStepTimeout_ok _ _ hk
  | hopLeavesUp _ => exact execHopLeavesUp_ok _ _ hk
  | driveRow _ _ => exact execDriveRow_ok _ _ _ hk
  | flip _ _ => exact execFlip_ok _ _ _ hk
  | seqMark _ _ => exact execSeqMark_ok _ _ _ hk
  | enum _ _ _ _ => exact execEnum_ok _ _ _ _ _ hk
  | delayProbe _ _ _ _ => exact execDelayProbe_ok _ _ _ _ _ hk
  | delaySet _ _ _ => exact execDelaySet_ok _ _ _ _ hk
  | tileFlip _ => exact execTileFlip_ok _ _ hk
  | telemetryPeriod _ _ => exact execTelemetryPeriod_ok _ _ _ hk
  | tcNop _ _ => exact execTcNop_ok _ _ _ hk
  | tcTelNow _ _ _ => exact execTcTelNow_ok _ _ _ _ hk
  | tcPanelOn _ _ => exact execTcPanelOn_ok _ _ _ hk
  | tcPanelOff _ _ => exact execTcPanelOff_ok _ _ _ hk
  | tcClearCounters _ _ => exact execTcClearCounters_ok _ _ _ hk
  | tcIdentify _ _ _ => exact execTcIdentify_ok _ _ _ _ hk
  | tcResetBridge _ _ => exact execTcResetBridge_ok _ _ _ hk
  | tcFlSet _ _ _ => exact execTcFlSet_ok _ _ _ _ hk
  | tcFlConfig _ _ _ => exact execTcFlConfig_ok _ _ _ _ hk
  | tcFlDiag _ _ _ => exact execTcFlDiag_ok _ _ _ _ hk
  | tcFlRead _ _ => exact execTcFlRead_ok _ _ _ hk
  | tileOpcodeUnknown _ _ _ => exact execTileOpcodeUnknown_ok _ _ _ _ hk
  | railPwmPeriod _ _ _ _ _ => exact execRailPwmPeriod_ok _ _ _ _ _ _ hk
  | depDelayExpire _ _ => exact execDepDelayExpire_ok _ _ _ hk
  | rampEnd _ _ => exact execRampEnd_ok _ _ _ hk
  | qualifyDone _ _ => exact execQualifyDone_ok _ _ _ hk
  | railTimeout _ _ => exact execRailTimeout_ok _ _ _ hk
  | retryOffExpire _ _ => exact execRetryOffExpire_ok _ _ _ hk
  | retriesClear _ _ => exact execRetriesClear_ok _ _ _ hk
  | externalSlotOffTimer _ _ => exact execExternalSlotOffTimer_ok _ _ _ hk
  | offtmoExpire _ _ => exact execOfftmoExpire_ok _ _ _ hk
  | ffLoad _ => exact execFfLoad_ok _ _ hk
  | faultNRelease => exact execFaultNRelease_ok _ hk
  | faultNReleaseSample _ => exact execFaultNReleaseSample_ok _ _ hk
  | faultNEvent _ => exact execFaultNEvent_ok _ _ hk
  | faultNStuck => exact execFaultNStuck_ok _ hk
  | faultNRearm => exact execFaultNRearm_ok _ hk
  | minoffExpire _ => exact execMinoffExpire_ok _ _ hk
  | heldUpStart _ => exact execHeldUpStart_ok _ _ hk
  | vinLow _ => exact execVinLow_ok _ _ hk
  | vinReturn _ => exact execVinReturn_ok _ _ hk
  | vinCollapse _ => exact execVinCollapse_ok _ _ hk
  | railStatusUpdate => exact execRailStatusUpdate_ok _ hk
  | thmZoneSample _ _ _ _ => exact execThmZoneSample_ok _ _ _ _ _ hk
  | thermalSafeEntry => exact execThermalSafeEntry_ok _ hk
  | thmTick => exact execThmTick_ok _ hk
  | plateauEntryComplete => exact execPlateauEntryComplete_ok _ hk
  | plateauExitComplete => exact execPlateauExitComplete_ok _ hk
  | refreshDue _ _ _ _ => exact execRefreshDue_ok _ _ _ _ _ hk
  | refreshPullin _ _ _ => exact execRefreshPullin_ok _ _ _ _ hk
  | mr4Poll _ _ => exact execMr4Poll_ok _ _ _ hk
  | rankPowerDown _ _ => exact execRankPowerDown_ok _ _ _ hk
  | selfRefreshReentry _ => exact execSelfRefreshReentry_ok _ _ hk
  | trackingStep _ _ => exact execTrackingStep_ok _ _ _ hk
  | setPointSwitch _ => exact execSetPointSwitch_ok _ _ hk
  | dmcTrainStart _ => exact execDmcTrainStart_ok _ _ hk
  | trainingDone _ => exact execTrainingDone_ok _ _ hk
  | inlineEccError _ _ _ => exact execInlineEccError_ok _ _ _ _ hk
  | bar2Access _ _ => exact execBar2Access_ok _ _ _ hk
  | valeAliasAccess _ _ _ _ => exact execValeAliasAccess_ok _ _ _ _ _ hk
  | valeSetWrite _ _ _ _ => exact execValeSetWrite_ok _ _ _ _ _ hk
  | valeClearWrite _ _ _ _ => exact execValeClearWrite_ok _ _ _ _ _ hk
  | valeOwnWrite _ _ _ => exact execValeOwnWrite_ok _ _ _ _ hk
  | valeHandoverDone _ => exact execValeHandoverDone_ok _ _ hk
  | valeRetEnWrite _ => exact execValeRetEnWrite_ok _ _ hk
  | valeRetentionEnter _ => exact execValeRetentionEnter_ok _ _ hk
  | btWindowStart => exact execBtWindowStart_ok _ hk
  | btWindowDone _ => exact execBtWindowDone_ok _ _ hk
  | statusWindowWrite _ _ _ _ => exact execStatusWindowWrite_ok _ _ _ _ _ hk
  | heartbeat => exact execHeartbeat_ok _ hk
  | ptpSync _ => exact execPtpSync_ok _ _ hk
  | ptpAnnounce _ => exact execPtpAnnounce_ok _ _ hk
  | ptpDelayResp _ => exact execPtpDelayResp_ok _ _ hk
  | ptpDelayReqSend _ => exact execPtpDelayReqSend_ok _ _ hk
  | announceReceiptTimeout => exact execAnnounceReceiptTimeout_ok _ hk
  | syncTimeout => exact execSyncTimeout_ok _ hk
  | holdoverExpire => exact execHoldoverExpire_ok _ hk
  | timeStep => exact execTimeStep_ok _ hk
  | wallSyncMarker _ => exact execWallSyncMarker_ok _ _ hk
  | markerMissHoldover => exact execMarkerMissHoldover_ok _ hk
  | rtpPacket _ => exact execRtpPacket_ok _ _ hk
  | renderComplete _ => exact execRenderComplete_ok _ _ hk
  | tileFill _ => exact execTileFill_ok _ _ hk
  | tileFillDone _ => exact execTileFillDone_ok _ _ hk
  | arpRequest _ _ _ _ _ => exact execArpRequest_ok _ _ _ _ _ _ hk
  | icmpEcho _ _ _ _ _ _ => exact execIcmpEcho_ok _ _ _ _ _ _ _ hk
  | igmpQuery _ _ _ _ => exact execIgmpQuery_ok _ _ _ _ _ hk
  | ethFrameDiscard port vid => exact execEthFrameDiscard_ok port vid _ hk
  | commandDatagram _ => exact execCommandDatagram_ok _ _ hk
  | completionDatagramSend _ => exact execCompletionDatagramSend_ok _ _ hk
  | pmbusPoll _ _ => exact execPmbusPoll_ok _ _ _ hk
  | smbSetPointer _ => exact execSmbSetPointer_ok _ _ hk
  | smbBlockRead => exact execSmbBlockRead_ok _ hk
  | smbReadId => exact execSmbReadId_ok _ hk
  | pcieReset _ => exact execPcieReset_ok _ _ hk
  | dmaTimeout _ => exact execDmaTimeout_ok _ _ hk
  | flEvaluate => exact execFlEvaluate_ok _ hk
  | flAmbientEvaluate _ => exact execFlAmbientEvaluate_ok _ _ hk
  | flSegmentSend _ => exact execFlSegmentSend_ok _ _ hk
  | flDiagTimer _ => exact execFlDiagTimer_ok _ _ hk
  | qmDoorbell _ _ _ => exact execQmDoorbell_ok _ _ _ _ hk
  | commandFetch _ _ => exact execCommandFetch_ok _ _ _ hk
  | msixCoalesceExpire _ => exact execMsixCoalesceExpire_ok _ _ hk
  | overflowQueueDrain _ => exact execOverflowQueueDrain_ok _ _ hk
  | longRunningComplete _ _ => exact execLongRunningComplete_ok _ _ _ hk
  | mailboxDoorbell _ _ => exact execMailboxDoorbell_ok _ _ _ hk
  | mailboxControl _ _ => exact execMailboxControl_ok _ _ _ hk
  | nop _ => exact execNop_ok _ _ hk
  | sessionOpen _ => exact execSessionOpen_ok _ _ hk
  | sessionCancel _ => exact execSessionCancel_ok _ _ hk
  | sessionClose _ => exact execSessionClose_ok _ _ hk
  | filmLoad _ => exact execFilmLoad_ok _ _ hk
  | filmBind _ => exact execFilmBind_ok _ _ hk
  | placementWrite _ => exact execPlacementWrite_ok _ _ hk
  | configCommit _ => exact execConfigCommit_ok _ _ hk
  | snapshotSave _ => exact execSnapshotSave_ok _ _ hk
  | snapshotRestore _ => exact execSnapshotRestore_ok _ _ hk
  | powerSet _ => exact execPowerSet_ok _ _ hk
  | flGlobalWrite _ => exact execFlGlobalWrite_ok _ _ hk
  | flZoneWrite _ => exact execFlZoneWrite_ok _ _ hk
  | flTileBind _ => exact execFlTileBind_ok _ _ hk
  | flStatusRead _ => exact execFlStatusRead_ok _ _ hk
  | regRead _ => exact execRegRead_ok _ _ hk
  | regWrite _ => exact execRegWrite_ok _ _ hk
  | bar2Write _ => exact execBar2Write_ok _ _ hk
  | bar2Read _ => exact execBar2Read_ok _ _ hk
  | eventLogRead _ => exact execEventLogRead_ok _ _ hk
  | dumpRead _ => exact execDumpRead_ok _ _ hk
  | dumpRelease _ => exact execDumpRelease_ok _ _ hk
  | odometerRead _ => exact execOdometerRead_ok _ _ hk
  | fwWrite _ => exact execFwWrite_ok _ _ hk
  | fwSelect _ => exact execFwSelect_ok _ _ hk
  | reset _ => exact execReset_ok _ _ hk
  | netKeySet _ => exact execNetKeySet_ok _ _ hk
  | wsaCommit _ => exact execWsaCommit_ok _ _ hk
  | schCommit _ => exact execSchCommit_ok _ _ hk
  | mpCommit _ => exact execMpCommit_ok _ _ hk
  | tfPcommit _ _ => exact execTfPcommit_ok _ _ _ hk
  | timeCommit _ => exact execTimeCommit_ok _ _ hk
  | rgCommit _ _ => exact execRgCommit_ok _ _ _ hk
  | rcCommit _ => exact execRcCommit_ok _ _ hk
  | netCommit _ => exact execNetCommit_ok _ _ hk
  | thmCommit _ => exact execThmCommit_ok _ _ hk
  | tfPctrlEnable _ _ => exact execTfPctrlEnable_ok _ _ _ hk
  | tfPctrlEnum _ => exact execTfPctrlEnum_ok _ _ hk
  | tfPctrlForget _ => exact execTfPctrlForget_ok _ _ hk
  | tfTslotAccept _ _ => exact execTfTslotAccept_ok _ _ _ hk
  | rgCtrlEnable _ _ => exact execRgCtrlEnable_ok _ _ _ hk
  | rgCtrlUp _ => exact execRgCtrlUp_ok _ _ hk
  | rgCtrlDown _ => exact execRgCtrlDown_ok _ _ hk
  | timeStepNow => exact execTimeStepNow_ok _ hk
  | glbRstCtrlWarm _ => exact execGlbRstCtrlWarm_ok _ _ hk
  | glbRstCtrlCold _ => exact execGlbRstCtrlCold_ok _ _ hk
  | glbWdogKick _ _ => exact execGlbWdogKick_ok _ _ _ hk
  | watchdogExpire => exact execWatchdogExpire_ok _ hk
  | diagOdoWriteNow => exact execDiagOdoWriteNow_ok _ hk
  | diagBootcfgSave _ => exact execDiagBootcfgSave_ok _ _ hk
  | diagSecverRaise _ => exact execDiagSecverRaise_ok _ _ hk
  | qmRingCfgWrite _ _ _ _ => exact execQmRingCfgWrite_ok _ _ _ _ _ hk
  | qmEvtWrite _ _ => exact execQmEvtWrite_ok _ _ _ hk
  | wsaCntClr _ => exact execWsaCntClr_ok _ _ hk
  | schCntClr _ => exact execSchCntClr_ok _ _ hk
  | mpCntClr _ => exact execMpCntClr_ok _ _ hk
  | tfPcntClr _ _ => exact execTfPcntClr_ok _ _ _ hk
  | timeCntClr _ => exact execTimeCntClr_ok _ _ hk
  | rgCntClr _ _ => exact execRgCntClr_ok _ _ _ hk
  | rcCntClr _ => exact execRcCntClr_ok _ _ hk
  | dmcCntClr _ _ => exact execDmcCntClr_ok _ _ _ hk
  | dmcGcntClr _ => exact execDmcGcntClr_ok _ _ hk
  | valeCntClr _ => exact execValeCntClr_ok _ _ hk
  | qmCntClr _ _ => exact execQmCntClr_ok _ _ _ hk
  | netCntClr _ => exact execNetCntClr_ok _ _ hk
  | thmCntClr _ => exact execThmCntClr_ok _ _ hk
  | registerWrite _ _ _ _ => exact execRegisterWrite_ok _ _ _ _ _ hk
  | powerOn _ _ => exact execPowerOn_ok _ _ _ hk
  | porstNLow _ _ => exact execPorstNLow_ok _ _ _ hk
  | rstNLow _ => exact execRstNLow_ok _ _ hk
  | refclkStop => exact execRefclkStop_ok _ hk
  | fwException _ _ => exact execFwException_ok _ _ _ hk
  | parityError _ => exact execParityError_ok _ _ hk
  | warmResetDrvTimeout => exact execWarmResetDrvTimeout_ok _ hk
  | resetSelfRefresh => exact execResetSelfRefresh_ok _ hk
  | resetHoldExpire => exact execResetHoldExpire_ok _ hk
  | bootReady _ => exact execBootReady_ok _ _ hk
  | strikesClear => exact execStrikesClear_ok _ hk
  | fatalCaptureDone cores fw => exact execFatalCaptureDone_ok cores fw s hk
  | dumpSummaryWrite _ => exact execDumpSummaryWrite_ok _ _ hk
  | odometerPeriodic => exact execOdometerPeriodic_ok _ hk
  | odometerRecordWrite _ => exact execOdometerRecordWrite_ok _ _ hk
  | odometerAreaErase _ => exact execOdometerAreaErase_ok _ _ hk
  | registerRead _ _ _ => exact execRegisterRead_ok _ _ _ _ hk
  | packetSyncLost _ _ => exact execPacketSyncLost_ok _ _ _ hk
  | pcrcFail _ => exact execPcrcFail_ok _ _ hk
  | arpReply _ _ _ _ _ => exact execArpReply_ok _ _ _ _ _ _ hk
  | msixVectorUnmask _ => exact execMsixVectorUnmask_ok _ _ hk
  | jtagTapOperation _ => exact execJtagTapOperation_ok _ _ hk

theorem exec_keeps_inv {c : Instr} {s t : State} (hs : s.Inv) (ht : exec c s = .next t) : t.Inv := by
  have h := exec_ok c (Ok.inv s (untouched c) hs)
  rw [ht] at h
  exact Ok.toInv h rfl

theorem tick_keeps_inv {s : State} (hs : s.Inv) : s.tick.Inv :=
  (State.tick_ok s (Ok.inv s (fun _ => false) hs)).toInv rfl

/-- Settles O7: a step is a tick or the command at the front of the queue, and the invariant does not speak of the queue. -/
theorem everyStepKeepsTheInvariant : Obligations.EveryStepKeepsTheInvariant := by
  intro s t hs ht
  unfold step at ht
  split at ht
  · cases ht
    exact tick_keeps_inv hs
  · next c rest _ => exact exec_keeps_inv (s := { s with pending := rest }) hs ht

/-- Settles O8: after reset both memories and every stored set are empty, and no fuse is blown. -/
theorem resetMeetsTheInvariant : Obligations.ResetMeetsTheInvariant := by
  refine ⟨rfl, rfl, ⟨?_, ?_, ?_, ?_⟩, Nat.zero_le _⟩
  all_goals
    intro u hu
    cases hu

end Sys2Proof.Machine
end

section
/-! PROOFS. Every command answers a next state (O1). -/

namespace Sys2Proof.Machine

/-- An outcome that is a next state. -/
def Answers (o : Host.Outcome State Fault Refusal) : Prop := ∃ t, o = .next t

theorem answers_next (t : State) : Answers (.next t) := ⟨t, rfl⟩

theorem answers_ite {c : Prop} [Decidable c] {a b : Host.Outcome State Fault Refusal} (ha : Answers a) (hb : Answers b) :
    Answers (if c then a else b) := by
  split
  · exact ha
  · exact hb

/-- The first group of commands answers `.next` outright, the second on both sides of one condition, the third at the end of every
branch of its meaning. -/
theorem exec_answers (c : Instr) (s : State) : Answers (exec c s) := by
  cases c with
  | rowNak _ _ _ _ | hopDown _ _ _ | packetTypeDiscard _ | seqMark _ _ | tcNop _ _ | tcTelNow _ _ _ | tcPanelOn _ _
  | tcPanelOff _ _ | tcClearCounters _ _ | tcIdentify _ _ _ | tcFlSet _ _ _ | tcFlConfig _ _ _ | tcFlDiag _ _ _ | tcFlRead _ _
  | railPwmPeriod _ _ _ _ _ | heldUpStart _ | railStatusUpdate | thmZoneSample _ _ _ _ | thmTick | dmcTrainStart _
  | valeAliasAccess _ _ _ _ | valeSetWrite _ _ _ _ | valeClearWrite _ _ _ _ | valeOwnWrite _ _ _ | valeRetEnWrite _
  | statusWindowWrite _ _ _ _ | markerMissHoldover | renderComplete _ | ethFrameDiscard _ _ | smbBlockRead | smbReadId
  | pcieReset _ | dmaTimeout _ | qmDoorbell _ _ _ | commandFetch _ _ | msixCoalesceExpire _ | overflowQueueDrain _
  | longRunningComplete _ _ | nop _ | sessionOpen _ | sessionCancel _ | sessionClose _ | filmLoad _ | filmBind _
  | placementWrite _ | configCommit _ | snapshotSave _ | powerSet _ | flGlobalWrite _ | flZoneWrite _ | flTileBind _
  | flStatusRead _ | regRead _ | regWrite _ | eventLogRead _ | dumpRead _ | dumpRelease _ | odometerRead _ | fwWrite _
  | fwSelect _ | reset _ | netKeySet _ | wsaCommit _ | schCommit _ | mpCommit _ | tfPcommit _ _ | timeCommit _ | rgCommit _ _
  | rcCommit _ | netCommit _ | thmCommit _ | tfPctrlEnable _ _ | tfPctrlEnum _ | tfPctrlForget _ | tfTslotAccept _ _
  | rgCtrlEnable _ _ | rgCtrlUp _ | rgCtrlDown _ | timeStepNow | glbRstCtrlWarm _ | glbRstCtrlCold _ | glbWdogKick _ _
  | watchdogExpire | diagOdoWriteNow | diagBootcfgSave _ | diagSecverRaise _ | qmRingCfgWrite _ _ _ _ | qmEvtWrite _ _
  | wsaCntClr _ | schCntClr _ | mpCntClr _ | tfPcntClr _ _ | timeCntClr _ | rgCntClr _ _ | rcCntClr _ | dmcCntClr _ _
  | dmcGcntClr _ | valeCntClr _ | qmCntClr _ _ | netCntClr _ | thmCntClr _ | powerOn _ _ | porstNLow _ _ | rstNLow _
  | refclkStop | fwException _ _ | parityError _ | warmResetDrvTimeout | resetSelfRefresh | resetHoldExpire | strikesClear
  | fatalCaptureDone _ _ | dumpSummaryWrite _ | odometerPeriodic | odometerRecordWrite _ | odometerAreaErase _ | pcrcFail _
  | msixVectorUnmask _ | jtagTapOperation _ => exact answers_next _
  | flipTick | ageTick | guardBegin | wsaGuardHandoff | schGuardProcess | flipSend _ | seqMarkTimer _ | fecCodewordLost _
  | delayProbePeriod _ | degradedExit _ | hopSignalDetected _ | hopBlockLock _ | hopFrameLock _ | hopLeavesUp _ | enum _ _ _ _
  | delayProbe _ _ _ _ | delaySet _ _ _ | telemetryPeriod _ _ | tileOpcodeUnknown _ _ _ | qualifyDone _ _ | railTimeout _ _
  | retryOffExpire _ _ | retriesClear _ _ | externalSlotOffTimer _ _ | offtmoExpire _ _ | ffLoad _ | faultNRelease
  | faultNEvent _ | faultNStuck | faultNRearm | minoffExpire _ | vinCollapse _ | plateauExitComplete | refreshPullin _ _ _
  | mr4Poll _ _ | rankPowerDown _ _ | selfRefreshReentry _ | valeRetentionEnter _ | btWindowDone _ | heartbeat | syncTimeout
  | holdoverExpire | timeStep | rtpPacket _ | tileFill _ | tileFillDone _ | icmpEcho _ _ _ _ _ _ | igmpQuery _ _ _ _
  | smbSetPointer _ | flEvaluate | mailboxDoorbell _ _ | mailboxControl _ _ | snapshotRestore _ | bar2Write _ | bar2Read _
  | arpReply _ _ _ _ _ => exact answers_ite (answers_next _) (answers_next _)
  | bundleTake _ | pixelEvaluate _ _ _ _ | droppedRowFixup _ _ _ _ | ageSweepSegment _ _ _ | driveRowSend _ | flipCopySend _
  | frameReady _ _ _ | dropReport _ _ | desc _ _ | delayResp _ _ _ _ _ _ _ | tileRsp _ _ _ _ _ _ | telemetry _ _
  | linkState _ _ | enumLoopArrival _ _ _ | enumWaitExpire _ | tileCmdFetch _ _ | tileCmdTimeout _ _ | hopStepTimeout _
  | driveRow _ _ | flip _ _ | tileFlip _ | tcResetBridge _ _ | depDelayExpire _ _ | rampEnd _ _ | faultNReleaseSample _
  | vinLow _ | vinReturn _ | thermalSafeEntry | plateauEntryComplete | refreshDue _ _ _ _ | trackingStep _ _
  | setPointSwitch _ | trainingDone _ | inlineEccError _ _ _ | bar2Access _ _ | valeHandoverDone _ | btWindowStart | ptpSync _
  | ptpAnnounce _ | ptpDelayResp _ | ptpDelayReqSend _ | announceReceiptTimeout | wallSyncMarker _ | arpRequest _ _ _ _ _
  | commandDatagram _ | completionDatagramSend _ | pmbusPoll _ _ | flAmbientEvaluate _ | flSegmentSend _ | flDiagTimer _
  | registerWrite _ _ _ _ | bootReady _ | registerRead _ _ _ | packetSyncLost _ _ =>
    delta exec
    dsimp only
    delta execBundleTake execPixelEvaluate execDroppedRowFixup execAgeSweepSegment execDriveRowSend execFlipCopySend
      execFrameReady execDropReport execDesc execDelayResp execTileRsp execTelemetry execLinkState execEnumLoopArrival
      execEnumWaitExpire execTileCmdFetch execTileCmdTimeout execHopStepTimeout execDriveRow execFlip execTileFlip
      execTcResetBridge execDepDelayExpire execRampEnd execFaultNReleaseSample execVinLow execVinReturn
      execThermalSafeEntry execPlateauEntryComplete execRefreshDue execTrackingStep execSetPointSwitch execTrainingDone
      execInlineEccError execBar2Access execValeHandoverDone execBtWindowStart execPtpSync execPtpAnnounce
      execPtpDelayResp execPtpDelayReqSend execAnnounceReceiptTimeout execWallSyncMarker execArpRequest
      execCommandDatagram execCompletionDatagramSend execPmbusPoll execFlAmbientEvaluate execFlSegmentSend
      execFlDiagTimer execRegisterWrite execBootReady execRegisterRead execPacketSyncLost
    -- down the branches of the meaning, each of which ends in `.next`
    repeat' first
      | exact answers_next _
      | split
      | dsimp only

/-- Settles O1. -/
theorem everyCommandAnswers : Obligations.EveryCommandAnswers := exec_answers

end Sys2Proof.Machine
end

section
/-! PROOFS. Counter clears, and accesses of registers (O2, O58). -/

namespace Sys2Proof.Machine

/-! ### Clears of a range of counters -/

theorem State.whenReady_reached {s : State} (h : s.reached = true) (f : State → State) : s.whenReady f = f s := if_pos h

theorem State.clearOn_one {v : Nat} (h : bits v 0 1 = 1) (s : State) (lo hi : Nat) : s.clearOn v lo hi = s.clearCnt lo hi := if_pos h

theorem State.cnt_clearCnt (s : State) (lo hi o : Nat) : (s.clearCnt lo hi).cnt o = if lo ≤ o ∧ o < hi then 0 else s.cnt o := by
  simp only [State.cnt, State.clearCnt, tabGet_keep]
  by_cases h : lo ≤ o ∧ o < hi
  · rw [if_neg (by simp; omega), if_pos h]
    rfl
  · rw [if_pos (by simp; omega), if_neg h]

/-- Clears of several ranges: the counters of one of them read 0, the others stand. -/
theorem State.cnt_clearRanges (lo hi : Nat → Nat) (l : List Nat) (s : State) (o : Nat) :
    (l.foldl (fun st n => st.clearCnt (lo n) (hi n)) s).cnt o = if ∃ n ∈ l, lo n ≤ o ∧ o < hi n then 0 else s.cnt o := by
  induction l generalizing s with
  | nil => simp
  | cons n l ih =>
    rw [List.foldl_cons, ih, State.cnt_clearCnt]
    by_cases hl : ∃ m ∈ l, lo m ≤ o ∧ o < hi m
    · simp [hl]
    · simp [hl]

/-- A command clears the counters from `lo` up to `hi`, no others, and sends nothing. -/
def ClearsCounters (s : State) (i : Instr) (lo hi : Nat) : Prop :=
  ∃ t, exec i s = .next t ∧ (∀ o, lo ≤ o → o < hi → t.cnt o = 0) ∧ (∀ o, o < lo ∨ hi ≤ o → t.cnt o = s.cnt o) ∧ t.out = s.out

theorem clearsCounters_of_cnt {s t : State} {i : Instr} {lo hi : Nat} (he : exec i s = .next t)
    (hc : t.regs.cnt = (s.clearCnt lo hi).regs.cnt) (ho : t.out = s.out) : ClearsCounters s i lo hi := by
  have hcnt (o : Nat) : t.cnt o = if lo ≤ o ∧ o < hi then 0 else s.cnt o := by
    rw [← State.cnt_clearCnt, State.cnt, hc, ← State.cnt]
  refine ⟨t, he, fun o h1 h2 => ?_, fun o h => ?_, ho⟩
  · rw [hcnt, if_pos ⟨h1, h2⟩]
  · rw [hcnt, if_neg (by omega)]

/-- CLR of a block whose counters lie in one range. -/
theorem clearsCounters_of_clearOn {s : State} {i : Instr} {v lo hi : Nat} (he : exec i s = .next (s.whenReady fun t => t.clearOn v lo hi))
    (hr : s.reached = true) (hv : bits v 0 1 = 1) : ClearsCounters s i lo hi := by
  rw [State.whenReady_reached hr, State.clearOn_one hv] at he
  exact clearsCounters_of_cnt he rfl rfl

theorem exec_wsaCntClr {v : Word} {s : State} (hr : s.reached = true) (hv : bits v.toNat 0 1 = 1) : exec (.wsaCntClr v) s =
    .next { s.clearCnt (baseWsa + 0x110) (baseWsa + 0x130) with wsa.pf := 0, wsa.skip := 0 } := by
  simp only [exec, execWsaCntClr, State.whenReady_reached hr, State.clearWsa, if_pos hv]

theorem exec_valeCntClr {v : Word} {s : State} (hr : s.reached = true) (hv : bits v.toNat 0 1 = 1) : exec (.valeCntClr v) s =
    .next { s.clearCnt (baseVale + 0x300) (baseVale + 0x320) with vale.collisions := 0 } := by
  simp only [exec, execValeCntClr, State.whenReady_reached hr, State.clearVale, if_pos hv]

theorem exec_qmCntClr {path : Path} {v : Word} {s : State} (hp : path ≠ .lcb) (hr : s.reached = true) (hv : bits v.toNat 0 1 = 1) :
    exec (.qmCntClr path v) s = .next (s.clearCnt (baseQm + 0x18100) (baseQm + 0x18120)) := by
  simp only [exec, execQmCntClr, State.reaches, hr, Bool.true_or, hp, ne_eq, not_false_eq_true, and_self, if_true,
    State.clearOn_one hv]

theorem exec_mpCntClr {v : Word} {s : State} (hr : s.reached = true) (hv : bits v.toNat 0 1 = 1) : exec (.mpCntClr v) s =
    .next ((List.range 16).foldl (fun st n => st.clearCnt (baseMp + 0x1020 + n * 0x40) (baseMp + 0x1038 + n * 0x40))
      (s.clearCnt (baseMp + 0xF00) (baseMp + 0xF0C))) := by
  simp only [exec, execMpCntClr, State.whenReady_reached hr, State.clearMp, if_pos hv]

theorem exec_rgCntClr {g : Fin 8} {v : Word} {s : State} (hr : s.reached = true) (hv : bits v.toNat 0 1 = 1) :
    exec (.rgCntClr g v) s =
      .next ((List.range 12).foldl (fun st k => st.clearCnt (slotOff g.val k 0x40) (slotOff g.val k 0x68))
        (s.clearCnt (baseRail g.val + 0x40) (baseRail g.val + 0x50))) := by
  simp only [exec, execRgCntClr, State.whenReady_reached hr, State.clearGroup, if_pos hv]

/-! ### REGISTER_WRITE and REGISTER_READ, case by case (R4, R8, R20, R358) -/

theorem exec_registerWrite_alias {off : BitVec 32} (h1 : 0x1000000 ≤ off.toNat) (h2 : off.toNat < 0x4000000) (path : Path) (size : Nat)
    (v : Word) (other : Option Word) (s : State) : exec (.registerWrite path off size ⟨v, other⟩) s =
      .next (s.valeAccess (pathReq path) (aliasOf off.toNat).1 (aliasOf off.toNat).2 (.write ((leBytes size v.toNat).map some))) :=
  if_pos ⟨h1, h2⟩

theorem exec_registerWrite_discarded {off : BitVec 32} {size : Nat} (h1 : off.toNat < 0x1000000 ∨ 0x4000000 ≤ off.toNat)
    (h2 : size ≠ 4 ∨ off.toNat % 4 ≠ 0 ∨ 0x4000000 ≤ off.toNat) (path : Path) (w : PortWrite) (s : State) :
    exec (.registerWrite path off size w) s = .next s :=
  (if_neg (by omega)).trans (if_neg (by omega))

/-- A write of an aligned word, which the other port does not write. -/
theorem exec_registerWrite_alone {off : BitVec 32} (h1 : off.toNat < 0x1000000) (h4 : off.toNat % 4 = 0) (path : Path) (v : Word)
    (s : State) : exec (.registerWrite path off 4 ⟨v, none⟩) s = .next (s.writeReg path off.toNat v.toNat) := by
  cases path
  all_goals exact (if_neg (by omega)).trans (if_pos (by omega))

/-- R8: PCIe writes `v` and the LCB `w` in one cycle; the command may be PCIe's. -/
theorem exec_registerWrite_pcieBoth {off : BitVec 32} (h1 : off.toNat < 0x1000000) (h4 : off.toNat % 4 = 0) (v w : Word) (s : State) :
    exec (.registerWrite .pcie off 4 ⟨v, some w⟩) s = .next (s.writeBoth off.toNat w.toNat v.toNat) :=
  (if_neg (by omega)).trans (if_pos (by omega))

/-- R8: the same two writes, where the command is the LCB's. -/
theorem exec_registerWrite_lcbBoth {off : BitVec 32} (h1 : off.toNat < 0x1000000) (h4 : off.toNat % 4 = 0) (v w : Word) (s : State) :
    exec (.registerWrite .lcb off 4 ⟨w, some v⟩) s = .next (s.writeBoth off.toNat w.toNat v.toNat) :=
  (if_neg (by omega)).trans (if_pos (by omega))

theorem exec_registerRead_alias {off : BitVec 32} (h1 : 0x1000000 ≤ off.toNat) (h2 : off.toNat < 0x4000000) (path : Path) (size : Nat)
    (s : State) : exec (.registerRead path off size) s =
      .next (s.valeAccess (pathReq path) (aliasOf off.toNat).1 (aliasOf off.toNat).2 (.read size)) :=
  if_pos ⟨h1, h2⟩

theorem exec_registerRead_zero {off : BitVec 32} {size : Nat} (h1 : off.toNat < 0x1000000 ∨ 0x4000000 ≤ off.toNat)
    (h2 : size ≠ 4 ∨ off.toNat % 4 ≠ 0 ∨ 0x4000000 ≤ off.toNat) (path : Path) (s : State) :
    exec (.registerRead path off size) s = .next (s.emit (.readData path (zeroBytes size))) :=
  (if_neg (by omega)).trans (if_neg (by omega))

theorem exec_registerRead_word {off : BitVec 32} (h1 : off.toNat < 0x1000000) (h4 : off.toNat % 4 = 0) (path : Path) (s : State) :
    exec (.registerRead path off 4) s =
      .next ((s.readReg path off.toNat).2.emit (.readData path (leBytes 4 (s.readReg path off.toNat).1))) :=
  (if_neg (by omega)).trans (if_pos (by omega))

/-- A read sends its data and changes nothing else. -/
theorem State.same_emit (s : State) (o : Out) {p : StatePart} (hp : p ≠ .out) : p.same s (s.emit o) := by
  cases p with
  | out => exact absurd rfl hp
  | written | inForce => exact ⟨rfl, rfl⟩
  | _ => rfl

/-! ### Reads and writes of a block's register (R7) -/

theorem State.readReg_block {s : State} {path : Path} {off : Nat} (h : 0x10000 ≤ off) (hr : s.reaches path off = true)
    (hp : pairLo off = none) : s.readReg path off = (s.peek off, s) := by
  simp [State.readReg, Nat.not_lt.2 h, hr, hp]

/-- A read of _LO captures the pair. -/
theorem State.readReg_lo {s : State} {path : Path} {off : Nat} (h : 0x10000 ≤ off) (hr : s.reaches path off = true)
    (hp : pairLo off = some off) : s.readReg path off =
      ((s.peek off + s.peek (off + 4) * 4294967296) % 4294967296,
        { s with regs.cap := tabSet none s.regs.cap (pathKey path)
                  (some (off, BitVec.ofNat 64 (s.peek off + s.peek (off + 4) * 4294967296))) }) := by
  simp [State.readReg, Nat.not_lt.2 h, hr, hp]

/-- A read of _HI answers from the capture of its pair. -/
theorem State.readReg_hi {s : State} {path : Path} {off lo : Nat} {x : DWord} (h : 0x10000 ≤ off) (hr : s.reaches path off = true)
    (hp : pairLo off = some lo) (hne : lo ≠ off) (hc : tabGet none s.regs.cap (pathKey path) = some (lo, x)) :
    s.readReg path off = (x.toNat / 4294967296, s) := by
  simp [State.readReg, Nat.not_lt.2 h, hr, hp, hne.symm, hc]

/-- A write of _LO, the ring bases of the QM apart, waits in the path's latch. -/
theorem State.writeReg_lo {s : State} {path : Path} {off : Nat} (v : Nat) (h : 0x10000 ≤ off) (hr : s.reaches path off = true)
    (hp : pairLo off = some off) (hq : off < baseQm ∨ 0x70000 ≤ off) : s.writeReg path off v = s.latchLo path off v := by
  have hq' : ¬(baseQm ≤ off ∧ off < 0x70000) := by omega
  simp [State.writeReg, Nat.not_lt.2 h, hr, hq', State.writePlain, hp]

/-! ### The statements -/

/-- Settles O2: such a write is discarded, and such a read sends zeros and does nothing else. -/
theorem otherAccessesAreDiscarded : Obligations.OtherAccessesAreDiscarded := by
  intro path off n s h1 h2
  exact ⟨fun v other => exec_registerWrite_discarded h1 h2 path _ s, _, exec_registerRead_zero h1 h2 path s, rfl,
    fun p hp => State.same_emit s _ hp⟩

/-- R166: CLR of the MP clears its own counters and those of the sources, and none outside the block. -/
theorem mpCntClr_clears {v : Word} {s : State} (hr : s.reached = true) (hv : bits v.toNat 0 1 = 1) :
    ∃ t, exec (.mpCntClr v) s = .next t ∧ (∀ o, baseMp + 0xF00 ≤ o → o < baseMp + 0xF0C → t.cnt o = 0) ∧
      (∀ (n : Fin 16) (o : Nat), baseMp + 0x1020 + n.val * 0x40 ≤ o → o < baseMp + 0x1038 + n.val * 0x40 → t.cnt o = 0) ∧
      ∀ o, o < baseMp ∨ baseTf 0 ≤ o → t.cnt o = s.cnt o := by
  refine ⟨_, exec_mpCntClr hr hv, fun o h1 h2 => ?_, fun n o h1 h2 => ?_, fun o h => ?_⟩
  · rw [State.cnt_clearRanges, State.cnt_clearCnt, if_pos (c := _ ∧ _) ⟨h1, h2⟩, ite_self]
  · rw [State.cnt_clearRanges, if_pos ⟨n.val, List.mem_range.2 n.isLt, h1, h2⟩]
  · have hout : ¬∃ n ∈ List.range 16, baseMp + 0x1020 + n * 0x40 ≤ o ∧ o < baseMp + 0x1038 + n * 0x40 := by
      rintro ⟨n, hn, h1, h2⟩
      have := List.mem_range.1 hn
      simp only [baseMp, baseTf] at h h1 h2
      omega
    rw [State.cnt_clearRanges, if_neg hout, State.cnt_clearCnt, if_neg (by simp only [baseMp, baseTf] at h ⊢; omega)]

/-- R252: CLR of a group clears its counters and those of its slots, and none outside the group. -/
theorem rgCntClr_clears (g : Fin 8) {v : Word} {s : State} (hr : s.reached = true) (hv : bits v.toNat 0 1 = 1) :
    ∃ t, exec (.rgCntClr g v) s = .next t ∧ (∀ o, baseRail g.val + 0x40 ≤ o → o < baseRail g.val + 0x50 → t.cnt o = 0) ∧
      (∀ (k : Fin 12) (o : Nat), slotOff g.val k.val 0x40 ≤ o → o < slotOff g.val k.val 0x68 → t.cnt o = 0) ∧
      ∀ o, o < baseRail g.val ∨ baseRail (g.val + 1) ≤ o → t.cnt o = s.cnt o := by
  refine ⟨_, exec_rgCntClr hr hv, fun o h1 h2 => ?_, fun k o h1 h2 => ?_, fun o h => ?_⟩
  · rw [State.cnt_clearRanges, State.cnt_clearCnt, if_pos (c := _ ∧ _) ⟨h1, h2⟩, ite_self]
  · rw [State.cnt_clearRanges, if_pos ⟨k.val, List.mem_range.2 k.isLt, h1, h2⟩]
  · have hout : ¬∃ k ∈ List.range 12, slotOff g.val k 0x40 ≤ o ∧ o < slotOff g.val k 0x68 := by
      rintro ⟨k, hk, h1, h2⟩
      have := List.mem_range.1 hk
      simp only [slotOff, baseRail] at h h1 h2
      omega
    rw [State.cnt_clearRanges, if_neg hout, State.cnt_clearCnt, if_neg (by simp only [baseRail] at h ⊢; omega)]

/-- Settles O58: the counter clears one by one, then the cases of REGISTER_WRITE and of REGISTER_READ. -/
theorem registerAccesses : Obligations.RegisterAccesses := by
  refine ⟨fun v s hr hv => ?_, fun path off s hmap => ⟨fun size v => ⟨?_, ?_, ?_, ?_⟩, fun size => ⟨?_, ?_⟩, ?_⟩⟩
  · have one {i : Instr} {lo hi : Nat} (he : exec i s = .next (s.whenReady fun t => t.clearOn v.toNat lo hi)) :
        ClearsCounters s i lo hi := clearsCounters_of_clearOn he hr hv
    exact ⟨clearsCounters_of_cnt (exec_wsaCntClr hr hv) rfl rfl, one rfl, fun p => one rfl, one rfl, one rfl, fun c => one rfl,
      one rfl, clearsCounters_of_cnt (exec_valeCntClr hr hv) rfl rfl,
      fun path hp => clearsCounters_of_cnt (exec_qmCntClr hp hr hv) rfl rfl, one rfl, one rfl, mpCntClr_clears hr hv,
      fun g => rgCntClr_clears g hr hv⟩
  · intro h1 hsize h4
    subst hsize
    exact exec_registerWrite_alone h1 h4 path v s
  · intro h1 h2 other
    exact exec_registerWrite_discarded (.inl h1) (by omega) path _ s
  · intro w h1 h4
    have hp := exec_registerWrite_pcieBoth h1 h4 v w s
    exact ⟨hp, (exec_registerWrite_lcbBoth h1 h4 v w s).trans hp.symm⟩
  · intro h1 other
    exact exec_registerWrite_alias h1 hmap path size v other s
  · intro h1 h2
    exact exec_registerRead_zero (.inl h1) (by omega) path s
  · intro h1
    exact exec_registerRead_alias h1 hmap path size s
  · intro h1 hblock h4 hreach
    refine ⟨fun hp => ?_, fun hp => ⟨_, exec_registerRead_word h1 h4 path s, ?_⟩, fun lo x hp hne hc => ?_, fun v hp hq =>
      ⟨_, exec_registerWrite_alone h1 h4 path v s, ?_⟩⟩
    · rw [exec_registerRead_word h1 h4, State.readReg_block hblock hreach hp]
    · rw [State.readReg_lo hblock hreach hp]
      exact ⟨by rw [State.emit_regs, tabGet_set_same], rfl⟩
    · rw [exec_registerRead_word h1 h4, State.readReg_hi hblock hreach hp hne hc]
    · rw [State.writeReg_lo _ hblock hreach hp hq]
      exact ⟨by rw [State.latchLo, tabGet_set_same], rfl, rfl, rfl⟩

end Sys2Proof.Machine
end

section
/-! PROOFS. Writes of the status window (O45). -/

namespace Sys2Proof.Machine

/-! ### Grants of one and of two requestors (R300) -/

/-- What asks alone is granted, and not for its losses. -/
theorem grants_one {α : Type} [DecidableEq α] (prio dur : α → Nat) (a : α) : grants prio dur [(a, 0)] = [(a, false)] := by
  simp [grants, grantOrder]

/-- Of two requestors that have lost nothing the one with the lower number is granted first. -/
theorem grants_lower_first {α : Type} [DecidableEq α] (prio dur : α → Nat) (a b : α) (h : prio b < prio a) :
    grants prio dur [(a, 0), (b, 0)] = [(b, false), (a, false)] := by
  have hab : a ≠ b := fun e => Nat.lt_irrefl _ (e ▸ h)
  have hne : prio a ≠ prio b := Nat.ne_of_gt h
  have hle : prio b ≤ prio a := Nat.le_of_lt h
  have hnle : ¬prio a ≤ prio b := Nat.not_le.2 h
  by_cases h16 : 16 ≤ dur b
  all_goals simp [grants, grantOrder, hab, hne, hle, hnle, h16]

/-! ### Words of the window -/

theorem State.swinGet_swinPut_same (s : State) (w : Nat) (v : Word) : (s.swinPut w v.toNat).swinGet w = v.toNat := by
  simp [State.swinGet, State.swinPut]

theorem State.swinGet_swinPut_other (s : State) {w x : Nat} (v : Nat) (h : x ≠ w) : (s.swinPut w v).swinGet x = s.swinGet x := by
  simp [State.swinGet, State.swinPut, tabGet_set_other h]

/-- R311: who may write a word stores it. -/
theorem State.winWrite_permitted {s : State} {who : WinWriter} {off : Nat} (v : Nat) (hp : winPermits who off = true)
    (hc : who = .lcb → s.ccHeld = false) : s.winWrite who off v = s.winStore who off v := by
  have hl : ¬(who = .lcb ∧ s.ccHeld = true) := fun h => by simp [hc h.1] at h
  rw [State.winWrite, if_neg hl, if_pos hp]

/-- R311: who may not is refused with RO_WRITE. -/
theorem State.winWrite_refused {s : State} {who : WinWriter} {off : Nat} (v : Nat) (hp : winPermits who off = false)
    (hc : who = .lcb → s.ccHeld = false) : s.winWrite who off v = { s with vale.roWrite := true } := by
  have hl : ¬(who = .lcb ∧ s.ccHeld = true) := fun h => by simp [hc h.1] at h
  rw [State.winWrite, if_neg hl, if_neg (by simp [hp])]

/-- R359, R360: of the device's own words an assigned one that mirrors nothing is stored. -/
theorem State.winStore_assigned {s : State} {off : Nat} (who : WinWriter) (v : Nat) (ho : off < 0x8000)
    (hm : s.mirror (off / 4) = none) (ha : winAssigned off = true) : s.winStore who off v = s.swinPut (off / 4) v := by
  simp [State.winStore, Nat.not_le.2 ho, hm, ha]

theorem State.winStore_unassigned {s : State} {off : Nat} (who : WinWriter) (v : Nat) (ho : off < 0x8000)
    (ha : winAssigned off = false) : s.winStore who off v = s := by
  simp [State.winStore, Nat.not_le.2 ho, ha]

/-- R361: the entry words of a mailbox are stored, whoever writes them. -/
theorem State.winStore_mailboxEntry {s : State} {off : Nat} (who : WinWriter) (v : Nat) (ho : 0x8000 ≤ off)
    (ha : mbAssigned off = true) (he : 0x40 ≤ off % 0x800) : s.winStore who off v = s.swinPut (off / 4) v := by
  have h0 : off % 0x800 / 4 ≠ 0 := by omega
  have h1 : off % 0x800 / 4 ≠ 1 := by omega
  simp [State.winStore, ho, ha, h0, h1]

/-! ### STATUS_WINDOW_WRITE -/

/-- A write that meets nothing (R4, R358: at an aligned offset). -/
theorem exec_statusWindowWrite_alone (who : WinWriter) (off : BitVec 16) (v : Word) (s : State) :
    exec (.statusWindowWrite who off v ⟨.none, []⟩) s =
      .next (if off.toNat % 4 = 0 then s.winWrite who off.toNat v.toNat else s) := by
  by_cases h : who = .lcb
  · subst h
    rfl
  · simp [exec, execStatusWindowWrite, h, grants_one, State.winCycle]

/-- R310: firmware and the LCB write one word of a mailbox in one cycle. -/
theorem exec_statusWindowWrite_collision {off : BitVec 16} (v v2 : Word) {s : State} (hc : s.ccHeld = false)
    (ho : 0x8000 ≤ off.toNat) (h4 : off.toNat % 4 = 0) :
    exec (.statusWindowWrite .lcb off v ⟨.write .firmware v2, []⟩) s =
      .next ((s.collide off.toNat).winWrite .firmware off.toNat v2.toNat) := by
  simp [exec, execStatusWindowWrite, grants_one, State.winCycle, winPermits, hc, ho, h4]

/-- R309: the SCH is served before the TF. -/
theorem exec_statusWindowWrite_rival (off off2 : BitVec 16) (v v2 : Word) (s : State) :
    exec (.statusWindowWrite .tf off v ⟨.none, [⟨.sch, off2, some v2⟩]⟩) s =
      exec (.statusWindowWrite .tf off v ⟨.none, []⟩)
        (if off2.toNat % 4 = 0 then s.winWrite .sch off2.toNat v2.toNat else s) := by
  rw [exec_statusWindowWrite_alone]
  by_cases h : off2.toNat % 4 = 0
  · simp [exec, execStatusWindowWrite, h, grants_lower_first, winPrio, portIWriter, State.winCycle, State.winDo]
  · simp [exec, execStatusWindowWrite, h, grants_one, State.winCycle, State.winVoid]

/-- A device block writes one of its own words. -/
theorem exec_statusWindowWrite_device {who : WinWriter} {off : BitVec 16} (v : Word) {s : State}
    (hw : who ∈ [WinWriter.sch, .tf, .rc, .thm, .glb]) (ho : off.toNat < 0x8000) (h4 : off.toNat % 4 = 0) :
    exec (.statusWindowWrite who off v ⟨.none, []⟩) s = .next (s.winStore who off.toNat v.toNat) := by
  have hp : winPermits who off.toNat = true := by
    cases who with
    | sch | tf | rc | thm | glb => exact decide_eq_true ho
    | firmware | pcie | lcb => exact absurd hw (by decide)
  have hl : who ≠ .lcb := fun e => absurd (e ▸ hw) (by decide)
  rw [exec_statusWindowWrite_alone, if_pos h4, State.winWrite_permitted _ hp fun e => absurd e hl]

/-- A write of a word whose writer it is not. -/
theorem exec_statusWindowWrite_refused {who : WinWriter} {off : BitVec 16} (v : Word) {s : State}
    (hp : winPermits who off.toNat = false) (hc : who = .lcb → s.ccHeld = false) (h4 : off.toNat % 4 = 0) :
    exec (.statusWindowWrite who off v ⟨.none, []⟩) s = .next { s with vale.roWrite := true } := by
  rw [exec_statusWindowWrite_alone, if_pos h4, State.winWrite_refused _ hp hc]

/-- The LCB writes an entry word of a mailbox. -/
theorem exec_statusWindowWrite_lcbEntry {off : BitVec 16} (v : Word) {s : State} (hc : s.ccHeld = false)
    (ho : 0x8000 ≤ off.toNat) (h4 : off.toNat % 4 = 0) (ha : mbAssigned off.toNat = true) (he : 0x40 ≤ off.toNat % 0x800) :
    exec (.statusWindowWrite .lcb off v ⟨.none, []⟩) s = .next (s.swinPut (off.toNat / 4) v.toNat) := by
  rw [exec_statusWindowWrite_alone, if_pos h4, State.winWrite_permitted _ (by simp [winPermits, ho]) fun _ => hc,
    State.winStore_mailboxEntry _ _ ho ha he]

/-- Of firmware's and the LCB's write of one entry word, firmware's is stored. -/
theorem exec_statusWindowWrite_entryCollision {off : BitVec 16} (v v2 : Word) {s : State} (hc : s.ccHeld = false)
    (ho : 0x8000 ≤ off.toNat) (h4 : off.toNat % 4 = 0) (ha : mbAssigned off.toNat = true) (he : 0x40 ≤ off.toNat % 0x800) :
    exec (.statusWindowWrite .lcb off v ⟨.write .firmware v2, []⟩) s =
      .next ((s.collide off.toNat).swinPut (off.toNat / 4) v2.toNat) := by
  rw [exec_statusWindowWrite_collision v v2 hc ho h4,
    State.winWrite_permitted (who := .firmware) _ (by simp [winPermits, ho]) nofun, State.winStore_mailboxEntry _ _ ho ha he]

/-- Settles O45: each clause is what STATUS_WINDOW_WRITE or HEARTBEAT answers in one of the cases above. -/
theorem statusWindowWrites : Obligations.StatusWindowWrites := by
  intro off v s
  refine ⟨?_, ?_, ?_, ?_, ?_, ?_, ?_, ?_⟩
  · intro h4 who
    rw [exec_statusWindowWrite_alone, if_neg h4]
  · intro who hw ho h4
    rw [Nat.div_mul_cancel (Nat.dvd_of_mod_eq_zero h4), exec_statusWindowWrite_device v hw ho h4]
    refine ⟨fun hm ha => ?_, fun ha => ?_⟩
    · rw [State.winStore_assigned who _ ho hm ha]
      exact ⟨_, rfl, State.swinGet_swinPut_same .., fun w hw => State.swinGet_swinPut_other _ _ hw⟩
    · rw [State.winStore_unassigned who _ ho ha]
  · intro hc ho h4 ha he
    refine ⟨⟨_, exec_statusWindowWrite_lcbEntry v hc ho h4 ha he, State.swinGet_swinPut_same .., fun w hw =>
      State.swinGet_swinPut_other _ _ hw⟩, fun v2 => ?_⟩
    exact ⟨_, exec_statusWindowWrite_entryCollision v v2 hc ho h4 ha he, State.swinGet_swinPut_same .., rfl, rfl, rfl⟩
  · intro off2 v2
    refine ⟨_, _, exec_statusWindowWrite_alone .sch off2 v2 s, exec_statusWindowWrite_alone .tf off v _, ?_⟩
    rw [exec_statusWindowWrite_rival, exec_statusWindowWrite_alone]
  · intro h4
    exact ⟨_, exec_statusWindowWrite_refused v rfl nofun h4, rfl, rfl⟩
  · intro hc ho h4
    exact ⟨_, exec_statusWindowWrite_refused v (by simp [winPermits, ho]) (fun _ => hc) h4, rfl, rfl⟩
  · intro hr
    exact ⟨_, if_pos hr, rfl⟩
  · intro hr
    exact if_neg (by simp [hr])

end Sys2Proof.Machine
end

section
/-! PROOFS. The commits (O57). -/

namespace Sys2Proof.Machine

/-! ### REJECTED is in no check of a shadow set -/

/-- The state with another list of refused units. -/
def State.withRejected (s : State) (l : List Nat) : State := { s with regs.rejected := l }

theorem State.wsaSetOk_withRejected (s : State) (l : List Nat) : (s.withRejected l).wsaSetOk = s.wsaSetOk := rfl
theorem State.mpSetOk_withRejected (s : State) (l : List Nat) : (s.withRejected l).mpSetOk = s.mpSetOk := rfl
theorem State.timeSetOk_withRejected (s : State) (l : List Nat) : (s.withRejected l).timeSetOk = s.timeSetOk := rfl
theorem State.netSetOk_withRejected (s : State) (l : List Nat) : (s.withRejected l).netSetOk = s.netSetOk := rfl
theorem State.thmSetOk_withRejected (s : State) (l : List Nat) : (s.withRejected l).thmSetOk = s.thmSetOk := rfl
theorem State.rcSetOk_withRejected (s : State) (l : List Nat) : (s.withRejected l).rcSetOk = s.rcSetOk := rfl
theorem State.railSetOk_withRejected (s : State) (l : List Nat) : (s.withRejected l).railSetOk = s.railSetOk := rfl
theorem State.tfSetOk_withRejected (s : State) (l : List Nat) : (s.withRejected l).tfSetOk = s.tfSetOk := rfl

theorem State.lengthWith_withRejected (s : State) (l : List Nat) : (s.withRejected l).lengthWith = s.lengthWith := by
  have hb : (s.withRejected l).boundsWith = s.boundsWith := rfl
  unfold State.lengthWith
  rw [hb]

theorem State.lengthens_withRejected (s : State) (l : List Nat) : (s.withRejected l).lengthens = s.lengthens := by
  have hp : (s.withRejected l).parts = s.parts := rfl
  have hv : (s.withRejected l).live = s.live := rfl
  unfold State.lengthens
  rw [State.lengthWith_withRejected, hp, hv]

theorem State.schSetOk_withRejected (s : State) (l : List Nat) : (s.withRejected l).schSetOk = s.schSetOk := by
  unfold State.schSetOk
  rw [State.lengthens_withRejected]
  rfl

/-! ### The sets after an accepted and after a refused commit -/

theorem State.pendSet_acceptCommit_same (s : State) (u : Nat) : (s.acceptCommit u).pendSet u = some (s.shadowSet u) := by
  simp [State.pendSet, State.acceptCommit]

theorem State.pendSet_acceptCommit_other (s : State) {u w : Nat} (h : w ≠ u) : (s.acceptCommit u).pendSet w = s.pendSet w := by
  rw [State.pendSet, State.acceptCommit, tabGet_set_other h]
  rfl

theorem State.isRejected_clearRejected (s : State) (u : Nat) : (s.clearRejected u).isRejected u = false := by
  simp [State.isRejected, State.clearRejected]

theorem State.isRejected_rejectCommit (s : State) (u : Nat) : (s.rejectCommit u).isRejected u = true := by
  simp [State.isRejected, State.rejectCommit]

/-! ### COMMIT of each unit (R17) -/

/-- The registers after a COMMIT whose check answers `ok`. -/
def State.commitRegs (s : State) (u : Nat) (ok : Bool) : RegFile := if ok then (s.acceptCommit u).regs else (s.rejectCommit u).regs

/-- R17: COMMIT of unit `u`, whose check answers `ok`, is accepted when no set is pending and the check passes, and refused else. -/
def State.CommitChecks (s : State) (u : Nat) (ok : Bool) : Prop := (s.commit u).2.regs = s.commitRegs u (!(s.pendSet u).isSome && ok)

/-- With a set pending every COMMIT is refused; with none it is the unit's check that decides. -/
theorem State.commitChecks_of {s : State} {u : Nat} {ok : Bool} (h : s.pendSet u = none → (s.commit u).2.regs = s.commitRegs u ok) :
    s.CommitChecks u ok := by
  cases hp : s.pendSet u with
  | some t => simp [State.CommitChecks, State.commitRegs, State.commit, hp]
  | none => simp [State.CommitChecks, h hp, hp]

theorem State.commitChecks_of_commitBy {s : State} {u : Nat} {ok : Bool} (h : s.pendSet u = none → s.commit u = s.commitBy u ok) :
    s.CommitChecks u ok := State.commitChecks_of fun hp => by
  rw [h hp]
  cases ok <;> rfl

theorem State.commitChecks_wsa (s : State) : s.CommitChecks unitWsa s.wsaSetOk :=
  State.commitChecks_of_commitBy fun h => by rw [State.commit, h]; rfl

theorem State.commitChecks_mp (s : State) : s.CommitChecks unitMp s.mpSetOk :=
  State.commitChecks_of_commitBy fun h => by rw [State.commit, h]; rfl

theorem State.commitChecks_net (s : State) : s.CommitChecks unitNet s.netSetOk :=
  State.commitChecks_of_commitBy fun h => by rw [State.commit, h]; rfl

theorem State.commitChecks_thm (s : State) : s.CommitChecks unitThm s.thmSetOk :=
  State.commitChecks_of_commitBy fun h => by rw [State.commit, h]; rfl

theorem State.commitChecks_rc (s : State) : s.CommitChecks unitRc s.rcSetOk :=
  State.commitChecks_of_commitBy fun h => by rw [State.commit, h]; rfl

/-- The units of the rail groups and of the ports lie above the seven single ones. -/
theorem State.commit_of_table {s : State} {u : Nat} (h : s.pendSet u = none) (hu : unitRail 0 ≤ u) : s.commit u =
    if u < unitTf 0 then s.commitBy u (s.railSetOk (u - unitRail 0)) else s.commitBy u (s.tfSetOk (u - unitTf 0)) := by
  have hne {k : Nat} (hk : k < unitRail 0) : u ≠ k := Nat.ne_of_gt (Nat.lt_of_lt_of_le hk hu)
  rw [State.commit, h, if_neg (by decide), if_neg (hne (by decide)), if_neg (hne (by decide)), if_neg (hne (by decide)),
    if_neg (hne (by decide)), if_neg (hne (by decide)), if_neg (hne (by decide)), if_neg (hne (by decide))]

theorem State.commitChecks_rail (s : State) (g : Fin 8) : s.CommitChecks (unitRail g.val) (s.railSetOk g.val) :=
  State.commitChecks_of_commitBy fun h => by
    have hg := g.isLt
    rw [State.commit_of_table h (Nat.le_add_right ..), if_pos (by simp only [unitRail, unitTf]; omega), unitRail, unitRail,
      Nat.add_sub_add_left, Nat.sub_zero]

theorem State.commitChecks_tf (s : State) (p : Fin 32) : s.CommitChecks (unitTf p.val) (s.tfSetOk p.val) :=
  State.commitChecks_of_commitBy fun h => by
    rw [State.commit_of_table h (by simp only [unitRail, unitTf]; omega), if_neg (by simp only [unitTf]; omega), unitTf, unitTf,
      Nat.add_sub_add_left, Nat.sub_zero]

/-- A new RATE is noted beside the registers (R210). -/
theorem State.commitTime_regs (s : State) : s.commitTime.2.regs = s.commitRegs unitTime s.timeSetOk := by
  rw [State.commitTime, State.commitRegs]
  cases s.timeSetOk with
  | false => rfl
  | true =>
    rw [if_pos rfl, if_pos rfl]
    dsimp only
    split <;> rfl

theorem State.commitChecks_time (s : State) : s.CommitChecks unitTime s.timeSetOk := State.commitChecks_of fun h => by
  rw [← State.commitTime_regs, State.commit, h]
  rfl

/-! ### The rule of a unit with a pending set -/

/-- R17, of the command `i` that writes COMMIT of unit `u`, whose check answers `ok`. -/
def CommitRule (s : State) (i : Instr) (u : Nat) (ok : Bool) : Prop :=
  (s.pendSet u = none → ok = true →
    ∃ t, exec i s = .next t ∧ t.pendSet u = some (s.shadowSet u) ∧ t.liveSet u = s.liveSet u ∧ t.regs.shadow = s.regs.shadow ∧
      t.isRejected u = false ∧ ∀ w, w ≠ u → t.pendSet w = s.pendSet w) ∧
  ((s.pendSet u).isSome = true ∨ ok = false →
    ∃ t, exec i s = .next t ∧ t.isRejected u = true ∧ t.regs.pend = s.regs.pend ∧ t.regs.live = s.regs.live ∧
      t.regs.shadow = s.regs.shadow)

/-- A write of 1 to COMMIT, which may clear REJECTED as well, commits. -/
theorem State.writeCommit_one {v : Nat} (hv : bits v 0 1 = 1) (s : State) (u : Nat) :
    ∃ l, s.writeCommit u v = ((s.withRejected l).commit u).2 := by
  by_cases h2 : bits v 2 1 = 1
  · exact ⟨s.regs.rejected.filter fun w => w ≠ u, by rw [State.writeCommit, if_pos hv, if_pos h2]; rfl⟩
  · exact ⟨s.regs.rejected, by rw [State.writeCommit, if_pos hv, if_neg h2]; rfl⟩

/-- What the rule says is read from the registers, and those are the ones of the accepted or of the refused commit. -/
theorem commitRule_of_checks {s : State} {i : Instr} {u : Nat} {v : Word} {ok : Bool}
    (he : exec i s = .next (s.whenReady fun t => t.writeCommit u v.toNat)) (hr : s.reached = true) (hv : bits v.toNat 0 1 = 1)
    (hc : ∀ l, (s.withRejected l).CommitChecks u ok) : CommitRule s i u ok := by
  obtain ⟨l, hl⟩ := State.writeCommit_one hv s u
  rw [State.whenReady_reached hr, hl] at he
  have hregs : ((s.withRejected l).commit u).2.regs = (s.withRejected l).commitRegs u (!(s.pendSet u).isSome && ok) := hc l
  refine ⟨fun hp hok => ?_, fun hno => ?_⟩
  · have h : ((s.withRejected l).commit u).2.regs = ((s.withRejected l).acceptCommit u).regs := by
      rw [hregs, hp, hok]
      rfl
    refine ⟨_, he, ?_, ?_, ?_, ?_, fun w hw => ?_⟩
    · rw [State.pendSet, h]
      exact State.pendSet_acceptCommit_same ..
    · rw [State.liveSet, h]
      rfl
    · rw [h]
      rfl
    · rw [State.isRejected, h]
      exact State.isRejected_clearRejected ..
    · rw [State.pendSet, h]
      exact State.pendSet_acceptCommit_other _ hw
  · have h : ((s.withRejected l).commit u).2.regs = ((s.withRejected l).rejectCommit u).regs := by
      rw [hregs, State.commitRegs, if_neg]
      rcases hno with hno | hno <;> simp [hno]
    refine ⟨_, he, ?_, ?_, ?_, ?_⟩
    · rw [State.isRejected, h]
      exact State.isRejected_rejectCommit ..
    all_goals
      rw [h]
      rfl

/-! ### COMMIT of the SCH (R136), which has no pending set -/

/-- An accepted set is live at once. -/
theorem State.commit_sch_accepted {s : State} (hp : s.pendSet unitSch = none) (hok : s.schSetOk = true) :
    (s.commit unitSch).2 = { s.clearRejected unitSch with regs.live := tabSet [] s.regs.live unitSch (s.shadowSet unitSch) } := by
  have hc : s.commit unitSch = s.commitSch := by rw [State.commit, hp]; rfl
  rw [hc, State.commitSch, if_pos hok]

theorem State.commit_sch_refused {s : State} (hok : s.schSetOk = false) : (s.commit unitSch).2 = s.rejectCommit unitSch := by
  cases hp : s.pendSet unitSch with
  | some t => rw [State.commit, hp]; rfl
  | none =>
    have hc : s.commit unitSch = s.commitSch := by rw [State.commit, hp]; rfl
    rw [hc, State.commitSch, hok]
    rfl

theorem exec_schCommit_one {v : Word} {s : State} (hr : s.reached = true) (hv : bits v.toNat 0 1 = 1) :
    ∃ l, exec (.schCommit v) s = .next ((s.withRejected l).commit unitSch).2 := by
  obtain ⟨l, hl⟩ := State.writeCommit_one hv s unitSch
  exact ⟨l, by rw [exec, execSchCommit, State.whenReady_reached hr, hl]⟩

theorem exec_schCommit_accepted {v : Word} {s : State} (hr : s.reached = true) (hv : bits v.toNat 0 1 = 1)
    (hp : s.pendSet unitSch = none) (hok : s.schSetOk = true) :
    ∃ t, exec (.schCommit v) s = .next t ∧ t.liveSet unitSch = s.shadowSet unitSch ∧ t.regs.shadow = s.regs.shadow ∧
      t.isRejected unitSch = false ∧ ∀ w, w ≠ unitSch → t.liveSet w = s.liveSet w := by
  obtain ⟨l, he⟩ := exec_schCommit_one hr hv
  rw [State.commit_sch_accepted (s := s.withRejected l) hp ((s.schSetOk_withRejected l).trans hok)] at he
  exact ⟨_, he, tabGet_set_same, rfl, State.isRejected_clearRejected (s.withRejected l) unitSch, fun w hw => tabGet_set_other hw⟩

theorem exec_schCommit_refused {v : Word} {s : State} (hr : s.reached = true) (hv : bits v.toNat 0 1 = 1) (hok : s.schSetOk = false) :
    ∃ t, exec (.schCommit v) s = .next t ∧ t.isRejected unitSch = true ∧ t.regs.live = s.regs.live := by
  obtain ⟨l, he⟩ := exec_schCommit_one hr hv
  rw [State.commit_sch_refused (s := s.withRejected l) ((s.schSetOk_withRejected l).trans hok)] at he
  exact ⟨_, he, State.isRejected_rejectCommit .., rfl⟩

/-- Settles O57: each unit's COMMIT follows its check, which does not read REJECTED; the SCH's set is live at once. -/
theorem commits : Obligations.Commits := by
  intro v s hr hv
  have rule {i : Instr} {u : Nat} {ok : Bool} (he : exec i s = .next (s.whenReady fun t => t.writeCommit u v.toNat))
      (hc : ∀ l, (s.withRejected l).CommitChecks u ok) : CommitRule s i u ok := commitRule_of_checks he hr hv hc
  exact ⟨rule rfl fun l => s.wsaSetOk_withRejected l ▸ State.commitChecks_wsa _,
    rule rfl fun l => s.mpSetOk_withRejected l ▸ State.commitChecks_mp _,
    rule rfl fun l => s.timeSetOk_withRejected l ▸ State.commitChecks_time _,
    rule rfl fun l => s.netSetOk_withRejected l ▸ State.commitChecks_net _,
    rule rfl fun l => s.thmSetOk_withRejected l ▸ State.commitChecks_thm _,
    rule rfl fun l => s.rcSetOk_withRejected l ▸ State.commitChecks_rc _,
    fun g => rule rfl fun l => s.railSetOk_withRejected l ▸ State.commitChecks_rail _ g,
    fun p => rule rfl fun l => s.tfSetOk_withRejected l ▸ State.commitChecks_tf _ p,
    exec_schCommit_accepted hr hv, exec_schCommit_refused hr hv⟩

end Sys2Proof.Machine
end

section
/-! PROOFS. The events of one frame (O51). -/

namespace Sys2Proof.Machine

/-! ### Frames from the keep lemmas -/

/-- The parts of a list. -/
def partsOf (l : List StatePart) (p : StatePart) : Bool := decide (p ∈ l)

theorem State.endRenders_time (s : State) : s.endRenders.time = s.time :=
  (State.endRenders_ok s (Ok.self s (partsOf [.time]))).timeEq

theorem State.endRenders_clk (s : State) : s.endRenders.clk = s.clk :=
  (State.endRenders_ok s (Ok.self s (partsOf [.clk]))).clkEq

theorem State.endRenders_sch (s : State) : s.endRenders.sch = s.sch :=
  (State.endRenders_ok s (Ok.self s (partsOf [.sch]))).schEq

theorem State.atFlip_time (s : State) : s.atFlip.time = s.time :=
  (State.atFlip_ok s (Ok.self s (partsOf [.time]))).timeEq

theorem State.atFlip_clk (s : State) : s.atFlip.clk = s.clk :=
  (State.atFlip_ok s (Ok.self s (partsOf [.clk]))).clkEq

/-! ### The flip tick (R207, R214) -/

theorem State.clk_le_advanceWall (s : State) (t : Nat) : s.clk ≤ (s.advanceWall t).clk :=
  Nat.le_trans (Nat.le_trans (Nat.le_add_right ..) (Nat.le_add_right ..)) (Nat.le_add_right ..)

theorem State.advanceWall_wfn (s : State) (t : Nat) : (s.advanceWall t).time.wfn = s.time.wfn := rfl

theorem State.advanceWall_pwr (s : State) (t : Nat) : (s.advanceWall t).pwr = s.pwr := rfl

theorem State.markerCheck_time (s : State) :
    s.markerCheck.time = { s.time with wsGot := s.markerCheck.time.wsGot, wsMiss := s.markerCheck.time.wsMiss } := by
  unfold State.markerCheck
  split
  · split <;> rfl
  · rfl

theorem State.markerCheck_sch (s : State) : s.markerCheck.sch = s.sch :=
  (State.markerCheck_ok s (Ok.self s (partsOf [.sch]))).schEq

theorem State.markerCheck_clk (s : State) : s.markerCheck.clk = s.clk :=
  (State.markerCheck_ok s (Ok.self s (partsOf [.clk]))).clkEq

theorem State.rateFlip_clk (s : State) (n : Nat) : (s.rateFlip n).clk = s.clk :=
  (State.rateFlip_ok s n (Ok.self s (partsOf [.clk]))).clkEq

theorem State.takeStep_clk (s : State) : s.takeStep.clk = s.clk :=
  (State.takeStep_ok s (Ok.self s (partsOf [.clk]))).clkEq

theorem State.tellStep_time (s : State) (d : Int) : (s.tellStep d).time = s.time :=
  (State.tellStep_ok s d (Ok.self s (partsOf [.time]))).timeEq

theorem State.log_time (s : State) (code unit arg0 arg1 : Nat) : (s.log code unit arg0 arg1).time = s.time :=
  (State.log_ok s code unit arg0 arg1 (Ok.self s (partsOf [.time]))).timeEq

/-- A step begins to acquire afresh. -/
theorem State.takeStep_time (s : State) : s.takeStep.time.stepNow = false ∧ s.takeStep.time.state = .acquiring := by
  unfold State.takeStep
  dsimp only
  rw [State.tellStep_time, State.log_time]
  exact ⟨rfl, rfl⟩

theorem State.timeLive_clk (s : State) : s.timeLive.clk = s.clk :=
  (State.timeLive_ok s (Ok.self s (partsOf [.clk]))).clkEq

theorem State.pendLive_time (s : State) (u : Nat) : (s.pendLive u).time = s.time :=
  (State.pendLive_ok s u (Ok.self s (partsOf [.time]))).timeEq

/-- A new source leaves the frame number and a pending step's permission as they stand, and no source begins with a pending step. -/
theorem State.timeLive_time (s : State) : s.timeLive.time.wfn = s.time.wfn ∧ s.timeLive.time.stepNow = s.time.stepNow ∧
    (s.time.state ≠ .stepPending → s.timeLive.time.state ≠ .stepPending) := by
  unfold State.timeLive
  split
  · exact ⟨rfl, rfl, id⟩
  · dsimp only
    split
    · rw [State.pendLive_time]
      exact ⟨rfl, rfl, id⟩
    · split
      · dsimp only
        rw [State.pendLive_time]
        exact ⟨rfl, rfl, fun _ => nofun⟩
      · dsimp only
        rw [State.pendLive_time]
        exact ⟨rfl, rfl, fun _ => nofun⟩

theorem State.wallOut_clk (s : State) : s.wallOut.clk = s.clk :=
  (State.wallOut_ok s (Ok.self s (partsOf [.clk]))).clkEq

/-- The marker that is sent is noted, no more. -/
theorem State.wallOut_time (s : State) : s.wallOut.time.wfn = s.time.wfn ∧ s.wallOut.time.stepNow = s.time.stepNow ∧
    s.wallOut.time.state = s.time.state := by
  unfold State.wallOut
  split <;> exact ⟨rfl, rfl, rfl⟩

/-- The flip tick's own cycle, before its frame number: the clock has moved on, and of the TIME block the wall counter and the count
of missed markers. -/
def State.toFlip (s : State) : State := (s.advanceWall (s.flipTime (s.time.wfn + 1))).markerCheck

theorem State.clk_le_toFlip (s : State) : s.clk ≤ s.toFlip.clk :=
  Nat.le_trans (s.clk_le_advanceWall _) (Nat.le_of_eq (State.markerCheck_clk _).symm)

theorem State.toFlip_state (s : State) : s.toFlip.time.state = s.time.state := by rw [State.toFlip, State.markerCheck_time]; rfl

theorem State.toFlip_stepNow (s : State) : s.toFlip.time.stepNow = s.time.stepNow := by rw [State.toFlip, State.markerCheck_time]; rfl

theorem State.toFlip_chg (s : State) : s.toFlip.time.chg = s.time.chg := by rw [State.toFlip, State.markerCheck_time]; rfl

theorem State.toFlip_sch (s : State) : s.toFlip.sch = s.sch := State.markerCheck_sch _

/-- Whether a step is due is read from the TIME block and the sessions. -/
theorem State.stepDue_congr {s t : State} (hst : t.time.state = s.time.state) (hn : t.time.stepNow = s.time.stepNow)
    (hc : t.time.chg = s.time.chg) (hs : t.sch = s.sch) : t.stepDue = s.stepDue := by
  simp only [State.stepDue, State.sessions, hst, hn, hc, hs]

theorem State.toFlip_stepDue (s : State) : s.toFlip.stepDue = s.stepDue :=
  State.stepDue_congr s.toFlip_state s.toFlip_stepNow s.toFlip_chg s.toFlip_sch

theorem State.timeFlip_of_stepDue {s : State} (h : s.stepDue = true) : s.timeFlip = s.toFlip.takeStep.timeLive.wallOut :=
  congrArg (fun t : State => t.timeLive.wallOut) (if_pos (s.toFlip_stepDue.trans h))

theorem State.timeFlip_of_noStep {s : State} (h : s.stepDue = false) : s.timeFlip =
    ({ s.toFlip.rateFlip (s.time.wfn + 1) with time.wfn := (s.time.wfn + 1) % 2 ^ 48 } : State).timeLive.wallOut :=
  congrArg (fun t : State => t.timeLive.wallOut) (if_neg (ne_true_of_eq_false (s.toFlip_stepDue.trans h)))

theorem State.stepDue_of_state {s : State} (h : s.time.state ≠ .stepPending) : s.stepDue = false := by
  simp [State.stepDue, h]

theorem State.clk_le_timeFlip (s : State) : s.clk ≤ s.timeFlip.clk := by
  cases h : s.stepDue with
  | true =>
    rw [State.timeFlip_of_stepDue h, State.wallOut_clk, State.timeLive_clk, State.takeStep_clk]
    exact s.clk_le_toFlip
  | false =>
    rw [State.timeFlip_of_noStep h, State.wallOut_clk, State.timeLive_clk]
    exact Nat.le_trans s.clk_le_toFlip (Nat.le_of_eq (State.rateFlip_clk ..).symm)

theorem State.setWfn_wfn (s : State) (n : Nat) : ({ s with time.wfn := n } : State).time.wfn = n := rfl

theorem State.timeFlip_wfn {s : State} (h : s.stepDue = false) : s.timeFlip.time.wfn = (s.time.wfn + 1) % 2 ^ 48 := by
  rw [State.timeFlip_of_noStep h, (State.wallOut_time _).1, (State.timeLive_time _).1, State.setWfn_wfn]

theorem State.timeFlip_step {s : State} (h : s.stepDue = true) :
    s.timeFlip.time.stepNow = false ∧ s.timeFlip.time.state ≠ .stepPending := by
  obtain ⟨hNow1, hState1⟩ := s.toFlip.takeStep_time
  obtain ⟨-, hNow2, hState2⟩ := s.toFlip.takeStep.timeLive_time
  obtain ⟨-, hNow3, hState3⟩ := s.toFlip.takeStep.timeLive.wallOut_time
  rw [State.timeFlip_of_stepDue h, hNow3, hNow2, hNow1, hState3]
  exact ⟨rfl, hState2 (by rw [hState1]; nofun)⟩

theorem State.flip_time (s : State) : s.flip.time = s.endRenders.timeFlip.time := by rw [State.flip, State.atFlip_time]

theorem State.flip_clk (s : State) : s.flip.clk = s.endRenders.timeFlip.clk := by rw [State.flip, State.atFlip_clk]

theorem State.clk_le_flip (s : State) : s.clk ≤ s.flip.clk :=
  calc s.clk = s.endRenders.clk := s.endRenders_clk.symm
    _ ≤ s.endRenders.timeFlip.clk := State.clk_le_timeFlip _
    _ = s.flip.clk := s.flip_clk.symm

theorem State.endRenders_stepDue (s : State) : s.endRenders.stepDue = s.stepDue := by
  have h := s.endRenders_time
  exact State.stepDue_congr (by rw [h]) (by rw [h]) (by rw [h]) s.endRenders_sch

theorem State.flip_wfn {s : State} (h : s.stepDue = false) : s.flip.time.wfn = (s.time.wfn + 1) % 2 ^ 48 := by
  rw [State.flip_time, State.timeFlip_wfn (s.endRenders_stepDue.trans h), State.endRenders_time]

theorem State.flip_step {s : State} (h : s.stepDue = true) : s.flip.time.stepNow = false ∧ s.flip.time.state ≠ .stepPending := by
  rw [State.flip_time]
  exact State.timeFlip_step (s.endRenders_stepDue.trans h)

/-! ### The guard begins (R14, R15) -/

theorem State.log_wsa (s : State) (code unit arg0 arg1 : Nat) : (s.log code unit arg0 arg1).wsa = s.wsa :=
  (State.log_ok s code unit arg0 arg1 (Ok.self s (partsOf [.wsa]))).wsaEq

/-- The WSA stops: it is in its guard, and its partitions hold no pixel. -/
theorem State.wsaGuard_wsa (s : State) : s.wsaGuard.wsa.inGuard = true ∧ s.wsaGuard.wsa.acc = [] := by
  have hskip (t : State) : t.countSkip.wsa.inGuard = t.wsa.inGuard ∧ t.countSkip.wsa.acc = t.wsa.acc := by
    unfold State.countSkip
    split <;> exact ⟨rfl, rfl⟩
  unfold State.wsaGuard
  dsimp only
  split
  · exact hskip _
  · rw [State.log_wsa, State.count_wsa]
    exact hskip _

theorem State.wsaGuard_keeps (s : State) : s.wsaGuard.time = s.time ∧ s.wsaGuard.pwr = s.pwr := by
  have h := State.wsaGuard_ok s (Ok.self s (partsOf [.time, .pwr]))
  exact ⟨h.timeEq, h.pwrEq⟩

theorem State.tfGuard_keeps (s : State) : s.tfGuard.time = s.time ∧ s.tfGuard.pwr = s.pwr ∧ s.tfGuard.wsa = s.wsa := by
  have h := State.tfGuard_ok s (Ok.self s (partsOf [.time, .pwr, .wsa]))
  exact ⟨h.timeEq, h.pwrEq, h.wsaEq⟩

theorem State.entryStep_keeps (s : State) : s.entryStep.time = s.time ∧ s.entryStep.wsa = s.wsa := by
  have h := State.entryStep_ok s (Ok.self s (partsOf [.time, .wsa]))
  exact ⟨h.timeEq, h.wsaEq⟩

/-- R382 step 2: an entry into PLATEAU names the flip at which its rails go down. -/
theorem State.entryStep_transit {s : State} (h : s.pwr.transit = .entryFlip) :
    s.entryStep.pwr.transit = .entryRails (s.time.wfn + 2) := by
  rw [State.entryStep, if_pos h]

/-- What follows the entry's step in a guard's beginning. -/
theorem State.guardEnd_keeps (s : State) : s.dmcGuard.showInSafe.time = s.time ∧ s.dmcGuard.showInSafe.pwr = s.pwr ∧
    s.dmcGuard.showInSafe.wsa = s.wsa := by
  have h := State.showInSafe_ok _ (State.dmcGuard_ok s (Ok.self s (partsOf [.time, .pwr, .wsa])))
  exact ⟨h.timeEq, h.pwrEq, h.wsaEq⟩

theorem exec_guardBegin {s : State} (hr : s.glb.refclkStopped = false) (hg : s.wsa.inGuard = false) (hb : s.pwr.state ≠ .boot) :
    ∃ t, exec .guardBegin s = .next t ∧ t.wsa.inGuard = true ∧ t.wsa.acc = [] ∧ t.time.wfn = s.time.wfn ∧
      (s.pwr.transit = .entryFlip → t.pwr.transit = .entryRails (s.time.wfn + 2)) := by
  have he : exec .guardBegin s = .next (s.advanceWall s.guardAt).wsaGuard.tfGuard.entryStep.dmcGuard.showInSafe := by
    rw [exec, execGuardBegin, if_neg (by simp [hr, hg, hb])]
  have hPwr0 := s.advanceWall_pwr s.guardAt
  have hWfn0 := s.advanceWall_wfn s.guardAt
  obtain ⟨hIn, hAcc⟩ := (s.advanceWall s.guardAt).wsaGuard_wsa
  obtain ⟨hTime1, hPwr1⟩ := (s.advanceWall s.guardAt).wsaGuard_keeps
  obtain ⟨hTime2, hPwr2, hWsa2⟩ := (s.advanceWall s.guardAt).wsaGuard.tfGuard_keeps
  obtain ⟨hTime3, hWsa3⟩ := (s.advanceWall s.guardAt).wsaGuard.tfGuard.entryStep_keeps
  obtain ⟨hTime4, hPwr4, hWsa4⟩ := (s.advanceWall s.guardAt).wsaGuard.tfGuard.entryStep.guardEnd_keeps
  have hTime : (s.advanceWall s.guardAt).wsaGuard.tfGuard.time.wfn = s.time.wfn := by
    rw [hTime2, hTime1, hWfn0]
  refine ⟨_, he, ?_, ?_, ?_, fun h => ?_⟩
  · rw [hWsa4, hWsa3, hWsa2, hIn]
  · rw [hWsa4, hWsa3, hWsa2, hAcc]
  · rw [hTime4, hTime3, hTime]
  · rw [hPwr4, State.entryStep_transit (by rw [hPwr2, hPwr1, hPwr0, h]), hTime]

/-! ### The hand-off (R15, R88) -/

/-- The hand-off is noted. -/
def State.markHanded (s : State) : State := { s with wsa.handed := true }

theorem State.markHanded_wsa (s : State) : s.markHanded.wsa.handed = true ∧ s.markHanded.wsa.qpred = s.wsa.qpred := ⟨rfl, rfl⟩

theorem State.takePredictions_wsa (s : State) (l : List Nat) : (l.foldl State.takePrediction s).wsa = s.wsa :=
  (foldl_ok (Ok.self s (partsOf [.wsa])) fun u g hk => State.takePrediction_ok u g hk).wsaEq

theorem exec_wsaGuardHandoff {s : State} (hr : s.glb.refclkStopped = false) (hf : s.frameLoop = true) (hg : s.wsa.inGuard = true)
    (hh : s.wsa.handed = false) :
    ∃ t, exec .wsaGuardHandoff s = .next t ∧ t.wsa.handed = true ∧ t.wsa.qpred = s.latchCharge.wsa.qpred := by
  have he : exec .wsaGuardHandoff s = .next ((List.range 8).foldl State.takePrediction s.latchCharge.markHanded) :=
    if_pos (by simp [hr, hf, hg, hh])
  refine ⟨_, he, ?_⟩
  rw [State.takePredictions_wsa]
  exact s.latchCharge.markHanded_wsa

/-! ### The SCH in the guard (R15, R379) -/

theorem State.setPower_state (s : State) (new : PState) : (s.setPower new).pwr.state = new := by
  unfold State.setPower
  split
  · next h => exact h
  · exact congrArg PwrS.state (State.log_ok _ _ _ _ _ (Ok.self _ (partsOf [.pwr]))).pwrEq

/-- R379: in the frame loop the power state tells whether a session runs. -/
def State.PowerFollows (s : State) : Prop := s.frameLoop = true → s.pwr.state = if s.sessionsRun then .run else .hold

theorem State.followSessions_keeps (s : State) : s.followSessions.wsa = s.wsa ∧ s.followSessions.sch = s.sch := by
  have h := State.followSessions_ok s (Ok.self s (partsOf [.wsa, .sch]))
  exact ⟨h.wsaEq, h.schEq⟩

theorem State.sessionsRun_congr {s t : State} (h : t.sch = s.sch) : t.sessionsRun = s.sessionsRun := by
  rw [State.sessionsRun, h, ← State.sessionsRun]

theorem State.frameLoop_congr {s t : State} (h : t.pwr.state = s.pwr.state) : t.frameLoop = s.frameLoop := by
  rw [State.frameLoop, h, ← State.frameLoop]

theorem State.followSessions_follows (s : State) : s.followSessions.PowerFollows := by
  intro hf
  rw [State.sessionsRun_congr s.followSessions_keeps.2]
  unfold State.followSessions at hf ⊢
  split
  · exact State.setPower_state ..
  · next h => rw [if_neg h] at hf; exact absurd hf h

/-- R383 step 1: the WSA is no longer gated, and the groups that ran at the entry are to be started. -/
def State.ungate (s : State) (groups : List Nat) (start : Nat) : State := { s with
  pwr.transit := .exitRails, pwr.groups := groups, pwr.start := start
  wsa.gated := false }

theorem State.ungate_keeps (s : State) (groups : List Nat) (start : Nat) : (s.ungate groups start).pwr.state = s.pwr.state ∧
    (s.ungate groups start).wsa.cnt = s.wsa.cnt ∧ (s.ungate groups start).sch = s.sch := ⟨rfl, rfl, rfl⟩

/-- What an exit from PLATEAU changes of the power state and of the WSA. -/
def State.exitUngated (s : State) : State :=
  (s.functionBanks false).ungate (if s.pwr.transit = .entryFlip then [] else s.pwr.groups) s.clk

/-- The DMC's exit steps and the groups' start leave both as they stand from there. -/
theorem State.beginExit_ungated (s : State) :
    s.beginExit.pwr = s.exitUngated.pwr ∧ s.beginExit.wsa = s.exitUngated.wsa ∧ s.beginExit.sch = s.exitUngated.sch := by
  have h : Ok _ s.beginExit := foldl_ok (State.startDmcExit_ok _ (Ok.self s.exitUngated (partsOf [.pwr, .wsa, .sch])))
    fun u g hk => ok_ite (fun _ => State.railShow_ok _ _ (State.tryStart_ok _ _ (State.setGroup_ok _ _ _ hk))) fun _ => hk
  exact ⟨h.pwrEq, h.wsaEq, h.schEq⟩

theorem State.exitUngated_keeps (s : State) : s.exitUngated.pwr.state = s.pwr.state ∧ s.exitUngated.wsa.cnt = s.wsa.cnt ∧
    s.exitUngated.sch = s.sch := by
  have h := State.functionBanks_ok s false (Ok.self s (partsOf [.pwr, .wsa, .sch]))
  obtain ⟨hp, hw, hs⟩ := (s.functionBanks false).ungate_keeps (if s.pwr.transit = .entryFlip then [] else s.pwr.groups) s.clk
  rw [State.exitUngated, hp, hw, hs, h.pwrEq, h.wsaEq, h.schEq]
  exact ⟨rfl, rfl, rfl⟩

theorem State.countRefused_keeps (s : State) (e : Nat) : (s.countRefused e).pwr.state = s.pwr.state ∧
    (s.countRefused e).wsa.cnt = s.wsa.cnt ∧ (s.countRefused e).sch = s.sch := ⟨rfl, rfl, rfl⟩

theorem State.startExit_keeps (s : State) : s.startExit.pwr.state = s.pwr.state ∧ s.startExit.wsa.cnt = s.wsa.cnt ∧
    s.startExit.sch = s.sch := by
  unfold State.startExit
  split
  · next e _ => exact s.countRefused_keeps e
  · obtain ⟨hp, hw, hs⟩ := s.beginExit_ungated
    rw [hp, hw, hs]
    exact s.exitUngated_keeps

theorem State.wakeAgain_keeps (s : State) : s.wakeAgain.pwr.state = s.pwr.state ∧ s.wakeAgain.wsa.cnt = s.wsa.cnt ∧
    s.wakeAgain.sch = s.sch := by
  unfold State.wakeAgain
  split
  · exact s.startExit_keeps
  · exact ⟨rfl, rfl, rfl⟩

/-- The end of the SCH's work in a guard. -/
theorem State.guardDone_follows (s : State) : s.followSessions.wakeAgain.wsa.cnt = s.wsa.cnt ∧
    s.followSessions.wakeAgain.sch = s.sch ∧ s.followSessions.wakeAgain.PowerFollows := by
  obtain ⟨hp, hw, hs⟩ := s.followSessions.wakeAgain_keeps
  obtain ⟨hw', hs'⟩ := s.followSessions_keeps
  refine ⟨by rw [hw, hw'], hs.trans hs', fun hf => ?_⟩
  rw [hp, State.sessionsRun_congr hs]
  exact s.followSessions_follows ((State.frameLoop_congr hp).symm.trans hf)

theorem exec_schGuardProcess {s : State} (hr : s.glb.refclkStopped = false) (hg : s.wsa.inGuard = true) (hd : s.sch.guardDone = false)
    (hf : s.frameLoop = true ∧ s.wsa.handed = true ∨ s.pwr.state = .plateau) :
    ∃ t, exec .schGuardProcess s = .next t ∧ t.sch.guardDone = true ∧ t.wsa.cnt = [] ∧
      (t.frameLoop = true → t.pwr.state = if t.sessionsRun then .run else .hold) := by
  have hc : (((s.frameLoop && s.wsa.handed) || decide (s.pwr.state = .plateau)) && s.wsa.inGuard && !s.sch.guardDone &&
      !s.glb.refclkStopped) = true := by
    simpa [hr, hg, hd] using hf
  have he : ∃ u : State, u.sch.guardDone = true ∧ u.wsa.cnt = [] ∧ exec .schGuardProcess s = .next u.followSessions.wakeAgain :=
    ⟨_, rfl, rfl, if_pos hc⟩
  obtain ⟨u, hDone, hCnt, he⟩ := he
  obtain ⟨hw, hs, hpow⟩ := u.guardDone_follows
  exact ⟨_, he, by rw [hs, hDone], by rw [hw, hCnt], hpow⟩

/-! ### The age tick (R35) and the statement -/

theorem exec_flipTick {s : State} (hr : s.glb.refclkStopped = false) : exec .flipTick s = .next s.flip := if_neg (by simp [hr])

theorem exec_timeStep {s : State} (hr : s.glb.refclkStopped = false) (h : s.stepDue = true) : exec .timeStep s = .next s.flip :=
  if_pos (by simp [hr, h])

theorem exec_ageTick {s : State} (hr : s.glb.refclkStopped = false) (h0 : s.time.wfn % 64 = 0) (hn : s.time.wfn / 64 ≠ s.film.tick) :
    ∃ t, exec .ageTick s = .next t ∧ t.film.tick = s.time.wfn / 64 ∧ t.sch.ageAcc = [] ∧ t.sch.ageSkip = [] ∧
      (s.frameLoop = true → s.wsa.gated = false → t.film.tickSweep = s.time.wfn / 64) := by
  refine ⟨_, if_pos ⟨h0, hn, by rw [hr]; rfl⟩, ?_⟩
  split
  · exact ⟨rfl, rfl, rfl, fun _ _ => rfl⟩
  · next h => exact ⟨rfl, rfl, rfl, fun hf hg => absurd ⟨hf, by rw [hg]; rfl⟩ h⟩

/-- Settles O51: event by event. -/
theorem frameEvents : Obligations.FrameEvents := by
  intro s hr
  refine ⟨fun h => ?_, fun h => ?_, exec_ageTick hr, exec_guardBegin hr, exec_wsaGuardHandoff hr, exec_schGuardProcess hr⟩
  · exact ⟨_, exec_flipTick hr, State.flip_wfn (State.stepDue_of_state h), s.clk_le_flip⟩
  · exact ⟨_, exec_timeStep hr h, State.flip_step h⟩

end Sys2Proof.Machine
end

section
/-! PROOFS. The commands that act at once (O53). -/

namespace Sys2Proof.Machine

/-! ### A command that starts (R320, R321, R330) -/

/-- The command at the head of a source may start, is well formed, and its opcode is served. -/
structure State.Starts (s : State) (src : CmdSource) (c : Cmd) : Prop where
  head : s.headCmd src = some c
  inTurn : s.mayStart c = true
  formed : c.badStatus = none
  served : (s.takeCmd c).served c.opcode = true

theorem State.Starts.runCmd {s : State} {src : CmdSource} {c : Cmd} {op : Nat} (h : s.Starts src c) (ho : c.opcode = op)
    (f : Origin → Nat → List Byte → State → State) : s.runCmd src op f = (f c.org c.tag c.param (s.takeCmd c)).settle src := by
  have hs := h.served
  rw [ho] at hs
  simp only [State.runCmd, h.head, ho, h.inTurn, h.formed, hs, and_self, if_true]

/-- A command whose effect on what is left of its source is `t`. -/
theorem State.Starts.runCmd_eq {s t : State} {src : CmdSource} {c : Cmd} {op : Nat} (h : s.Starts src c) (ho : c.opcode = op)
    {f : Origin → Nat → List Byte → State → State} (hf : f c.org c.tag c.param (s.takeCmd c) = t) :
    Host.Outcome.next (φ := Fault) (ρ := Refusal) (s.runCmd src op f) = .next (t.settle src) := by
  rw [h.runCmd ho, hf]

/-! ### What the commands act by -/

/-- R125: a closed STREAM holds its new promise. -/
theorem State.closeSess_sess (s : State) (n : Nat) (x : Sess) : ∃ y, (s.closeSess n x).1.sess n = some y ∧ y.closeReq = true := by
  unfold State.closeSess
  exact ⟨_, State.sess_setSess_same .., rfl⟩

theorem State.closeNow_sess (s : State) (n : Nat) (x : Sess) : (s.closeNow n x).sess n = some { x with closed := true } := by
  unfold State.closeNow
  dsimp only
  split <;> exact State.sess_setSess_same ..

/-- Writing one value under each key of a list: those keys hold it, the others stand. -/
theorem tabGet_setAll {α : Type} [DecidableEq α] (d v : α) (l : List Nat) (t : Tab α) (k : Nat) :
    tabGet d (l.foldl (fun t i => tabSet d t i v) t) k = if k ∈ l then v else tabGet d t k := by
  induction l generalizing t with
  | nil => simp
  | cons i l ih =>
    rw [List.foldl_cons, ih, tabGet_set]
    by_cases hl : k ∈ l
    · simp [hl]
    · simp [hl]

theorem mem_tilesFrom {i first count : Nat} : i ∈ (List.range count).map (first + ·) ↔ first ≤ i ∧ i < first + count := by
  simp only [List.mem_map, List.mem_range]
  exact ⟨fun ⟨k, hk, he⟩ => by omega, fun h => ⟨i - first, by omega, by omega⟩⟩

/-- R352: NET_KEY_SET gives a peer its key and starts its numbering; the other peers, and the queue manager, stand. -/
theorem State.setKey_peer (s : State) (j : Nat) (key : List Byte) :
    ((s.setKey j key).peer j).key = (if allZero key then none else some key) ∧ ((s.setKey j key).peer j).last = 0 ∧
      ((s.setKey j key).peer j).devSeq = 1 ∧ (∀ i, i ≠ j → (s.setKey j key).peer i = s.peer i) ∧ (s.setKey j key).qm = s.qm := by
  have hj : (s.setKey j key).peer j = { s.peer j with
      key := if allZero key then none else some key, last := 0, recent := [], devSeq := 1, cmds := [], sent := [] } := tabGet_set_same
  rw [hj]
  exact ⟨rfl, rfl, rfl, fun i hi => tabGet_set_other hi, rfl⟩

/-- R396: a record takes the next GEN and goes to one of the two copies. -/
theorem State.saveBootcfg_saved (s : State) (rate fspl iecc bar2 prefer : Nat) :
    let t := s.saveBootcfg rate fspl iecc bar2 prefer true
    t.glb.cfgGen = s.glb.cfgGen + 1 ∧ t.qm = s.qm ∧ (t.flash.bootcfg0 ≠ s.flash.bootcfg0 → t.flash.bootcfg1 = s.flash.bootcfg1) := by
  unfold State.saveBootcfg
  dsimp only
  rw [if_pos rfl]
  split
  · exact ⟨rfl, rfl, fun h => absurd rfl h⟩
  · exact ⟨rfl, rfl, fun _ => rfl⟩


/-- R103: a request that nothing refuses takes the free slot. -/
theorem State.openSession_opens {s : State} {b : List Byte} {n : Nat} (org : Origin) (tag : Nat)
    (hr : s.openRefused (reqOf b) = none) (hn : s.freeSlot = some n) : s.openSession org tag b =
      (({ s with sch.arrivals := s.sch.arrivals + 1 } : State).setSess n
        (some (newSess (reqOf b) org.src org.dst tag (s.sch.arrivals + 1)))).answer n true := by
  unfold State.openSession
  dsimp only
  rw [hr, hn]

section
variable {s : State} {src : CmdSource} {c : Cmd}

/-! ### Sessions -/

theorem exec_sessionOpen_opens (h : s.Starts src c) (ho : c.opcode = 16) (hw : s.opensWait = false) (hb : s.opensBefore src = [])
    {n : Nat} (hr : (s.takeCmd c).openRefused (reqOf c.param) = none) (hn : (s.takeCmd c).freeSlot = some n) :
    exec (.sessionOpen src) s = .next ((((({ s.takeCmd c with sch.arrivals := (s.takeCmd c).sch.arrivals + 1 } : State).setSess n
      (some (newSess (reqOf c.param) c.src c.dst c.tag ((s.takeCmd c).sch.arrivals + 1)))).answer n true).settle src)) := by
  have hOpen : exec (.sessionOpen src) s = .next (s.takeOpen src) := by
    rw [exec, execSessionOpen, hw, hb]
    rfl
  rw [hOpen, State.takeOpen]
  exact h.runCmd_eq ho (State.openSession_opens c.org c.tag hr hn)

theorem exec_sessionOpen_waits (hw : s.opensWait = true) : exec (.sessionOpen src) s = .next s := by
  rw [exec, execSessionOpen, if_pos hw]

theorem exec_sessionCancel_early (h : s.Starts src c) (ho : c.opcode = 17) {x : Sess}
    (hx : (s.takeCmd c).ownSess src (fieldB c.param 0 2) = some x) (h3 : x.state ≤ 3) : exec (.sessionCancel src) s =
      .next ((((s.takeCmd c).okCmd c.org c.tag 17 x.state []).cancelNow (fieldB c.param 0 2) x).settle src) :=
  h.runCmd_eq ho (by simp only [hx, if_pos h3])

theorem exec_sessionCancel_late (h : s.Starts src c) (ho : c.opcode = 17) {x : Sess}
    (hx : (s.takeCmd c).ownSess src (fieldB c.param 0 2) = some x) (h4 : 4 ≤ x.state) (h5 : x.state ≤ 5) :
    exec (.sessionCancel src) s = .next ((((s.takeCmd c).okCmd c.org c.tag 17 x.state []).modSess (fieldB c.param 0 2)
      fun y => { y with cancel := true }).settle src) :=
  h.runCmd_eq ho (by simp only [hx, if_neg (Nat.not_le.2 h4), if_pos h5])

/-- R125: a STREAM that runs and has not been closed. -/
def Sess.mayClose (x : Sess) : Prop := x.openStream = true ∧ x.closeReq = false ∧ x.live = true

theorem exec_sessionClose_before (h : s.Starts src c) (ho : c.opcode = 18) {x : Sess}
    (hx : (s.takeCmd c).ownSess src (fieldB c.param 0 2) = some x) (hc : x.mayClose) (hd : s.sch.guardDone = false) :
    exec (.sessionClose src) s = .next ((((s.takeCmd c).closeSess (fieldB c.param 0 2) x).1.okCmd c.org c.tag 18
      (((s.takeCmd c).closeSess (fieldB c.param 0 2) x).2 % 2 ^ 32) []).settle src) := by
  obtain ⟨hOpen, hReq, hLive⟩ := hc
  obtain ⟨y, hy, -⟩ := (s.takeCmd c).closeSess_sess (fieldB c.param 0 2) x
  have hd' : (s.takeCmd c).sch.guardDone = false := hd
  exact h.runCmd_eq ho (by simp only [hx, hOpen, hReq, hLive, hy, hd']; rfl)

theorem exec_sessionClose_after (h : s.Starts src c) (ho : c.opcode = 18) {x : Sess}
    (hx : (s.takeCmd c).ownSess src (fieldB c.param 0 2) = some x) (hc : x.mayClose) (hd : s.sch.guardDone = true) :
    ∃ (v : State) (y : Sess), exec (.sessionClose src) s = .next ((v.okCmd c.org c.tag 18
      (((s.takeCmd c).closeSess (fieldB c.param 0 2) x).2 % 2 ^ 32) []).settle src) ∧
      v.sess (fieldB c.param 0 2) = some y ∧ y.closed = true ∧ y.closeReq = true := by
  obtain ⟨hOpen, hReq, hLive⟩ := hc
  obtain ⟨y, hy, hyReq⟩ := (s.takeCmd c).closeSess_sess (fieldB c.param 0 2) x
  have hd' : (s.takeCmd c).sch.guardDone = true := hd
  exact ⟨((s.takeCmd c).closeSess (fieldB c.param 0 2) x).1.closeNow (fieldB c.param 0 2) y, _,
    h.runCmd_eq ho (by simp only [hx, hOpen, hReq, hLive, hy, hd']; rfl), State.closeNow_sess .., rfl, hyReq⟩

/-! ### Film, configuration and the frontlight -/

theorem exec_filmBind_binds (h : s.Starts src c) (ho : c.opcode = 33) (hp : ((s.takeCmd c).pkgNow (fieldB c.param 0 1)).isSome = true)
    (hf : ∀ i, fieldB c.param 2 2 ≤ i → i < fieldB c.param 2 2 + fieldB c.param 4 2 → (s.takeCmd c).tileBusy i false = false) :
    ∃ v t : State, exec (.filmBind src) s = .next t ∧ t = ((v.doneAtFlip c.org c.tag 33 (fieldB c.param 4 2)).settle src) ∧
      (∀ i, fieldB c.param 2 2 ≤ i → i < fieldB c.param 2 2 + fieldB c.param 4 2 →
        tabGet 0 v.film.bindPend i = fieldB c.param 0 1 + 1) ∧
      (∀ i, i < fieldB c.param 2 2 ∨ fieldB c.param 2 2 + fieldB c.param 4 2 ≤ i →
        tabGet 0 v.film.bindPend i = tabGet 0 (s.takeCmd c).film.bindPend i) ∧
      v.qm = (s.takeCmd c).qm := by
  have hNone : ¬((s.takeCmd c).pkgNow (fieldB c.param 0 1)).isNone = true :=
    fun hn => Option.isSome_iff_ne_none.1 hp (Option.isNone_iff_eq_none.1 hn)
  have hBusy : ¬((List.range (fieldB c.param 4 2)).map (fieldB c.param 2 2 + ·)).any
      (fun i => (s.takeCmd c).tileBusy i false) = true := by
    rw [List.any_eq_true]
    rintro ⟨i, hi, hb⟩
    obtain ⟨h1, h2⟩ := mem_tilesFrom.1 hi
    rw [hf i h1 h2] at hb
    exact Bool.false_ne_true hb
  refine ⟨_, _, h.runCmd_eq ho ((if_neg hNone).trans (if_neg hBusy)), rfl, fun i h1 h2 => ?_, fun i hi => ?_, rfl⟩
  · exact (tabGet_setAll ..).trans (if_pos (mem_tilesFrom.2 ⟨h1, h2⟩))
  · exact (tabGet_setAll ..).trans (if_neg fun hm => by have := mem_tilesFrom.1 hm; omega)

theorem exec_configCommit_accepted (h : s.Starts src c) (ho : c.opcode = 49)
    (hc : ((s.takeCmd c).commit (blockUnit (fieldB c.param 0 1) (fieldB c.param 1 1))).1 = true) :
    exec (.configCommit src) s = .next ((((s.takeCmd c).commit (blockUnit (fieldB c.param 0 1) (fieldB c.param 1 1))).2.okCmd c.org c.tag 49
      (if fieldB c.param 0 1 = 1 then 0 else (s.time.wfn + 1) % 2 ^ 32) []).settle src) :=
  h.runCmd_eq ho (if_pos hc)

theorem exec_flStatusRead_tile (h : s.Starts src c) (ho : c.opcode = 99) (h1 : fieldB c.param 0 2 < 1024)
    (hm : s.inMap (fieldB c.param 0 2) = true) :
    exec (.flStatusRead src) s =
      .next (((s.takeCmd c).okCmd c.org c.tag 99 0 (s.flStatus (fieldB c.param 0 2))).settle src) :=
  h.runCmd_eq ho (if_pos ⟨h1, hm⟩)

/-! ### Registers and BAR2 -/

theorem exec_regWrite_answered (h : s.Starts src c) (ho : c.opcode = 113)
    (hb : ((s.takeCmd c).writeReg (.command src) (fieldB c.param 0 4) (fieldB c.param 4 4)).pwr.state ≠ .boot) :
    exec (.regWrite src) s = .next ((((s.takeCmd c).writeReg (.command src) (fieldB c.param 0 4) (fieldB c.param 4 4)).okCmd
      c.org c.tag 113 0 []).settle src) :=
  h.runCmd_eq ho (if_neg hb)

/-- R292: a BAR2 command in range waits exactly while a channel of its access holds requests. -/
theorem State.Starts.barWaits (h : s.Starts src c) {op : Nat} (ho : c.opcode = op) {n : List Byte → Nat}
    (hr : fieldB c.param 0 8 + n c.param ≤ s.bar2Size) : s.barWaits src op n = s.bar2Held (fieldB c.param 0 8) (n c.param) := by
  have hs : s.served op = true := ho ▸ h.served
  simp [State.barWaits, h.head, ho, h.formed, hs, hr]

theorem exec_bar2Write_held (h : s.Starts src c) (ho : c.opcode = 114)
    (hr : fieldB c.param 0 8 + (c.param.length - 8) ≤ s.bar2Size) (hh : s.bar2Held (fieldB c.param 0 8) (c.param.length - 8) = true) :
    exec (.bar2Write src) s = .next (s.holdReq (.command src)) :=
  if_pos ((h.barWaits ho (n := fun p => p.length - 8) hr).trans hh)

theorem exec_bar2Read_held (h : s.Starts src c) (ho : c.opcode = 115)
    (hr : fieldB c.param 0 8 + fieldB c.param 8 4 ≤ s.bar2Size) (hh : s.bar2Held (fieldB c.param 0 8) (fieldB c.param 8 4) = true) :
    exec (.bar2Read src) s = .next (s.holdReq (.command src)) :=
  if_pos ((h.barWaits ho (n := fun p => fieldB p 8 4) hr).trans hh)

theorem exec_bar2Write_stores (h : s.Starts src c) (ho : c.opcode = 114)
    (hr : fieldB c.param 0 8 + (c.param.length - 8) ≤ s.bar2Size) (hh : s.bar2Held (fieldB c.param 0 8) (c.param.length - 8) = false) :
    exec (.bar2Write src) s = .next (((((s.takeCmd c).grantBar2 (.command src) (fieldB c.param 0 8) (c.param.length - 8)).bar2Store
      (fieldB c.param 0 8) ((c.param.drop 8).map some)).okCmd c.org c.tag 114 (c.param.length - 8) []).settle src) := by
  have hw := (h.barWaits ho (n := fun p => p.length - 8) hr).trans hh
  rw [← List.length_drop] at hr ⊢
  exact (if_neg (ne_true_of_eq_false hw)).trans (h.runCmd_eq ho (if_neg (Nat.not_lt.2 hr)))

theorem exec_bar2Read_reads (h : s.Starts src c) (ho : c.opcode = 115)
    (hr : fieldB c.param 0 8 + fieldB c.param 8 4 ≤ s.bar2Size) (hh : s.bar2Held (fieldB c.param 0 8) (fieldB c.param 8 4) = false) :
    let v := (s.takeCmd c).grantBar2 (.command src) (fieldB c.param 0 8) (fieldB c.param 8 4)
    exec (.bar2Read src) s =
      .next ((v.okCmd c.org c.tag 115 0 (v.bar2Bytes (fieldB c.param 0 8) (fieldB c.param 8 4))).settle src) := by
  have hw := (h.barWaits ho (n := fun p => fieldB p 8 4) hr).trans hh
  exact (if_neg (ne_true_of_eq_false hw)).trans (h.runCmd_eq ho (if_neg (Nat.not_lt.2 hr)))

/-! ### The dump, the firmware images, resets and keys -/

theorem exec_dumpRelease_releases (h : s.Starts src c) (ho : c.opcode = 130) (hd : s.glb.dump.isSome = true) :
    ∃ v : State, exec (.dumpRelease src) s = .next ((v.okCmd c.org c.tag 130 0 []).settle src) ∧
      v.glb.dump = none ∧ v.flash.summary = none ∧ v.glb.summaryDue = false ∧ v.qm = (s.takeCmd c).qm := by
  have hNone : ¬(s.takeCmd c).glb.dump.isNone = true :=
    fun hn => Option.isSome_iff_ne_none.1 hd (Option.isNone_iff_eq_none.1 hn)
  exact ⟨_, h.runCmd_eq ho (if_neg hNone), rfl, rfl, rfl, rfl⟩

theorem exec_fwSelect_selects (h : s.Starts src c) (ho : c.opcode = 145) (hc : (s.takeCmd c).copyOk (fieldB c.param 0 1) = true)
    (hf : s.flash.ok = true) :
    ∃ v : State, exec (.fwSelect src) s = .next ((v.okCmd c.org c.tag 145 0 []).settle src) ∧ v.glb.cfgGen = s.glb.cfgGen + 1 ∧
      v.qm = (s.takeCmd c).qm ∧ (v.flash.bootcfg0 ≠ s.flash.bootcfg0 → v.flash.bootcfg1 = s.flash.bootcfg1) := by
  have hf' : (s.takeCmd c).flash.ok = true := hf
  exact ⟨_, h.runCmd_eq ho (if_neg (by simp [hc, hf'])), State.saveBootcfg_saved ..⟩

theorem exec_fwSelect_refused (h : s.Starts src c) (ho : c.opcode = 145)
    (hc : (s.takeCmd c).copyOk (fieldB c.param 0 1) = false ∨ s.flash.ok = false) :
    exec (.fwSelect src) s = .next (((s.takeCmd c).errCmd c.org c.tag 145 18).settle src) := by
  have hc' : (s.takeCmd c).copyOk (fieldB c.param 0 1) = false ∨ (s.takeCmd c).flash.ok = false := hc
  exact h.runCmd_eq ho (if_pos (by simpa using hc'))

theorem exec_netKeySet_sets (h : s.Starts src c) (ho : c.opcode = 160) :
    ∃ v : State, exec (.netKeySet src) s = .next ((v.okCmd c.org c.tag 160 0 []).settle src) ∧
      (v.peer (fieldB c.param 0 1)).key = (if allZero (sliceB c.param 8 32) then none else some (sliceB c.param 8 32)) ∧
      (v.peer (fieldB c.param 0 1)).last = 0 ∧ (v.peer (fieldB c.param 0 1)).devSeq = 1 ∧
      (∀ j, j ≠ fieldB c.param 0 1 → v.peer j = s.peer j) ∧ v.qm = (s.takeCmd c).qm :=
  ⟨(s.takeCmd c).setKey (fieldB c.param 0 1) (sliceB c.param 8 32), h.runCmd_eq ho rfl, State.setKey_peer ..⟩

end

/-- Settles O53: command by command. -/
theorem immediateCommands : Obligations.ImmediateCommands := by
  intro src c s hHead hTurn hFormed hServed
  have h : s.Starts src c := ⟨hHead, hTurn, hFormed, hServed⟩
  refine ⟨fun ho => h.runCmd_eq ho rfl, fun ho hw hb n hr hn => exec_sessionOpen_opens h ho hw hb hr hn,
    fun _ hw => exec_sessionOpen_waits hw, fun ho x hx => ⟨exec_sessionCancel_early h ho hx, exec_sessionCancel_late h ho hx⟩,
    fun ho x hx h1 h2 h3 => ⟨exec_sessionClose_before h ho hx ⟨h1, h2, h3⟩, exec_sessionClose_after h ho hx ⟨h1, h2, h3⟩⟩,
    exec_filmBind_binds h, fun ho => h.runCmd_eq ho rfl, fun ho hc h1 => ?_, fun ho hc h1 => ?_,
    fun ho => ⟨(s.takeCmd c).keepBlock 96 c.param, h.runCmd_eq ho rfl, rfl, rfl⟩,
    fun ho => ⟨(s.takeCmd c).keepBlock 97 c.param, h.runCmd_eq ho rfl, rfl, rfl⟩,
    fun ho => ⟨(s.takeCmd c).keepBlock 98 c.param, h.runCmd_eq ho rfl, rfl, rfl⟩,
    exec_flStatusRead_tile h, fun ho => h.runCmd_eq ho rfl, exec_regWrite_answered h, exec_bar2Write_stores h, exec_bar2Read_reads h,
    exec_bar2Write_held h, exec_bar2Read_held h, exec_dumpRelease_releases h, exec_fwSelect_selects h, exec_fwSelect_refused h,
    fun ho h0 => h.runCmd_eq ho (if_pos h0), fun ho h0 => h.runCmd_eq ho (if_neg h0), exec_netKeySet_sets h⟩
  · rw [exec_configCommit_accepted h ho hc, if_neg h1]
  · rw [exec_configCommit_accepted h ho hc, if_pos h1]

end Sys2Proof.Machine
end

section
/-! PROOFS. The film model: the ledger (O15, O16) and the appearance distance (O17). -/

namespace Sys2Proof.Machine

/-! ### The ledger (R48, R49) -/

theorem Pkg.delta_zero (p : Pkg) : p.delta 0 = 0 := if_pos (.inl rfl)

theorem Pkg.delta_four (p : Pkg) : p.delta 4 = 0 := if_pos (.inr rfl)

/-- Codes 1 to 3 add the weight of their level. -/
theorem Pkg.delta_low (p : Pkg) {c : Nat} (h1 : 1 ≤ c) (h3 : c ≤ 3) : p.delta c = p.weight c := by
  rw [Pkg.delta, if_neg (by omega), if_pos (by omega)]

/-- Codes 5 to 7 take it away. -/
theorem Pkg.delta_high (p : Pkg) {c : Nat} (h1 : 1 ≤ c) (h3 : c ≤ 3) : p.delta (c + 4) = -(p.weight c : Int) := by
  rw [Pkg.delta, if_neg (by omega), if_neg (by omega), Nat.add_sub_cancel]

theorem Pkg.weight_table {p : Pkg} (h : p.table = true) (l : Nat) : p.weight l = l := if_pos h

theorem Pkg.admissible_iff (p : Pkg) (l : Int) (c : Nat) :
    p.admissible l c = true ↔ -2047 ≤ l + p.delta c ∧ l + p.delta c ≤ 2047 := by
  rw [Pkg.admissible, decide_eq_true_iff]
  omega

/-- Settles O15: code by code. -/
theorem ledgerChangePerCode : Obligations.LedgerChangePerCode := by
  intro p
  refine ⟨p.delta_zero, p.delta_four, fun c h1 h3 => ⟨p.delta_low h1 h3, p.delta_high h1 h3, ?_⟩, fun ht => ?_⟩
  · rw [p.delta_low h1 h3, p.delta_high h1 h3, Int.add_right_neg]
  · have level {c : Nat} (h1 : 1 ≤ c) (h3 : c ≤ 3) : p.delta c = c := by rw [p.delta_low h1 h3, Pkg.weight_table ht]
    exact ⟨level (by decide) (by decide), level (by decide) (by decide), level (by decide) (by decide)⟩

/-- Settles O16: a code is admissible exactly if the ledger stays in its range, and code 0 leaves it as it is. -/
theorem admissibleCodesKeepTheLedger : Obligations.AdmissibleCodesKeepTheLedger := by
  intro p l c hlo hhi
  refine ⟨?_, p.admissible_iff l c⟩
  rw [Pkg.admissible_iff, Pkg.delta_zero, Int.add_zero]
  exact ⟨hlo, hhi⟩

/-! ### The appearance distance (R44) -/

/-- The distance as R44 writes it. -/
theorem Pkg.dist2_eq (p : Pkg) (a q : Lab) : p.dist2 a q = (p.u 42 1 * (a.1 - q.1).natAbs ^ 2 +
    p.u 43 1 * (a.2.1 - q.2.1).natAbs ^ 2 + p.u 44 1 * (a.2.2 - q.2.2).natAbs ^ 2) >>> 6 := by
  simp only [Pkg.dist2, Nat.shiftRight_eq_div_pow, Nat.pow_two, Nat.reducePow]

theorem Pkg.dist2_comm (p : Pkg) (a q : Lab) : p.dist2 a q = p.dist2 q a := by
  have swap (x y : Int) : (x - y).natAbs = (y - x).natAbs := by omega
  rw [Pkg.dist2_eq, Pkg.dist2_eq, swap a.1, swap a.2.1, swap a.2.2]

theorem Pkg.dist2_self (p : Pkg) (a : Lab) : p.dist2 a a = 0 := by
  simp [Pkg.dist2_eq]

/-- Along the first axis with the weight 64 the shift takes the weight away. -/
theorem Pkg.dist2_lightness {p : Pkg} {a q : Lab} (hw : p.u 42 1 = 64) (h : a.2 = q.2) :
    p.dist2 a q = (a.1 - q.1).natAbs ^ 2 := by
  rw [Pkg.dist2_eq, hw, h, Nat.shiftRight_eq_div_pow]
  simp

/-- Settles O17: the model's division by 64 is R44's shift by 6. -/
theorem appearanceDistance : Obligations.AppearanceDistance :=
  fun p a q => ⟨p.dist2_eq a q, p.dist2_comm a q, p.dist2_self a, Pkg.dist2_lightness⟩

end Sys2Proof.Machine
end

section
/-! PROOFS. The commands that run for longer (O54). -/

namespace Sys2Proof.Machine

/-! ### Runs (R327) -/

/-- The command runs as well. -/
def State.addRun (s : State) (r : Running) : State := { s with qm.running := s.qm.running ++ [r] }

theorem State.addRun_qm {s t : State} (h : t.qm = s.qm) (r : Running) : (t.addRun r).qm = (s.addRun r).qm := by
  rw [State.addRun, State.addRun, h]

theorem State.startRun_free {s : State} {grp : RunGroup} (hg : s.grpRuns grp = false) (org : Origin) (tag op : Nat) (p : List Byte) :
    s.startRun grp org tag op p = s.addRun ⟨grp, org, tag, op, p⟩ := by
  rw [State.startRun, if_neg (ne_true_of_eq_false hg)]
  rfl

theorem State.startMove_free {s : State} {grp : RunGroup} {space addr len : Nat} (hs : s.spaceOk space addr len = true)
    (hg : s.grpRuns grp = false) (org : Origin) (tag op : Nat) (p : List Byte) :
    s.startMove grp org tag op p space addr len = s.addRun ⟨grp, org, tag, op, p⟩ := by
  rw [State.startMove, if_pos hs, State.startRun_free hg]

/-- A group runs by what the queue manager holds. -/
theorem State.grpRuns_congr {s t : State} (h : t.qm = s.qm) (grp : RunGroup) : t.grpRuns grp = s.grpRuns grp := by
  rw [State.grpRuns, State.grpRuns, h]

theorem State.runOf_eq_none {s : State} {grp : RunGroup} (hg : s.grpRuns grp = false) : s.runOf grp = none := by
  rw [State.grpRuns, Bool.or_eq_false_iff, List.any_eq_false] at hg
  exact List.find?_eq_none.2 hg.1

theorem State.grantBar2_qm (s : State) (w : Waiter) (o n : Nat) : (s.grantBar2 w o n).qm = s.qm :=
  (State.grantBar2_ok s w o n (Ok.self s (partsOf [.qm]))).qmEq

theorem State.takeCmd_frameLoop (s : State) (c : Cmd) : (s.takeCmd c).frameLoop = s.frameLoop := rfl
theorem State.takeCmd_bar2Bytes (s : State) (c : Cmd) (o n : Nat) : (s.takeCmd c).bar2Bytes o n = s.bar2Bytes o n := rfl
theorem State.takeCmd_spaceOk (s : State) (c : Cmd) (space addr len : Nat) :
    (s.takeCmd c).spaceOk space addr len = s.spaceOk space addr len := rfl

/-- R326: what the host answers to a read of its memory. -/
theorem State.spaceRead_host {s : State} (hb : s.net.pcie.bme = true) (addr len : Nat) (bs : List Byte) :
    s.spaceRead 0 addr len (.ok bs) = (some bs, s) :=
  (if_neg (by decide)).trans (if_pos hb)

theorem State.spaceRead_failed (s : State) (addr len : Nat) : s.spaceRead 0 addr len .failed = (none, s.dmaErr) :=
  if_neg (by decide)

section
variable {s : State} {src : CmdSource} {c : Cmd}

/-- A command of a group that does not run acts as `f` says. -/
theorem State.Starts.runCmdOf_eq {t : State} (h : s.Starts src c) {op : Nat} (ho : c.opcode = op) {grp : RunGroup}
    (hg : (s.takeCmd c).grpRuns grp = false) {f : Origin → Nat → List Byte → State → State}
    (hf : f c.org c.tag c.param (s.takeCmd c) = t) :
    Host.Outcome.next (φ := Fault) (ρ := Refusal) (s.runCmdOf grp src op f) = .next (t.settle src) :=
  h.runCmd_eq ho ((if_neg (ne_true_of_eq_false hg)).trans hf)

/-- The run that the command at the head of its source starts. -/
def State.runFor (s : State) (grp : RunGroup) (c : Cmd) : State := (s.takeCmd c).addRun ⟨grp, c.org, c.tag, c.opcode, c.param⟩

/-- R327: a command that only moves bytes, in a range that exists, starts its run. -/
theorem State.Starts.runCmdOf_move (h : s.Starts src c) {op : Nat} (ho : c.opcode = op) {grp : RunGroup}
    (hg : (s.takeCmd c).grpRuns grp = false) {f : Origin → Nat → List Byte → State → State} {space addr len : Nat}
    (hs : (s.takeCmd c).spaceOk space addr len = true)
    (hf : f c.org c.tag c.param (s.takeCmd c) = (s.takeCmd c).startMove grp c.org c.tag op c.param space addr len) :
    Host.Outcome.next (φ := Fault) (ρ := Refusal) (s.runCmdOf grp src op f) = .next ((s.runFor grp c).settle src) :=
  h.runCmdOf_eq ho hg (by rw [hf, State.startMove_free hs hg, State.runFor, ho])

/-! ### The commands' starts -/

theorem exec_filmLoad_starts (h : s.Starts src c) (ho : c.opcode = 32) (hb : (s.takeCmd c).slotBusy (fieldB c.param 0 1) = false)
    (hs : (s.takeCmd c).spaceOk (fieldB c.param 1 1) (fieldB c.param 8 8) (fieldB c.param 4 4) = true)
    (hg : (s.takeCmd c).grpRuns .film = false) :
    exec (.filmLoad src) s = .next ((s.runFor .film c).settle src) :=
  h.runCmdOf_move ho hg hs (if_neg (ne_true_of_eq_false hb))

theorem exec_eventLogRead_starts (h : s.Starts src c) (ho : c.opcode = 128)
    (hs : (s.takeCmd c).spaceOk (fieldB c.param 6 1) (fieldB c.param 8 8)
      (256 * ((s.takeCmd c).logRange (fieldB c.param 0 4) (fieldB c.param 4 2)).length) = true)
    (hg : (s.takeCmd c).grpRuns .readback = false) :
    exec (.eventLogRead src) s = .next ((s.runFor .readback c).settle src) :=
  h.runCmdOf_move ho hg hs rfl

theorem exec_dumpRead_starts (h : s.Starts src c) (ho : c.opcode = 129) (hd : (s.takeCmd c).heldDump.isSome = true)
    (hs : (s.takeCmd c).spaceOk (fieldB c.param 8 1) (fieldB c.param 16 8) (dumpSpan c.param).2 = true)
    (hg : (s.takeCmd c).grpRuns .readback = false) :
    exec (.dumpRead src) s = .next ((s.runFor .readback c).settle src) :=
  h.runCmdOf_move ho hg hs (if_neg (Bool.not_eq_true _ ▸ Option.isNone_eq_false_iff.2 hd))

theorem exec_odometerRead_starts (h : s.Starts src c) (ho : c.opcode = 131) {b : List Byte}
    (hb : (s.takeCmd c).odoBytes (fieldB c.param 0 4) = some b)
    (hs : (s.takeCmd c).spaceOk (fieldB c.param 4 1) (fieldB c.param 8 8) b.length = true)
    (hg : (s.takeCmd c).grpRuns .readback = false) :
    exec (.odometerRead src) s = .next ((s.runFor .readback c).settle src) :=
  h.runCmdOf_move ho hg hs (by rw [hb])

theorem exec_fwWrite_starts (h : s.Starts src c) (ho : c.opcode = 144) (hi : s.glb.rom = true ∨ s.glb.image ≠ fieldB c.param 0 1)
    (hs : (s.takeCmd c).spaceOk (fieldB c.param 1 1) (fieldB c.param 8 8) (fieldB c.param 4 4) = true)
    (hg : (s.takeCmd c).grpRuns .fwWrite = false) :
    exec (.fwWrite src) s = .next ((s.runFor .fwWrite c).settle src) :=
  h.runCmdOf_move ho hg hs (if_neg fun hno => by
    obtain ⟨hrom, himg⟩ := hno
    rcases hi with hi | hi
    · exact absurd (show (!s.glb.rom) = true from hrom) (by simp [hi])
    · exact hi himg)

/-! ### Snapshots (R62) -/

/-- The tiles that the snapshot in progress holds. -/
def State.holdTiles (s : State) (tiles : List Nat) : State := { s with film.snapTiles := tiles }

theorem State.holdTiles_qm (s : State) (tiles : List Nat) : (s.holdTiles tiles).qm = s.qm := rfl

theorem State.holdTiles_snapTiles (s : State) (tiles : List Nat) : (s.holdTiles tiles).film.snapTiles = tiles := rfl

theorem exec_snapshotSave_starts (h : s.Starts src c) (ho : c.opcode = 64) (hf : s.frameLoop = true)
    (hne : (s.takeCmd c).rangeTiles (fieldB c.param 0 2) (fieldB c.param 2 2) ≠ [])
    (hb : ∀ i ∈ (s.takeCmd c).rangeTiles (fieldB c.param 0 2) (fieldB c.param 2 2), (s.takeCmd c).tileBusy i true = false)
    (hsize : (s.takeCmd c).imageSize ((s.takeCmd c).rangeTiles (fieldB c.param 0 2) (fieldB c.param 2 2)) ≤ fieldB c.param 16 8)
    (hs : (s.takeCmd c).spaceOk (fieldB c.param 4 1) (fieldB c.param 8 8)
      ((s.takeCmd c).imageSize ((s.takeCmd c).rangeTiles (fieldB c.param 0 2) (fieldB c.param 2 2))) = true)
    (hg : (s.takeCmd c).grpRuns .snapshot = false) :
    exec (.snapshotSave src) s = .next (((s.runFor .snapshot c).holdTiles
      ((s.takeCmd c).rangeTiles (fieldB c.param 0 2) (fieldB c.param 2 2))).settle src) := by
  have hLoop : ¬(!(s.takeCmd c).frameLoop) = true := by rw [State.takeCmd_frameLoop, hf]; decide
  have hFree : ¬((s.takeCmd c).rangeTiles (fieldB c.param 0 2) (fieldB c.param 2 2)).any
      (fun i => (s.takeCmd c).tileBusy i true) = true := by
    simpa using hb
  refine h.runCmdOf_eq ho hg ((if_neg hLoop).trans ((if_neg hne).trans ((if_neg hFree).trans
    ((if_neg (Nat.not_lt.2 hsize)).trans ((if_pos hs).trans ?_)))))
  rw [State.runFor, ho, ← State.startRun_free hg]
  rfl

theorem State.Starts.headWaits (h : s.Starts src c) (ho : c.opcode = 65) (hf : s.frameLoop = true) : s.headWaits src =
    (decide (fieldB c.param 1 1 = 1) && s.spaceOk 1 (fieldB c.param 8 8) (fieldB c.param 16 8) &&
      s.bar2Held (fieldB c.param 8 8) (headSize (s.bar2Bytes (fieldB c.param 8 8) 256))) := by
  simp [State.headWaits, h.head, ho, h.formed, h.inTurn, hf]

/-- R62: the header and directory of an image, as the window or the host's `head` gives them. -/
def State.readHead (s : State) (src : CmdSource) (p : List Byte) (head : HostDma) : Option (List Byte) × State :=
  let n := headSize (s.bar2Bytes (fieldB p 8 8) 256)
  if fieldB p 1 1 = 1 then (some (s.bar2Bytes (fieldB p 8 8) n), s.grantBar2 (.command src) (fieldB p 8 8) n)
  else s.spaceRead 0 (fieldB p 8 8) (fieldB p 16 8) head

/-- What SNAPSHOT_RESTORE does once its head has been read, or has not. -/
def State.restoreFrom (c : Cmd) (q : Option (List Byte) × State) : State := match q.1 with
  | none => q.2.errCmd c.org c.tag 65 7
  | some b => (q.2.startRun .snapshot c.org c.tag 65 c.param).holdTiles (imageTiles (sliceB b 0 (headSize b)))

theorem State.restoreFrom_some {u : State} (hg : u.grpRuns .snapshot = false) (ho : c.opcode = 65) (b : List Byte) :
    State.restoreFrom c (some b, u) = (u.addRun ⟨.snapshot, c.org, c.tag, c.opcode, c.param⟩).holdTiles
      (imageTiles (sliceB b 0 (headSize b))) := by
  rw [ho, ← State.startRun_free hg]
  rfl

theorem State.restoreFrom_none (u : State) : State.restoreFrom c (none, u) = u.errCmd c.org c.tag 65 7 := rfl

/-- A SNAPSHOT_RESTORE whose head lies on no channel that trains goes on as the read of its head answers. -/
theorem exec_snapshotRestore_goes (h : s.Starts src c) (ho : c.opcode = 65) (hf : s.frameLoop = true)
    (hw : s.headWaits src = false) (hg : (s.takeCmd c).grpRuns .snapshot = false)
    (hs : (s.takeCmd c).spaceOk (fieldB c.param 1 1) (fieldB c.param 8 8) (fieldB c.param 16 8) = true) {head : HostDma}
    {q : Option (List Byte) × State} (hq : (s.takeCmd c).readHead src c.param head = q) :
    exec (.snapshotRestore ⟨src, head⟩) s = .next ((State.restoreFrom c q).settle src) := by
  have hLoop : ¬(!(s.takeCmd c).frameLoop) = true := by rw [State.takeCmd_frameLoop, hf]; decide
  have hSpace : ¬(!(s.takeCmd c).spaceOk (fieldB c.param 1 1) (fieldB c.param 8 8) (fieldB c.param 16 8)) = true := by
    rw [hs]; decide
  refine (if_neg (ne_true_of_eq_false hw)).trans (h.runCmdOf_eq ho hg ((if_neg hLoop).trans ((if_neg hSpace).trans ?_)))
  unfold State.readHead at hq
  dsimp only at hq ⊢
  rw [hq]
  obtain ⟨b, u⟩ := q
  cases b <;> rfl

/-- SPACE 0: the host answers, with the image or with a failure. -/
theorem exec_snapshotRestore_host (h : s.Starts src c) (ho : c.opcode = 65) (hf : s.frameLoop = true)
    (hg : (s.takeCmd c).grpRuns .snapshot = false) (h0 : fieldB c.param 1 1 = 0) :
    (∀ bs : List Byte, s.net.pcie.bme = true → exec (.snapshotRestore ⟨src, .ok bs⟩) s =
      .next (((s.runFor .snapshot c).holdTiles (imageTiles (sliceB bs 0 (headSize bs)))).settle src)) ∧
    exec (.snapshotRestore ⟨src, .failed⟩) s = .next (((s.takeCmd c).dmaErr.errCmd c.org c.tag 65 7).settle src) := by
  have hw : s.headWaits src = false := by rw [h.headWaits ho hf, h0]; rfl
  have hs : (s.takeCmd c).spaceOk (fieldB c.param 1 1) (fieldB c.param 8 8) (fieldB c.param 16 8) = true := by rw [h0]; rfl
  have hHost (head : HostDma) : (s.takeCmd c).readHead src c.param head =
      (s.takeCmd c).spaceRead 0 (fieldB c.param 8 8) (fieldB c.param 16 8) head := if_neg (by rw [h0]; decide)
  refine ⟨fun bs hb => ?_, ?_⟩
  · rw [exec_snapshotRestore_goes h ho hf hw hg hs ((hHost _).trans (State.spaceRead_host (s := s.takeCmd c) hb ..)),
      State.restoreFrom_some hg ho]
    rfl
  · rw [exec_snapshotRestore_goes h ho hf hw hg hs ((hHost _).trans (State.spaceRead_failed ..)), State.restoreFrom_none]

theorem exec_snapshotRestore_waits {head : HostDma} (hw : s.headWaits src = true) :
    exec (.snapshotRestore ⟨src, head⟩) s = .next (s.holdReq (.command src)) := if_pos hw

/-- SPACE 1: the window is read at once, or, while a channel of the head holds requests, the command waits. -/
theorem exec_snapshotRestore_window (h : s.Starts src c) (ho : c.opcode = 65) (hf : s.frameLoop = true)
    (hg : (s.takeCmd c).grpRuns .snapshot = false) (h1 : fieldB c.param 1 1 = 1)
    (hs : (s.takeCmd c).spaceOk 1 (fieldB c.param 8 8) (fieldB c.param 16 8) = true) (head : HostDma) :
    let n := headSize (s.bar2Bytes (fieldB c.param 8 8) 256)
    let b := s.bar2Bytes (fieldB c.param 8 8) n
    (s.bar2Held (fieldB c.param 8 8) n = false →
      ∃ v : State, exec (.snapshotRestore ⟨src, head⟩) s = .next (v.settle src) ∧ v.qm = (s.runFor .snapshot c).qm ∧
        v.film.snapTiles = imageTiles (sliceB b 0 (headSize b))) ∧
    (s.bar2Held (fieldB c.param 8 8) n = true → exec (.snapshotRestore ⟨src, head⟩) s = .next (s.holdReq (.command src))) := by
  intro n b
  have hw : s.headWaits src = s.bar2Held (fieldB c.param 8 8) n := by
    rw [h.headWaits ho hf, ← s.takeCmd_spaceOk c, hs, decide_eq_true h1, Bool.and_self, Bool.true_and]
  have hRead : (s.takeCmd c).readHead src c.param head =
      (some b, (s.takeCmd c).grantBar2 (.command src) (fieldB c.param 8 8) n) := by
    rw [State.readHead, State.takeCmd_bar2Bytes, State.takeCmd_bar2Bytes, if_pos h1]
  have hs' : (s.takeCmd c).spaceOk (fieldB c.param 1 1) (fieldB c.param 8 8) (fieldB c.param 16 8) = true := by rw [h1, hs]
  have hqm := (s.takeCmd c).grantBar2_qm (.command src) (fieldB c.param 8 8) n
  refine ⟨fun hh => ?_, fun hh => exec_snapshotRestore_waits (hw.trans hh)⟩
  have he := exec_snapshotRestore_goes h ho hf (hw.trans hh) hg hs' hRead
  rw [State.restoreFrom_some ((State.grpRuns_congr hqm _).trans hg) ho] at he
  exact ⟨_, he, (State.holdTiles_qm ..).trans (State.addRun_qm hqm _), State.holdTiles_snapTiles ..⟩

/-! ### POWER_SET (R380, R382, R383) -/

/-- A POWER_SET while none runs and no transition is on its way. -/
theorem not_powerBusy (hg : (s.takeCmd c).grpRuns .powerSet = false) (ht : s.pwr.transit = .none) :
    ¬(((s.takeCmd c).runOf .powerSet).isSome = true ∨ (s.takeCmd c).pwr.transit ≠ .none) := by
  rw [State.runOf_eq_none hg]
  rintro (hr | hr)
  · exact Bool.false_ne_true hr
  · exact hr ht

theorem exec_powerSet_exits (h : s.Starts src c) (ho : c.opcode = 80) (hg : (s.takeCmd c).grpRuns .powerSet = false)
    (ht : s.pwr.transit = .none) (h2 : fieldB c.param 0 1 = 2) (hp : s.pwr.state = .plateau) :
    ((s.takeCmd c).exitRefused = none → exec (.powerSet src) s = .next ((s.runFor .powerSet c).beginExit.settle src)) ∧
    ∀ e, (s.takeCmd c).exitRefused = some e →
      exec (.powerSet src) s = .next ((((s.takeCmd c).countRefused e).errCmd c.org c.tag 80 e).settle src) := by
  have hPlateau : (s.takeCmd c).pwr.state = .plateau := hp
  refine ⟨fun hr => h.runCmd_eq ho ?_, fun e hr => h.runCmd_eq ho ?_⟩
  · simp only [if_neg (not_powerBusy hg ht), if_pos h2, if_pos hPlateau, hr, State.startRun_free hg, State.runFor, ho]
  · simp only [if_neg (not_powerBusy hg ht), if_pos h2, if_pos hPlateau, hr]

theorem exec_powerSet_enters (h : s.Starts src c) (ho : c.opcode = 80) (hg : (s.takeCmd c).grpRuns .powerSet = false)
    (ht : s.pwr.transit = .none) (h2 : fieldB c.param 0 1 ≠ 2) (hp : s.pwr.state = .hold) (hr : (s.takeCmd c).entryRefused = none) :
    ∃ v : State, exec (.powerSet src) s = .next (v.settle src) ∧ v.qm = (s.runFor .powerSet c).qm ∧ v.pwr.transit = .entryFlip ∧
      v.pwr.start = s.clk ∧ v.pwr.state = .hold := by
  have hHold : ¬(s.takeCmd c).pwr.state = .plateau := fun e => nomatch hp.symm.trans e
  refine ⟨{ s.runFor .powerSet c with pwr.transit := .entryFlip, pwr.start := s.clk, pwr.groups := [] }, h.runCmd_eq ho ?_,
    rfl, rfl, rfl, hp⟩
  refine (if_neg (not_powerBusy hg ht)).trans ((if_neg h2).trans ((if_neg hHold).trans ?_))
  simp only [hr, State.startRun_free hg, State.runFor, ho]
  rfl

end

/-! ### The end of a run (R326, R327) -/

theorem exec_longRunningComplete_read {s : State} {grp : RunGroup} {r : Running} {addr len : Nat} {dma : HostDma} {bs : List Byte}
    (hr : s.runOf grp = some r) (hsrc : r.source = some (0, addr, len)) (hp : r.opcode = 65 → s.planesHeld = false)
    (hd : dmaFits 0 len dma = true) (hb : (s.spaceRead 0 addr len dma).1 = some bs) :
    exec (.longRunningComplete grp dma) s = .next ((s.spaceRead 0 addr len dma).2.endSource r bs) := by
  have hFits : ¬(!dmaFits 0 len dma) = true := by rw [hd]; decide
  have hFree : ¬(s.spaceHeld 0 addr len || (decide (r.opcode = 65) && s.planesHeld)) = true := by
    by_cases h65 : r.opcode = 65
    · simp [State.spaceHeld, hp h65]
    · simp [State.spaceHeld, h65]
  have hRun : s.finishRun r dma = (s.spaceRead 0 addr len dma).2.endSource r bs := by
    rw [State.finishRun, hsrc]
    dsimp only
    rw [if_neg hFits, if_neg hFree, if_neg Nat.zero_ne_one, hb]
  rw [exec, execLongRunningComplete, hr, ← hRun]

theorem exec_dmaTimeout_read {s : State} {grp : RunGroup} {r : Running} {addr len : Nat} (hr : s.runOf grp = some r)
    (hsrc : r.source = some (0, addr, len)) : exec (.dmaTimeout grp) s = .next (s.dmaErr.abortRun r 7) := by
  simp only [exec, execDmaTimeout, hr, hsrc]

/-- Settles O54: command by command, then the ends of a run that reads host memory. -/
theorem longRunningCommands : Obligations.LongRunningCommands := by
  refine ⟨fun src c s hHead hTurn hFormed hServed => ?_, fun grp r addr len s hr hsrc =>
    ⟨fun dma bs hp hd hb => exec_longRunningComplete_read hr hsrc hp hd hb, exec_dmaTimeout_read hr hsrc⟩⟩
  have h : s.Starts src c := ⟨hHead, hTurn, hFormed, hServed⟩
  exact ⟨exec_filmLoad_starts h,
    fun ho hf hne hb hsize hs hg => ⟨_, exec_snapshotSave_starts h ho hf hne hb hsize hs hg, State.holdTiles_qm ..,
      State.holdTiles_snapTiles ..⟩,
    fun ho hf hg => ⟨exec_snapshotRestore_host h ho hf hg, exec_snapshotRestore_window h ho hf hg⟩,
    fun ho hg ht => ⟨exec_powerSet_exits h ho hg ht, exec_powerSet_enters h ho hg ht⟩,
    exec_eventLogRead_starts h, exec_dumpRead_starts h, fun ho b => exec_odometerRead_starts h ho, exec_fwWrite_starts h⟩

end Sys2Proof.Machine
end

section
/-! PROOFS. The ends of the entry to and the exit from PLATEAU (O39). -/

namespace Sys2Proof.Machine

/-! ### What is done to each of a list -/

/-- A fold whose step gives what it visits a property, and takes it from nothing, gives it to all that it visits. -/
theorem foldl_gives {f : State → Nat → State} {P : Nat → State → Prop} (hGives : ∀ s k, P k (f s k))
    (hKeeps : ∀ s j k, P k s → P k (f s j)) {l : List Nat} {k : Nat} (hk : k ∈ l) (s : State) : P k (l.foldl f s) := by
  have keep (l : List Nat) (s : State) (h : P k s) : P k (l.foldl f s) := by
    induction l generalizing s with
    | nil => exact h
    | cons j l ih => exact ih _ (hKeeps s j k h)
  induction l generalizing s with
  | nil => cases hk
  | cons j l ih =>
    rcases List.mem_cons.1 hk with rfl | hl
    · exact keep l _ (hGives s k)
    · exact ih hl _

/-- R286: a channel that has been put in self-refresh, or was not active, is not active. -/
theorem State.selfRefresh_notActive (s : State) (c : Nat) : ((s.selfRefresh c).chan c).state ≠ .active := by
  unfold State.selfRefresh
  dsimp only
  split
  · rw [State.chan, State.count_dmc, ← State.chan, State.chan_setChan_same]
    nofun
  · next h => exact h

theorem State.chan_selfRefresh_other (s : State) {c k : Nat} (h : k ≠ c) : (s.selfRefresh c).chan k = s.chan k := by
  unfold State.selfRefresh
  dsimp only
  split
  · rw [State.chan, State.count_dmc, ← State.chan, State.chan_setChan_other _ _ _ h]
  · rfl

theorem State.selfRefreshAll_notActive {l : List Nat} {c : Nat} (hc : c ∈ l) (s : State) :
    ((l.foldl State.selfRefresh s).chan c).state ≠ .active := by
  refine foldl_gives (P := fun k s => (s.chan k).state ≠ .active) State.selfRefresh_notActive (fun s j k h => ?_) hc s
  by_cases hjk : k = j
  · exact hjk ▸ s.selfRefresh_notActive k
  · rw [s.chan_selfRefresh_other hjk]
    exact h

/-- R304: the bank retains. -/
def State.retainBank (s : State) (k : Nat) : State := s.setBank k { s.bank k with ret := true }

theorem State.functionBanks_retain (s : State) : s.functionBanks true = (List.range 53).foldl State.retainBank s := rfl

theorem State.functionBanks_ret (s : State) {k : Nat} (hk : k < 53) : ((s.functionBanks true).bank k).ret = true := by
  rw [State.functionBanks_retain]
  refine foldl_gives (P := fun k s => (s.bank k).ret = true) (fun s k => ?_) (fun s j k h => ?_) (List.mem_range.2 hk) s
  · rw [State.retainBank, State.bank_setBank_same]
  · by_cases hjk : k = j
    · rw [State.retainBank, hjk, State.bank_setBank_same]
    · rw [State.retainBank, State.bank_setBank_other _ _ _ hjk]
      exact h

/-! ### The entry (R37, R95, R286, R304, R382) -/

/-- R286: the bulk channels are put in self-refresh; neither the film nor Vale memory is in them. -/
theorem State.selfRefreshAll_keeps (s : State) (l : List Nat) :
    (l.foldl State.selfRefresh s).film = s.film ∧ (l.foldl State.selfRefresh s).vale = s.vale := by
  have h := foldl_ok (l := l) (Ok.self s (partsOf [.film, .vale])) fun t c h => State.selfRefresh_ok t c h
  exact ⟨h.filmEq, h.valeEq⟩

theorem State.functionBanks_keeps (s : State) : (s.functionBanks true).film = s.film ∧
    (s.functionBanks true).vale.mem = s.vale.mem := by
  have h := State.functionBanks_ok s true (Ok.self s (partsOf [.film, .valeMem]))
  exact ⟨h.filmEq, h.valeMemEq⟩

/-- R288: a switch that is asked for is noted, whether a tracking step delays it or not. -/
theorem State.requestSwitch_dmc (s : State) (target : Nat) :
    (s.requestSwitch target).dmc = { s.dmc with switching := some target } := by
  unfold State.requestSwitch
  dsimp only
  split
  · split <;> rfl
  · rfl

/-- R37, R95, R382: what the gate takes from the WSA, the film and the sources, of a state `m` whose memories have been made ready. -/
def State.gateWsa (s m : State) : State :=
  let srcs := (List.range 16).foldl (fun t n => tabMod SrcS.init t n fun x => { x with recv := [], newest := none }) m.mp.srcs
  { m with
    wsa.gated := true, wsa.sess := [], wsa.groups := [], wsa.clusters := []
    film.plateauTick := some s.film.tickSweep, film.fresh := []
    mp.srcs := srcs
    dmc.bulkSr := true
    pwr.transit := .entryDram }

theorem State.plateauGate_eq (s : State) :
    s.plateauGate = (s.gateWsa (bulkChans.foldl State.selfRefresh (s.functionBanks true))).requestSwitch 1 := rfl

theorem State.gateWsa_gates (s m : State) : (s.gateWsa m).pwr.transit = .entryDram ∧ (s.gateWsa m).wsa.gated = true ∧
    (s.gateWsa m).wsa.clusters = [] ∧ (s.gateWsa m).wsa.sess = [] ∧ (s.gateWsa m).dmc.bulkSr = true := ⟨rfl, rfl, rfl, rfl, rfl⟩

theorem State.gateWsa_keeps (s m : State) : (∀ c, (s.gateWsa m).chan c = m.chan c) ∧ (∀ k, (s.gateWsa m).bank k = m.bank k) ∧
    (s.gateWsa m).film.psr = m.film.psr ∧ (s.gateWsa m).vale.mem = m.vale.mem := ⟨fun _ => rfl, fun _ => rfl, rfl, rfl⟩

/-- A switch that is asked for leaves what the gate has made. -/
theorem State.requestSwitch_keeps (s : State) (target : Nat) : (s.requestSwitch target).pwr = s.pwr ∧
    (s.requestSwitch target).wsa = s.wsa ∧ (s.requestSwitch target).film = s.film ∧ (s.requestSwitch target).vale = s.vale ∧
    (s.requestSwitch target).dmc.bulkSr = s.dmc.bulkSr ∧ ∀ c, (s.requestSwitch target).chan c = s.chan c := by
  have h := State.requestSwitch_ok s target (Ok.self s (partsOf [.pwr, .wsa, .film, .vale]))
  exact ⟨h.pwrEq, h.wsaEq, h.filmEq, h.valeEq, by rw [State.requestSwitch_dmc],
    fun c => by rw [State.chan, State.requestSwitch_dmc]; rfl⟩

theorem State.bank_congr {s t : State} (h : t.vale = s.vale) (k : Nat) : t.bank k = s.bank k := by
  rw [State.bank, State.bank, h]

theorem State.plateauGate_gates (s : State) : s.plateauGate.pwr.transit = .entryDram ∧ s.plateauGate.wsa.gated = true ∧
    s.plateauGate.wsa.clusters = [] ∧ s.plateauGate.wsa.sess = [] ∧ s.plateauGate.dmc.bulkSr = true ∧
    s.plateauGate.dmc.switching = some 1 ∧ (∀ c, c ∈ bulkChans → (s.plateauGate.chan c).state ≠ .active) ∧
    (∀ k, k < 53 → (s.plateauGate.bank k).ret = true) ∧ s.plateauGate.film.psr = s.film.psr ∧
    s.plateauGate.vale.mem = s.vale.mem := by
  obtain ⟨hBankFilm, hBankMem⟩ := s.functionBanks_keeps
  obtain ⟨hSrFilm, hSrVale⟩ := (s.functionBanks true).selfRefreshAll_keeps bulkChans
  obtain ⟨hTransit, hGated, hClusters, hSess, hSr⟩ := s.gateWsa_gates (bulkChans.foldl State.selfRefresh (s.functionBanks true))
  obtain ⟨hChan, hBank, hPsr, hMem⟩ := s.gateWsa_keeps (bulkChans.foldl State.selfRefresh (s.functionBanks true))
  obtain ⟨hp, hw, hf, hv, hb, hc⟩ :=
    (s.gateWsa (bulkChans.foldl State.selfRefresh (s.functionBanks true))).requestSwitch_keeps 1
  rw [s.plateauGate_eq, hp, hw, hf, hv, hb]
  refine ⟨hTransit, hGated, hClusters, hSess, hSr, by rw [State.requestSwitch_dmc], fun c hin => ?_, fun k hk => ?_, ?_, ?_⟩
  · rw [hc, hChan]
    exact State.selfRefreshAll_notActive hin _
  · rw [State.bank_congr hv, hBank, State.bank_congr hSrVale]
    exact s.functionBanks_ret hk
  · rw [hPsr, hSrFilm, hBankFilm]
  · rw [hMem, hSrVale, hBankMem]

theorem exec_plateauEntryComplete_gates {s : State} (ht : s.pwr.transit = .entryOff) (ho : s.railsOff = true)
    (hr : s.switchRefused 1 = none) : exec .plateauEntryComplete s = .next s.plateauGate := by
  rw [exec, execPlateauEntryComplete, if_pos ⟨ht, ho⟩, hr]

theorem exec_plateauEntryComplete_aborts {s : State} {e : Nat} (ht : s.pwr.transit = .entryOff) (ho : s.railsOff = true)
    (hr : s.switchRefused 1 = some e) : exec .plateauEntryComplete s = .next (s.entryAborted e) := by
  rw [exec, execPlateauEntryComplete, if_pos ⟨ht, ho⟩, hr]

theorem exec_plateauEntryComplete_reaches {s : State} (ht : s.pwr.transit = .entryDram) (hs : s.dmc.switching = none) :
    exec .plateauEntryComplete s = .next s.plateauReached := by
  have hno : ¬(s.pwr.transit = .entryOff ∧ s.railsOff = true) := fun h => nomatch ht.symm.trans h.1
  rw [exec, execPlateauEntryComplete, if_neg hno, if_pos ⟨ht, hs⟩]

/-- R288, R383: with CH0 and CH1 at FSP-H an exit needs no switch, and begins. -/
theorem State.startExit_begins {s : State} (hf : (s.chan 0).fsp ≠ 1) : s.startExit = s.beginExit := by
  rw [State.startExit, State.exitRefused, if_neg hf]

theorem State.endRun_keeps (s : State) (r : Running) (status result : Nat) (data : List Byte) :
    (s.endRun r status result data).pwr = s.pwr ∧ (s.endRun r status result data).wsa = s.wsa := by
  have h := State.endRun_ok s r status result data (Ok.self s (partsOf [.pwr, .wsa]))
  exact ⟨h.pwrEq, h.wsaEq⟩

/-- Assumption 136: what an entry whose switch is refused leaves is an exit that has begun. -/
theorem State.entryAborted_exits {s : State} (hf : (s.chan 0).fsp ≠ 1) (e : Nat) :
    (s.entryAborted e).pwr.transit = .exitRails ∧ (s.entryAborted e).wsa.gated = false := by
  obtain ⟨hp, hw, -⟩ := (s.countRefused e).beginExit_ungated
  have hf' : ((s.countRefused e).chan 0).fsp ≠ 1 := hf
  unfold State.entryAborted
  dsimp only
  rw [State.startExit_begins hf']
  split
  · obtain ⟨hpr, hwr⟩ := State.endRun_keeps (s.countRefused e).beginExit _ e 0 []
    rw [hpr, hwr, hp, hw]
    exact ⟨rfl, rfl⟩
  · rw [hp, hw]
    exact ⟨rfl, rfl⟩

/-! ### The states reached (R379, R380, R382, R383) -/

theorem State.setPower_pwr (s : State) (new : PState) : (s.setPower new).pwr = { s.pwr with state := new } := by
  unfold State.setPower
  split
  · next h => rw [← h]
  · exact (State.log_ok _ _ _ _ _ (Ok.self ({ s with pwr.state := new } : State) (partsOf [.pwr]))).pwrEq

theorem State.endPowerSet_pwr (s : State) : s.endPowerSet.pwr = s.pwr :=
  (State.endPowerSet_ok s (Ok.self s (partsOf [.pwr]))).pwrEq

theorem State.plateauReached_pwr (s : State) : s.plateauReached.pwr.state = .plateau ∧ s.plateauReached.pwr.transit = .none ∧
    s.plateauReached.pwr.plateaus = s.pwr.plateaus + 1 := by
  have hOdo (u : State) : (u.odoRequest 6).pwr = u.pwr := (State.odoRequest_ok u 6 (Ok.self u (partsOf [.pwr]))).pwrEq
  rw [State.plateauReached, State.endPowerSet_pwr, hOdo, State.setPower_pwr]
  exact ⟨rfl, rfl, rfl⟩

theorem exec_plateauExitComplete_ends {s : State} (ht : s.pwr.transit = .exitRails) (hs : s.dmc.switching = none)
    (hg : s.wsa.inGuard = true) (hd : s.exitRailsDone = true) :
    ∃ t, exec .plateauExitComplete s = .next t ∧ t.pwr.transit = .none ∧
      t.pwr.state = if s.sessionsRun then .run else .hold := by
  refine ⟨_, if_pos ⟨ht, hs, hg, hd⟩, ?_⟩
  rw [State.endPowerSet_pwr, State.setPower_pwr]
  exact ⟨rfl, rfl⟩

/-- Settles O39: the gate, the refused switch, the state reached and the end of the exit. -/
theorem plateauTransitions : Obligations.PlateauTransitions := by
  intro s
  refine ⟨fun ht ho hr => ⟨_, exec_plateauEntryComplete_gates ht ho hr, s.plateauGate_gates⟩, fun e ht ho hr hf =>
    ⟨_, exec_plateauEntryComplete_aborts ht ho hr, State.entryAborted_exits hf e⟩, fun ht hs =>
    ⟨_, exec_plateauEntryComplete_reaches ht hs, s.plateauReached_pwr⟩, exec_plateauExitComplete_ends⟩

end Sys2Proof.Machine
end

section
/-! PROOFS. The work inside a frame: bundles, pixels and fix-ups (O52). -/

namespace Sys2Proof.Machine

/-! ### A cluster takes a bundle (R72) -/

/-- The head of a group's queue goes to the cluster that has no bundle. -/
theorem State.takeBundle_front {s : State} {c own : Nat} {g : PGroup} {b : Bundle} {r : List Bundle}
    (hs : (s.cluster c).switched = false) (ho : (s.cluster c).group = some own)
    (hg : s.wsa.groups.find? (fun h => h.slot = own) = some g) (hq : g.queue = b :: r) :
    ((s.takeBundle c).cluster c).bundle = some b := by
  simp only [State.takeBundle, State.popQueue, hs, ho, hg, hq, Bool.false_eq_true, if_false, State.cluster_setCluster_same]

theorem exec_bundleTake_idle {c : Fin 48} {s : State} (hr : s.synthRuns = true) (hb : (s.cluster c.val).bundle = none) :
    exec (.bundleTake c) s = .next (s.takeBundle c.val) := by
  simp only [exec, execBundleTake, hr, hb, if_true]

/-! ### A pixel (R77, R91, R94, R184) -/

theorem exec_pixelEvaluate_computes {c : Fin 48} {i : Fin 1024} {x : Fin 16384} {y : Fin 65536} {p : Pkg} {s : State}
    (hp : s.tilePkg i.val = some p) (hr : s.synthRuns = true)
    (hs : ((s.cluster c.val).segs i.val y.val).contains (x.val / 64) = true) (hx : x.val < s.tileW i.val)
    (hd : s.pixDone c.val i.val x.val y.val = false) (hq : s.rowPending i.val y.val = false) (ht : s.rowStalled i.val = false) :
    exec (.pixelEvaluate c i x y) s =
      .next ((s.computePixel c.val i.val x.val y.val p).touchPixel (pixKey i.val x.val y.val)) := by
  simp only [exec, execPixelEvaluate, hp, hr, hs, hx, hd, hq, ht, decide_true, Bool.not_false, Bool.and_self, if_true]

theorem exec_pixelEvaluate_waits {c : Fin 48} {i : Fin 1024} {x : Fin 16384} {y : Fin 65536} {p : Pkg} {s : State}
    (hp : s.tilePkg i.val = some p) (h : s.synthRuns = false ∨ s.pixDone c.val i.val x.val y.val = true ∨
      s.rowPending i.val y.val = true ∨ s.rowStalled i.val = true) :
    exec (.pixelEvaluate c i x y) s = .next s := by
  rcases h with h | h | h | h <;>
    simp only [exec, execPixelEvaluate, hp, h, Bool.not_true, Bool.false_and, Bool.and_false, Bool.false_eq_true, if_false]

/-! ### What the evaluation of a pixel leaves (R91) -/

/-- The targets and the rows that wait for a fix-up stand. -/
def State.SameRows (s t : State) : Prop := t.film.target = s.film.target ∧ t.wsa.fixup = s.wsa.fixup

theorem State.SameRows.refl (s : State) : s.SameRows s := ⟨rfl, rfl⟩

theorem State.SameRows.trans {s t u : State} (h : s.SameRows t) (h' : t.SameRows u) : s.SameRows u :=
  ⟨h'.1.trans h.1, h'.2.trans h.2⟩

theorem State.SameRows.of_parts {s t : State} (hf : t.film = s.film) (hw : t.wsa = s.wsa) : s.SameRows t := by
  rw [State.SameRows, hf, hw]
  exact ⟨rfl, rfl⟩

theorem State.setPsr_target (s : State) (i x y : Nat) (p : Psr) : (s.setPsr i x y p).film.target = s.film.target := by
  unfold State.setPsr
  rfl

theorem State.setPsr_tick (s : State) (i x y : Nat) (p : Psr) : (s.setPsr i x y p).film.tick = s.film.tick := by
  unfold State.setPsr
  rfl

theorem State.setPsr_wsa (s : State) (i x y : Nat) (p : Psr) : (s.setPsr i x y p).wsa = s.wsa := by
  unfold State.setPsr
  rfl

theorem State.setPsr_sch (s : State) (i x y : Nat) (p : Psr) : (s.setPsr i x y p).sch = s.sch := by
  unfold State.setPsr
  rfl

theorem State.setPsr_sameRows (s : State) (i x y : Nat) (p : Psr) : s.SameRows (s.setPsr i x y p) :=
  ⟨s.setPsr_target i x y p, by rw [State.setPsr_wsa]⟩

/-- The age tick of a pixel writes its record and the highest class of its tile. -/
theorem State.tickPixel_keeps (s : State) (i y x t now : Nat) : (s.tickPixel i y x t now).film.target = s.film.target ∧
    (s.tickPixel i y x t now).film.tick = s.film.tick ∧ (s.tickPixel i y x t now).sch.ageSkip = s.sch.ageSkip := by
  unfold State.tickPixel
  extract_lets p a s1
  have h1 : s1.film.target = s.film.target ∧ s1.film.tick = s.film.tick ∧ s1.sch.ageSkip = s.sch.ageSkip := by
    unfold s1
    split
    · exact ⟨rfl, rfl, rfl⟩
    · exact ⟨s.setPsr_target .., s.setPsr_tick .., by rw [State.setPsr_sch]⟩
  clear_value s1
  split
  · exact h1
  · exact h1

/-- The pixels of a segment are brought to a tick. -/
def State.tickPixels (s : State) (i y g t : Nat) : State :=
  (segCols (s.tileW i) g).foldl (fun st x => st.tickPixel i y x t s.film.tick) s

theorem State.tickPixels_keeps (s : State) (i y g t : Nat) : (s.tickPixels i y g t).film.target = s.film.target ∧
    (s.tickPixels i y g t).film.tick = s.film.tick ∧ (s.tickPixels i y g t).sch.ageSkip = s.sch.ageSkip := by
  refine foldl_inv (P := fun u : State => u.film.target = s.film.target ∧ u.film.tick = s.film.tick ∧
    u.sch.ageSkip = s.sch.ageSkip) ⟨rfl, rfl, rfl⟩ fun u x ⟨hg, hk, ha⟩ => ?_
  obtain ⟨hg', hk', ha'⟩ := u.tickPixel_keeps i y x t s.film.tick
  exact ⟨hg'.trans hg, hk'.trans hk, ha'.trans ha⟩

theorem State.tickSegment_ticked {s : State} {i y g : Nat} (h : s.segTick i y g = s.film.tick) : s.tickSegment i y g = s := if_pos h

theorem State.tickSegment_due {s : State} {i y g : Nat} (h : s.segTick i y g ≠ s.film.tick) :
    s.tickSegment i y g = (s.tickPixels i y g (s.segTick i y g)).markTicked i y g := if_neg h

theorem State.tickSegment_sameRows (s : State) (i y g : Nat) : s.SameRows (s.tickSegment i y g) := by
  refine ⟨?_, by rw [(State.tickSegment_ok s i y g (Ok.self s (partsOf [.wsa]))).wsaEq]⟩
  by_cases h : s.segTick i y g = s.film.tick
  · rw [State.tickSegment_ticked h]
  · rw [State.tickSegment_due h]
    exact (s.tickPixels_keeps i y g (s.segTick i y g)).1

theorem State.addCharge_sameRows (s : State) (g role amount : Nat) (session : Option Nat) :
    s.SameRows (s.addCharge g role amount session) := by
  unfold State.addCharge
  split
  · exact .refl s
  · dsimp only
    split <;> exact ⟨rfl, rfl⟩

theorem State.chargeCode_sameRows (s : State) (i : Nat) (p : Pkg) (c session : Nat) : s.SameRows (s.chargeCode i p c session) := by
  unfold State.chargeCode
  split
  · exact .refl s
  · exact s.addCharge_sameRows ..

theorem State.noteReplaced_sameRows (s : State) (key : Nat) (r : PixRes) (leveling last : Bool) :
    s.SameRows (s.noteReplaced key r leveling last) := by
  unfold State.noteReplaced
  split
  · split
    · exact ⟨rfl, rfl⟩
    · split <;> exact ⟨rfl, rfl⟩
  · exact .refl s

/-- The pixel's counts, whichever way it left: REPLACED among them. -/
theorem State.countOut_sameRows (s : State) (i x y session : Nat) (r : PixRes) (est : Bool) :
    s.SameRows (s.countOut i x y session r est) := by
  have hf := (State.countOut_ok s i x y session r est (Ok.self s (partsOf [.film]))).filmEq
  refine ⟨by rw [hf], ?_⟩
  unfold State.countOut
  extract_lets c c1 w s1 s2 sc s3
  have h2 : s2.wsa.fixup = s.wsa.fixup := by
    unfold s2
    split <;> rfl
  split
  · exact h2
  · exact h2
  · exact h2
  · exact h2
  · split <;> exact h2
  · exact h2

theorem State.evalAt_sameRows (s : State) (i x y : Nat) (p : Pkg) : s.SameRows (s.evalAt i x y p).1 := by
  unfold State.evalAt
  extract_lets v e ctx key r leveling s1
  split
  · exact .refl s
  · exact (((s.setPsr_sameRows i x y r.psr).trans (State.chargeCode_sameRows ..)).trans (State.noteReplaced_sameRows ..)).trans
      (State.countOut_sameRows ..)

theorem State.noteEst_sameRows (s : State) (i : Nat) : s.SameRows (s.noteEst i) := by
  unfold State.noteEst
  split <;> exact ⟨rfl, rfl⟩

theorem State.chargeGate_sameRows (s : State) (i : Nat) : s.SameRows (s.chargeGate i) := by
  unfold State.chargeGate
  extract_lets q g w
  split
  · exact .refl s
  · have hDrove : s.SameRows { s with wsa.drove := i :: s.wsa.drove } := ⟨rfl, rfl⟩
    exact (hDrove.trans (State.addCharge_sameRows ..)).trans (State.addCharge_sameRows ..)

theorem State.releaseRow_sameRows (s : State) (c i y : Nat) (segs : List Nat) (a : RowAcc) : s.SameRows (s.releaseRow c i y segs a) := by
  unfold State.releaseRow
  extract_lets row cl s1
  have hPort : s.SameRows (s1.modPort (s1.tile i).port fun p => { p with released := p.released ++ [row] }) := ⟨rfl, rfl⟩
  exact hPort.trans (State.chargeGate_sameRows ..)

theorem State.withPf_sameRows (s : State) (a : DWord) (b : Nat) : s.SameRows { s with wsa.pf := a, glb.odo.pf := b } := ⟨rfl, rfl⟩

theorem State.withAcc_sameRows (s : State) (t : Tab RowAcc) : s.SameRows { s with wsa.acc := t } := ⟨rfl, rfl⟩

theorem State.setCluster_sameRows (s : State) (c : Nat) (x : Cluster) : s.SameRows (s.setCluster c x) := by
  unfold State.setCluster
  exact ⟨rfl, rfl⟩

theorem State.computePixel_sameRows (s : State) (c i x y : Nat) (p : Pkg) : s.SameRows (s.computePixel c i x y p) := by
  unfold State.computePixel
  extract_lets g cl dr key s1 pre q a segDone pf q1 glb odo wsa s2
  have h1 : s.SameRows q.1 := ((s.tickSegment_sameRows i y g).trans (State.noteEst_sameRows ..)).trans (s1.evalAt_sameRows i x y p)
  have h2 : s.SameRows s2 := h1.trans (q.1.withPf_sameRows (pfAdd q.1.wsa.pf pf) (q.1.glb.odo.pf + pf))
  clear_value s2
  split
  · exact ((h2.trans (s2.withAcc_sameRows _)).trans (State.setCluster_sameRows ..)).trans (State.releaseRow_sameRows ..)
  · exact (h2.trans (s2.withAcc_sameRows _)).trans (State.setCluster_sameRows ..)

/-! ### The fix-up of a dropped row (R91) -/

/-- What a fix-up of one pixel writes of the film is its record. -/
theorem State.fixPixel_film (s : State) (i y : Nat) (ctx : LaneCtx) (h : Nat × DWord) :
    (s.fixPixel i y ctx h).film = (s.setPsr i h.1 y (ctx.fixed (s.psr i h.1 y) (Psr.ofWord h.2))).film := by
  unfold State.fixPixel
  extract_lets pre cur s1
  have h1 : s1.film = (s.setPsr i h.1 y (ctx.fixed cur pre)).film := rfl
  clear_value s1
  split
  · split <;> exact h1
  · split <;> exact h1

theorem State.fixPixel_sameRows (s : State) (i y : Nat) (ctx : LaneCtx) (h : Nat × DWord) : s.SameRows (s.fixPixel i y ctx h) := by
  refine ⟨by rw [s.fixPixel_film, State.setPsr_target], ?_⟩
  unfold State.fixPixel
  extract_lets pre cur s1
  have h1 : s1.wsa.fixup = s.wsa.fixup := by rw [State.setPsr_wsa]
  clear_value s1
  split
  · split <;> exact h1
  · split <;> exact h1

theorem State.freeHeld_sameRows (s : State) (r : SentRow) : s.SameRows (s.freeHeld r) := by
  have h := State.freeHeld_ok s r (Ok.self s (partsOf [.film, .wsa]))
  exact .of_parts h.filmEq h.wsaEq

theorem State.touchPixel_sameRows (s : State) (key : Nat) : s.SameRows (s.touchPixel key) := by
  have h := State.touchPixel_ok s key (Ok.self s (partsOf [.film, .wsa]))
  exact .of_parts h.filmEq h.wsaEq

theorem State.count_sameRows (s : State) (o : Nat) : s.SameRows (s.count o) := .of_parts rfl rfl

/-- The pixels of a held entry are fixed up. -/
def State.fixRow (s : State) (i y : Nat) (p : Pkg) (r : SentRow) : State :=
  r.row.pre.foldl (fun st h => st.fixPixel i y (s.laneCtx i p) h) s

theorem State.fixRow_sameRows (s : State) (i y : Nat) (p : Pkg) (r : SentRow) : s.SameRows (s.fixRow i y p r) :=
  foldl_inv (P := s.SameRows) (.refl s) fun u h hu => hu.trans (u.fixPixel_sameRows i y _ h)

/-- The rows that wait for a fix-up are those of `l`. -/
def State.withFixup (s : State) (l : List SentRow) : State := { s with wsa.fixup := l }

theorem State.withFixup_keeps (s : State) (l : List SentRow) :
    (s.withFixup l).film.target = s.film.target ∧ (s.withFixup l).wsa.fixup = l := ⟨rfl, rfl⟩

/-- The pixels of a held entry that the cluster has in hand are computed anew. -/
def State.recomputeRow (s : State) (c i y : Nat) (p : Pkg) (r : SentRow) : State :=
  r.row.pre.foldl (fun st h =>
    if ((st.cluster c).segs i y).contains (h.1 / 64) && !st.pixDone c i h.1 y then st.computePixel c i h.1 y p else st) s

theorem State.recomputeRow_sameRows (s : State) (c i y : Nat) (p : Pkg) (r : SentRow) : s.SameRows (s.recomputeRow c i y p r) := by
  refine foldl_inv (P := s.SameRows) (.refl s) fun u h hu => ?_
  split
  · exact hu.trans (u.computePixel_sameRows c i h.1 y p)
  · exact hu

/-- The fix-up of a held entry. -/
def State.fixUp (s : State) (c i y g : Nat) (p : Pkg) (r : SentRow) : State :=
  (((((s.fixRow i y p r).withFixup (s.wsa.fixup.erase r)).freeHeld r).count (baseWsa + 0x110)).recomputeRow c i y p r).touchPixel
    (pixKey i (g * 64) y)

theorem State.fixUp_keeps (s : State) (c i y g : Nat) (p : Pkg) (r : SentRow) :
    (s.fixUp c i y g p r).wsa.fixup = s.wsa.fixup.erase r ∧ (s.fixUp c i y g p r).film.target = s.film.target := by
  obtain ⟨hTarget, -⟩ := s.fixRow_sameRows i y p r
  obtain ⟨hTarget', hFixup⟩ := (s.fixRow i y p r).withFixup_keeps (s.wsa.fixup.erase r)
  obtain ⟨hTarget'', hFixup'⟩ := (((State.freeHeld_sameRows ((s.fixRow i y p r).withFixup (s.wsa.fixup.erase r)) r).trans
    (State.count_sameRows _ (baseWsa + 0x110))).trans (State.recomputeRow_sameRows _ c i y p r)).trans
    (State.touchPixel_sameRows _ (pixKey i (g * 64) y))
  exact ⟨hFixup'.trans hFixup, hTarget''.trans (hTarget'.trans hTarget)⟩

theorem exec_droppedRowFixup_fixes {c : Fin 48} {i : Fin 1024} {y : Fin 65536} {g : Fin 256} {p : Pkg} {r : SentRow} {s : State}
    (hp : s.tilePkg i.val = some p) (hf : s.wsa.fixup.find? (fun q => q.row.covers i.val y.val g.val) = some r)
    (hr : s.synthRuns = true) (hs : ((s.cluster c.val).segs i.val y.val).contains g.val = true) (ht : s.rowStalled i.val = false) :
    exec (.droppedRowFixup c i y g) s = .next (s.fixUp c.val i.val y.val g.val p r) := by
  have hGo : (s.synthRuns && ((s.cluster c.val).segs i.val y.val).contains g.val && !s.rowStalled i.val) = true := by
    rw [hr, hs, ht]
    rfl
  have hRows : (s.fixRow i.val y.val p r).wsa.fixup = s.wsa.fixup := (s.fixRow_sameRows i.val y.val p r).2
  rw [State.fixUp, ← hRows, exec, execDroppedRowFixup]
  simp only [hp, hf]
  rw [if_pos hGo]
  rfl

theorem exec_droppedRowFixup_stalled {c : Fin 48} {i : Fin 1024} {y : Fin 65536} {g : Fin 256} {p : Pkg} {r : SentRow} {s : State}
    (hp : s.tilePkg i.val = some p) (hf : s.wsa.fixup.find? (fun q => q.row.covers i.val y.val g.val) = some r)
    (ht : s.rowStalled i.val = true) : exec (.droppedRowFixup c i y g) s = .next s := by
  simp only [exec, execDroppedRowFixup, hp, hf, ht, Bool.not_true, Bool.and_false, Bool.false_eq_true, if_false]

end Sys2Proof.Machine
end

section
/-! PROOFS. The work inside a frame: the age sweep, renders and fills (O52). -/

namespace Sys2Proof.Machine

/-! ### The age sweep (R36, R62, R292, R439) -/

/-- A segment is told its tick by the film alone. -/
theorem State.segTick_congr {s t : State} (h : t.film = s.film) (i y g : Nat) : t.segTick i y g = s.segTick i y g := by
  unfold State.segTick State.parityBit
  rw [h]

theorem State.markTicked_segTick (s : State) (i y g : Nat) : (s.markTicked i y g).segTick i y g = s.film.tick := by
  have hParity : (s.markTicked i y g).parityBit i y g = tickParity s.film.tick := tabGet_set_same
  have hTick : (s.markTicked i y g).film.tick = s.film.tick := rfl
  have hPlateau : (s.markTicked i y g).film.plateauTick = s.film.plateauTick := rfl
  unfold State.segTick
  rw [hParity, hTick, hPlateau]
  cases h : s.film.plateauTick with
  | none => simp only [if_true]
  | some t0 =>
    have hFresh : tabGet false (s.markTicked i y g).film.fresh (segKey i y g) = true := by
      simp only [State.markTicked, h, Option.isSome_some, if_true, tabGet_set_same]
    simp only [hFresh, if_true]

theorem State.tickSegment_ticks (s : State) (i y g : Nat) : (s.tickSegment i y g).film.tick = s.film.tick ∧
    (s.tickSegment i y g).segTick i y g = s.film.tick ∧ (s.tickSegment i y g).sch.ageSkip = s.sch.ageSkip := by
  by_cases h : s.segTick i y g = s.film.tick
  · rw [State.tickSegment_ticked h]
    exact ⟨rfl, h, rfl⟩
  · obtain ⟨-, hTick, hSkip⟩ := s.tickPixels_keeps i y g (s.segTick i y g)
    rw [State.tickSegment_due h, State.markTicked_segTick]
    exact ⟨hTick, hTick, hSkip⟩

/-- A visit of the sweep, granted. -/
def State.sweepSegment (s : State) (i y g : Nat) : State :=
  ((s.grantReq (.sweep (segKey i y g)) (s.psrChans (pixKey i (g * 64) y))).tickSegment i y g).touchPixel (pixKey i (g * 64) y)

theorem State.sweepSegment_ticks (s : State) (i y g : Nat) : (s.sweepSegment i y g).film.tick = s.film.tick ∧
    (s.sweepSegment i y g).segTick i y g = s.film.tick ∧ (s.sweepSegment i y g).sch.ageSkip = s.sch.ageSkip := by
  unfold State.sweepSegment
  have hGrant := State.grantReq_ok s (.sweep (segKey i y g)) (s.psrChans (pixKey i (g * 64) y)) (Ok.self s (partsOf [.film, .sch]))
  generalize s.grantReq (.sweep (segKey i y g)) (s.psrChans (pixKey i (g * 64) y)) = u at hGrant ⊢
  have hTouch := State.touchPixel_ok _ (pixKey i (g * 64) y) (Ok.self (u.tickSegment i y g) (partsOf [.film, .sch]))
  obtain ⟨hTick, hSeg, hSkip⟩ := u.tickSegment_ticks i y g
  rw [State.segTick_congr hTouch.filmEq, hTouch.filmEq, hTouch.schEq, ← hGrant.filmEq, ← hGrant.schEq]
  exact ⟨hTick, hSeg, hSkip⟩

/-- R36: what the sweep may visit. -/
structure State.Swept (s : State) (i y g : Nat) : Prop where
  loop : s.frameLoop = true
  ungated : s.wsa.gated = false
  noGuard : s.wsa.inGuard = false
  clock : s.glb.refclkStopped = false
  inMap : s.inMap i = true
  idle : s.actBit i y g = false
  row : y < s.tileH i
  seg : g < segsPerRow (s.tileW i)

theorem exec_ageSweepSegment {i : Fin 1024} {y : Fin 65536} {g : Fin 256} {s : State} (h : s.Swept i.val y.val g.val) :
    exec (.ageSweepSegment i y g) s =
      (if s.film.snapTiles.contains i.val || (s.tile i.val).fill = 2 then
        .next { s with sch.ageSkip := i.val :: s.sch.ageSkip.filter (fun j => j ≠ i.val) }
      else if s.planesHeld then .next (s.holdReq (.sweep (segKey i.val y.val g.val)))
      else .next (s.sweepSegment i.val y.val g.val)) :=
  if_pos (by simp [h.loop, h.ungated, h.noGuard, h.clock, h.inMap, h.idle, h.row, h.seg])

theorem exec_ageSweepSegment_skips {i : Fin 1024} {y : Fin 65536} {g : Fin 256} {s : State} (h : s.Swept i.val y.val g.val)
    (hw : s.film.snapTiles.contains i.val = true ∨ (s.tile i.val).fill = 2) :
    ∃ t, exec (.ageSweepSegment i y g) s = .next t ∧ i.val ∈ t.sch.ageSkip ∧ t.film = s.film :=
  ⟨_, (exec_ageSweepSegment h).trans (if_pos (by simpa using hw)), List.mem_cons_self, rfl⟩

theorem exec_ageSweepSegment_visits {i : Fin 1024} {y : Fin 65536} {g : Fin 256} {s : State} (h : s.Swept i.val y.val g.val)
    (hs : s.film.snapTiles.contains i.val = false) (hf : (s.tile i.val).fill ≠ 2) (hp : s.planesHeld = false) :
    exec (.ageSweepSegment i y g) s = .next (s.sweepSegment i.val y.val g.val) := by
  rw [exec_ageSweepSegment h, if_neg (by rw [hs]; simpa using hf), if_neg (ne_true_of_eq_false hp)]

theorem exec_ageSweepSegment_held {i : Fin 1024} {y : Fin 65536} {g : Fin 256} {s : State} (h : s.Swept i.val y.val g.val)
    (hs : s.film.snapTiles.contains i.val = false) (hf : (s.tile i.val).fill ≠ 2) (hp : s.planesHeld = true) :
    exec (.ageSweepSegment i y g) s = .next (s.holdReq (.sweep (segKey i.val y.val g.val))) := by
  rw [exec_ageSweepSegment h, if_neg (by rw [hs]; simpa using hf), if_pos hp]

theorem State.holdReq_film (s : State) (w : Waiter) : (s.holdReq w).film = s.film := by
  unfold State.holdReq
  split <;> rfl

/-! ### Renders (R160 to R164, R292) -/

/-- The renders under way are those of `l`. -/
def State.withRenders (s : State) (l : List Render) : State := { s with mp.renders := l }

theorem State.withRenders_renders (s : State) (l : List Render) : (s.withRenders l).mp.renders = l := rfl
theorem State.withRenders_film (s : State) (l : List Render) : (s.withRenders l).film = s.film := rfl

/-- R160, R164: what a render writes. -/
def State.renderRegion (s : State) (r : Render) : State := if r.req.plain then s.renderClear r else s.renderRows r

theorem State.renderRegion_mp (s : State) (r : Render) : (s.renderRegion r).mp = s.mp := by
  unfold State.renderRegion
  split
  · exact (State.renderClear_ok s r (Ok.self s (partsOf [.mp]))).mpEq
  · exact (State.renderRows_ok s r (Ok.self s (partsOf [.mp]))).mpEq

theorem State.renderRegion_film (s : State) (r : Render) :
    (s.renderRegion r).film = if r.req.plain then (s.renderClear r).film else (s.renderRows r).film := by
  unfold State.renderRegion
  split <;> rfl

/-- The render of a session that still stands. -/
theorem State.finishRender_stands {s : State} {r : Render} {x : Sess} (hx : s.sess r.slot = some x) (ho : x.order = r.order) :
    s.finishRender r = ((s.withRenders (s.mp.renders.erase r)).renderRegion r).count (baseMp + 0xF00) := by
  simp only [State.finishRender, hx, ho, decide_true, Bool.not_true, Bool.false_eq_true, if_false]
  rfl

/-- Assumption 160: the render of one that does not. -/
theorem State.finishRender_late {s : State} {r : Render} (hx : ∀ x, s.sess r.slot = some x → x.order ≠ r.order) :
    s.finishRender r = (s.withRenders (s.mp.renders.erase r)).count (baseMp + 0xF00) := by
  cases h : s.sess r.slot with
  | none =>
    simp only [State.finishRender, h, Bool.not_false, if_true]
    rfl
  | some x =>
    simp only [State.finishRender, h, hx x h, decide_false, Bool.not_false, if_true]
    rfl

theorem State.touchPlanes_keeps (s : State) : s.touchPlanes.mp = s.mp ∧ s.touchPlanes.sch = s.sch ∧ s.touchPlanes.film = s.film ∧
    s.touchPlanes.tiles = s.tiles := by
  have h := State.touchPlanes_ok s (Ok.self s (partsOf [.mp, .sch, .film, .tiles]))
  exact ⟨h.mpEq, h.schEq, h.filmEq, h.tilesEq⟩

theorem exec_renderComplete {n : Fin 1023} {r : Render} {s : State} (hr : s.mp.renders.find? (fun q => q.slot = n.val) = some r) :
    exec (.renderComplete n) s = .next (if s.planesHeld then s else s.touchPlanes.finishRender r) := by
  simp only [exec, execRenderComplete, hr]

theorem exec_renderComplete_ends {n : Fin 1023} {r : Render} {s : State} (hr : s.mp.renders.find? (fun q => q.slot = n.val) = some r)
    (hp : s.planesHeld = false) :
    ∃ t, exec (.renderComplete n) s = .next t ∧ t.mp.renders = s.mp.renders.erase r ∧
      (∀ x, s.sess r.slot = some x → x.order = r.order →
        t.film = if r.req.plain then ((s.touchPlanes.withRenders (s.mp.renders.erase r)).renderClear r).film
          else ((s.touchPlanes.withRenders (s.mp.renders.erase r)).renderRows r).film) ∧
      ((∀ x, s.sess r.slot = some x → x.order ≠ r.order) → t.film = s.film) := by
  obtain ⟨hMp, hSch, hFilm, -⟩ := s.touchPlanes_keeps
  have hSess : s.touchPlanes.sess r.slot = s.sess r.slot := by rw [State.sess, State.sess, hSch]
  rw [exec_renderComplete hr, if_neg (ne_true_of_eq_false hp)]
  by_cases h : ∃ x, s.sess r.slot = some x ∧ x.order = r.order
  · obtain ⟨x, hx, ho⟩ := h
    rw [State.finishRender_stands (hSess.trans hx) ho, hMp]
    refine ⟨_, rfl, ?_, fun _ _ _ => ?_, fun hno => absurd ho (hno x hx)⟩
    · rw [State.count_mp, State.renderRegion_mp, State.withRenders_renders]
    · rw [State.count_film, State.renderRegion_film]
  · have hno : ∀ x, s.sess r.slot = some x → x.order ≠ r.order := fun x hx ho => h ⟨x, hx, ho⟩
    rw [State.finishRender_late (fun x hx => hno x (hSess.symm.trans hx)), hMp]
    refine ⟨_, rfl, ?_, fun x hx ho => absurd ho (hno x hx), fun _ => ?_⟩
    · rw [State.count_mp, State.withRenders_renders]
    · rw [State.count_film, State.withRenders_film, hFilm]

/-! ### Fills (R439) -/

/-- What a fill has made of a tile stands: it is filled, and of its geometry. -/
def State.SameFill (i : Nat) (s t : State) : Prop := (t.tile i).fill = (s.tile i).fill ∧ (t.tile i).unknown = (s.tile i).unknown ∧
  (t.tile i).width = (s.tile i).width ∧ (t.tile i).height = (s.tile i).height

theorem State.SameFill.of_tiles {i : Nat} {s t : State} (h : t.tiles = s.tiles) : State.SameFill i s t := by
  have ht : t.tile i = s.tile i := by rw [State.tile, State.tile, h]
  rw [State.SameFill, ht]
  exact ⟨rfl, rfl, rfl, rfl⟩

theorem State.SameFill.trans {i : Nat} {s t u : State} (h : State.SameFill i s t) (h' : State.SameFill i t u) : State.SameFill i s u :=
  ⟨h'.1.trans h.1, h'.2.1.trans h.2.1, h'.2.2.1.trans h.2.2.1, h'.2.2.2.trans h.2.2.2⟩

/-- A command that is sent to the tile. -/
theorem State.issueCmd_sameFill (s : State) (i tag op : Nat) (param : List Byte) (rsp : Nat) (engine : Bool) :
    State.SameFill i s (s.issueCmd i tag op param rsp engine) := by
  unfold State.issueCmd
  extract_lets t
  have hSet : State.SameFill i s (s.setTile i { t with cmds := t.cmds ++ [⟨tag, op, param, rsp, 1, s.clk, engine⟩] }) := by
    rw [State.SameFill, State.tile_setTile_same]
    exact ⟨rfl, rfl, rfl, rfl⟩
  exact hSet.trans (.of_tiles (State.sendDown_ok _ _ _ (Ok.self _ (partsOf [.tiles]))).tilesEq)

theorem State.flSend_sameFill (s : State) (i op : Nat) (param : List Byte) (out : FlOut) :
    State.SameFill i s (s.flSend i op param out) := by
  unfold State.flSend
  extract_lets d tag
  have hDraw : State.SameFill i s d.2 := .of_tiles rfl
  exact (hDraw.trans (State.issueCmd_sameFill ..)).trans (.of_tiles rfl)

theorem State.flSendSet_sameFill (s : State) (i y ms : Nat) : State.SameFill i s (s.flSendSet i y ms) := by
  unfold State.flSendSet
  extract_lets f s1
  have h1 : State.SameFill i s s1 := s.flSend_sameFill ..
  exact h1.trans (.of_tiles (State.flDuty_ok _ _ _ _ (Ok.self (s1.setFlTile i _) (partsOf [.tiles]))).tilesEq)

theorem State.flKick_sameFill (s : State) (i : Nat) : State.SameFill i s (s.flKick i) := by
  have hSet (x : FlTile) : State.SameFill i s (s.setFlTile i x) := .of_tiles rfl
  unfold State.flKick
  dsimp only
  split
  · split
    · exact (hSet _).trans (State.flSend_sameFill ..)
    · exact (hSet _).trans (State.flSendSet_sameFill ..)
    · split
      · split
        · exact .of_tiles rfl
        · exact (hSet _).trans (State.flSend_sameFill ..)
      · exact .of_tiles rfl
  · exact .of_tiles rfl

theorem State.bringUp_sameFill (s : State) (i : Nat) : State.SameFill i s (s.bringUp i) := by
  unfold State.bringUp
  extract_lets s1 ev s2 f conf owed
  have h1 : State.SameFill i s s1 := by
    unfold s1
    rw [State.SameFill, State.modTile, State.tile_setTile_same]
    exact ⟨rfl, rfl, rfl, rfl⟩
  have h2 : State.SameFill i s1 (s2.setFlTile i { f with resume := owed, segs := [] }) := .of_tiles rfl
  exact (h1.trans h2).trans (State.flKick_sameFill ..)

theorem State.tryUp_sameFill (s : State) (i : Nat) : State.SameFill i s (s.tryUp i) := by
  unfold State.tryUp
  dsimp only
  split
  · exact s.bringUp_sameFill i
  · exact .of_tiles rfl

theorem State.tryUp_film (s : State) (i : Nat) : (s.tryUp i).film = s.film :=
  (State.tryUp_ok s i (Ok.self s (partsOf [.film]))).filmEq

theorem exec_tileFill_begins {i : Fin 1024} {s : State} (h1 : (s.tile i.val).fill = 1) (ha : (s.tile i.val).awaits ≠ 8)
    (hb : s.fillBlocked i.val = false) (hs : s.film.snapTiles.contains i.val = false) (hp : s.planesHeld = false) :
    ∃ t, exec (.tileFill i) s = .next t ∧ (t.tile i.val).fill = 2 ∧
      t.film = (s.mapPsrs i.val fun _ _ v => v.release).film := by
  refine ⟨_, if_pos ⟨h1, ha, by rw [hb]; rfl, by rw [hs]; rfl, by rw [hp]; rfl⟩, ?_⟩
  obtain ⟨-, -, hFilm, hTiles⟩ := State.touchPlanes_keeps
    ((s.mapPsrs i.val fun _ _ p => p.release).setTile i.val { s.tile i.val with fill := 2 })
  rw [State.tile, hTiles, ← State.tile, State.tile_setTile_same, hFilm, State.setTile_film]
  exact ⟨rfl, rfl⟩

/-- R439: the tile is filled with the cold value and takes the new geometry of its slot `t`. -/
def State.coldTile (s : State) (i : Nat) (t : TileSlot) : State :=
  let u := s.setTile i { t with
    fill := 0, unknown := true, width := t.newWidth, height := t.newHeight, lastW := t.newWidth, lastH := t.newHeight }
  { u with
    film.psr := u.film.psr.filter fun e => !inTile i e.1
    film.target := u.film.target.filter fun e => !inTile i e.1 }

theorem State.coldTile_tile (s : State) (i : Nat) (t : TileSlot) : ((s.coldTile i t).tile i).fill = 0 ∧
    ((s.coldTile i t).tile i).unknown = true ∧ ((s.coldTile i t).tile i).width = t.newWidth ∧
    ((s.coldTile i t).tile i).height = t.newHeight := by
  have h : (s.coldTile i t).tile i = { t with
      fill := 0, unknown := true, width := t.newWidth, height := t.newHeight, lastW := t.newWidth, lastH := t.newHeight } :=
    tabGet_set_same
  rw [h]
  exact ⟨rfl, rfl, rfl, rfl⟩

theorem State.coldTile_film (s : State) (i : Nat) (t : TileSlot) : (∀ e ∈ (s.coldTile i t).film.psr, inTile i e.1 = false) ∧
    ∀ e ∈ (s.coldTile i t).film.target, inTile i e.1 = false := by
  have out {α : Type} {l : Tab α} {e : Nat × α} (he : e ∈ l.filter fun e => !inTile i e.1) : inTile i e.1 = false := by
    simpa using (List.mem_filter.1 he).2
  exact ⟨fun e he => out (l := s.film.psr) he, fun e he => out (l := s.film.target) he⟩

theorem exec_tileFillDone_ends {i : Fin 1024} {s : State} (h2 : (s.tile i.val).fill = 2) (hp : s.planesHeld = false) :
    ∃ t, exec (.tileFillDone i) s = .next t ∧ (t.tile i.val).fill = 0 ∧ (t.tile i.val).unknown = true ∧
      (t.tile i.val).width = (s.tile i.val).newWidth ∧ (t.tile i.val).height = (s.tile i.val).newHeight ∧
      (∀ e ∈ t.film.psr, inTile i.val e.1 = false) ∧ ∀ e ∈ t.film.target, inTile i.val e.1 = false := by
  have he : exec (.tileFillDone i) s = .next ((s.touchPlanes.coldTile i.val (s.tile i.val)).tryUp i.val) :=
    if_pos ⟨h2, by rw [hp]; rfl⟩
  obtain ⟨hFill, hUnknown, hWidth, hHeight⟩ := (s.touchPlanes.coldTile i.val (s.tile i.val)).tryUp_sameFill i.val
  obtain ⟨hFill', hUnknown', hWidth', hHeight'⟩ := s.touchPlanes.coldTile_tile i.val (s.tile i.val)
  refine ⟨_, he, hFill.trans hFill', hUnknown.trans hUnknown', hWidth.trans hWidth', hHeight.trans hHeight', ?_⟩
  rw [State.tryUp_film]
  exact s.touchPlanes.coldTile_film i.val (s.tile i.val)

end Sys2Proof.Machine
end

section
/-! PROOFS. The work inside a frame: video packets, and the statement (O52). -/

namespace Sys2Proof.Machine

/-! ### A packet of a source is heard (R140, R141, R348) -/

/-- What each source last heard stands. -/
structure State.SameHeard (s t : State) : Prop where
  heard : ∀ k, (t.src k).lastPkt = (s.src k).lastPkt

theorem State.SameHeard.refl (s : State) : s.SameHeard s := ⟨fun _ => rfl⟩

theorem State.SameHeard.trans {s t u : State} (h : s.SameHeard t) (h' : t.SameHeard u) : s.SameHeard u :=
  ⟨fun k => (h'.heard k).trans (h.heard k)⟩

theorem State.SameHeard.of_mp {s t : State} (h : t.mp = s.mp) : s.SameHeard t := ⟨fun k => by rw [State.src, State.src, h]⟩

theorem State.count_sameHeard (s : State) (o k : Nat) : s.SameHeard (s.count o k) := .of_mp rfl

/-- A source's record is written with what it last heard as it was. -/
theorem State.setSrc_sameHeard {s : State} {n : Nat} {x : SrcS} (h : x.lastPkt = (s.src n).lastPkt) : s.SameHeard (s.setSrc n x) := by
  refine ⟨fun k => ?_⟩
  by_cases hk : k = n
  · rw [hk, State.src_setSrc_same, h]
  · rw [State.src_setSrc_other _ _ _ hk]

theorem State.sweepSeen_sameHeard (s : State) (n : Nat) : s.SameHeard (s.sweepSeen n) := by
  unfold State.sweepSeen
  extract_lets x lost seen s1
  have h1 : s.SameHeard s1 := State.setSrc_sameHeard (by rfl)
  split
  · exact h1
  · exact h1.trans (State.count_sameHeard ..)

theorem State.mergeSeq_sameHeard (s : State) (n : Nat) (p : RtpPkt) : s.SameHeard (s.mergeSeq n p).2 := by
  unfold State.mergeSeq
  dsimp only
  split
  · split
    · split
      · exact s.count_sameHeard ..
      · exact State.setSrc_sameHeard (by rfl)
    · exact State.setSrc_sameHeard (by rfl)
  · exact .refl s

theorem State.dropPic_sameHeard (s : State) (n : Nat) (p : Pic) : s.SameHeard (s.dropPic n p) :=
  State.SameHeard.trans (State.setSrc_sameHeard (by rfl)) (State.count_sameHeard ..)

theorem State.closeOver_sameHeard (s : State) (n : Nat) : s.SameHeard (s.closeOver n) := by
  refine foldl_inv (P := s.SameHeard) (.refl s) fun u p hu => ?_
  split
  · exact hu.trans (u.dropPic_sameHeard n p)
  · exact hu

theorem State.takePic_sameHeard (s : State) (n : Nat) (p : Pic) : s.SameHeard (s.takePic n p) := by
  unfold State.takePic
  extract_lets x rest s1
  split
  · exact (State.SameHeard.trans (State.setSrc_sameHeard (by rfl)) (State.count_sameHeard ..)).trans (State.count_sameHeard ..)
  · have h1 : s.SameHeard s1 := State.SameHeard.trans (State.setSrc_sameHeard (by rfl)) (State.count_sameHeard ..)
    split
    · exact h1.trans (s1.count_sameHeard ..)
    · exact h1

theorem State.fillPic_sameHeard (s : State) (n : Nat) (p : RtpPkt) (pic : Pic) : s.SameHeard (s.fillPic n p pic) := by
  unfold State.fillPic
  extract_lets get q q1 x s1
  have h1 : s.SameHeard s1 := State.SameHeard.trans (State.setSrc_sameHeard (by rfl)) (State.closeOver_sameHeard ..)
  split
  · exact h1.trans (s1.takePic_sameHeard n q1)
  · exact h1

theorem State.storePacket_sameHeard (s : State) (n : Nat) (p : RtpPkt) (came : Nat) : s.SameHeard (s.storePacket n p came) := by
  unfold State.storePacket
  extract_lets ts u ended s1 x
  have hu : s.SameHeard u := s.closeOver_sameHeard n
  have h1 : u.SameHeard s1 := foldl_inv (P := u.SameHeard) (.refl u) fun v q hv => hv.trans (v.dropPic_sameHeard n q)
  split
  · exact hu.trans (u.fillPic_sameHeard ..)
  · split
    · exact hu
    · split
      · exact (hu.trans h1).trans (s1.count_sameHeard ..)
      · have hSerial : s1.SameHeard (s1.setSrc n { x with nextSerial := x.nextSerial + 1 }) := State.setSrc_sameHeard (by rfl)
        exact ((hu.trans h1).trans hSerial).trans (State.fillPic_sameHeard ..)

theorem State.intake_sameHeard (s : State) (n : Nat) (p : RtpPkt) : s.SameHeard (s.intake n p) := by
  unfold State.intake
  split
  · exact ⟨fun k => rfl⟩
  · exact State.SameHeard.trans (.of_mp (State.touchPool_ok _ _ _ (Ok.self s (partsOf [.mp]))).mpEq) (State.storePacket_sameHeard ..)

/-- The source that takes a packet has heard one now; no other has. -/
theorem State.rxPacket_heard (s : State) (n : Nat) (p : RtpPkt) (k : Nat) :
    ((s.rxPacket n p).src k).lastPkt = if k = n then some s.clk else (s.src k).lastPkt := by
  unfold State.rxPacket
  extract_lets x s0 s1 q
  have h0 : (s0.src k).lastPkt = if k = n then some s.clk else (s.src k).lastPkt := by
    by_cases hk : k = n
    · rw [if_pos hk, hk, State.src_setSrc_same]
    · rw [if_neg hk, State.src_setSrc_other _ _ _ hk]
  have h1 : s0.SameHeard s1 := by
    unfold s1
    split
    · exact s0.sweepSeen_sameHeard n
    · exact .refl s0
  have hq : s0.SameHeard q.2 := h1.trans (s1.mergeSeq_sameHeard n p)
  split
  · exact ((hq.trans (q.2.intake_sameHeard n p)).heard k).trans h0
  · exact (hq.heard k).trans h0

theorem State.rxPacket_clk (s : State) (n : Nat) (p : RtpPkt) : (s.rxPacket n p).clk = s.clk :=
  (State.rxPacket_ok s n p (Ok.self s (partsOf [.clk]))).clkEq

/-- Every source of a list has heard the packet now. -/
theorem State.rxPackets_heard {l : List Nat} {n : Nat} (hn : n ∈ l) (s : State) (p : RtpPkt) :
    ((l.foldl (fun st n => st.rxPacket n p) s).src n).lastPkt = some s.clk := by
  have hClk : (l.foldl (fun st n => st.rxPacket n p) s).clk = s.clk :=
    foldl_inv (P := fun u : State => u.clk = s.clk) rfl fun u n hu => (u.rxPacket_clk n p).trans hu
  rw [← hClk]
  refine foldl_gives (P := fun k u => (u.src k).lastPkt = some u.clk) (fun u k => ?_) (fun u j k hu => ?_) hn s
  · rw [State.rxPacket_heard, if_pos rfl, State.rxPacket_clk]
  · rw [State.rxPacket_heard, State.rxPacket_clk]
    split
    · rfl
    · exact hu

theorem exec_rtpPacket_heard {p : RtpPkt} {s : State} (hf : frameFits p.vid (rtpSize p) = true)
    (ht : s.frameTaken p.port.val p.vid = true) (hl : s.frameLoop = true) {n : Fin 16} (hn : s.rxTakes n.val p = true) :
    ∃ t, exec (.rtpPacket p) s = .next t ∧ (t.src n.val).lastPkt = some s.clk := by
  have hIn : n.val ∈ (List.range 16).filter fun n => s.rxTakes n p := List.mem_filter.2 ⟨List.mem_range.2 n.isLt, hn⟩
  refine ⟨_, if_pos ⟨ht, hf, List.ne_nil_of_mem hIn⟩, ?_⟩
  rw [if_pos hl]
  exact State.rxPackets_heard hIn s p

/-! ### A packet of no source is dropped (R347, R348) -/

theorem State.cnt_count (s : State) (o : Nat) : (s.count o).cnt o = (s.cnt o + 1) % 2 ^ 32 := by
  simp only [State.cnt, State.count, tabMod, tabGet_set_same, BitVec.toNat_add, BitVec.toNat_ofNat, Nat.reduceMod, Nat.reducePow]

theorem State.rxDrop_counts {s : State} {q : Nat} (h : netPortOn s.live q = true) : s.rxDrop q = s.count (baseNet + 0xF18) :=
  if_pos h

theorem exec_rtpPacket_drops {p : RtpPkt} {s : State} (hp : netPortOn s.live p.port.val = true)
    (hn : ∀ n : Fin 16, s.rxTakes n.val p = false) :
    ∃ t, exec (.rtpPacket p) s = .next t ∧ t.mp = s.mp ∧ t.cnt (baseNet + 0xF18) = (s.cnt (baseNet + 0xF18) + 1) % 2 ^ 32 := by
  have hNone : (List.range 16).filter (fun n => s.rxTakes n p) = [] :=
    List.filter_eq_nil_iff.2 fun n h => ne_true_of_eq_false (hn ⟨n, List.mem_range.1 h⟩)
  refine ⟨s.rxDrop p.port.val, if_neg fun h => h.2.2 hNone, ?_⟩
  rw [State.rxDrop_counts hp]
  exact ⟨rfl, s.cnt_count _⟩

/-- Settles O52: the fix-up from what each of its steps leaves, the others event by event. -/
theorem frameWork : Obligations.FrameWork := by
  refine ⟨fun c own g b r s hr hb hs ho hg hq => ⟨_, exec_bundleTake_idle hr hb, State.takeBundle_front hs ho hg hq⟩,
    fun c i x y p s hp => ⟨exec_pixelEvaluate_computes hp, exec_pixelEvaluate_waits hp⟩,
    fun c i y g p r s hp hf hr hs => ⟨fun ht => ?_, exec_droppedRowFixup_stalled hp hf⟩,
    fun i y g s hl hu hn hc hm hi hrow hseg => ?_,
    fun n r s hr => ⟨exec_renderComplete_ends hr, fun hp => ?_⟩,
    fun i s => ⟨exec_tileFill_begins, exec_tileFillDone_ends⟩,
    fun p s hf hp => ⟨fun ht hl n hn => exec_rtpPacket_heard hf ht hl hn, exec_rtpPacket_drops hp⟩⟩
  · obtain ⟨hFixup, hTarget⟩ := s.fixUp_keeps c.val i.val y.val g.val p r
    exact ⟨_, exec_droppedRowFixup_fixes hp hf hr hs ht, rfl, hFixup, hTarget, fun u h => by rw [u.fixPixel_film]⟩
  · have h : s.Swept i.val y.val g.val := ⟨hl, hu, hn, hc, hm, hi, hrow, hseg⟩
    refine ⟨exec_ageSweepSegment_skips h, fun hs hf => ⟨fun hp => ?_, fun hp => ?_⟩⟩
    · obtain ⟨hTick, hSeg, hSkip⟩ := s.sweepSegment_ticks i.val y.val g.val
      exact ⟨_, exec_ageSweepSegment_visits h hs hf hp, hTick, rfl, hSeg, hSkip⟩
    · exact ⟨_, exec_ageSweepSegment_held h hs hf hp, s.holdReq_film _, rfl⟩
  · rw [exec_renderComplete hr, if_pos hp]

end Sys2Proof.Machine
end

section
/-! PROOFS. The wall counter and the flip times: a tick (O4), T(N) (O19) and the advance to a wall time (O20). -/

namespace Sys2Proof.Machine

/-! ### One tick (R205, R408) -/

theorem step_of_emptyQueue {s : State} (h : s.pending = []) : step s = .next s.tick := by
  unfold step
  rw [h]

/-- A tick changes the clock, the TIME block and the odometer's block, and no other part. -/
theorem State.tick_same (s : State) {p : StatePart} (hp : p ∉ [.clk, .time, .glb]) : p.same s s.tick :=
  (State.tick_ok s (Ok.self s fun q => decide (q ∉ [.clk, .time, .glb]))).same p (decide_eq_true hp)

/-- Settles O4: the step is the tick, whose frame is that of the keep lemmas. -/
theorem emptyQueueTicks : Obligations.EmptyQueueTicks :=
  fun s h => ⟨s.tick, step_of_emptyQueue h, rfl, h, rfl, rfl, fun _ hp => s.tick_same hp⟩

/-! ### T(N) (R207) -/

/-- From the anchor's frame on, the signed quotient of R207 is one of natural numbers. -/
theorem flipTimeAt_of_le {anchorT anchorN rate n : Nat} (h : anchorN ≤ n) :
    flipTimeAt anchorT anchorN rate n = anchorT + (n - anchorN) * 1000000000 / rate := by
  have hFrames : framesFrom anchorN n = ((n - anchorN : Nat) : Int) := by
    unfold framesFrom
    dsimp only
    rw [if_neg (by omega)]
    omega
  have hQuotient : ((n - anchorN : Nat) : Int) * 1000000000 / (rate : Int) = ((n - anchorN) * 1000000000 / rate : Nat) := by
    rw [Int.natCast_ediv, Int.natCast_mul, Int.cast_ofNat_Int]
  rw [flipTimeAt, hFrames, Int.fdiv_eq_ediv_of_nonneg _ (Int.natCast_nonneg rate), hQuotient, ← Int.natCast_add, Int.toNat_natCast]

/-- Settles O19: from one frame to the next the dividend grows by 10^9, over `f` frames by `f` × 10^9. -/
theorem flipTimes : Obligations.FlipTimes := by
  intro at_ an f n hf hn
  have hNext : (n + 1 - an) * 1000000000 = (n - an) * 1000000000 + 1000000000 := by omega
  have hSecond : (n + f - an) * 1000000000 = (n - an) * 1000000000 + f * 1000000000 := by
    rw [Nat.sub_add_comm hn, Nat.add_mul]
  rw [flipTimeAt_of_le (Nat.le_refl an), flipTimeAt_of_le hn, flipTimeAt_of_le (Nat.le_succ_of_le hn),
    flipTimeAt_of_le (Nat.le_add_right_of_le hn), hNext, hSecond, Nat.add_mul_div_left _ _ hf, Nat.add_div hf,
    Nat.sub_self, Nat.zero_mul, Nat.zero_div]
  refine ⟨rfl, by omega, ?_, by omega⟩
  split <;> omega

/-! ### Advancing to a wall time at the exact rate (R205) -/

theorem State.advance_clk (s : State) (n : Nat) : (s.advance n).clk = s.clk + n := rfl

theorem State.advance_eps (s : State) (n : Nat) : (s.advance n).time.eps = s.time.eps := rfl

theorem State.cycleToward_eps (s : State) (t : Nat) : (s.cycleToward t).time.eps = s.time.eps := State.advance_eps ..

theorem epsDrift_zero (n free : Nat) : epsDrift n 0 free = 0 := by simp [epsDrift]

/-- At the exact rate `n` cycles are `n` times 1.25 ns, while the counter does not wrap. -/
theorem State.advance_wall {s : State} {n : Nat} (he : s.time.eps = 0) (h : s.time.wall + n * 5368709120 < 2 ^ 96) :
    (s.advance n).time.wall = s.time.wall + n * 5368709120 := by
  simp only [State.advance, cycleUnits, he, epsDrift_zero]
  omega

theorem icdiv_eq (a : Int) (b : Nat) : icdiv a b = -(-a / (b : Int)) := by
  unfold icdiv
  rw [Int.fdiv_eq_ediv_of_nonneg _ (Int.natCast_nonneg b)]

theorem State.cyclesTo_of_reached {s : State} {t : Nat} (h : t * 2 ^ 32 ≤ s.time.wall) : s.cyclesTo t = 0 := if_pos h

/-- At the exact rate `cyclesTo` is the least number of cycles that brings the counter to the time. -/
theorem State.cyclesTo_least {s : State} {t : Nat} (he : s.time.eps = 0) (h : s.time.wall < t * 2 ^ 32) :
    s.time.wall + (s.cyclesTo t - 1) * 5368709120 < t * 2 ^ 32 ∧ t * 2 ^ 32 ≤ s.time.wall + s.cyclesTo t * 5368709120 := by
  have hCycles : s.cyclesTo t = (-((-(((t * 2 ^ 32 - s.time.wall : Nat) : Int) * 3125)) / 16777216000000)).toNat := by
    unfold State.cyclesTo
    dsimp only
    rw [if_neg (Nat.not_le.2 h), he, icdiv_eq, show ((cycleUnits : Int) * 3125 + 0 * 256).toNat = 16777216000000 by decide]
    rfl
  omega

/-- One cycle short of the time, one cycle reaches it. -/
theorem State.cyclesTo_eq_one {s : State} {t : Nat} (he : s.time.eps = 0) (h : s.time.wall < t * 2 ^ 32)
    (hn : t * 2 ^ 32 ≤ s.time.wall + 5368709120) : s.cyclesTo t = 1 := by
  have hLeast := State.cyclesTo_least he h
  omega

/-- One cycle short of the time, `cycleToward` takes that cycle. -/
theorem State.cycleToward_short {s : State} {t : Nat} (he : s.time.eps = 0) (h : s.time.wall < t * 2 ^ 32)
    (hn : t * 2 ^ 32 ≤ s.time.wall + 5368709120) (hRoom : t * 2 ^ 32 + 5368709120 < 2 ^ 96) :
    (s.cycleToward t).time.wall = s.time.wall + 5368709120 ∧ (s.cycleToward t).clk = s.clk + 1 := by
  rw [State.cycleToward, State.cyclesTo_eq_one he h hn]
  exact ⟨State.advance_wall (n := 1) he (by omega), rfl⟩

/-- At the time, `cycleToward` takes none. -/
theorem State.cycleToward_reached {s : State} {t : Nat} (he : s.time.eps = 0) (h : t * 2 ^ 32 ≤ s.time.wall)
    (hRoom : s.time.wall < 2 ^ 96) : (s.cycleToward t).time.wall = s.time.wall ∧ (s.cycleToward t).clk = s.clk := by
  rw [State.cycleToward, State.cyclesTo_of_reached h]
  exact ⟨State.advance_wall (n := 0) he (by omega), rfl⟩

/-- At the exact rate the advance takes the least number of cycles that reaches the time: all but the last leave the counter below it,
the next reaches it, and no third is taken. -/
theorem State.advanceWall_exact {s : State} {t : Nat} (he : s.time.eps = 0) (h : s.time.wall < t * 2 ^ 32)
    (hRoom : t * 2 ^ 32 + 5368709120 < 2 ^ 96) :
    (s.advanceWall t).time.wall = s.time.wall + s.cyclesTo t * 5368709120 ∧ (s.advanceWall t).clk = s.clk + s.cyclesTo t := by
  obtain ⟨hShort, hReach⟩ := State.cyclesTo_least he h
  have hWall := State.advance_wall (n := s.cyclesTo t - 1) he (by omega)
  have hClk := s.advance_clk (s.cyclesTo t - 1)
  have hEps := (s.advance_eps (s.cyclesTo t - 1)).trans he
  rw [State.advanceWall]
  generalize s.advance (s.cyclesTo t - 1) = u at hWall hClk hEps ⊢
  generalize s.cyclesTo t = c at hShort hReach hWall hClk ⊢
  obtain ⟨hWall', hClk'⟩ := State.cycleToward_short (t := t) hEps (by omega) (by omega) hRoom
  obtain ⟨hWall'', hClk''⟩ := State.cycleToward_reached (t := t) ((u.cycleToward_eps t).trans hEps) (by omega) (by omega)
  omega

/-- Settles O20: the counter reads what `cyclesTo` cycles bring it to, the least number that reaches the time. -/
theorem advanceWallStopsAtTheCycle : Obligations.AdvanceWallStopsAtTheCycle := by
  intro s t he hBefore hRoom
  obtain ⟨hShort, hReach⟩ := State.cyclesTo_least he hBefore
  obtain ⟨hWall, hClk⟩ := State.advanceWall_exact he hBefore hRoom
  exact ⟨by omega, by omega, hClk⟩

end Sys2Proof.Machine
end

section
/-! PROOFS. The wall time's servo, its messages and its holdover (O50). -/

namespace Sys2Proof.Machine

/-! ### What the operations of the TIME block leave (R205, R211, R212) -/

theorem State.roundFree_time (s : State) (a : Int) (d : Nat) : (s.roundFree a d).2.time = s.time :=
  (State.roundFree_ok s a d (Ok.self s (partsOf [.time]))).timeEq

theorem State.roundFree_clk (s : State) (a : Int) (d : Nat) : (s.roundFree a d).2.clk = s.clk :=
  (State.roundFree_ok s a d (Ok.self s (partsOf [.clk]))).clkEq

/-- A message heard is noted in the network's part alone. -/
theorem State.ptpHeard_eq (s : State) (p : Nat) : ∃ n, s.ptpHeard p = { s with net := n } := by
  unfold State.ptpHeard
  split
  · exact ⟨_, rfl⟩
  · exact ⟨s.net, rfl⟩

theorem State.clk_le_advanceTo (s : State) (t : Nat) : t ≤ (s.advanceTo t).clk := by
  unfold State.advanceTo
  split
  · rw [State.advance_clk]
    omega
  · omega

theorem State.advanceTo_time (s : State) (t : Nat) : (s.advanceTo t).time = { s.time with wall := (s.advanceTo t).time.wall } := by
  unfold State.advanceTo
  split <;> rfl

theorem State.advanceTo_regs (s : State) (t : Nat) : (s.advanceTo t).regs = s.regs :=
  (State.advanceTo_ok s t (Ok.self s (partsOf [.regs]))).regsEq

/-- ε is all that freezing it changes in the TIME block. -/
theorem State.freezeEps_time (s : State) :
    s.freezeEps.time = { s.time with eps := s.freezeEps.time.eps, epsHist := s.freezeEps.time.epsHist } := by
  unfold State.freezeEps
  dsimp only
  split
  · rfl
  · rw [State.roundFree_time]

theorem State.freezeEps_clk (s : State) : s.freezeEps.clk = s.clk := (State.freezeEps_ok s (Ok.self s (partsOf [.clk]))).clkEq

theorem State.freezeEps_regs (s : State) : s.freezeEps.regs = s.regs := (State.freezeEps_ok s (Ok.self s (partsOf [.regs]))).regsEq

theorem State.cnt_of_regs {s t : State} (h : t.regs = s.regs) (o : Nat) : t.cnt o = s.cnt o := by rw [State.cnt, h, State.cnt]

theorem State.cnt_count_other (s : State) {o p : Nat} (h : p ≠ o) : (s.count o).cnt p = s.cnt p :=
  congrArg BitVec.toNat (tabGet_set_other h)

/-! ### The source is lost (R212) -/

theorem State.enterHoldover_of_locked {s : State} (h : s.time.state = .locked) : s.enterHoldover =
    ({ s with time.state := .holdover, time.holdStart := s.clk, time.good := 0, time.bad := 0 } : State).freezeEps.count
      (baseTime + 0x84) := by
  simp only [State.enterHoldover, h, decide_true, Bool.true_or, if_true]

/-- HOLDOVER begins now; the masters heard stand. -/
theorem State.enterHoldover_time {s : State} (h : s.time.state = .locked) : s.enterHoldover.time.state = .holdover ∧
    s.enterHoldover.time.holdStart = s.clk ∧ s.enterHoldover.time.foreign = s.time.foreign := by
  rw [State.enterHoldover_of_locked h, State.count_time, State.freezeEps_time]
  exact ⟨rfl, rfl, rfl⟩

theorem State.enterHoldover_clk (s : State) : s.enterHoldover.clk = s.clk :=
  (State.enterHoldover_ok s (Ok.self s (partsOf [.clk]))).clkEq

/-- The loss of the source is counted. -/
theorem State.enterHoldover_counts {s : State} (h : s.time.state = .locked) :
    s.enterHoldover.cnt (baseTime + 0x84) = (s.cnt (baseTime + 0x84) + 1) % 2 ^ 32 := by
  rw [State.enterHoldover_of_locked h, State.cnt_count, State.cnt_of_regs (State.freezeEps_regs _)]
  rfl

theorem State.enterHoldover_cnt_other {s : State} {o : Nat} (h : s.time.state = .locked) (ho : o ≠ baseTime + 0x84) :
    s.enterHoldover.cnt o = s.cnt o := by
  rw [State.enterHoldover_of_locked h, State.cnt_count_other _ ho, State.cnt_of_regs (State.freezeEps_regs _)]
  rfl

/-- R211: the choice of a master leaves the masters heard, the servo's state and the holdover timer. -/
theorem State.chooseMaster_time (s : State) : s.chooseMaster.time.foreign = s.time.foreign ∧
    s.chooseMaster.time.state = s.time.state ∧ s.chooseMaster.time.holdStart = s.time.holdStart := by
  unfold State.chooseMaster
  split
  · split <;> exact ⟨rfl, rfl, rfl⟩
  · exact ⟨rfl, rfl, rfl⟩

theorem State.chooseMaster_clk (s : State) : s.chooseMaster.clk = s.clk :=
  (State.chooseMaster_ok s (Ok.self s (partsOf [.clk]))).clkEq

theorem State.chooseMaster_regs (s : State) : s.chooseMaster.regs = s.regs :=
  (State.chooseMaster_ok s (Ok.self s (partsOf [.regs]))).regsEq

/-- R211: a master that is no longer heard is forgotten. -/
def State.dropMaster (s : State) (src : Nat) : State :=
  { s with time.foreign := s.time.foreign.filter (fun g => g.source ≠ src), time.master := none }

theorem exec_announceReceiptTimeout {s : State} {src : Nat} {f : Foreign} (h1 : s.timeSrc = 1) (hm : s.time.master = some src)
    (hf : s.time.foreign.find? (fun g => g.source = src) = some f) : exec .announceReceiptTimeout s =
      .next (((s.advanceTo (f.heard.headD 0 + 3 * logC f.logInterval)).dropMaster src).count
        (baseTime + 0x8C)).enterHoldover.chooseMaster := by
  simp only [exec, execAnnounceReceiptTimeout, hm, hf, h1, if_true]
  rfl

theorem exec_announceReceiptTimeout_holds {s : State} {src : Nat} {f : Foreign} (h1 : s.timeSrc = 1) (hm : s.time.master = some src)
    (hl : s.time.state = .locked) (hf : s.time.foreign.find? (fun g => g.source = src) = some f) :
    ∃ t, exec .announceReceiptTimeout s = .next t ∧ t.time.state = .holdover ∧ t.time.holdStart = t.clk ∧
      (∀ g ∈ t.time.foreign, g.source ≠ src) ∧ f.heard.headD 0 + 3 * logC f.logInterval ≤ t.clk ∧
      t.cnt (baseTime + 0x8C) = (s.cnt (baseTime + 0x8C) + 1) % 2 ^ 32 := by
  have hClk := s.clk_le_advanceTo (f.heard.headD 0 + 3 * logC f.logInterval)
  have hTime := s.advanceTo_time (f.heard.headD 0 + 3 * logC f.logInterval)
  have hRegs := s.advanceTo_regs (f.heard.headD 0 + 3 * logC f.logInterval)
  refine ⟨_, exec_announceReceiptTimeout h1 hm hf, ?_⟩
  generalize s.advanceTo (f.heard.headD 0 + 3 * logC f.logInterval) = u at hClk hTime hRegs ⊢
  have hLocked : ((u.dropMaster src).count (baseTime + 0x8C)).time.state = .locked :=
    (congrArg TimeS.state hTime).trans hl
  obtain ⟨hForeign, hState, hStart⟩ := ((u.dropMaster src).count (baseTime + 0x8C)).enterHoldover.chooseMaster_time
  obtain ⟨hState', hStart', hForeign'⟩ := State.enterHoldover_time hLocked
  rw [State.chooseMaster_clk, State.enterHoldover_clk, hState, hStart, hForeign, State.cnt_of_regs (State.chooseMaster_regs _),
    State.enterHoldover_cnt_other hLocked (by decide), State.cnt_count]
  refine ⟨hState', hStart', fun g hg => ?_, hClk, by rw [← State.cnt_of_regs hRegs]; rfl⟩
  rw [hForeign'] at hg
  exact of_decide_eq_true (List.mem_filter.1 hg).2

theorem exec_syncTimeout_holds {s : State} {src : Nat} (h1 : s.timeSrc = 1) (hm : s.time.master = some src)
    (hl : s.time.state = .locked) : ∃ t, exec .syncTimeout s = .next t ∧ t.time.state = .holdover ∧ t.time.holdStart = t.clk ∧
      s.time.lastSync + 8 * logC s.time.syncLog ≤ t.clk ∧ t.cnt (baseTime + 0x84) = (s.cnt (baseTime + 0x84) + 1) % 2 ^ 32 := by
  have hLocked : (s.advanceTo (s.time.lastSync + 8 * logC s.time.syncLog)).time.state = .locked :=
    (congrArg TimeS.state (s.advanceTo_time _)).trans hl
  obtain ⟨hState, hStart, -⟩ := State.enterHoldover_time hLocked
  refine ⟨_, if_pos ⟨h1, by rw [hm]; rfl⟩, hState, ?_⟩
  rw [State.enterHoldover_clk, State.enterHoldover_counts hLocked, State.cnt_of_regs (s.advanceTo_regs _)]
  exact ⟨hStart, s.clk_le_advanceTo _, rfl⟩

theorem exec_markerMissHoldover_holds {s : State} (h2 : s.timeSrc = 2) (hl : s.time.state = .locked) (h3 : 3 ≤ s.time.wsMiss) :
    ∃ t, exec .markerMissHoldover s = .next t ∧ t.time.state = .holdover ∧ t.time.holdStart = t.clk := by
  obtain ⟨hState, hStart, -⟩ := State.enterHoldover_time hl
  refine ⟨s.enterHoldover, congrArg Host.Outcome.next (if_pos ⟨h2, h3⟩), hState, ?_⟩
  rw [State.enterHoldover_clk, hStart]

/-! ### Wall time is lost (R206, R212, R213) -/

/-- What is told of the loss leaves the TIME block as the loss itself has it. -/
theorem State.loseTime_time (s : State) (new : TimeState) :
    (s.loseTime new).time = { s.time with state := new, acqValid := false, good := 0, bad := 0 } := by
  unfold State.loseTime
  dsimp only
  rw [(State.tellTimeLost_ok _ (Ok.self _ (partsOf [.time]))).timeEq]
  exact State.log_time ..

theorem State.loseTime_clk (s : State) (new : TimeState) : (s.loseTime new).clk = s.clk :=
  (State.loseTime_ok s new (Ok.self s (partsOf [.clk]))).clkEq

theorem exec_holdoverExpire_loses {s : State} (h : s.time.state = .holdover ∨ (s.time.state = .acquiring ∧ s.time.acqValid = true)) :
    ∃ t, exec .holdoverExpire s = .next t ∧ t.time.state = .lost ∧
      s.time.holdStart + s.liveF (baseTime + 0x40) 0 12 * 800000000 ≤ t.clk := by
  refine ⟨_, if_pos (by simpa using h), ?_, ?_⟩
  · rw [State.loseTime_time]
  · rw [State.loseTime_clk]
    exact s.clk_le_advanceTo _

/-- R213: an offset above 1 µs: of the TIME block only the servo's own fields change. -/
theorem State.toStep_time (s : State) : s.toStep.time =
    { s.time with state := .stepPending, acqValid := s.toStep.time.acqValid, good := 0, bad := 0, stepNow := false } := by
  unfold State.toStep
  dsimp only
  split
  · rfl
  · rw [State.loseTime_time]

theorem exec_timeStepNow_permits {s : State} (hr : s.reached = true) (h : s.time.state = .stepPending) :
    ∃ t, exec .timeStepNow s = .next t ∧ t.time.stepNow = true ∧ t.time.state = .stepPending :=
  ⟨{ s with time.stepNow := true },
    congrArg Host.Outcome.next ((if_pos hr : s.whenReady State.stepNowOn = s.stepNowOn).trans (if_pos h)), rfl, h⟩

/-! ### The servo (R212, R213) -/

/-- An offset within the bound keeps LOCKED and ends a row of offsets above it. -/
theorem State.servoStep_keeps {s : State} {a lock leave micro : Nat} (h : s.time.state = .locked) (ha : a ≤ leave) :
    s.servoStep a lock leave micro = { s with time.bad := 0 } := by
  simp [State.servoStep, h, Nat.not_lt.2 ha]

/-- The third offset in a row above the bound. -/
theorem State.servoStep_leaves {s : State} {a lock leave micro : Nat} (h : s.time.state = .locked) (ha : leave < a)
    (hb : s.time.bad = 2) : s.servoStep a lock leave micro =
      { s with time.state := .acquiring, time.acqValid := true, time.holdStart := s.clk, time.good := 0, time.bad := 0 } := by
  simp [State.servoStep, h, ha, hb]

/-- The 16th offset in a row within the lock bound. -/
theorem State.servoStep_locks {s : State} {a lock leave micro : Nat} (h : s.time.state = .acquiring) (hg : s.time.good = 15)
    (ha : a ≤ lock) (hm : lock ≤ micro) : s.servoStep a lock leave micro =
      { s with time.state := .locked, time.acqValid := false, time.good := 0, time.bad := 0 } := by
  simp [State.servoStep, h, hg, ha, Nat.not_lt.2 (Nat.le_trans ha hm)]

/-- An offset above 1 µs while no offset has locked. -/
theorem State.servoStep_steps {s : State} {a lock leave micro : Nat}
    (h : s.time.state = .acquiring ∨ s.time.state = .holdover ∨ s.time.state = .lost) (ha : micro < a) :
    s.servoStep a lock leave micro = s.toStep := by
  rcases h with h | h | h <;> simp only [State.servoStep, h, if_pos ha]

/-- The servo leaves what a Sync has shown. -/
theorem State.servoStep_sync (s : State) (a lock leave micro : Nat) :
    (s.servoStep a lock leave micro).time.syncDiff = s.time.syncDiff ∧
      (s.servoStep a lock leave micro).time.lastSync = s.time.lastSync := by
  unfold State.servoStep
  split
  case h_1 =>
    dsimp only
    split <;> split <;> exact ⟨rfl, rfl⟩
  case h_2 | h_3 | h_4 =>
    split
    · rw [State.toStep_time]
      exact ⟨rfl, rfl⟩
    · dsimp only
      split <;> split <;> exact ⟨rfl, rfl⟩
  case h_5 | h_6 => exact ⟨rfl, rfl⟩

/-! ### Sync (R211 to R213) -/

/-- What a Sync shows: its arrival less its departure (2^-16 ns). -/
def syncShows (m : PtpSync) : Int := (m.rxStamp : Int) * 16384 - (m.origin : Int)

/-- The offset from the master that a Sync shows (2^-16 ns). -/
def State.syncOffset (s : State) (m : PtpSync) : Int :=
  syncShows m - s.time.mpd - sext 16 (s.liveF (baseTime + 0x54) 0 16) * 65536

/-- In `u` the offset that a Sync shows in `s` has been measured, and the servo has not yet judged it: its state stands. -/
structure State.Measured (s : State) (m : PtpSync) (u : State) : Prop where
  clk : u.clk = s.clk
  state : u.time.state = s.time.state
  good : u.time.good = s.time.good
  bad : u.time.bad = s.time.bad
  syncDiff : u.time.syncDiff = some (syncShows m)
  lastSync : u.time.lastSync = s.clk
  offset : u.time.offset = s.syncOffset m * 65536

theorem State.Measured.slew {s u : State} {m : PtpSync} (h : s.Measured m u) : s.Measured m u.slew :=
  ⟨h.clk, h.state, h.good, h.bad, h.syncDiff, h.lastSync, h.offset⟩

/-- What is noted of a Sync before the servo judges its offset. -/
def State.noteSync (s : State) (m : PtpSync) : State :=
  let r := s.roundFree (s.syncOffset m) 65536
  { r.2 with
    time.syncDiff := some (syncShows m), time.lastSync := s.clk, time.syncLog := m.logInterval
    time.offset := s.syncOffset m * 65536, time.ofs := r.1 }

theorem State.noteSync_measured (s : State) (m : PtpSync) : s.Measured m (s.noteSync m) := by
  have hTime := s.roundFree_time (s.syncOffset m) 65536
  have hState := congrArg TimeS.state hTime
  have hGood := congrArg TimeS.good hTime
  have hBad := congrArg TimeS.bad hTime
  exact ⟨s.roundFree_clk _ _, hState, hGood, hBad, rfl, rfl, rfl⟩

theorem exec_ptpSync_measures {m : PtpSync} {s : State} (hp : s.ptpPort m.port.val = true) (hd : m.domain.toNat = s.ptpDomain)
    (hm : s.time.master = some m.source.toNat) (hlo : -7 ≤ m.logInterval) (hhi : m.logInterval ≤ 0) :
    ∃ u, exec (.ptpSync m) s = .next (u.servoStep (s.syncOffset m).natAbs 3276800 32768000 65536000) ∧ s.Measured m u := by
  obtain ⟨n, hn⟩ := s.ptpHeard_eq m.port.val
  obtain ⟨hClk, hState, hGood, hBad, hDiff, hLast, hOffset⟩ := ({ s with net := n } : State).noteSync_measured m
  have hNoted : s.Measured m (({ s with net := n } : State).noteSync m) := ⟨hClk, hState, hGood, hBad, hDiff, hLast, hOffset⟩
  simp only [exec, execPtpSync, hn]
  rw [if_pos ⟨hp, hd⟩, if_pos ⟨hm, hlo, hhi⟩]
  exact ⟨_, rfl, iteInduction (motive := s.Measured m) (fun _ => hNoted) fun _ => hNoted.slew⟩

theorem exec_ptpSync_servo {m : PtpSync} {s : State} (hp : s.ptpPort m.port.val = true) (hd : m.domain.toNat = s.ptpDomain)
    (hm : s.time.master = some m.source.toNat) (hlo : -7 ≤ m.logInterval) (hhi : m.logInterval ≤ 0) :
    ∃ t, exec (.ptpSync m) s = .next t ∧ t.time.syncDiff = some (syncShows m) ∧ t.time.lastSync = s.clk ∧
      (s.time.state = .locked → (s.syncOffset m).natAbs ≤ 500 * 65536 →
        t.time.state = .locked ∧ t.time.bad = 0 ∧ t.time.offset = s.syncOffset m * 65536) ∧
      (s.time.state = .locked → 500 * 65536 < (s.syncOffset m).natAbs → s.time.bad = 2 →
        t.time.state = .acquiring ∧ t.time.acqValid = true ∧ t.time.holdStart = s.clk) ∧
      (s.time.state = .acquiring → s.time.good = 15 → (s.syncOffset m).natAbs ≤ 50 * 65536 → t.time.state = .locked) ∧
      (s.time.state = .acquiring ∨ s.time.state = .holdover ∨ s.time.state = .lost → 1000 * 65536 < (s.syncOffset m).natAbs →
        t.time.state = .stepPending) := by
  obtain ⟨u, he, hu⟩ := exec_ptpSync_measures hp hd hm hlo hhi
  obtain ⟨hDiff, hLast⟩ := u.servoStep_sync (s.syncOffset m).natAbs 3276800 32768000 65536000
  refine ⟨_, he, hDiff.trans hu.syncDiff, hLast.trans hu.lastSync, fun hs ha => ?_, fun hs ha hb => ?_,
    fun hs hg ha => ?_, fun hs ha => ?_⟩
  · rw [State.servoStep_keeps (hu.state.trans hs) ha]
    exact ⟨hu.state.trans hs, rfl, hu.offset⟩
  · rw [State.servoStep_leaves (hu.state.trans hs) ha (hu.bad.trans hb)]
    exact ⟨rfl, rfl, hu.clk⟩
  · rw [State.servoStep_locks (hu.state.trans hs) (hu.good.trans hg) ha (by decide)]
  · rw [State.servoStep_steps (hu.state ▸ hs) ha, State.toStep_time]

/-! ### Announce, Delay_Req and Delay_Resp (R211) -/

theorem exec_ptpAnnounce_enters {m : PtpAnnounce} {s : State} (hp : s.ptpPort m.port.val = true) (hd : m.domain.toNat = s.ptpDomain)
    (hr : m.stepsRemoved.toNat < 255) :
    ∃ t f, exec (.ptpAnnounce m) s = .next t ∧ t.time.foreign.head? = some f ∧ f.source = m.source.toNat ∧ f.port = m.port.val ∧
      f.grandmaster = m.grandmaster.toNat ∧ f.heard.head? = some s.clk ∧ t.time.state = s.time.state := by
  obtain ⟨n, hn⟩ := s.ptpHeard_eq m.port.val
  simp only [exec, execPtpAnnounce, hn]
  rw [if_pos ⟨hp, hd⟩, if_pos hr]
  obtain ⟨hForeign, hState, -⟩ := State.chooseMaster_time _
  exact ⟨_, _, rfl, congrArg List.head? hForeign, rfl, rfl, rfl, rfl, hState⟩

theorem exec_ptpDelayReqSend_sends {stamp src : Nat} {s : State} (hm : s.time.master = some src) (h1 : s.timeSrc = 1) :
    ∃ t p, exec (.ptpDelayReqSend stamp) s = .next t ∧ t.time.delaySeq = (s.time.delaySeq + 1) % 65536 ∧
      t.time.delayT3 = some (stamp * 16384) ∧ t.out = .delayReq p (s.frameTag p) t.time.delaySeq :: s.out := by
  simp only [exec, execPtpDelayReqSend, hm, if_pos h1]
  exact ⟨_, _, rfl, rfl, rfl, rfl⟩

theorem exec_ptpDelayResp_measures {m : PtpDelayResp} {d : Int} {t3 : Nat} {s : State} (hp : s.ptpPort m.port.val = true)
    (hd : m.domain.toNat = s.ptpDomain) (hDiff : s.time.syncDiff = some d) (hT3 : s.time.delayT3 = some t3)
    (hm : s.time.master = some m.source.toNat) (hq : m.seqId.toNat = s.time.delaySeq) :
    ∃ t, exec (.ptpDelayResp m) s = .next t ∧ t.time.mpd = Int.fdiv (d + ((m.rxTime : Int) - (t3 : Int))) 2 ∧
      t.time.delayT3 = none := by
  obtain ⟨n, hn⟩ := s.ptpHeard_eq m.port.val
  simp only [exec, execPtpDelayResp, hn]
  rw [if_pos ⟨hp, hd⟩]
  simp only [hDiff, hT3]
  rw [if_pos ⟨hm, hq⟩]
  exact ⟨_, rfl, rfl, rfl⟩

/-! ### Markers (R218) -/

/-- The phase of a marker's edge against the leader's time (2^-32 ns). -/
def State.markerPhase (s : State) (m : Marker) : Int :=
  (m.edge : Int) - ((s.liveF (baseTime + 0x70) 16 16 * 1073741824 : Nat) : Int) - ((fieldB m.msg 0 8 * 4294967296 : Nat) : Int)

theorem exec_wallSyncMarker_refused {m : Marker} {s : State} (h2 : s.timeSrc = 2) (hm : s.markerOk m = false) :
    exec (.wallSyncMarker m) s = .next (s.count (baseTime + 0x90)) := by
  show execWallSyncMarker m s = _
  unfold execWallSyncMarker
  rw [if_neg (not_not_intro h2), if_neg (ne_true_of_eq_false hm)]

/-- An anchor taken from a marker changes what the next flips are counted from, and nothing of the servo. -/
theorem State.markerAnchor_time (s : State) (t n rate : Nat) : (s.markerAnchor t n rate).time =
    { s.time with
      past := (s.markerAnchor t n rate).time.past, anchorT := t, anchorN := n, rate := rate, wfn := n } := by
  unfold State.markerAnchor
  dsimp only
  split <;> rfl

/-- In `u` the phase of an accepted marker has been measured, and the servo has not yet judged it. -/
structure State.Marked (s : State) (m : Marker) (u : State) : Prop where
  state : u.time.state = s.time.state
  wsMiss : u.time.wsMiss = 0
  leaderValid : u.time.leaderValid = decide (bits (fieldB m.msg 15 1) 0 1 = 1)

theorem State.Marked.slew {s u : State} {m : Marker} (h : s.Marked m u) : s.Marked m u.slew := ⟨h.state, h.wsMiss, h.leaderValid⟩

/-- What is noted of an accepted marker before the servo judges its phase `e`. -/
def State.noteMarker (s : State) (m : Marker) (e : Int) : State :=
  let r := s.roundFree e 1073741824
  let fl := fieldB m.msg 15 1
  { r.2 with
    time.pherr := satInt 16 r.1, time.offset := e, time.wsWfn := fieldB m.msg 8 6, time.leaderValid := decide (bits fl 0 1 = 1)
    time.wsGot := true, time.wsMiss := 0
    time.chg := if bits fl 1 1 = 1 then some (fieldB m.msg 22 1, fieldB m.msg 16 6) else none }

theorem State.noteMarker_marked (s : State) (m : Marker) (e : Int) : s.Marked m (s.noteMarker m e) := by
  have hState := congrArg TimeS.state (s.roundFree_time e 1073741824)
  exact ⟨hState, rfl, rfl⟩

/-- R218: what an accepted marker does once the servo has judged it: its anchor is taken, or kept for the step that it has begun. -/
def State.takeMarker (s : State) (m : Marker) : State :=
  if s.time.state = .stepPending then { s with time.wsAnchor := some (fieldB m.msg 0 8, fieldB m.msg 8 6, fieldB m.msg 14 1) }
  else s.markerAnchor (fieldB m.msg 0 8) (fieldB m.msg 8 6) (fieldB m.msg 14 1)

theorem exec_wallSyncMarker_accepted {m : Marker} {s : State} (h2 : s.timeSrc = 2) (hm : s.markerOk m = true) :
    ∃ u, exec (.wallSyncMarker m) s = .next
      ((u.servoStep (s.markerPhase m).natAbs 42949672960 429496729600 4294967296000).takeMarker m) ∧ s.Marked m u := by
  show ∃ u, execWallSyncMarker m s = _ ∧ s.Marked m u
  unfold execWallSyncMarker
  rw [if_neg (not_not_intro h2), if_pos hm]
  have hNoted := s.noteMarker_marked m (s.markerPhase m)
  exact ⟨_, rfl, iteInduction (motive := s.Marked m) (fun _ => hNoted) fun _ => hNoted.slew⟩

theorem exec_wallSyncMarker_keeps {m : Marker} {s : State} (h2 : s.timeSrc = 2) (hm : s.markerOk m = true)
    (hl : s.time.state = .locked) (ha : (s.markerPhase m).natAbs ≤ 100 * 4294967296) :
    ∃ t, exec (.wallSyncMarker m) s = .next t ∧ t.time.state = .locked ∧ t.time.bad = 0 ∧ t.time.wsMiss = 0 ∧
      t.time.wfn = fieldB m.msg 8 6 ∧ t.time.anchorN = fieldB m.msg 8 6 ∧ t.time.anchorT = fieldB m.msg 0 8 ∧
      t.time.leaderValid = decide (bits (fieldB m.msg 15 1) 0 1 = 1) := by
  obtain ⟨u, he, hu⟩ := exec_wallSyncMarker_accepted h2 hm
  have hLocked := hu.state.trans hl
  rw [State.servoStep_keeps hLocked ha, State.takeMarker, if_neg (by rw [hLocked]; nofun)] at he
  refine ⟨_, he, ?_⟩
  rw [State.markerAnchor_time]
  exact ⟨hLocked, rfl, hu.wsMiss, rfl, rfl, rfl, hu.leaderValid⟩

/-- Settles O50: message by message, then the losses of the source and of wall time, and the markers. -/
theorem wallTimeCommands : Obligations.WallTimeCommands :=
  ⟨fun _ _ hp hd hm hlo hhi => exec_ptpSync_servo hp hd hm hlo hhi, fun _ _ => exec_ptpAnnounce_enters,
    fun _ _ _ => exec_ptpDelayReqSend_sends, fun _ _ _ _ => exec_ptpDelayResp_measures,
    fun _ _ _ h1 hm hl => ⟨exec_announceReceiptTimeout_holds h1 hm hl, exec_syncTimeout_holds h1 hm hl⟩,
    fun _ s => ⟨exec_holdoverExpire_loses, exec_timeStepNow_permits, exec_markerMissHoldover_holds, fun h2 =>
      ⟨fun hm => ⟨_, exec_wallSyncMarker_refused h2 hm, rfl, s.cnt_count _⟩, exec_wallSyncMarker_keeps h2⟩⟩⟩

end Sys2Proof.Machine
end
